-- ==== Sys2Proof/Word.lean ====
section
/-! DEFINITION. Bytes, sorted finite maps and the plainest arithmetic of the model's values. -/

namespace Sys2Proof

/-- One byte. -/
abbrev Byte := BitVec 8

/-- A run of bytes in the order in which the spec numbers them. -/
abbrev Bytes := List Byte

/-- A 64-bit word accumulator or register value. -/
abbrev W64 := BitVec 64

/-- A finite map by number, keys strictly rising; what an absent key reads as is the reader's argument. -/
abbrev Store (α : Type) := List (Nat × α)

/-- The entry of key `k`, if listed. -/
def Store.find? {α : Type} : Store α → Nat → Option α
  | [], _ => none
  | (k', v) :: m, k => if k' = k then some v else Store.find? m k

/-- What key `k` reads as, `d` standing for an absent key. -/
def Store.get {α : Type} (m : Store α) (d : α) (k : Nat) : α := (Store.find? m k).getD d

/-- `m` without key `k`. -/
def Store.erase {α : Type} : Store α → Nat → Store α
  | [], _ => []
  | (k', v) :: m, k => if k' = k then m else (k', v) :: Store.erase m k

/-- `m` with `v` at key `k`, kept in rising key order. -/
def Store.insert {α : Type} : Store α → Nat → α → Store α
  | [], k, v => [(k, v)]
  | (k', v') :: m, k, v =>
    if k < k' then (k, v) :: (k', v') :: m
    else if k' = k then (k, v) :: m
    else (k', v') :: Store.insert m k v

/-- Write that keeps the canonical form: a key that takes the value `d` an absent key reads as is left out. -/
def Store.put {α : Type} [DecidableEq α] (m : Store α) (d : α) (k : Nat) (v : α) : Store α :=
  if v = d then Store.erase m k else Store.insert m k v

/-- Keys strictly rising, all above `lo`, and no entry equal to `d`. -/
def Store.wfFrom {α : Type} [DecidableEq α] (d : α) : Nat → Store α → Bool
  | _, [] => true
  | lo, (k, v) :: m => decide (lo ≤ k) && decide (v ≠ d) && Store.wfFrom d (k + 1) m

/-- The canonical form of a store: keys strictly rising and no entry equal to the default. -/
def Store.wf {α : Type} [DecidableEq α] (d : α) (m : Store α) : Bool := Store.wfFrom d 0 m

/-- A Nat as `n` bytes, least significant first. -/
def leBytes : Nat → Nat → Bytes
  | 0, _ => []
  | n + 1, v => BitVec.ofNat 8 v :: leBytes n (v / 256)

/-- Bytes read as an unsigned number, least significant first. -/
def ofLe : Bytes → Nat
  | [] => 0
  | b :: bs => b.toNat + 256 * ofLe bs

/-- Bytes read as an unsigned number, most significant first. -/
def ofBe (bs : Bytes) : Nat := ofLe bs.reverse

/-- A Nat as `n` bytes, most significant first. -/
def beBytes (n v : Nat) : Bytes := (leBytes n v).reverse

/-- `n` bytes of `m` from offset `ofs`, absent bytes reading as `d`. -/
def Store.bytes (m : Store Byte) (d : Byte) (ofs : Nat) : Nat → Bytes
  | 0 => []
  | n + 1 => Store.get m d ofs :: Store.bytes m d (ofs + 1) n

/-- `m` with the bytes written from offset `ofs` on. -/
def Store.putBytes (m : Store Byte) (d : Byte) (ofs : Nat) : Bytes → Store Byte
  | [] => m
  | b :: bs => Store.putBytes (Store.put m d ofs b) d (ofs + 1) bs

/-- Two's complement value of the low `w` bits of `n`. -/
def signedOf (w n : Nat) : Int :=
  let m := n % 2 ^ w
  if m < 2 ^ (w - 1) then (m : Int) else (m : Int) - 2 ^ w

/-- The low `w` bits of an integer, as a number. -/
def wrapTo (w : Nat) (i : Int) : Nat := (i % (2 ^ w : Nat)).toNat

/-- Addition that stops at `cap`. -/
def satAdd (cap n k : Nat) : Nat := min cap (n + k)

/-- Saturating 32-bit count, one step. -/
def bump32 (n : Nat) : Nat := satAdd 4294967295 n 1

/-- ⌈a / b⌉. -/
def ceilDiv (a b : Nat) : Nat := (a + b - 1) / b

/-- Bit `i` of `n`. -/
def bitOf (n i : Nat) : Bool := n.testBit i

/-- `n` with bit `i` set to `v`. -/
def setBit (n i : Nat) (v : Bool) : Nat :=
  if v then n ||| (1 <<< i) else n - (if n.testBit i then 1 <<< i else 0)

/-- Integer clamped into [lo, hi]. -/
def clampInt (lo hi i : Int) : Int := max lo (min hi i)

/-- Middle of three integers (03 R76, `MAX(MIN(a, b), MIN(MAX(a, b), c))`). -/
def median3 (a b c : Int) : Int := max (min a b) (min (max a b) c)

/-- Middle of three numbers. -/
def median3Nat (a b c : Nat) : Nat := max (min a b) (min (max a b) c)

/-- `f` applied to element `i` of a list, the list unchanged when `i` is beyond its end. -/
def List.modifyNth' {α : Type} (f : α → α) : Nat → List α → List α
  | _, [] => []
  | 0, a :: as => f a :: as
  | n + 1, a :: as => a :: List.modifyNth' f n as

/-- Insertion into an ascending list. -/
def insertAsc (x : Int) : List Int → List Int
  | [] => [x]
  | y :: ys => if x ≤ y then x :: y :: ys else y :: insertAsc x ys

/-- Ascending order of a list of integers. -/
def sortAsc : List Int → List Int
  | [] => []
  | x :: xs => insertAsc x (sortAsc xs)

end Sys2Proof
end

