-- ==== Sys2Proof/Syntax/Units.lean ====
section
/-! DEFINITION. The names and ranges by which the device identifies its units (spec/00_scope.md R5, Table 00-3). -/

namespace Sys2Proof

/-- The three lanes (R5). -/
inductive LaneId where
  | a | b | c
  deriving DecidableEq, Repr

/-- Lane number as the manual encodes it: 0 A, 1 B, 2 C. -/
def LaneId.num : LaneId → Nat
  | .a => 0
  | .b => 1
  | .c => 2

/-- The three lanes in order. -/
def LaneId.all : List LaneId := [.a, .b, .c]

/-- The lane with a number, if it names one. -/
def LaneId.ofNum : Nat → Option LaneId
  | 0 => some .a
  | 1 => some .b
  | 2 => some .c
  | _ => none

/-- One value for each lane. -/
structure Tri (α : Type) where
  a : α
  b : α
  c : α
  deriving DecidableEq, Repr

/-- The value of one lane. -/
def Tri.get {α : Type} (t : Tri α) : LaneId → α
  | .a => t.a
  | .b => t.b
  | .c => t.c

/-- `t` with one lane's value replaced. -/
def Tri.set {α : Type} (t : Tri α) : LaneId → α → Tri α
  | .a, v => { t with a := v }
  | .b, v => { t with b := v }
  | .c, v => { t with c := v }

/-- A function of every lane's value. -/
def Tri.map {α β : Type} (f : α → β) (t : Tri α) : Tri β := ⟨f t.a, f t.b, f t.c⟩

/-- A function of every lane and its value. -/
def Tri.mapId {α β : Type} (f : LaneId → α → β) (t : Tri α) : Tri β := ⟨f .a t.a, f .b t.b, f .c t.c⟩

/-- The same value in every lane. -/
def Tri.all {α : Type} (v : α) : Tri α := ⟨v, v, v⟩

/-- An engine or half: lane, engine E0 to E15, and whether it is the b half (04 R101, R132). -/
structure EngineId where
  lane : LaneId
  num  : Fin 16
  half : Bool
  deriving DecidableEq, Repr

/-- Place of an engine or half in its lane: 2n + h (12 Table 12-3). -/
def EngineId.slot (e : EngineId) : Nat := 2 * e.num.val + (if e.half then 1 else 0)

/-- Ring ports. -/
inductive RingPort where
  | east | west
  deriving DecidableEq, Repr

/-- The other ring port. -/
def RingPort.other : RingPort → RingPort
  | .east => .west
  | .west => .east

/-- 0 east, 1 west (09 Table 09-5). -/
def RingPort.num : RingPort → Nat
  | .east => 0
  | .west => 1

/-- ECN ports (11 R300). -/
inductive EcnPort where
  | e0 | e1
  deriving DecidableEq, Repr

/-- Number of an ECN port. -/
def EcnPort.num : EcnPort → Nat
  | .e0 => 0
  | .e1 => 1

/-- CAN controllers (11 R309). -/
inductive CanCtl where
  | c0 | c1
  deriving DecidableEq, Repr

/-- Number of a CAN controller. -/
def CanCtl.num : CanCtl → Nat
  | .c0 => 0
  | .c1 => 1

/-- Access paths of the dictionary (17 Table 17-3). -/
inductive Path where
  | host | can | ecn | ring
  deriving DecidableEq, Repr

/-- Path codes of Table 17-3. -/
def Path.code : Path → Nat
  | .host => 0
  | .can => 1
  | .ecn => 2
  | .ring => 3

/-- Who sends a dictionary request: path, carrier (ECN port or SDO channel), source address and port, client id and
transaction id (17 R441, R442, Table 17-4). -/
structure Sender where
  path    : Path
  carrier : Nat
  ip      : Nat
  udpPort : Nat
  client  : Nat
  txn     : Nat
  deriving DecidableEq, Repr

/-- A dictionary request body (17 Table 17-4): operation 1 read, 2 write, 3 DOMAIN read segment, 4 DOMAIN write segment. -/
structure Request where
  sender : Sender
  op     : Nat
  last   : Bool
  index  : Nat
  sub    : Nat
  offset : Nat
  data   : Bytes
  deriving DecidableEq, Repr

/-- Memory areas of a Serzel program (04 Table 04-2), `res` the reserved code 2#111. -/
inductive Area where
  | i | q | m | d | s | l | k | res
  deriving DecidableEq, Repr

/-- Area code of Table 04-2. -/
def Area.code : Area → Nat
  | .i => 0
  | .q => 1
  | .m => 2
  | .d => 3
  | .s => 4
  | .l => 5
  | .k => 6
  | .res => 7

/-- Area of a three-bit code. -/
def Area.ofCode : Nat → Area
  | 0 => .i
  | 1 => .q
  | 2 => .m
  | 3 => .d
  | 4 => .s
  | 5 => .l
  | 6 => .k
  | _ => .res

/-- Word accumulators named by REG, DST and ACC (05 R134). -/
inductive Acc where
  | wa | wb
  deriving DecidableEq, Repr

/-- The other accumulator. -/
def Acc.other : Acc → Acc
  | .wa => .wb
  | .wb => .wa

/-- Operand widths selected by WID (05 R134). -/
inductive Wid where
  | w8 | w16 | w32 | w64
  deriving DecidableEq, Repr

/-- Width in bits. -/
def Wid.bits : Wid → Nat
  | .w8 => 8
  | .w16 => 16
  | .w32 => 32
  | .w64 => 64

/-- REAL widths: binary32 (WID 2#10) or binary64 (WID 2#11) (05 R147). -/
inductive RWid where
  | f32 | f64
  deriving DecidableEq, Repr

/-- A format B operand (05 R134, R137). -/
structure BitAddr where
  area : Area
  ofs  : Fin 1048576
  bit  : Fin 8
  deriving DecidableEq, Repr

/-- A format W operand: area, index register (0 none, 1 to 3 X1 to X3), register and offset. -/
structure WordAddr where
  area : Area
  idx  : Fin 4
  ofs  : Fin 1048576
  deriving DecidableEq, Repr

/-- Source of a format A instruction (05 R143). -/
inductive Src where
  | acc (r : Acc)
  | x (n : Fin 4)
  | imm (v : Fin 65536)
  | k (v : Fin 65536)
  deriving DecidableEq, Repr

/-- Source of a REAL or CMPR instruction: an accumulator or a K constant (05 R147). -/
inductive RSrc where
  | acc (r : Acc)
  | k (v : Fin 65536)
  deriving DecidableEq, Repr

/-- Source of the conversions from REAL: any source but an immediate (05 R150). -/
inductive ConvSrc where
  | acc (r : Acc)
  | x (n : Fin 4)
  | k (v : Fin 65536)
  deriving DecidableEq, Repr

/-- JTAG instructions as 13 R366 tells them apart: the four always implemented, others that take the lands from the
device logic, Helroth factory test instructions, and any other. -/
inductive JtagCode where
  | bypass | idcode | samplePreload | extest | takesLands | factory | other
  deriving DecidableEq, Repr

/-- Sources of a module reset (16 Table 16-4). -/
inductive ResetSource where
  | powerOn | stage4 | supplyRestart | resetN | commanded
  deriving DecidableEq, Repr

/-- Codes of Table 16-4. -/
def ResetSource.code : ResetSource → Nat
  | .powerOn => 1
  | .stage4 => 2
  | .supplyRestart => 3
  | .resetN => 4
  | .commanded => 5

end Sys2Proof
end

