-- ==== Sys2Proof/Syntax/Container.lean ====
section
/-! DEFINITION. What a Mbaum container declares. The spec gives a container no byte layout; these records hold the
declarations that its rules name (chapters 01 to 12) and the signature block of 13 R362. -/

namespace Sys2Proof

/-- Where a sampled field takes its value from (03 Exchanged fields, 07 R196, R197, R203, 08 R223, R226, R232). -/
inductive FieldSrc where
  | diState (n : Nat) | diWire (n : Nat) | diIndet (n : Nat) | diCount (n : Nat)
  | doStatus (n : Nat) | doMap (n : Nat) | fieldDie
  | ai (n : Nat) | aiStatus (n : Nat) | la (n : Nat) | laStatus (n : Nat)
  | conv (input entry : Nat)
  | recog (r : Nat)
  deriving DecidableEq, Repr

/-- Agreement kinds of Table 03-4; `bit` carries its number of bits, `enum` its declared fallback. -/
inductive AgreeKind where
  | bit (bits : Nat) | analog | count | enum (fallback : Nat)
  deriving DecidableEq, Repr

/-- One sampled field, in container order: kind, source, place in I (byte offset and first bit), initial value and band. -/
structure Field where
  kind : AgreeKind
  src  : FieldSrc
  iOfs : Nat
  iBit : Nat
  init : Nat
  band : Nat
  deriving DecidableEq, Repr

/-- Bytes a field fills in the Mitre vector. -/
def Field.size (f : Field) : Nat :=
  match f.kind with
  | .bit n => (n + 7) / 8
  | .analog => 2
  | .count => 2
  | .enum _ => 1

/-- Trigger sources of an event task (04 R114). -/
inductive EventSrc where
  | rise (field : Nat) | fall (field : Nat) | either (field : Nat) | flow (id : Nat) | trigger (id : Nat)
  deriving DecidableEq, Repr

/-- Kinds of task with their parameters (04 R113, R114, R116). -/
inductive TaskKind where
  | cyclic (m p : Nat)
  | event (tIaUs : Nat) (poll : Nat) (sources : List EventSrc)
  | error
  deriving DecidableEq, Repr

/-- Items that PUB names (05 R160): KIND 0 ring flow, 1 and 2 telegram contexts of ECN0 and ECN1. -/
structure PubItem where
  kind : Nat
  id   : Nat
  deriving DecidableEq, Repr

/-- A store fence window: area code, base, length (04 R122). -/
structure Fence where
  area : Nat
  base : Nat
  len  : Nat
  deriving DecidableEq, Repr

/-- One task: context number, scope (0 voted, 1 to 3 single-lane A to C), parameters and memory (04 R106, R113 to R122).
`id` is the task's identity across an on-line change (06 Table 06-2). -/
structure Task where
  ctx   : Nat
  id    : Nat
  scope : Nat
  kind  : TaskKind
  group : Nat
  entry : Nat
  lBase : Nat
  lLen  : Nat
  fences : List Fence
  pubs  : List PubItem
  sheddable : Bool
  deriving DecidableEq, Repr

/-- Order-list entries (04 R118). -/
inductive OrderEntry where
  | task (ctx : Nat) | poll (id : Nat)
  deriving DecidableEq, Repr

/-- Order list of an engine or half: `lanes` 0 every lane, 1 to 3 one lane; `slot` is 2n + h. -/
structure Order where
  lanes : Nat
  slot  : Nat
  list  : List OrderEntry
  deriving DecidableEq, Repr

/-- Code of an engine or half and its routines (first index, length) (05 R133, R153). -/
structure Program where
  lanes : Nat
  slot  : Nat
  words : List (BitVec 32)
  routines : List (Nat × Nat)
  deriving DecidableEq, Repr

/-- A function group: error word place in I, scope, and what it reads (04 R116, R126, R131). -/
structure Group where
  id     : Nat
  scope  : Nat
  errOfs : Nat
  stations : List Nat
  flows  : List Nat
  telegrams : List Nat
  deriving DecidableEq, Repr

/-- Kinds of symbol that 06 Table 06-2 tells apart. -/
inductive SymKind where
  | plain | timer (op wall : Nat) | counter | edge
  deriving DecidableEq, Repr

/-- A symbol: id, type, area code, place, element shape, initial bytes and its uses (04 R104, R106, R121, R123, R127, 06 R177, R182).
`bool` elements are single bits; an elementary symbol has `elems` 1; a structure lists its elementary elements in `members`: byte offset,
bytes, and the bit of a BOOL (06 R182). -/
structure Symbol where
  id   : Nat
  type : Nat
  kind : SymKind
  area : Nat
  slot : Nat
  ofs  : Nat
  bit  : Nat
  bool : Bool
  elemSize : Nat
  elems : Nat
  init : Bytes
  cross : Bool
  writer : Nat
  single : Nat
  external : Bool
  members : List (Nat × Nat × Option Nat) := []
  deriving DecidableEq, Repr

/-- Bytes a symbol fills. -/
def Symbol.size (y : Symbol) : Nat := if y.bool then (y.bit + y.elems + 7) / 8 else y.elemSize * y.elems

/-- A link from a writer task to a reader task (04 R124); `lanes` as in `Order`. -/
structure Link where
  lanes  : Nat
  writer : Nat
  reader : Nat
  deriving DecidableEq, Repr

/-- A declared substitute of an input field: a fixed value or last good (04 R130). A BIT field has its first bit and its number
of bits; `bits` is zero for a field of `len` whole bytes. -/
structure Subst where
  iOfs : Nat
  bit  : Nat
  bits : Nat
  len  : Nat
  fixed : Option Bytes
  deriving DecidableEq, Repr

/-- A flow the node produces (role 1) or consumes (role 2) (09 R251 to R259, 12 R331). -/
structure Flow where
  id   : Nat
  role : Nat
  producer : Nat
  safe : Bool
  aux  : Nat
  srcCli : Nat
  aMax : Nat
  dMaxUs : Nat
  iOfs : Nat
  area : Nat
  ofs  : Nat
  substs : List Subst
  prodBase : Nat
  prodPhi  : Nat
  prodRel  : Nat
  deriving DecidableEq, Repr

/-- Bytes of the data part of a flow (09 R251, Table 09-6). -/
def Flow.dataLen (f : Flow) : Nat := if f.safe then f.aux - 12 else f.aux

/-- One cutting-list entry: the four 32-bit words of Table 09-1. -/
structure CutEntry where
  w0 : Nat
  w1 : Nat
  w2 : Nat
  w3 : Nat
  deriving DecidableEq, Repr

/-- A transmit slot of any node in the ring schedule: node, flow, start offset, repetition, payload length. -/
structure RingSlot where
  node : Nat
  flow : Nat
  offset : Nat
  rep  : Nat
  aux  : Nat
  deriving DecidableEq, Repr

/-- A sync node: node id, coldstart delay in µs when it is a coldstart node, sync slot offset (10 R268, R269). -/
structure SyncNode where
  node : Nat
  delay : Option Nat
  offset : Nat
  deriving DecidableEq, Repr

/-- The ring schedule (09 R238 to R242, 10 R268, R296): nodes in ring order, link k joining node k east to node k + 1. -/
structure RingSched where
  order  : List Nat
  links  : List (Nat × Nat)
  relays : List (Nat × Nat)
  tRound : Nat
  nR     : Nat
  slots  : List RingSlot
  syncs  : List SyncNode
  identity : Nat
  digest : Nat
  deriving DecidableEq, Repr

/-- An insertion of a telegram header (11 Table 11-2): offset, kind, most significant byte first. -/
structure Insertion where
  ofs  : Nat
  kind : Nat
  msb  : Bool
  deriving DecidableEq, Repr

/-- A telegram context (11 R302, Table 11-1): role 1 transmit, 2 receive. -/
structure Telegram where
  port : Nat
  ctx  : Nat
  role : Nat
  tagged : Bool
  vid  : Nat
  pcp  : Nat
  mac  : Nat
  dstIp : Nat
  srcIp : Nat
  srcPort : Nat
  dstPort : Nat
  tos  : Nat
  ttl  : Nat
  header : Bytes
  inserts : List Insertion
  dLen : Nat
  aMax : Nat
  iOfs : Nat
  area : Nat
  ofs  : Nat
  substs : List Subst
  deriving DecidableEq, Repr

/-- A CAN receive object (11 R310). -/
structure CanRx where
  ctl  : Nat
  obj  : Nat
  ident : Nat
  ext  : Bool := false
  mask : Nat
  iOfs : Nat
  len  : Nat
  station : Nat
  deriving DecidableEq, Repr

/-- A CAN transmit object (11 R310). -/
structure CanTx where
  ctl  : Nat
  obj  : Nat
  ident : Nat
  ext  : Bool := false
  fd   : Bool := false
  m    : Nat
  p    : Nat
  qOfs : Nat
  len  : Nat
  deriving DecidableEq, Repr

/-- A remote station: 0 to 31 CAN, 32 to 63 ring (04 R129, R130). -/
structure Station where
  no   : Nat
  node : Nat
  flows : List Nat
  nDrop : Nat
  nRec : Nat
  substs : List Subst
  deriving DecidableEq, Repr

/-- A mode 1 check-value unit (11 R320): item kind 0 ring flow, 1 ECN0, 2 ECN1. -/
structure CvuAttach where
  unit : Nat
  poly : Nat
  kind : Nat
  id   : Nat
  start : Nat
  msb  : Bool
  deriving DecidableEq, Repr

/-- A process image window (17 R440): variables by symbol id, writable or not. -/
structure Window where
  w    : Nat
  vars : List (Nat × Bool)
  deriving DecidableEq, Repr

/-- Sources of a chain (12 Table 12-1); an analog input by its number, 0 to 7 AI, 8 to 11 LA. -/
inductive ChainSrc where
  | di (n : Nat) | analog (n : Nat) | conv (entry : Nat) | recog (d : Nat) | flow (id : Nat) | telegram (port ctx : Nat) | can (ctl obj : Nat)
  deriving DecidableEq, Repr

/-- Sinks of a chain (12 Table 12-1). -/
inductive ChainSink where
  | dout (n : Nat) | flow (id : Nat) | telegram (port ctx : Nat) | can (ctl obj : Nat)
  deriving DecidableEq, Repr

/-- A chain (12 R329): its number, source, stages by context number, sink and bound in ns. -/
structure Chain where
  no   : Nat
  src  : ChainSrc
  stages : List Nat
  sink : ChainSink
  bound : Nat
  deriving DecidableEq, Repr

/-- A safety function (12 R337). -/
structure SafetyFn where
  no   : Nat
  tasks : List Nat
  outputs : List Nat
  flows : List Nat
  telegrams : List Nat
  stations : List Nat
  tPst : Nat
  tLoad : Nat
  deriving DecidableEq, Repr

/-- The signature block and what it signs (13 R362): key identity, r, s, the SHA-256 digest of every byte before the block. -/
structure Signed where
  keyId  : Nat
  r      : Nat
  s      : Nat
  digest : Nat
  deriving DecidableEq, Repr

/-- A container: header, timing, tasks and code, data, inputs and outputs, ring, ports, claims (chapters 01 to 13). `doMap` maps bits of Q
onto DO channels (channel, byte, bit) and `healthMap` onto HEALTH (byte, bit; 00 R2). -/
structure Container where
  formOk   : Bool
  revision : Nat
  variantC : Bool
  level    : Nat
  nodeId   : Nat
  version  : Nat
  identity : Nat
  signed   : Signed
  tBase : Nat
  phi   : Nat
  sOff  : Int
  vOff  : Nat
  oOff  : Nat
  pGlue : Nat
  bIn   : Nat
  bOut  : Nat
  qExt  : Nat
  ringIdent : Nat
  splits : Tri (List Nat)
  tasks  : List Task
  orders : List Order
  programs : List Program
  groups : List Group
  symbols : List Symbol
  links  : List Link
  lcv    : Tri (List (Option Nat))
  fields : List Field
  doMap  : List (Nat × Nat × Nat)
  healthMap : List (Nat × Nat) := []
  pulse  : List Nat
  params : List (Nat × Nat)
  cut    : List CutEntry
  ring   : RingSched
  flows  : List Flow
  telegrams : List Telegram
  minSpeed : List Nat
  canRx  : List CanRx
  canTx  : List CanTx
  stations : List Station
  cvus   : List CvuAttach
  windows : List Window
  chains : List Chain
  safety : List SafetyFn
  triggersOpen : List Nat
  deriving DecidableEq, Repr

/-- A delta container (06 R167, R168): the identity of its base, its signature, the items it changes (permitted or not, by
item id, and whether it changes an S-class value), the symbols it removes, and the merged configuration. -/
structure Delta where
  base    : Nat
  signed  : Signed
  nodeId  : Nat
  version : Nat
  digest  : Nat
  barred  : List Nat
  sClass  : Bool
  removed : List Nat
  merged  : Container
  deriving DecidableEq, Repr

end Sys2Proof
end

