-- ==== Sys2Proof/Syntax/Frames.lean ====
section
/-! DEFINITION. Frames and messages as they arrive at the device's ports and leave them (chapters 02, 09 to 11). -/

namespace Sys2Proof

/-- A Nirkan frame (09 R246, Table 09-3): EtherType, destination and source address, header fields, payload bytes held and FCS. `res` is the
RES field as an integer. -/
structure RFrame where
  etype : Nat
  dst   : Nat
  src   : Nat
  fcsOk : Bool
  ver   : Nat
  kind  : Nat
  flags : Nat
  sender : Nat
  hop   : Nat
  round : Nat
  cli   : Nat
  flow  : Nat
  seq   : Nat
  send  : Nat
  len   : Nat
  res   : Int
  reserved : Nat
  payload : Bytes
  deriving DecidableEq, Repr

/-- An ECN frame that carries IPv4 (11 R300 to R306): the fields that the port reads or fills in. -/
structure EFrame where
  fcsOk  : Bool
  mac    : Nat
  tags   : Nat
  vid    : Nat
  pcp    : Nat
  etype  : Nat
  ipVer  : Nat
  tos    : Nat
  ttl    : Nat
  ident  : Nat
  df     : Bool
  hdrCk  : Bool
  frag   : Bool
  proto  : Nat
  srcIp  : Nat
  dstIp  : Nat
  udpCk  : Bool
  srcPort : Nat
  dstPort : Nat
  payload : Bytes
  deriving DecidableEq, Repr

/-- A CAN frame (11 R309): identifier, whether it has 29 bits, whether the frame is a CAN FD one, and the data. -/
structure CFrame where
  ident : Nat
  ext   : Bool := false
  fd    : Bool := false
  data  : Bytes
  deriving DecidableEq, Repr

/-- What an announce message says of a clock, in the order in which the best master clock algorithm compares it (02 R53, IEEE
1588): priority1, clockClass, clockAccuracy, offsetScaledLogVariance, priority2 and clock identity. -/
structure PtpDataset where
  priority1 : Nat
  clockClass : Nat
  accuracy : Nat
  variance : Nat
  priority2 : Nat
  identity : Nat
  deriving DecidableEq, Repr

/-- IEEE 1588 message types the device supports, and any other (02 R52). A peer's answer holds its receipt of the request, or in one-step
operation its turnaround time. -/
inductive PtpKind where
  | sync (seq : Nat) (origin : Option Int)
  | followUp (seq : Nat) (origin : Int)
  | delayReq (seq : Nat)
  | delayResp (seq : Nat) (receive : Int)
  | pdelayReq (seq : Nat)
  | pdelayResp (seq : Nat) (twoStep : Bool) (value : Int)
  | pdelayRespFollowUp (seq : Nat) (origin : Int)
  | announce (d : PtpDataset)
  | unsupported
  deriving DecidableEq, Repr

/-- A PTP message with its domain, transport (1 UDP/IPv4, 2 IEEE 802.3), source clock identity and whether its UDP checksum is
zero (02 R52). -/
structure PtpMsg where
  kind   : PtpKind
  domain : Nat
  transport : Nat
  source : Nat
  zeroSum : Bool
  deriving DecidableEq, Repr

/-- States of a land or a group of lands (16 Table 16-7): high impedance, driven low, or in service. -/
inductive LandState where
  | hiZ | low | inService
  deriving DecidableEq, Repr

/-- The lands of 16 Table 16-7 whose state only power and reset decide: the ring PHY pairs, the host link, CAN, the management interface of
the ECN PHYs, PPS_IN and JTAG, the shunt switches of the analog inputs, and PFW_N in a reset. -/
structure Lands where
  ringPhy : LandState
  host    : LandState
  can     : LandState
  mdio    : LandState
  ppsIn   : LandState
  jtag    : LandState
  shunts  : Bool
  pfw     : LandState
  deriving DecidableEq, Repr

/-- The lands while the module is unpowered, and in a reset that leaves PFW_N alone. -/
def Lands.off : Lands :=
  { ringPhy := .hiZ, host := .hiZ, can := .hiZ, mdio := .hiZ, ppsIn := .hiZ, jtag := .hiZ, shunts := false, pfw := .hiZ }

/-- The lands in service. -/
def Lands.on : Lands :=
  { ringPhy := .inService, host := .inService, can := .inService, mdio := .inService, ppsIn := .inService, jtag := .inService, shunts := true
    pfw := .inService }

/-- What the device puts on its wires and lands towards the outside (the model's own trace of outputs). -/
inductive Wire where
  | ring (p : RingPort) (f : RFrame)
  | ecn (p : EcnPort) (f : EFrame)
  | arp (p : EcnPort) (ip : Nat) (reply : Bool)
  | icmp (p : EcnPort) (ip : Nat)
  | ptp (p : EcnPort) (m : PtpMsg)
  | ptpAnnounce (p : EcnPort) (d : PtpDataset) (timeSource : Nat) (utc : Int) (utcValid : Bool)
  | can (c : CanCtl) (f : CFrame)
  | response (dst : Sender) (bytes : Bytes)
  | spi (bytes : Bytes)
  | lands (x : Lands)
  deriving DecidableEq, Repr

end Sys2Proof
end

