-- ==== Sys2Proof/Syntax.lean ====
section
/-! DEFINITION. The commands of the block: one constructor per row of spec/opcode_table.json. A dictionary command carries
its sender and the data written; an event of the field, the ring or a port carries what arrives; a Serzel instruction
carries the engine that runs it and its fields (05 Table 05-1). -/

namespace Sys2Proof

/-- The commands, each a row of the opcode table: the Serzel instructions of chapter 05, then every other row in the table's
order. -/
inductive Instr where
  /-- LD (R139): BA takes the operand bit. -/
  | bLd (e : EngineId) (x : BitAddr)
  /-- LDN (R139): BA takes the inverted operand bit. -/
  | ldn (e : EngineId) (x : BitAddr)
  /-- AND (R139): BA is ANDed with the operand bit. -/
  | bAnd (e : EngineId) (x : BitAddr)
  /-- ANDN (R139): BA is ANDed with the inverted operand bit. -/
  | andn (e : EngineId) (x : BitAddr)
  /-- OR (R139): BA is ORed with the operand bit. -/
  | bOr (e : EngineId) (x : BitAddr)
  /-- ORN (R139): BA is ORed with the inverted operand bit. -/
  | orn (e : EngineId) (x : BitAddr)
  /-- XOR (R139): BA is XORed with the operand bit. -/
  | bXor (e : EngineId) (x : BitAddr)
  /-- XORN (R139): BA is XORed with the inverted operand bit. -/
  | xorn (e : EngineId) (x : BitAddr)
  /-- ST (R139): The operand bit takes BA. -/
  | bSt (e : EngineId) (x : BitAddr)
  /-- STN (R139): The operand bit takes NOT BA. -/
  | stn (e : EngineId) (x : BitAddr)
  /-- S (R139): The operand bit is set when BA is 1. -/
  | bSet (e : EngineId) (x : BitAddr)
  /-- RST (R139): The operand bit is cleared when BA is 1. -/
  | rst (e : EngineId) (x : BitAddr)
  /-- NOT (R139): BA is inverted. -/
  | bNot (e : EngineId)
  /-- AND_BRACKET (R140): AND( pushes BA and AND and loads the operand bit. -/
  | andBracket (e : EngineId) (x : BitAddr)
  /-- OR_BRACKET (R140): OR( pushes BA and OR and loads the operand bit. -/
  | orBracket (e : EngineId) (x : BitAddr)
  /-- XOR_BRACKET (R140): XOR( pushes BA and XOR and loads the operand bit. -/
  | xorBracket (e : EngineId) (x : BitAddr)
  /-- BRACKET_CLOSE (R140): The close bracket pops a value and operator and combines it with BA. -/
  | bracketClose (e : EngineId)
  /-- EDGR (R141): A rising-edge detector updates its edge memory and gives the edge in BA. -/
  | edgr (e : EngineId) (ofs : Fin 1048576) (pair : Fin 4)
  /-- EDGF (R141): A falling-edge detector updates its edge memory and gives the edge in BA. -/
  | edgf (e : EngineId) (ofs : Fin 1048576) (pair : Fin 4)
  /-- LD8 (R142): One byte is loaded zero-extended. -/
  | ld8 (e : EngineId) (x : WordAddr) (r : Acc)
  /-- LD16 (R142): Two bytes are loaded zero-extended. -/
  | ld16 (e : EngineId) (x : WordAddr) (r : Acc)
  /-- LD32 (R142): Four bytes are loaded zero-extended. -/
  | ld32 (e : EngineId) (x : WordAddr) (r : Acc)
  /-- LD64 (R142): Eight bytes are loaded. -/
  | ld64 (e : EngineId) (x : WordAddr) (r : Acc)
  /-- LDS8 (R142): One byte is loaded sign-extended. -/
  | lds8 (e : EngineId) (x : WordAddr) (r : Acc)
  /-- LDS16 (R142): Two bytes are loaded sign-extended. -/
  | lds16 (e : EngineId) (x : WordAddr) (r : Acc)
  /-- LDS32 (R142): Four bytes are loaded sign-extended. -/
  | lds32 (e : EngineId) (x : WordAddr) (r : Acc)
  /-- ST8 (R142): The low byte of a register is stored. -/
  | st8 (e : EngineId) (x : WordAddr) (r : Acc)
  /-- ST16 (R142): The low two bytes of a register are stored. -/
  | st16 (e : EngineId) (x : WordAddr) (r : Acc)
  /-- ST32 (R142): The low four bytes of a register are stored. -/
  | st32 (e : EngineId) (x : WordAddr) (r : Acc)
  /-- ST64 (R142): All eight bytes of a register are stored. -/
  | st64 (e : EngineId) (x : WordAddr) (r : Acc)
  /-- INT_ADD (R143): Signed addition with flags. -/
  | intAdd (e : EngineId) (w : Wid) (d : Acc) (x : Src)
  /-- INT_SUB (R143): Signed subtraction with flags. -/
  | intSub (e : EngineId) (w : Wid) (d : Acc) (x : Src)
  /-- INT_NEG (R143): Signed negation of the source. -/
  | intNeg (e : EngineId) (w : Wid) (d : Acc) (x : Src)
  /-- INT_ABS (R143): Signed absolute value of the source. -/
  | intAbs (e : EngineId) (w : Wid) (d : Acc) (x : Src)
  /-- INT_MIN (R143): Signed minimum. -/
  | intMin (e : EngineId) (w : Wid) (d : Acc) (x : Src)
  /-- INT_MAX (R143): Signed maximum. -/
  | intMax (e : EngineId) (w : Wid) (d : Acc) (x : Src)
  /-- INT_LIMIT (R143): Signed limit between the other accumulator and the source. -/
  | intLimit (e : EngineId) (w : Wid) (d : Acc) (x : Src)
  /-- INT_MUL (R143): Signed multiplication. -/
  | intMul (e : EngineId) (w : Wid) (d : Acc) (x : Src)
  /-- INT_DIV (R144): Signed division truncated toward zero, with faults 1 and 2. -/
  | intDiv (e : EngineId) (w : Wid) (d : Acc) (x : Src)
  /-- INT_MOD (R144): Signed remainder with the sign of a, fault 1 on zero. -/
  | intMod (e : EngineId) (w : Wid) (d : Acc) (x : Src)
  /-- UINT_ADD (R143): Unsigned addition with flags. -/
  | uintAdd (e : EngineId) (w : Wid) (d : Acc) (x : Src)
  /-- UINT_SUB (R143): Unsigned subtraction with flags. -/
  | uintSub (e : EngineId) (w : Wid) (d : Acc) (x : Src)
  /-- UINT_MIN (R143): Unsigned minimum. -/
  | uintMin (e : EngineId) (w : Wid) (d : Acc) (x : Src)
  /-- UINT_MAX (R143): Unsigned maximum. -/
  | uintMax (e : EngineId) (w : Wid) (d : Acc) (x : Src)
  /-- UINT_LIMIT (R143): Unsigned limit. -/
  | uintLimit (e : EngineId) (w : Wid) (d : Acc) (x : Src)
  /-- UINT_MUL (R143): Unsigned multiplication. -/
  | uintMul (e : EngineId) (w : Wid) (d : Acc) (x : Src)
  /-- UINT_DIV (R144): Unsigned division, fault 1 on zero. -/
  | uintDiv (e : EngineId) (w : Wid) (d : Acc) (x : Src)
  /-- UINT_MOD (R144): Unsigned remainder, fault 1 on zero. -/
  | uintMod (e : EngineId) (w : Wid) (d : Acc) (x : Src)
  /-- LOGIC_AND (R145): Bitwise AND of the operands. -/
  | logicAnd (e : EngineId) (w : Wid) (d : Acc) (x : Src)
  /-- LOGIC_OR (R145): Bitwise OR of the operands. -/
  | logicOr (e : EngineId) (w : Wid) (d : Acc) (x : Src)
  /-- LOGIC_XOR (R145): Bitwise XOR of the operands. -/
  | logicXor (e : EngineId) (w : Wid) (d : Acc) (x : Src)
  /-- LOGIC_NOT (R145): Bitwise NOT of the source. -/
  | logicNot (e : EngineId) (w : Wid) (d : Acc) (x : Src)
  /-- SHL (R145): Shift left with carry. -/
  | shl (e : EngineId) (w : Wid) (d : Acc) (x : Src)
  /-- SHR (R145): Logical shift right with carry. -/
  | shr (e : EngineId) (w : Wid) (d : Acc) (x : Src)
  /-- SAR (R145): Arithmetic shift right with carry. -/
  | sar (e : EngineId) (w : Wid) (d : Acc) (x : Src)
  /-- ROL (R145): Rotate left. -/
  | rol (e : EngineId) (w : Wid) (d : Acc) (x : Src)
  /-- ROR (R145): Rotate right. -/
  | ror (e : EngineId) (w : Wid) (d : Acc) (x : Src)
  /-- CMPS_EQ (R146): BA := signed a = b. -/
  | cmpsEq (e : EngineId) (w : Wid) (d : Acc) (x : Src)
  /-- CMPS_NE (R146): BA := signed a ≠ b. -/
  | cmpsNe (e : EngineId) (w : Wid) (d : Acc) (x : Src)
  /-- CMPS_LT (R146): BA := signed a < b. -/
  | cmpsLt (e : EngineId) (w : Wid) (d : Acc) (x : Src)
  /-- CMPS_LE (R146): BA := signed a ≤ b. -/
  | cmpsLe (e : EngineId) (w : Wid) (d : Acc) (x : Src)
  /-- CMPS_GT (R146): BA := signed a > b. -/
  | cmpsGt (e : EngineId) (w : Wid) (d : Acc) (x : Src)
  /-- CMPS_GE (R146): BA := signed a ≥ b. -/
  | cmpsGe (e : EngineId) (w : Wid) (d : Acc) (x : Src)
  /-- CMPU_EQ (R146): BA := unsigned a = b. -/
  | cmpuEq (e : EngineId) (w : Wid) (d : Acc) (x : Src)
  /-- CMPU_NE (R146): BA := unsigned a ≠ b. -/
  | cmpuNe (e : EngineId) (w : Wid) (d : Acc) (x : Src)
  /-- CMPU_LT (R146): BA := unsigned a < b. -/
  | cmpuLt (e : EngineId) (w : Wid) (d : Acc) (x : Src)
  /-- CMPU_LE (R146): BA := unsigned a ≤ b. -/
  | cmpuLe (e : EngineId) (w : Wid) (d : Acc) (x : Src)
  /-- CMPU_GT (R146): BA := unsigned a > b. -/
  | cmpuGt (e : EngineId) (w : Wid) (d : Acc) (x : Src)
  /-- CMPU_GE (R146): BA := unsigned a ≥ b. -/
  | cmpuGe (e : EngineId) (w : Wid) (d : Acc) (x : Src)
  /-- REAL_ADD (R148): IEEE 754 addition. -/
  | realAdd (e : EngineId) (w : RWid) (d : Acc) (x : RSrc)
  /-- REAL_SUB (R148): IEEE 754 subtraction. -/
  | realSub (e : EngineId) (w : RWid) (d : Acc) (x : RSrc)
  /-- REAL_MUL (R148): IEEE 754 multiplication. -/
  | realMul (e : EngineId) (w : RWid) (d : Acc) (x : RSrc)
  /-- REAL_DIV (R148): IEEE 754 division. -/
  | realDiv (e : EngineId) (w : RWid) (d : Acc) (x : RSrc)
  /-- REAL_SQRT (R148): IEEE 754 square root. -/
  | realSqrt (e : EngineId) (w : RWid) (d : Acc) (x : RSrc)
  /-- REAL_NEG (R148): Sign inversion, never faulting. -/
  | realNeg (e : EngineId) (w : RWid) (d : Acc) (x : RSrc)
  /-- REAL_ABS (R148): Sign clearing, never faulting. -/
  | realAbs (e : EngineId) (w : RWid) (d : Acc) (x : RSrc)
  /-- REAL_MIN (R148): IEEE 754 minimum. -/
  | realMin (e : EngineId) (w : RWid) (d : Acc) (x : RSrc)
  /-- REAL_MAX (R148): IEEE 754 maximum. -/
  | realMax (e : EngineId) (w : RWid) (d : Acc) (x : RSrc)
  /-- CMPR_EQ (R149): BA := REAL a = b. -/
  | cmprEq (e : EngineId) (w : RWid) (d : Acc) (x : RSrc)
  /-- CMPR_NE (R149): BA := REAL a ≠ b, 1 for a NaN. -/
  | cmprNe (e : EngineId) (w : RWid) (d : Acc) (x : RSrc)
  /-- CMPR_LT (R149): BA := REAL a < b. -/
  | cmprLt (e : EngineId) (w : RWid) (d : Acc) (x : RSrc)
  /-- CMPR_LE (R149): BA := REAL a ≤ b. -/
  | cmprLe (e : EngineId) (w : RWid) (d : Acc) (x : RSrc)
  /-- CMPR_GT (R149): BA := REAL a > b. -/
  | cmprGt (e : EngineId) (w : RWid) (d : Acc) (x : RSrc)
  /-- CMPR_GE (R149): BA := REAL a ≥ b. -/
  | cmprGe (e : EngineId) (w : RWid) (d : Acc) (x : RSrc)
  /-- ITOF32 (R150): Signed integer to REAL32. -/
  | itof32 (e : EngineId) (w : Wid) (d : Acc) (x : Src)
  /-- ITOF64 (R150): Signed integer to REAL64. -/
  | itof64 (e : EngineId) (w : Wid) (d : Acc) (x : Src)
  /-- UTOF32 (R150): Unsigned integer to REAL32. -/
  | utof32 (e : EngineId) (w : Wid) (d : Acc) (x : Src)
  /-- UTOF64 (R150): Unsigned integer to REAL64. -/
  | utof64 (e : EngineId) (w : Wid) (d : Acc) (x : Src)
  /-- F32TOI (R150): REAL32 to signed integer, rounded to nearest. -/
  | f32toi (e : EngineId) (w : Wid) (d : Acc) (x : ConvSrc)
  /-- F64TOI (R150): REAL64 to signed integer, rounded to nearest. -/
  | f64toi (e : EngineId) (w : Wid) (d : Acc) (x : ConvSrc)
  /-- F32TRUNC (R150): REAL32 to signed integer toward zero. -/
  | f32trunc (e : EngineId) (w : Wid) (d : Acc) (x : ConvSrc)
  /-- F64TRUNC (R150): REAL64 to signed integer toward zero. -/
  | f64trunc (e : EngineId) (w : Wid) (d : Acc) (x : ConvSrc)
  /-- F32TOU (R150): REAL32 to unsigned integer. -/
  | f32tou (e : EngineId) (w : Wid) (d : Acc) (x : ConvSrc)
  /-- F64TOU (R150): REAL64 to unsigned integer. -/
  | f64tou (e : EngineId) (w : Wid) (d : Acc) (x : ConvSrc)
  /-- F32TOF64 (R150): REAL32 to REAL64 exactly. -/
  | f32tof64 (e : EngineId) (d : Acc) (x : ConvSrc)
  /-- F64TOF32 (R150): REAL64 to REAL32, rounded. -/
  | f64tof32 (e : EngineId) (d : Acc) (x : ConvSrc)
  /-- SNARROW (R150): Signed 64-bit narrowed with saturation. -/
  | snarrow (e : EngineId) (w : Wid) (d : Acc) (x : Src)
  /-- UNARROW (R150): Unsigned 64-bit narrowed with saturation. -/
  | unarrow (e : EngineId) (w : Wid) (d : Acc) (x : Src)
  /-- MOV (R151): D takes the low w bits of S. -/
  | mov (e : EngineId) (w : Wid) (d : Acc) (x : Src)
  /-- SWAP (R151): WA and WB are exchanged. -/
  | swap (e : EngineId)
  /-- BA2W (R151): D takes BA as 0 or 1. -/
  | ba2w (e : EngineId) (w : Wid) (d : Acc)
  /-- W2BA (R151): BA takes whether the low w bits of S are non-zero. -/
  | w2ba (e : EngineId) (w : Wid) (x : Src)
  /-- XLI (R152): An index register takes an immediate. -/
  | xli (e : EngineId) (n : Fin 4) (v : Fin 65536)
  /-- XADD (R152): An immediate is added to an index register. -/
  | xadd (e : EngineId) (n : Fin 4) (v : Fin 65536)
  /-- XFROM (R152): An index register takes the low 32 bits of an accumulator. -/
  | xfrom (e : EngineId) (n : Fin 4) (r : Acc)
  /-- XTO (R152): An accumulator takes an index register. -/
  | xto (e : EngineId) (n : Fin 4) (r : Acc)
  /-- XSHL (R152): An index register is shifted left. -/
  | xshl (e : EngineId) (n : Fin 4) (v : Fin 8)
  /-- CRCI (R159): A lane check-value unit is set to a polynomial and initial value. -/
  | crci (e : EngineId) (u : Fin 2) (poly : Fin 5)
  /-- CRCB (R159): One byte is fed to a lane check-value unit. -/
  | crcb (e : EngineId) (u : Fin 2) (r : Acc)
  /-- CRCH (R159): Two bytes are fed to a lane check-value unit. -/
  | crch (e : EngineId) (u : Fin 2) (r : Acc)
  /-- CRCW (R159): Four bytes are fed to a lane check-value unit. -/
  | crcw (e : EngineId) (u : Fin 2) (r : Acc)
  /-- CRCR (R159): A register takes the unit's finished value. -/
  | crcr (e : EngineId) (u : Fin 2) (r : Acc)
  /-- PUB_FLOW (R160): A ring flow is marked published in the current cycle. -/
  | pubFlow (e : EngineId) (id : Fin 1024)
  /-- PUB_TELEGRAM (R160): A telegram context of an ECN port is marked published in the current cycle. -/
  | pubTelegram (e : EngineId) (p : EcnPort) (id : Fin 1024)
  /-- JMP (R153): Unconditional forward jump. -/
  | jmp (e : EngineId) (tgt : Fin 65536)
  /-- JMPC (R153): Forward jump when BA = 1. -/
  | jmpc (e : EngineId) (tgt : Fin 65536)
  /-- JMPCN (R153): Forward jump when BA = 0. -/
  | jmpcn (e : EngineId) (tgt : Fin 65536)
  /-- CAL (R155): Call of a routine. -/
  | cal (e : EngineId) (tgt : Fin 65536)
  /-- CALC (R155): Call when BA = 1. -/
  | calc (e : EngineId) (tgt : Fin 65536)
  /-- CALCN (R155): Call when BA = 0. -/
  | calcn (e : EngineId) (tgt : Fin 65536)
  /-- RET (R155): Return to the popped address, or task end at depth 0. -/
  | ret (e : EngineId)
  /-- LOOP (R154): A counted loop runs its body MIN(Xn, MAX) times. -/
  | loop (e : EngineId) (n : Fin 4) (len : Fin 1024) (max : Fin 16384)
  /-- TON (R157): On-delay timer in µs. -/
  | ton (e : EngineId) (wall : Bool) (inst : Fin 131072)
  /-- TOF (R157): Off-delay timer in µs. -/
  | tof (e : EngineId) (wall : Bool) (inst : Fin 131072)
  /-- TP (R157): Pulse timer in µs. -/
  | tp (e : EngineId) (wall : Bool) (inst : Fin 131072)
  /-- TONM (R157): On-delay timer in ms. -/
  | tonm (e : EngineId) (wall : Bool) (inst : Fin 131072)
  /-- CTU (R158): Up counter. -/
  | ctu (e : EngineId) (inst : Fin 131072)
  /-- CTD (R158): Down counter. -/
  | ctd (e : EngineId) (inst : Fin 131072)
  /-- CTUD (R158): Up-down counter. -/
  | ctud (e : EngineId) (inst : Fin 131072)
  /-- UNDEFINED_ENCODING (R133): An engine meets an instruction word with an undefined encoding. -/
  | undefinedEncoding (e : EngineId)
  /-- SAMPLE (R14): A sample entry fires in a lane time counter, and the lane's field-die section latches inputs and starts its tied converters. -/
  | sample (l : LaneId)
  /-- CONVERTER_START (R223): A converter-start entry fires and starts the named converters of each lane, filling the entry's Mitre field. -/
  | converterStart (l : LaneId) (entry : Nat)
  /-- CONVERSION_RESULT (R223): A general-input conversion completes and its result reaches the lane within 5 µs of the trigger. -/
  | conversionResult (l : LaneId) (input : Fin 8) (entry : Option Nat) (v : Int)
  /-- CYCLE_START (R16): A cycle-start entry fires; the junction closes the batch of cycle k and every lane starts its Mitre exchange. -/
  | cycleStart
  /-- VECTOR_RECEIVED (R74): The Mitre hub receives a lane's vector, checks its CRC-32C and forwards it with its verdict to the other two lanes. -/
  | vectorReceived (l : LaneId) (v : Bytes)
  /-- VECTOR_DEADLINE (R74): At C_k + t_mx − 200 ns the hub marks every vector not completely received as absent and excludes its lane. -/
  | vectorDeadline
  /-- FORWARDED_VECTOR (R75): A lane receives a forwarded vector, rechecks its CRC-32C and agrees its words as they arrive. -/
  | forwardedVector (l from_ : LaneId) (v : Bytes)
  /-- EXCHANGE_COMPLETE (R19): A lane completes the exchange and its engines start walking their order lists. -/
  | exchangeComplete (l : LaneId)
  /-- LINK_WAIT_END (R124): A reader task held at its entry starts once the linked writer task on another engine has ended. -/
  | linkWaitEnd (e : EngineId)
  /-- VOTE (R21): The vote entry fires and each lane submits its Q image and outgoing data to both voters. -/
  | vote
  /-- DOVETAIL_VOTE (R85): The bitwise and signature voters judge the submissions and release, exclude a lane or enter the safe state.
  `defect`: a fault of one voter makes its verdict differ from that of the other (R85). -/
  | dovetailVote (defect : Bool)
  /-- RELEASE_DEADLINE (R21): A release that has not happened by O_k is a voter fault and the device enters the safe state. -/
  | releaseDeadline
  /-- OUTPUT_APPLY (R23): At O_k each lane section sets its bridge elements from its copy of the released image. -/
  | outputApply
  /-- ENGINE_FAULT (R64): A comparator of a safe engine reports a difference or comparator disagreement. -/
  | engineFault (e : EngineId) (bitwise signature : Bool)
  /-- CHANNEL_QUIET (R68): A lane section that receives no valid control channel frame for 1 µs opens its elements, stops its converters and drives
  its section alarm. -/
  | channelQuiet (l : LaneId)
  /-- SECTION_ALARM (R209): A section that receives another section's alarm during a test step recloses its test elements and reports the alarm. -/
  | sectionAlarm (l from_ : LaneId)
  /-- LIMP_TIMER_EXPIRY (R91): The limp timer reaches zero and the device enters the safe state. -/
  | limpTimerExpiry
  /-- REINTEGRATE_LANE (R93): A write of a lane number to 3006.02 in the privileged session commands its reintegration. -/
  | reintegrateLane (r : Sender) (d : Bytes)
  /-- AUTOMATIC_REINTEGRATION_START (R93): 100 ms after an exclusion the device starts an automatic reintegration if permitted. -/
  | automaticReintegrationStart (l : LaneId)
  /-- LANE_SCRIBE_TEST (R72): A restarted lane runs patterns 0 to 63 on its engines' comparators. -/
  | laneScribeTest (l : LaneId) (pass : Bool)
  /-- TIME_LOCK (R44): The lane time counter is set from the first mark and declared locked after 16 further marks. -/
  | timeLock (l : LaneId)
  /-- STATE_TRANSFER_BLOCK (R94): The reintegrating lane receives a 4 KiB block and the other donor's CRC-32C and accepts it only if they agree. -/
  | stateTransferBlock (l : LaneId) (blk : Nat) (d : Bytes) (crcA crcB : Nat)
  /-- SAFE_STATE_RELEASE (R99): A write of 16#A5 to 3007.00 in the privileged session restarts start-up from container load. -/
  | safeStateRelease (r : Sender) (d : Bytes)
  /-- TIME_MARK (R43): Every 125 µs the junction sends each lane a time mark, and the lane steers its counter to node time.
  `dev`: the rate at which the lane's crystal ran against node time since the last mark, in ppb. `valid`: whether the mark arrives valid
  (R44). -/
  | timeMark (l : LaneId) (dev : Int) (valid : Bool)
  /-- MISSED_TIME_MARKS (R45): A locked lane misses four successive marks and reports a lane clock fault. -/
  | missedTimeMarks (l : LaneId)
  /-- RATE_WINDOW_CHECK (R46): Over every 16-mark window a lane compares the node-time span with its crystal and reports a discrepancy above 200 ppm. -/
  | rateWindowCheck (l : LaneId)
  /-- DISCREPANCY_JUDGEMENT (R47): 4 ms after a lane's rate report the junction excludes that lane or raises a junction time fault. -/
  | discrepancyJudgement
  /-- DC_TRIGGER_ID_WRITE (R37): A write to a direct compare's trigger id arms it with its stored target. -/
  | dcTriggerIdWrite (r : Sender) (n : Fin 8) (d : Bytes)
  /-- EC_TRIGGER_ID_WRITE (R37): A write to an epoch compare's trigger id arms it with its 80-bit target. -/
  | ecTriggerIdWrite (r : Sender) (n : Fin 4) (d : Bytes)
  /-- EPOCH_COMPARE_ARMING (R37): When node SEC reaches target SEC − 1 an epoch compare arms its private 32-bit compare. -/
  | epochCompareArming (n : Fin 4)
  /-- DIRECT_COMPARE_FIRE (R38): An armed direct compare reaches its target, raises its user event trigger and disarms. -/
  | directCompareFire (n : Fin 8)
  /-- EPOCH_COMPARE_FIRE (R38): An armed epoch compare reaches its target and raises its user event trigger or a PPS_OUT pulse. -/
  | epochCompareFire (n : Fin 4)
  /-- USER_EVENT_TRIGGER (R41): A user event trigger entry fires and its id enters the batch of the next cycle start. -/
  | userEventTrigger (entry : Nat)
  /-- PPS_OUT (R60): A PPS_OUT entry or, without one, a second-aligned instant starts a pulse on PPS_OUT. -/
  | ppsOut (entry : Option Nat)
  /-- PPS_OUT_PULSE_END (R60): The pulse width of PPS_OUT elapses and the output falls. -/
  | ppsOutPulseEnd
  /-- PPS_IN_EDGE (R56): A rising edge on PPS_IN is stamped, accepted or rejected, and gives a TAI correction sample. -/
  | ppsInEdge (t : Nat)
  /-- PPS_IN_EDGE_MISSING (R56): An expected PPS_IN edge does not arrive and counts as missing. -/
  | ppsInEdgeMissing
  /-- TAI_SECOND_WRITE (R58): A write to 4004.00 supplies the TAI second for the next accepted PPS_IN edge. -/
  | taiSecondWrite (r : Sender) (d : Bytes)
  /-- TAI_SECOND_DISCARD (R58): A value written to 4004.00 that no edge consumes within 2 s is discarded and counted. -/
  | taiSecondDiscard
  /-- CORRECTION_INVALIDATED (R58): 60 s after the reference is lost the kept TAI correction is marked not valid. -/
  | correctionInvalidated
  /-- TIME_ANNOUNCEMENT (R249): Once per second the time-source node sends the TAI correction and UTC offset in best-effort service 2. -/
  | timeAnnouncement
  /-- LEAP_SECOND_APPLIED (R61): At the end of the UTC day the leap indicator is applied to the UTC offset. -/
  | leapSecondApplied
  /-- PTP_MESSAGE (R52): An ECN port receives an IEEE 1588 message and processes it in export or monitor mode. -/
  | ptpMessage (p : EcnPort) (m : PtpMsg) (t : Nat)
  /-- PTP_SYNC_INTERVAL (R53): At each sync or announce interval an export-mode port sends its PTP messages. -/
  | ptpSyncInterval (p : EcnPort) (announce : Bool)
  /-- RING_TRANSMIT_SLOT (R254): A transmit slot starts and the node sends its locked buffer, a SAFESTATE header or nothing. -/
  | ringTransmitSlot (entry : Nat)
  /-- SLOT_DEADLINE (R254): 4 µs before a slot the buffer of the latest publishing release is locked. -/
  | slotDeadline (entry : Nat)
  /-- FRAME_LEFT_PORT (R254): A frame has left the port and its locked buffer is unlocked. -/
  | frameLeftPort (entry : Nat)
  /-- RING_RECEIVE_WINDOW (R256): A receive window of a flow opens and closes, and a window without an accepted frame counts as a miss. -/
  | ringReceiveWindow (entry : Nat) (opens : Bool)
  /-- SYNC_SLOT (R269): A node's sync slot starts and it sends a sync or coldstart frame. -/
  | syncSlot (entry : Nat)
  /-- SYNC_RECEIVE_WINDOW (R278): A sync receive window of another sync node opens and closes. -/
  | syncReceiveWindow (entry : Nat) (opens : Bool)
  /-- BEST_EFFORT_WINDOW (R264): A best-effort window starts and the port sends queued best-effort frames that fit. -/
  | bestEffortWindow (p : RingPort) (entry : Nat)
  /-- DATA_FRAME (R256): A port receives a data frame, which is checked, forwarded or stripped, and accepted into its receive context. -/
  | dataFrame (p : RingPort) (f : RFrame) (t : Nat)
  /-- SYNC_FRAME (R278): A node receives a sync frame, accepts it in its window and forms its deviation. -/
  | syncFrame (p : RingPort) (f : RFrame) (t : Nat)
  /-- COLDSTART_FRAME (R273): A node receives a coldstart frame and adopts its claim or decides a coldstart contest. -/
  | coldstartFrame (p : RingPort) (f : RFrame) (t : Nat)
  /-- TICK (R263): A port receives a tick from its neighbour and counts it. -/
  | tick (p : RingPort) (f : RFrame)
  /-- TICK_TRANSMIT (R263): A port that has sent nothing for 8 µs sends a tick. -/
  | tickTransmit (p : RingPort)
  /-- WRAP_NOTICE (R291): A node receives a wrap notice, records it, forwards it and learns the break location. -/
  | wrapNotice (p : RingPort) (f : RFrame)
  /-- LEAVE_FRAME (R419): A node receives a leave frame, counts it and forwards or consumes it. -/
  | leaveFrame (p : RingPort) (f : RFrame)
  /-- BEST_EFFORT_IPV4 (R249): A best-effort service 1 frame carrying an IPv4 packet is received and consumed or forwarded. -/
  | bestEffortIpv4 (p : RingPort) (f : RFrame)
  /-- TIME_ANNOUNCEMENT_RECEIVED (R55): A node receives a time announcement and takes the TAI correction and UTC offset, recording conflicts. -/
  | timeAnnouncementReceived (p : RingPort) (f : RFrame)
  /-- TIME_QUERY (R249): A ring controller receives a time query and answers it in the next secondary best-effort window. -/
  | timeQuery (p : RingPort) (f : RFrame)
  /-- TIME_ANSWER (R274): An integrating node receives the answer to its latest time query and resolves the sender's full time. -/
  | timeAnswer (p : RingPort) (f : RFrame) (t : Nat)
  /-- TIME_QUERY_TIMEOUT (R274): A time query unanswered for 1 s is repeated with a new query id. -/
  | timeQueryTimeout
  /-- ROUND_END (R281): At the end of each round the node averages its deviations and updates offset, rate and start-up state. -/
  | roundEnd
  /-- LISTEN_TIMEOUT (R272): A coldstart node's listen time elapses without matching frames and it enters COLDSTART. -/
  | listenTimeout
  /-- BREAK_DETECTED (R287): A port receives no frame for 24 µs and detects a break. -/
  | breakDetected (p : RingPort)
  /-- RING_LINK_LOSS (R287): The PHY reports link loss and the port detects a break. -/
  | ringLinkLoss (p : RingPort)
  /-- RING_LINK_UP (R292): The PHY of a wrapped port reports link up. -/
  | ringLinkUp (p : RingPort)
  /-- LINK_RESTORED (R292): A wrapped port's link has carried frames without a long gap for a full round and the node sends a cause-3 notice. -/
  | linkRestored (p : RingPort)
  /-- UNWRAP (R292): At the second round start after both restoration notices the port unwraps. -/
  | unwrap (p : RingPort)
  /-- BYPASS_RELEASE (R295): 50 µs after a leave frame has left both ports the node releases BYP_E and BYP_W. -/
  | bypassRelease
  /-- RING_INTEGRATION_TIMEOUT (R297): With 4230.05 TRUE the device completes start-up step 6 after 2 s. -/
  | ringIntegrationTimeout
  /-- ECN_TRANSMIT (R304): An ECN transmit entry fires and the port queues the telegram of the locked buffer. -/
  | ecnTransmit (entry : Nat)
  /-- TELEGRAM_DEADLINE (R304): 4 µs before an ECN entry fires the buffer of the latest publishing release is locked. -/
  | telegramDeadline (entry : Nat)
  /-- TELEGRAM_RECEIVED (R306): An ECN frame is checked and taken by the lowest-numbered matching receive context. -/
  | telegramReceived (p : EcnPort) (f : EFrame)
  /-- ARP_REQUEST (R301): An ECN port answers an ARP request for its own address. -/
  | arpRequest (p : EcnPort) (target src : Nat)
  /-- ARP_REPLY (R301): An ECN port resolves the MAC address of a unicast destination. -/
  | arpReply (p : EcnPort) (ip mac : Nat)
  /-- ARP_ENTRY_EXPIRY (R301): A resolved MAC address is discarded after 300 s. -/
  | arpEntryExpiry (p : EcnPort) (ip : Nat)
  /-- ICMP_ECHO_REQUEST (R301): An ECN port answers an ICMP echo request, at most 10 per second. -/
  | icmpEchoRequest (p : EcnPort) (src dst : Nat)
  /-- DICTIONARY_DATAGRAM (R443): A UDP datagram to the dictionary port arrives on an ECN port or the ring. -/
  | dictionaryDatagram (r : Sender) (dstPort : Nat) (body : Bytes)
  /-- ECN_LINK_CHANGE (R300): The external PHY reports a link speed, duplex or loss through SGMII. -/
  | ecnLinkChange (p : EcnPort) (speed : Nat) (full : Bool)
  /-- PHY_RESET_RELEASE (R300): 10 ms after junction boot ECN_PHY_RST_N is released. -/
  | phyResetRelease
  /-- CAN_FRAME_RECEIVED (R310): A CAN frame completes and is taken by the lowest-numbered matching receive object. -/
  | canFrameReceived (c : CanCtl) (f : CFrame)
  /-- HEARTBEAT_RECEIVED (R312): A heartbeat from a monitored node starts or restarts its consumer monitoring. -/
  | heartbeatReceived (c : CanCtl) (node : Nat)
  /-- HEARTBEAT_CONSUMER_EXPIRY (R312): A heartbeat consumer time expires and the station concerned drops. -/
  | heartbeatConsumerExpiry (n : Fin 32)
  /-- HEARTBEAT_PRODUCER (R311): The producer heartbeat time elapses and the node sends its heartbeat. -/
  | heartbeatProducer (c : CanCtl)
  /-- NMT_START (R311): An NMT start command puts the controller in Operational, ignored in the safe state. -/
  | nmtStart (c : CanCtl) (node : Nat)
  /-- NMT_STOP (R311): An NMT stop command puts the controller in Stopped. -/
  | nmtStop (c : CanCtl) (node : Nat)
  /-- NMT_ENTER_PRE_OPERATIONAL (R311): An NMT enter pre-operational command puts the controller in Pre-operational. -/
  | nmtEnterPreOperational (c : CanCtl) (node : Nat)
  /-- NMT_RESET_COMMUNICATION (R311): An NMT reset communication command resets that controller's communication state. -/
  | nmtResetCommunication (c : CanCtl) (node : Nat)
  /-- NMT_RESET_NODE (R311): An NMT reset node command is handled as reset communication and counted. -/
  | nmtResetNode (c : CanCtl) (node : Nat)
  /-- SDO_INITIATE (R313): An SDO initiate starts a transfer on a channel, discarding any running one. -/
  | sdoInitiate (ch : Fin 8) (upload : Bool) (index sub : Nat) (expedited : Option Bytes)
  /-- SDO_SEGMENT (R313): An SDO segment or block continues a transfer, and the last one forms the dictionary request. -/
  | sdoSegment (ch : Fin 8) (d : Bytes) (last : Bool)
  /-- SDO_SEGMENT_TIMEOUT (R313): A segment not following within 1 s aborts the transfer with 16#05040000. -/
  | sdoSegmentTimeout (ch : Fin 8)
  /-- BUS_OFF (R309): A CAN controller enters bus-off under its error counters. -/
  | busOff (c : CanCtl)
  /-- BUS_OFF_RECOVERY (R309): After 128 occurrences of 11 recessive bits the controller recovers from bus-off. -/
  | busOffRecovery (c : CanCtl)
  /-- CONTROLLER_RESTART (R309): A write of 1 to 4800.0E restarts a controller that stays off after eight bus-offs. -/
  | controllerRestart (r : Sender) (c : CanCtl) (d : Bytes)
  /-- HOST_REQUEST (R315): Host link command 16#01 delivers a request body that is accepted once complete with a correct CRC-32C. -/
  | hostRequest (bytes : Bytes)
  /-- READ_RESPONSE (R316): Host link command 16#02 reads the oldest queued response, removing it only when fully clocked. -/
  | readResponse (clocked : Nat)
  /-- HOST_STATUS (R316): Host link command 16#03 returns the status word and clears the sticky bits. -/
  | hostStatus (clocked : Nat)
  /-- UNKNOWN_COMMAND (R314): Any other host link command returns 16#00 and is counted. -/
  | unknownCommand (cmd : Byte)
  /-- CVU_INITIALISE (R319): A write of POLY to 4A0n.05 initialises a junction unit and claims it for the client. -/
  | cvuInitialise (r : Sender) (n : Fin 8) (d : Bytes)
  /-- CVU_FEED_BYTE (R319): A write to 4A0n.06 feeds one byte to a claimed unit. -/
  | cvuFeedByte (r : Sender) (n : Fin 8) (d : Bytes)
  /-- CVU_FEED_HALF_WORD (R319): A write to 4A0n.07 feeds two bytes to a claimed unit. -/
  | cvuFeedHalfWord (r : Sender) (n : Fin 8) (d : Bytes)
  /-- CVU_FEED_WORD (R319): A write to 4A0n.08 feeds four bytes to a claimed unit. -/
  | cvuFeedWord (r : Sender) (n : Fin 8) (d : Bytes)
  /-- CVU_RESULT_READ (R319): A read of 4A0n.09 returns the finished value of a claimed unit. -/
  | cvuResultRead (r : Sender) (n : Fin 8)
  /-- CVU_RELEASE_CLAIM (R319): A write to 4A0n.0A ends the claim on a unit. -/
  | cvuReleaseClaim (r : Sender) (n : Fin 8) (d : Bytes)
  /-- CVU_CLAIM_TIMEOUT (R319): A claim ends after 10 s without access. -/
  | cvuClaimTimeout (n : Fin 8)
  /-- CONTAINER_DOWNLOAD (R343): A full container is written to 9000.01 and its signature verified. -/
  | containerDownload (r : Sender) (k : Container)
  /-- ADMIT_ONLY (R324): Command 1 to 9000.02 runs the Gauge on the downloaded container. -/
  | admitOnly (r : Sender)
  /-- ADMIT_AND_STORE (R324): Command 2 to 9000.02 admits the container and stores it for the next start-up. -/
  | admitAndStore (r : Sender)
  /-- GAUGE_VERDICT (R325): The Gauge finishes its form checks and checks 1 to 8 and reports admission or the first refusal. -/
  | gaugeVerdict
  /-- TIMING_RELEVANT_WRITE (R341): A write to an entry of Table 12-4 is held until the Gauge re-runs the listed checks. -/
  | timingRelevantWrite (r : Sender) (index sub : Nat) (d : Bytes)
  /-- DELTA_DOWNLOAD (R167): A delta container is written to 6800.02 and checked for signature and base identity. -/
  | deltaDownload (r : Sender) (k : Delta)
  /-- ADMIT_DELTA (R169): Command 1 to 6800.03 starts the Gauge's admission of the merged configuration. -/
  | admitDelta (r : Sender)
  /-- DELTA_DISTRIBUTED (R170): Every lane reports the CRC-32C of the distributed delta and the change becomes ready. -/
  | deltaDistributed (crcs : Tri Nat)
  /-- ACTIVATE_CHANGE (R171): Command 2 to 6800.03 fixes activation at k_act. -/
  | activateChange (r : Sender)
  /-- CANCEL_CHANGE (R172): Command 3 to 6800.03 cancels the change and discards the delta. -/
  | cancelChange (r : Sender)
  /-- SET_FORCE (R182): A force record written to 6400.01 sets or replaces a force on an I or Q variable. -/
  | setForce (r : Sender) (d : Bytes)
  /-- RELEASE_FORCE (R185): A write of a slot to 6400.02 releases that force. -/
  | releaseForce (r : Sender) (d : Bytes)
  /-- RELEASE_ALL_FORCES (R186): A write of 16#A5 to 6400.03 releases every force if the change log has room. -/
  | releaseAllForces (r : Sender) (d : Bytes)
  /-- FIELD_UNDERVOLTAGE (R190): FS_PWR below 18.0 V for 100 µs sets the field undervoltage flag. -/
  | fieldUndervoltage (l : LaneId) (mV : Nat)
  /-- FIELD_UNDERVOLTAGE_CLEAR (R190): FS_PWR at or above 18.5 V for 100 µs clears the flag. -/
  | fieldUndervoltageClear (l : LaneId) (mV : Nat)
  /-- FIELD_DIE_RESET (R190): FS_PWR below 16.0 V resets the field die and opens every element. -/
  | fieldDieReset (mV : Nat)
  /-- FIELD_DIE_BOOT (R190): The field die completes its boot after FS_PWR rises and its control channels resume. -/
  | fieldDieBoot (mV : Nat)
  /-- DI_RAW_CLASS_CHANGE (R193): An input current crosses a threshold and a path's raw class changes. -/
  | diRawClassChange (l : LaneId) (n : Fin 32) (uA : Nat)
  /-- FILTER_EXPIRY (R195): A raw class held for t_filter becomes the path's filtered class. -/
  | filterExpiry (l : LaneId) (n : Fin 32)
  /-- PULSE_COUNT (R197): A raw transition into on, after the 2 µs deglitch, advances a path's pulse count. -/
  | pulseCount (l : LaneId) (n : Fin 8)
  /-- OVERLOAD (R200): A channel at its current limit for more than 500 µs reports overload. -/
  | overload (ch : Fin 16)
  /-- THERMAL_SHUTDOWN (R200): A channel reaching its shutdown temperature opens all six elements. -/
  | thermalShutdown (ch : Fin 16)
  /-- THERMAL_RESTART (R200): A shut-down channel below 150 °C follows the image again by its thermal mode. -/
  | thermalRestart (ch : Fin 16)
  /-- DEMAGNETISATION_END (R202): A section's comparator sees the demagnetisation end and closes pending elements if still commanded on. -/
  | demagnetisationEnd (l : LaneId) (ch : Fin 16)
  /-- DEMAGNETISATION_OVERRUN (R202): Demagnetisation longer than 25 ms reports overrun. -/
  | demagnetisationOverrun (ch : Fin 16)
  /-- OPEN_WIRE_ON (R203): A commanded-on channel below 8 mA for 1 ms reports open wire in the on state. -/
  | openWireOn (l : LaneId) (ch : Fin 16) (uA : Nat)
  /-- OPEN_WIRE_OFF (R203): 2 ms after switch-off an output above 4.0 V reports open wire in the off state. -/
  | openWireOff (l : LaneId) (ch : Fin 16) (mV : Nat)
  /-- GROUP_SUPPLY_LOSS (R203): DOVS below 15.0 V for 100 µs reports group supply loss for all four channels. -/
  | groupSupplyLoss (g : Fin 4) (mV : Nat)
  /-- GROUP_SUPPLY_RESTORED (R203): DOVS above 17.0 V ends the group supply loss. -/
  | groupSupplyRestored (g : Fin 4) (mV : Nat)
  /-- STANDING_CHECK (R205): At O_k + 8 µs each section checks the midpoints of every off channel for stuck-closed elements. -/
  | standingCheck (l : LaneId) (ch : Fin 16) (mids : Tri Nat) (out : Nat)
  /-- ELEMENT_TEST_MEASURE (R206): At O_k + 8 µs of a step cycle every section measures channel and remaining-path current. -/
  | elementTestMeasure (l : LaneId) (ch : Fin 16) (paths : Tri Nat)
  /-- ELEMENT_TEST_OPEN (R206): At O_k + 10 µs the stepping section opens its elements of proceeding channels. -/
  | elementTestOpen
  /-- ELEMENT_TEST_CHECK (R206): At O_k + 50 µs every section checks that the stepping lane's paths carry less than 1 mA. -/
  | elementTestCheck (l : LaneId) (ch : Fin 16) (paths : Tri Nat)
  /-- ELEMENT_TEST_RECLOSE (R206): At O_k + 52 µs the stepping section recloses its elements if still commanded on. -/
  | elementTestReclose
  /-- PATH_NOT_CONDUCTING (R207): A judged path carrying under 1 mA for 1 ms sets bit 11 and its elements' map bits. -/
  | pathNotConducting (l : LaneId) (ch : Fin 16) (path : Fin 3) (total : Nat)
  /-- OFF_PULSE_START (R211): At O_k + 10 µs every section opens all its elements of the due channel. -/
  | offPulseStart (ch : Fin 16)
  /-- OFF_PULSE_CHECK (R211): 2 µs before the pulse ends each section compares the output with 3.0 V. -/
  | offPulseCheck (l : LaneId) (ch : Fin 16) (mV : Nat)
  /-- OFF_PULSE_END (R211): At the end of w_op the elements reclose. -/
  | offPulseEnd (ch : Fin 16)
  /-- HEALTH_TOGGLE (R215): At each 50 µs instant of lane time a section closes or opens its HEALTH elements. -/
  | healthToggle (l : LaneId)
  /-- LA_CONVERSION (R224): A line-analog converter converts at each 500 ns grid instant. -/
  | laConversion (l : LaneId) (n : Fin 4) (uV : Int)
  /-- DECIMATED_SAMPLE (R228): Every 20 µs the lane averages 40 conversions into a decimated sample in line units. -/
  | decimatedSample (l : LaneId)
  /-- RECOGNITION_EVALUATION (R230): Every 4 ms the recognition unit measures its windows and forms the raw and confirmed class. -/
  | recognitionEvaluation (l : LaneId)
  /-- RECOGNITION_PUBLICATION (R232): 1 ms after an evaluation its results are published in the lane. -/
  | recognitionPublication (l : LaneId)
  /-- SHUNT_PROTECTION_OPEN (R222): A current above 25 mA for 10 µs opens the shunt's protection switch. -/
  | shuntProtectionOpen (n : Fin 8) (uA : Nat)
  /-- SHUNT_PROTECTION_RECLOSE (R222): After 1 s the protection switch recloses. -/
  | shuntProtectionReclose (n : Fin 8)
  /-- COMMIT_WRITE_COMPLETE (R371): A journal record receives its trailer and becomes complete. -/
  | commitWriteComplete (l : LaneId)
  /-- CARRY_PIECE (R373): While no commit is written the controller copies a piece of at most 4 KiB into a carry record. -/
  | carryPiece (l : LaneId) (blocks : List Nat)
  /-- SCRUB_EVALUATION (R382): At start-up and hourly the scrubber rewrites every region whose age reaches 5 years. -/
  | scrubEvaluation
  /-- DISCARD_STATE (R380): A write of 16#A5 to 3044.00 while stopped in step 5 voids every journal and starts from initial values. -/
  | discardState (r : Sender) (d : Bytes)
  /-- ARM (R383): A write of 16#A5 to 7001.01 adopts the area sizes, sets s_arm and discards the areas. -/
  | arm (r : Sender) (d : Bytes)
  /-- STAGING_DRAIN (R385): A staged record is moved into the recorder areas once room allows. -/
  | stagingDrain
  /-- RECORD_AT_CURSOR (R386): A read of 7010.02 returns the record at the client's cursor and advances it. -/
  | recordAtCursor (r : Sender)
  /-- RECORD_BLOCK (R386): A read of 7010.03 returns up to 64 slots from the cursor and advances it. -/
  | recordBlock (r : Sender) (offset : Nat)
  /-- FREEZE_BEGIN (R387): A write of 1 to 7011.01 in freeze mode makes the client freeze holder. -/
  | freezeBegin (r : Sender)
  /-- FREEZE_END (R387): A write of 0 by the holder ends the freeze and staged records enter the areas. -/
  | freezeEnd (r : Sender)
  /-- FREEZE_TIMEOUT (R387): A freeze holder silent for 60 s loses the freeze. -/
  | freezeTimeout
  /-- ENTRY_AT_CURSOR (R389): A read of 7202.02 returns the change-log entry at the cursor and advances it. -/
  | entryAtCursor (r : Sender)
  /-- CLEAR_CHANGE_LOG (R390): A write of 16#A5 to 7203.00 clears the log and writes a kind 5 entry. -/
  | clearChangeLog (r : Sender) (d : Bytes)
  /-- CONTENTS_AND_CLEAR (R392): A read of 7140+n subindex 02 returns a monitor's content and clears it in the same tick. -/
  | contentsAndClear (r : Sender) (n : Fin 64)
  /-- MONITOR_CLEAR (R391): A write to 7100+n subindex 06 clears a monitor. -/
  | monitorClear (r : Sender) (n : Fin 64) (d : Bytes)
  /-- OPEN_SESSION (R355): A password written to 8010.01 opens the privileged session or fails by Table 13-4. -/
  | openSession (r : Sender) (d : Bytes)
  /-- CLOSE_SESSION (R357): A write to 8010.02 by the holder ends the session. -/
  | closeSession (r : Sender) (d : Bytes)
  /-- SESSION_IDLE_TIMEOUT (R357): No request from the holder for the idle time ends the session. -/
  | sessionIdleTimeout
  /-- LOCKOUT_END (R356): The 15 min lockout ends and the failure count returns to 0. -/
  | lockoutEnd
  /-- NEW_PASSWORD (R359): A write to 8010.03 in the session stores a salted digest of a new password. -/
  | newPassword (r : Sender) (d : Bytes)
  /-- CLEAR_PASSWORD (R359): A write of 16#A5 to 8010.04 removes the password and ends any session. -/
  | clearPassword (r : Sender) (d : Bytes)
  /-- PUBLIC_KEY (R361): A key written to an empty slot of 8101 to 8104 is validated and becomes active. -/
  | publicKey (r : Sender) (n : Fin 4) (d : Bytes)
  /-- REVOKE_KEY (R364): A write of 16#A5 to 810n.04 revokes the key and enters it on the revocation list. -/
  | revokeKey (r : Sender) (n : Fin 4) (d : Bytes)
  /-- MINIMUM_CONTAINER_VERSION (R365): A write to 8105.01 raises the minimum container version. -/
  | minimumContainerVersion (r : Sender) (d : Bytes)
  /-- PLUG_READING (R353): Every 10 ms the junction and lanes read the plug, and changes of ESC7 take effect after three agreeing readings. -/
  | plugReading (junction : Fin 256) (lanes : Tri (Fin 256))
  /-- JTAG_INSTRUCTION (R366): A JTAG instruction is loaded and executed or replaced by BYPASS according to the mode. -/
  | jtagInstruction (code : JtagCode)
  /-- DOMAIN_LOST (R396): A clock domain without an edge for 2 µs is marked lost. -/
  | domainLost (d : Fin 11)
  /-- DOMAIN_RUNNING (R396): A lost domain with 1 µs of uninterrupted edges is marked running. -/
  | domainRunning (d : Fin 11)
  /-- CROSSING_STALLED (R406): A side that waits 10 µs for progress on a crossing reports it stalled. -/
  | crossingStalled (x : Fin 42)
  /-- FLUSH_HANDSHAKE (R408): A side leaving reset flushes and reopens its crossings through FLUSH and FLUSH_ACK. -/
  | flushHandshake (x : Fin 42) (sourceReset destReset : Bool)
  /-- CROSSING_CLEAR (R410): A write to 22xx.07 clears a crossing's sticky bits and counters. -/
  | crossingClear (r : Sender) (x : Fin 42) (d : Bytes)
  /-- CLEAR_ALL_CROSSING_FLAGS (R410): A write to 2203.00 clears the flags of every crossing. -/
  | clearAllCrossingFlags (r : Sender) (d : Bytes)
  /-- POWER_ON (R425): VIN good is reached from power off and the module reset starts start-up. -/
  | powerOn
  /-- MODULE_RESET (R426): A module reset from any source resets every domain and starts the start-up sequence at ROM boot. -/
  | moduleReset (source : ResetSource)
  /-- CONTAINER_LOAD (R427): The lanes stream their container copies, the agreed copy is verified and admitted, and the ring controller enters LISTEN. -/
  | containerLoad
  /-- SCRIBE_TEST (R70): The scribe test injects 64 patterns into every unsplit engine's comparators and both voters. -/
  | scribeTest (failing : Option (Nat × Nat))
  /-- LANE_BOOT (R88): The lanes load their engines, apply the split pattern and lock their time counters. -/
  | laneBoot (ok : Tri Bool)
  /-- STATE_RESTORE (R380): The lanes offer journal candidates, agree a commit and copy a minority lane. -/
  | stateRestore
  /-- RING_INTEGRATION (R297): Start-up step 6 completes when the ring controller reaches ACTIVE or ALONE. -/
  | ringIntegration
  /-- FIRST_VOTED_CYCLE (R429): At the second cycle start after step 6 the first batch is closed and RUN is entered. -/
  | firstVotedCycle
  /-- RESET_N (R425): RESET_N held low for at least 1 µs resets the module without a final commit. -/
  | resetN
  /-- COMMANDED_RESTART (R425): A write of 16#A5 to 2010.00 in the session schedules a module reset 1 ms after the response. -/
  | commandedRestart (r : Sender) (d : Bytes)
  /-- COMMANDED_RESTART_EFFECT (R425): 1 ms after the response the commanded restart makes its commit and leave frame and resets the module. -/
  | commandedRestartEffect
  /-- OVERVOLTAGE (R412): A VIN input above 16.5 V for 10 µs is counted and recorded. -/
  | overvoltage (rail : Fin 4) (mV : Nat)
  /-- STAGE_1_ENTRY (R414): VIN_J below 10.2 V for more than 1 ms enters shedding stage 1. -/
  | stage1Entry (mV : Nat)
  /-- STAGE_1_EXIT (R414): VIN_J at or above 10.5 V for 10 ms leaves stage 1 and shed functions resume. -/
  | stage1Exit (mV : Nat)
  /-- STAGE_2_ENTRY (R417): VIN_J below 9.4 V for 100 µs enters stage 2 and stops the ECN ports and unvoted split halves. -/
  | stage2Entry (mV : Nat)
  /-- STAGE_2_EXIT (R415): VIN_J at or above 9.7 V for 10 ms returns the device to stage 1. -/
  | stage2Exit (mV : Nat)
  /-- POWER_FAIL_WARNING (R418): VIN_J below 8.8 V for 10 µs asserts PFW_N, enters the safe state and starts the final commit, flush and leave frame. -/
  | powerFailWarning (mV : Nat)
  /-- STAGE_4 (R414): VIN_J below 8.0 V for 2 µs resets the module and switches every domain off. -/
  | stage4 (mV : Nat)
  /-- SUPPLY_RESTART (R421): VIN_J at or above 9.0 V for 100 ms after PFW_N without stage 4 resets the module. -/
  | supplyRestart (mV : Nat)
  /-- LANE_UNDERVOLTAGE (R423): A lane VIN below 7.8 V for 10 µs silences the lane and switches its domains off. -/
  | laneUndervoltage (l : LaneId) (mV : Nat)
  /-- LANE_SUPPLY_RECOVERED (R424): A lane VIN at or above 9.0 V for 10 ms starts the 100 ms before automatic reintegration. -/
  | laneSupplyRecovered (l : LaneId) (mV : Nat)
  /-- JUNCTION_TICK (R448): At the end of each 1 µs junction tick the arrived requests are ordered and executed. -/
  | junctionTick
  /-- REGISTER_WRITE (R449): A dictionary write to an entry without a row of its own passes the checks of Table 17-6 and is executed. -/
  | registerWrite (r : Sender) (index sub : Nat) (d : Bytes)
  /-- DOMAIN_WRITE_SEGMENT (R445): A DOMAIN write segment opens or continues a transfer, and the last one executes the value. -/
  | domainWriteSegment (r : Sender) (index sub offset : Nat) (last : Bool) (d : Bytes)
  /-- DOMAIN_READ_SEGMENT (R446): A DOMAIN read segment captures the value at offset 0 and serves segments from the capture. -/
  | domainReadSegment (r : Sender) (index sub offset : Nat)
  /-- DOMAIN_TRANSFER_TIMEOUT (R445): A DOMAIN write transfer with no segment for 10 s is discarded. -/
  | domainTransferTimeout (client : Nat)
  /-- CAPTURE_TIMEOUT (R446): A DOMAIN read capture without a segment for 10 s is released. -/
  | captureTimeout (client : Nat)
  /-- BINDING_EXPIRY (R442): A client binding ends 60 s after the last request, discarding its history and cursors. -/
  | bindingExpiry (client : Nat)
  /-- HISTORY_EXPIRY (R452): A duplicate history entry leaves the history 10 s after its response. -/
  | historyExpiry (client txn : Nat)
  /-- SUPPLY_RAIL_SAMPLE (R391): Every 1 ms a monitor of source kind 6 takes the voltage of its supply rail and updates. -/
  | supplyRailSample (rail : Fin 9) (mV : Nat)
  /-- DIE_TEMPERATURE_READING (R471): Every 10 ms each die's sensor is read, a reading at or above 125 °C is counted, and kind 7 monitors update. -/
  | dieTemperatureReading (die : Fin 5) (t : Int)
  /-- PTP_MONITOR_SAMPLE (R54): Once per second a monitor-mode port at a node that is not the time source writes its offsetFromMaster and
  meanPathDelay to the recorder. -/
  | ptpMonitorSample (p : EcnPort)
  /-- FOREIGN_MASTER_DISAPPEARS (R53): An export-mode port in PASSIVE returns to MASTER when the better foreign master disappears. -/
  | foreignMasterDisappears (p : EcnPort)
  /-- CONTROLLER_ERROR_PASSIVE (R309): A CAN controller's error counters cross into or out of error-passive, and it sends EMCY 16#8120 or the error
  reset. -/
  | controllerErrorPassive (c : CanCtl) (tec rec_ : Nat)
  /-- CAN_ARBITRATION_WON (R310): A queued CAN frame wins bus arbitration and is sent, after which it can no longer be withdrawn or replaced. -/
  | canArbitrationWon (c : CanCtl) (obj : Fin 32)
  deriving DecidableEq, Repr

end Sys2Proof
end

