-- ==== Sys2Proof/Decode.lean ====
section
/-! DEFINITION. The Serzel instruction words (05 R133 to R135, Tables 05-1 to 05-9) and the host's table words. -/

namespace Sys2Proof

/-- `n` bits of a word from bit `lo` on. -/
def field (w lo n : Nat) : Nat := w / 2 ^ lo % 2 ^ n

/-- An `n`-bit field as an index below `2 ^ n`. -/
def fieldFin (w lo n : Nat) : Fin (2 ^ n) := ⟨field w lo n, Nat.mod_lt _ (Nat.two_pow_pos n)⟩

/-- REG, DST or ACC: WA (0) or WB (1) (05 R134). -/
def accAt (w lo : Nat) : Acc := if w.testBit lo then .wb else .wa

/-- WID (05 R134). -/
def widAt (w : Nat) : Wid :=
  match field w 20 2 with
  | 0 => .w8
  | 1 => .w16
  | 2 => .w32
  | _ => .w64

/-- WID of a REAL or CMPR instruction: 2#10 binary32, 2#11 binary64 (05 R147). -/
def rwidAt (w : Nat) : Option RWid :=
  match field w 20 2 with
  | 2 => some .f32
  | 3 => some .f64
  | _ => none

/-- SRC and IMM (05 R143). -/
def srcAt (w : Nat) : Src :=
  match field w 16 3 with
  | 0 => .acc .wa
  | 1 => .acc .wb
  | 2 => .x 0
  | 3 => .x 1
  | 4 => .x 2
  | 5 => .x 3
  | 6 => .imm (fieldFin w 0 16)
  | _ => .k (fieldFin w 0 16)

/-- SRC of a REAL or CMPR instruction: 2#010 to 2#110 are undefined encodings (05 R147). -/
def rsrcAt (w : Nat) : Option RSrc :=
  match srcAt w with
  | .acc r => some (.acc r)
  | .k v => some (.k v)
  | _ => none

/-- SRC of CONV functions 4 to 11: an immediate is an undefined encoding (05 R150). -/
def csrcAt (w : Nat) : Option ConvSrc :=
  match srcAt w with
  | .acc r => some (.acc r)
  | .x n => some (.x n)
  | .k v => some (.k v)
  | .imm _ => none

/-- Operand of format B. -/
def bitAddrAt (w : Nat) : BitAddr := { area := Area.ofCode (field w 23 3), ofs := fieldFin w 3 20, bit := fieldFin w 0 3 }

/-- Operand of format W. -/
def wordAddrAt (w : Nat) : WordAddr := { area := Area.ofCode (field w 23 3), idx := fieldFin w 21 2, ofs := fieldFin w 0 20 }

/-- Opcodes 16#01 to 16#0F: bit logic and bracket opens (05 Table 05-2). -/
def decodeBit (e : EngineId) (op w : Nat) : Option Instr :=
  let x := bitAddrAt w
  match op with
  | 0x01 => some (.bLd e x)
  | 0x02 => some (.ldn e x)
  | 0x03 => some (.bAnd e x)
  | 0x04 => some (.andn e x)
  | 0x05 => some (.bOr e x)
  | 0x06 => some (.orn e x)
  | 0x07 => some (.bXor e x)
  | 0x08 => some (.xorn e x)
  | 0x09 => some (.bSt e x)
  | 0x0A => some (.stn e x)
  | 0x0B => some (.bSet e x)
  | 0x0C => some (.rst e x)
  | 0x0D => some (.andBracket e x)
  | 0x0E => some (.orBracket e x)
  | 0x0F => some (.xorBracket e x)
  | _ => none

/-- Opcodes 16#10 and 16#11: the operand of an edge detector lies in S and has an even BIT (05 R141). -/
def decodeEdge (e : EngineId) (op w : Nat) : Option Instr :=
  if field w 23 3 = 4 ∧ field w 0 1 = 0 then
    if op = 0x10 then some (.edgr e (fieldFin w 3 20) (fieldFin w 1 2)) else some (.edgf e (fieldFin w 3 20) (fieldFin w 1 2))
  else none

/-- Opcode 16#12: the bit group (05 Table 05-2). -/
def decodeGroup (e : EngineId) (w : Nat) : Option Instr :=
  if field w 0 22 ≠ 0 then none
  else match field w 22 4 with
    | 0 => some (.bNot e)
    | 1 => some (.bracketClose e)
    | _ => none

/-- Opcodes 16#18 to 16#22: word load and store (05 R142). -/
def decodeWordAccess (e : EngineId) (op w : Nat) : Option Instr :=
  let x := wordAddrAt w
  let r := accAt w 20
  match op with
  | 0x18 => some (.ld8 e x r)
  | 0x19 => some (.ld16 e x r)
  | 0x1A => some (.ld32 e x r)
  | 0x1B => some (.ld64 e x r)
  | 0x1C => some (.lds8 e x r)
  | 0x1D => some (.lds16 e x r)
  | 0x1E => some (.lds32 e x r)
  | 0x1F => some (.st8 e x r)
  | 0x20 => some (.st16 e x r)
  | 0x21 => some (.st32 e x r)
  | 0x22 => some (.st64 e x r)
  | _ => none

/-- Opcode 16#24: INT (05 Table 05-4). -/
def decodeInt (e : EngineId) (w : Nat) : Option Instr :=
  let n := widAt w
  let d := accAt w 19
  let x := srcAt w
  match field w 22 4 with
  | 0 => some (.intAdd e n d x)
  | 1 => some (.intSub e n d x)
  | 2 => some (.intNeg e n d x)
  | 3 => some (.intAbs e n d x)
  | 4 => some (.intMin e n d x)
  | 5 => some (.intMax e n d x)
  | 6 => some (.intLimit e n d x)
  | 7 => some (.intMul e n d x)
  | 8 => some (.intDiv e n d x)
  | 9 => some (.intMod e n d x)
  | _ => none

/-- Opcode 16#25: UINT; functions 2 and 3 are undefined (05 Table 05-4). -/
def decodeUint (e : EngineId) (w : Nat) : Option Instr :=
  let n := widAt w
  let d := accAt w 19
  let x := srcAt w
  match field w 22 4 with
  | 0 => some (.uintAdd e n d x)
  | 1 => some (.uintSub e n d x)
  | 4 => some (.uintMin e n d x)
  | 5 => some (.uintMax e n d x)
  | 6 => some (.uintLimit e n d x)
  | 7 => some (.uintMul e n d x)
  | 8 => some (.uintDiv e n d x)
  | 9 => some (.uintMod e n d x)
  | _ => none

/-- Opcode 16#26: LOGIC (05 Table 05-5). -/
def decodeLogic (e : EngineId) (w : Nat) : Option Instr :=
  let n := widAt w
  let d := accAt w 19
  let x := srcAt w
  match field w 22 4 with
  | 0 => some (.logicAnd e n d x)
  | 1 => some (.logicOr e n d x)
  | 2 => some (.logicXor e n d x)
  | 3 => some (.logicNot e n d x)
  | 4 => some (.shl e n d x)
  | 5 => some (.shr e n d x)
  | 6 => some (.sar e n d x)
  | 7 => some (.rol e n d x)
  | 8 => some (.ror e n d x)
  | _ => none

/-- Opcodes 16#27 and 16#28: CMPS and CMPU (05 R146). -/
def decodeCompare (e : EngineId) (op w : Nat) : Option Instr :=
  let n := widAt w
  let d := accAt w 19
  let x := srcAt w
  match op, field w 22 4 with
  | 0x27, 0 => some (.cmpsEq e n d x)
  | 0x27, 1 => some (.cmpsNe e n d x)
  | 0x27, 2 => some (.cmpsLt e n d x)
  | 0x27, 3 => some (.cmpsLe e n d x)
  | 0x27, 4 => some (.cmpsGt e n d x)
  | 0x27, 5 => some (.cmpsGe e n d x)
  | 0x28, 0 => some (.cmpuEq e n d x)
  | 0x28, 1 => some (.cmpuNe e n d x)
  | 0x28, 2 => some (.cmpuLt e n d x)
  | 0x28, 3 => some (.cmpuLe e n d x)
  | 0x28, 4 => some (.cmpuGt e n d x)
  | 0x28, 5 => some (.cmpuGe e n d x)
  | _, _ => none

/-- Opcode 16#29: REAL (05 Table 05-6). -/
def decodeReal (e : EngineId) (w : Nat) : Option Instr := do
  let n ← rwidAt w
  let x ← rsrcAt w
  let d := accAt w 19
  match field w 22 4 with
  | 0 => some (.realAdd e n d x)
  | 1 => some (.realSub e n d x)
  | 2 => some (.realMul e n d x)
  | 3 => some (.realDiv e n d x)
  | 4 => some (.realSqrt e n d x)
  | 5 => some (.realNeg e n d x)
  | 6 => some (.realAbs e n d x)
  | 7 => some (.realMin e n d x)
  | 8 => some (.realMax e n d x)
  | _ => none

/-- Opcode 16#2A: CMPR (05 R149). -/
def decodeCompareReal (e : EngineId) (w : Nat) : Option Instr := do
  let n ← rwidAt w
  let x ← rsrcAt w
  let d := accAt w 19
  match field w 22 4 with
  | 0 => some (.cmprEq e n d x)
  | 1 => some (.cmprNe e n d x)
  | 2 => some (.cmprLt e n d x)
  | 3 => some (.cmprLe e n d x)
  | 4 => some (.cmprGt e n d x)
  | 5 => some (.cmprGe e n d x)
  | _ => none

/-- Opcode 16#2B, functions 4 to 11: conversions from REAL; functions 10 and 11 need WID 2#11 (05 R150). -/
def decodeConvReal (e : EngineId) (w : Nat) : Option Instr := do
  let x ← csrcAt w
  let n := widAt w
  let d := accAt w 19
  match field w 22 4 with
  | 4 => some (.f32toi e n d x)
  | 5 => some (.f64toi e n d x)
  | 6 => some (.f32trunc e n d x)
  | 7 => some (.f64trunc e n d x)
  | 8 => some (.f32tou e n d x)
  | 9 => some (.f64tou e n d x)
  | 10 => if n = .w64 then some (.f32tof64 e d x) else none
  | 11 => if n = .w64 then some (.f64tof32 e d x) else none
  | _ => none

/-- Opcode 16#2B: CONV (05 Table 05-7). -/
def decodeConv (e : EngineId) (w : Nat) : Option Instr :=
  let n := widAt w
  let d := accAt w 19
  let x := srcAt w
  match field w 22 4 with
  | 0 => some (.itof32 e n d x)
  | 1 => some (.itof64 e n d x)
  | 2 => some (.utof32 e n d x)
  | 3 => some (.utof64 e n d x)
  | 12 => some (.snarrow e n d x)
  | 13 => some (.unarrow e n d x)
  | _ => decodeConvReal e w

/-- Opcode 16#2C: MOVE (05 R151). -/
def decodeMove (e : EngineId) (w : Nat) : Option Instr :=
  match field w 22 4 with
  | 0 => some (.mov e (widAt w) (accAt w 19) (srcAt w))
  | 1 => if field w 0 22 = 0 then some (.swap e) else none
  | 2 => if field w 0 19 = 0 then some (.ba2w e (widAt w) (accAt w 19)) else none
  | 3 => if field w 19 1 = 0 then some (.w2ba e (widAt w) (srcAt w)) else none
  | _ => none

/-- Opcode 16#2D: INDEX (05 R152). -/
def decodeIndex (e : EngineId) (w : Nat) : Option Instr :=
  let n : Fin 4 := fieldFin w 20 2
  if field w 16 3 ≠ 0 then none
  else match field w 22 4 with
    | 0 => if field w 19 1 = 0 then some (.xli e n (fieldFin w 0 16)) else none
    | 1 => if field w 19 1 = 0 then some (.xadd e n (fieldFin w 0 16)) else none
    | 2 => if field w 0 16 = 0 then some (.xfrom e n (accAt w 19)) else none
    | 3 => if field w 0 16 = 0 then some (.xto e n (accAt w 19)) else none
    | 4 => if field w 19 1 = 0 ∧ field w 3 13 = 0 then some (.xshl e n (fieldFin w 0 3)) else none
    | _ => none

/-- POLY values 0 to 4 (05 Table 05-9). -/
def polyAt (w : Nat) : Option (Fin 5) :=
  match field w 16 3 with
  | 0 => some 0
  | 1 => some 1
  | 2 => some 2
  | 3 => some 3
  | 4 => some 4
  | _ => none

/-- Opcode 16#2E: CRC; POLY is zero except in CRCI (05 R159). -/
def decodeCrc (e : EngineId) (w : Nat) : Option Instr :=
  let u : Fin 2 := fieldFin w 21 1
  let r := accAt w 20
  if field w 19 1 ≠ 0 ∨ field w 0 16 ≠ 0 then none
  else match field w 22 4, polyAt w with
    | 0, some p => some (.crci e u p)
    | 1, some 0 => some (.crcb e u r)
    | 2, some 0 => some (.crch e u r)
    | 3, some 0 => some (.crcw e u r)
    | 4, some 0 => some (.crcr e u r)
    | _, _ => none

/-- Opcode 16#2F: PUB (05 R160). -/
def decodePub (e : EngineId) (w : Nat) : Option Instr :=
  if field w 10 14 ≠ 0 then none
  else match field w 24 2 with
    | 0 => some (.pubFlow e (fieldFin w 0 10))
    | 1 => some (.pubTelegram e .e0 (fieldFin w 0 10))
    | 2 => some (.pubTelegram e .e1 (fieldFin w 0 10))
    | _ => none

/-- Opcodes 16#30 to 16#36: jumps, calls and RET; TGT = 0 of a jump is undefined (05 R153, R155). RET names no target, and its TGT
field is not looked at: only ZERO fields must be zero (05 R133). -/
def decodeJump (e : EngineId) (op w : Nat) : Option Instr :=
  let t := fieldFin w 0 16
  if field w 16 10 ≠ 0 then none
  else match op with
    | 0x30 => if field w 0 16 = 0 then none else some (.jmp e t)
    | 0x31 => if field w 0 16 = 0 then none else some (.jmpc e t)
    | 0x32 => if field w 0 16 = 0 then none else some (.jmpcn e t)
    | 0x33 => some (.cal e t)
    | 0x34 => some (.calc e t)
    | 0x35 => some (.calcn e t)
    | 0x36 => some (.ret e)
    | _ => none

/-- Opcode 16#37: LOOP; LEN = 0 is undefined (05 R154). -/
def decodeLoop (e : EngineId) (w : Nat) : Option Instr :=
  if field w 14 10 = 0 then none else some (.loop e (fieldFin w 24 2) (fieldFin w 14 10) (fieldFin w 0 14))

/-- Opcodes 16#38 to 16#3E: timers, an odd INST undefined, and counters, WALL undefined (05 R156). -/
def decodeTimer (e : EngineId) (op w : Nat) : Option Instr :=
  let wall := w.testBit 25
  let i := fieldFin w 0 17
  if field w 17 8 ≠ 0 then none
  else if op ≤ 0x3B ∧ field w 0 1 = 1 then none
  else if 0x3C ≤ op ∧ wall then none
  else match op with
    | 0x38 => some (.ton e wall i)
    | 0x39 => some (.tof e wall i)
    | 0x3A => some (.tp e wall i)
    | 0x3B => some (.tonm e wall i)
    | 0x3C => some (.ctu e i)
    | 0x3D => some (.ctd e i)
    | 0x3E => some (.ctud e i)
    | _ => none

/-- Instruction of a 32-bit word, none where the encoding is undefined (05 R133 to R135). -/
def decodeWord (e : EngineId) (w : Nat) : Option Instr :=
  let op := field w 26 6
  if op ≤ 0x0F then decodeBit e op w
  else if op ≤ 0x11 then decodeEdge e op w
  else if op = 0x12 then decodeGroup e w
  else if op ≤ 0x22 then decodeWordAccess e op w
  else if op = 0x24 then decodeInt e w
  else if op = 0x25 then decodeUint e w
  else if op = 0x26 then decodeLogic e w
  else if op = 0x27 ∨ op = 0x28 then decodeCompare e op w
  else if op = 0x29 then decodeReal e w
  else if op = 0x2A then decodeCompareReal e w
  else if op = 0x2B then decodeConv e w
  else if op = 0x2C then decodeMove e w
  else if op = 0x2D then decodeIndex e w
  else if op = 0x2E then decodeCrc e w
  else if op = 0x2F then decodePub e w
  else if 0x30 ≤ op ∧ op ≤ 0x36 then decodeJump e op w
  else if op = 0x37 then decodeLoop e w
  else if 0x38 ≤ op ∧ op ≤ 0x3E then decodeTimer e op w
  else none

/-- What an engine executes at a word: the instruction, or UNDEFINED_ENCODING. -/
def decodeSerzel (e : EngineId) (w : Nat) : Instr := (decodeWord e w).getD (.undefinedEncoding e)

/-! ## The encoder -/

/-- REG, DST or ACC as a bit. -/
def accBit : Acc → Nat
  | .wa => 0
  | .wb => 1

/-- WID as bits. -/
def widBits : Wid → Nat
  | .w8 => 0
  | .w16 => 1
  | .w32 => 2
  | .w64 => 3

/-- WID of a REAL or CMPR instruction as bits. -/
def rwidBits : RWid → Nat
  | .f32 => 2
  | .f64 => 3

/-- SRC and IMM as bits of the word. -/
def srcBits : Src → Nat
  | .acc r => accBit r * 65536
  | .x n => (2 + n.val) * 65536
  | .imm v => 6 * 65536 + v.val
  | .k v => 7 * 65536 + v.val

/-- SRC and IMM of a REAL or CMPR instruction. -/
def rsrcBits : RSrc → Nat
  | .acc r => accBit r * 65536
  | .k v => 7 * 65536 + v.val

/-- SRC and IMM of a conversion from REAL. -/
def csrcBits : ConvSrc → Nat
  | .acc r => accBit r * 65536
  | .x n => (2 + n.val) * 65536
  | .k v => 7 * 65536 + v.val

/-- Format B (05 R133, Table 05-1). -/
def formB (op : Nat) (x : BitAddr) : Nat := op * 67108864 + x.area.code * 8388608 + x.ofs.val * 8 + x.bit.val

/-- Format W. -/
def formW (op : Nat) (x : WordAddr) (r : Acc) : Nat :=
  op * 67108864 + x.area.code * 8388608 + x.idx.val * 2097152 + accBit r * 1048576 + x.ofs.val

/-- Format A, its SRC and IMM given as bits. -/
def formA (op fn wid : Nat) (d : Acc) (src : Nat) : Nat := op * 67108864 + fn * 4194304 + wid * 1048576 + accBit d * 524288 + src

/-- Format X. -/
def formX (fn : Nat) (n : Fin 4) (r imm : Nat) : Nat := 0x2D * 67108864 + fn * 4194304 + n.val * 1048576 + r * 524288 + imm

/-- Format C. -/
def formC (fn : Nat) (u : Fin 2) (r : Acc) (poly : Nat) : Nat :=
  0x2E * 67108864 + fn * 4194304 + u.val * 2097152 + accBit r * 1048576 + poly * 65536

/-- Format T. -/
def formT (op : Nat) (wall : Bool) (inst : Fin 131072) : Nat := op * 67108864 + (if wall then 33554432 else 0) + inst.val

/-- The word of a Serzel instruction (05 R133 to R135, Tables 05-1 to 05-9); none for every other command. -/
def encodeSerzel : Instr → Option Nat
  | .bLd _ x => some (formB 0x01 x)
  | .ldn _ x => some (formB 0x02 x)
  | .bAnd _ x => some (formB 0x03 x)
  | .andn _ x => some (formB 0x04 x)
  | .bOr _ x => some (formB 0x05 x)
  | .orn _ x => some (formB 0x06 x)
  | .bXor _ x => some (formB 0x07 x)
  | .xorn _ x => some (formB 0x08 x)
  | .bSt _ x => some (formB 0x09 x)
  | .stn _ x => some (formB 0x0A x)
  | .bSet _ x => some (formB 0x0B x)
  | .rst _ x => some (formB 0x0C x)
  | .andBracket _ x => some (formB 0x0D x)
  | .orBracket _ x => some (formB 0x0E x)
  | .xorBracket _ x => some (formB 0x0F x)
  | .bNot _ => some (0x12 * 67108864)
  | .bracketClose _ => some (0x12 * 67108864 + 4194304)
  | .edgr _ o p => some (formB 0x10 { area := .s, ofs := o, bit := ⟨2 * p.val, by omega⟩ })
  | .edgf _ o p => some (formB 0x11 { area := .s, ofs := o, bit := ⟨2 * p.val, by omega⟩ })
  | .ld8 _ x r => some (formW 0x18 x r)
  | .ld16 _ x r => some (formW 0x19 x r)
  | .ld32 _ x r => some (formW 0x1A x r)
  | .ld64 _ x r => some (formW 0x1B x r)
  | .lds8 _ x r => some (formW 0x1C x r)
  | .lds16 _ x r => some (formW 0x1D x r)
  | .lds32 _ x r => some (formW 0x1E x r)
  | .st8 _ x r => some (formW 0x1F x r)
  | .st16 _ x r => some (formW 0x20 x r)
  | .st32 _ x r => some (formW 0x21 x r)
  | .st64 _ x r => some (formW 0x22 x r)
  | .intAdd _ w d x => some (formA 0x24 0 (widBits w) d (srcBits x))
  | .intSub _ w d x => some (formA 0x24 1 (widBits w) d (srcBits x))
  | .intNeg _ w d x => some (formA 0x24 2 (widBits w) d (srcBits x))
  | .intAbs _ w d x => some (formA 0x24 3 (widBits w) d (srcBits x))
  | .intMin _ w d x => some (formA 0x24 4 (widBits w) d (srcBits x))
  | .intMax _ w d x => some (formA 0x24 5 (widBits w) d (srcBits x))
  | .intLimit _ w d x => some (formA 0x24 6 (widBits w) d (srcBits x))
  | .intMul _ w d x => some (formA 0x24 7 (widBits w) d (srcBits x))
  | .intDiv _ w d x => some (formA 0x24 8 (widBits w) d (srcBits x))
  | .intMod _ w d x => some (formA 0x24 9 (widBits w) d (srcBits x))
  | .uintAdd _ w d x => some (formA 0x25 0 (widBits w) d (srcBits x))
  | .uintSub _ w d x => some (formA 0x25 1 (widBits w) d (srcBits x))
  | .uintMin _ w d x => some (formA 0x25 4 (widBits w) d (srcBits x))
  | .uintMax _ w d x => some (formA 0x25 5 (widBits w) d (srcBits x))
  | .uintLimit _ w d x => some (formA 0x25 6 (widBits w) d (srcBits x))
  | .uintMul _ w d x => some (formA 0x25 7 (widBits w) d (srcBits x))
  | .uintDiv _ w d x => some (formA 0x25 8 (widBits w) d (srcBits x))
  | .uintMod _ w d x => some (formA 0x25 9 (widBits w) d (srcBits x))
  | .logicAnd _ w d x => some (formA 0x26 0 (widBits w) d (srcBits x))
  | .logicOr _ w d x => some (formA 0x26 1 (widBits w) d (srcBits x))
  | .logicXor _ w d x => some (formA 0x26 2 (widBits w) d (srcBits x))
  | .logicNot _ w d x => some (formA 0x26 3 (widBits w) d (srcBits x))
  | .shl _ w d x => some (formA 0x26 4 (widBits w) d (srcBits x))
  | .shr _ w d x => some (formA 0x26 5 (widBits w) d (srcBits x))
  | .sar _ w d x => some (formA 0x26 6 (widBits w) d (srcBits x))
  | .rol _ w d x => some (formA 0x26 7 (widBits w) d (srcBits x))
  | .ror _ w d x => some (formA 0x26 8 (widBits w) d (srcBits x))
  | .cmpsEq _ w d x => some (formA 0x27 0 (widBits w) d (srcBits x))
  | .cmpsNe _ w d x => some (formA 0x27 1 (widBits w) d (srcBits x))
  | .cmpsLt _ w d x => some (formA 0x27 2 (widBits w) d (srcBits x))
  | .cmpsLe _ w d x => some (formA 0x27 3 (widBits w) d (srcBits x))
  | .cmpsGt _ w d x => some (formA 0x27 4 (widBits w) d (srcBits x))
  | .cmpsGe _ w d x => some (formA 0x27 5 (widBits w) d (srcBits x))
  | .cmpuEq _ w d x => some (formA 0x28 0 (widBits w) d (srcBits x))
  | .cmpuNe _ w d x => some (formA 0x28 1 (widBits w) d (srcBits x))
  | .cmpuLt _ w d x => some (formA 0x28 2 (widBits w) d (srcBits x))
  | .cmpuLe _ w d x => some (formA 0x28 3 (widBits w) d (srcBits x))
  | .cmpuGt _ w d x => some (formA 0x28 4 (widBits w) d (srcBits x))
  | .cmpuGe _ w d x => some (formA 0x28 5 (widBits w) d (srcBits x))
  | .itof32 _ w d x => some (formA 0x2B 0 (widBits w) d (srcBits x))
  | .itof64 _ w d x => some (formA 0x2B 1 (widBits w) d (srcBits x))
  | .utof32 _ w d x => some (formA 0x2B 2 (widBits w) d (srcBits x))
  | .utof64 _ w d x => some (formA 0x2B 3 (widBits w) d (srcBits x))
  | .snarrow _ w d x => some (formA 0x2B 12 (widBits w) d (srcBits x))
  | .unarrow _ w d x => some (formA 0x2B 13 (widBits w) d (srcBits x))
  | .mov _ w d x => some (formA 0x2C 0 (widBits w) d (srcBits x))
  | .realAdd _ w d x => some (formA 0x29 0 (rwidBits w) d (rsrcBits x))
  | .realSub _ w d x => some (formA 0x29 1 (rwidBits w) d (rsrcBits x))
  | .realMul _ w d x => some (formA 0x29 2 (rwidBits w) d (rsrcBits x))
  | .realDiv _ w d x => some (formA 0x29 3 (rwidBits w) d (rsrcBits x))
  | .realSqrt _ w d x => some (formA 0x29 4 (rwidBits w) d (rsrcBits x))
  | .realNeg _ w d x => some (formA 0x29 5 (rwidBits w) d (rsrcBits x))
  | .realAbs _ w d x => some (formA 0x29 6 (rwidBits w) d (rsrcBits x))
  | .realMin _ w d x => some (formA 0x29 7 (rwidBits w) d (rsrcBits x))
  | .realMax _ w d x => some (formA 0x29 8 (rwidBits w) d (rsrcBits x))
  | .cmprEq _ w d x => some (formA 0x2A 0 (rwidBits w) d (rsrcBits x))
  | .cmprNe _ w d x => some (formA 0x2A 1 (rwidBits w) d (rsrcBits x))
  | .cmprLt _ w d x => some (formA 0x2A 2 (rwidBits w) d (rsrcBits x))
  | .cmprLe _ w d x => some (formA 0x2A 3 (rwidBits w) d (rsrcBits x))
  | .cmprGt _ w d x => some (formA 0x2A 4 (rwidBits w) d (rsrcBits x))
  | .cmprGe _ w d x => some (formA 0x2A 5 (rwidBits w) d (rsrcBits x))
  | .f32toi _ w d x => some (formA 0x2B 4 (widBits w) d (csrcBits x))
  | .f64toi _ w d x => some (formA 0x2B 5 (widBits w) d (csrcBits x))
  | .f32trunc _ w d x => some (formA 0x2B 6 (widBits w) d (csrcBits x))
  | .f64trunc _ w d x => some (formA 0x2B 7 (widBits w) d (csrcBits x))
  | .f32tou _ w d x => some (formA 0x2B 8 (widBits w) d (csrcBits x))
  | .f64tou _ w d x => some (formA 0x2B 9 (widBits w) d (csrcBits x))
  | .f32tof64 _ d x => some (formA 0x2B 10 3 d (csrcBits x))
  | .f64tof32 _ d x => some (formA 0x2B 11 3 d (csrcBits x))
  | .swap _ => some (formA 0x2C 1 0 .wa 0)
  | .ba2w _ w d => some (formA 0x2C 2 (widBits w) d 0)
  | .w2ba _ w x => some (formA 0x2C 3 (widBits w) .wa (srcBits x))
  | .xli _ n v => some (formX 0 n 0 v.val)
  | .xadd _ n v => some (formX 1 n 0 v.val)
  | .xfrom _ n r => some (formX 2 n (accBit r) 0)
  | .xto _ n r => some (formX 3 n (accBit r) 0)
  | .xshl _ n v => some (formX 4 n 0 v.val)
  | .crci _ u p => some (formC 0 u .wa p.val)
  | .crcb _ u r => some (formC 1 u r 0)
  | .crch _ u r => some (formC 2 u r 0)
  | .crcw _ u r => some (formC 3 u r 0)
  | .crcr _ u r => some (formC 4 u r 0)
  | .pubFlow _ i => some (0x2F * 67108864 + i.val)
  | .pubTelegram _ p i => some (0x2F * 67108864 + (1 + p.num) * 16777216 + i.val)
  | .jmp _ t => some (0x30 * 67108864 + t.val)
  | .jmpc _ t => some (0x31 * 67108864 + t.val)
  | .jmpcn _ t => some (0x32 * 67108864 + t.val)
  | .cal _ t => some (0x33 * 67108864 + t.val)
  | .calc _ t => some (0x34 * 67108864 + t.val)
  | .calcn _ t => some (0x35 * 67108864 + t.val)
  | .ret _ => some (0x36 * 67108864)
  | .loop _ n l m => some (0x37 * 67108864 + n.val * 16777216 + l.val * 16384 + m.val)
  | .ton _ w i => some (formT 0x38 w i)
  | .tof _ w i => some (formT 0x39 w i)
  | .tp _ w i => some (formT 0x3A w i)
  | .tonm _ w i => some (formT 0x3B w i)
  | .ctu _ i => some (formT 0x3C false i)
  | .ctd _ i => some (formT 0x3D false i)
  | .ctud _ i => some (formT 0x3E false i)
  | _ => none

/-! ## Table words -/

/-- The command that a table word spells: the opcode table gives no row any bits, so no word spells a command. -/
def decodeTableWord (_nbits _w : Nat) : Option Instr := none

end Sys2Proof
end

