-- ==== Sys2Proof/Config.lean ====
section
/-! DEFINITION. What a manufactured part fixes, and the free values: constants with no body, so that nothing can be proved
of them beyond their type. -/

namespace Sys2Proof.Config

/-- A free value: argument n is the number of free values drawn before (State.free). -/
opaque freeValue : Nat → Nat

/-- The die-set revision d of the ordering code, a letter in ASCII fixed at manufacture (18 R475). -/
opaque dieSet : BitVec 8

/-- 1009.00: the die-set revision in 8 bytes of ASCII, the rest zero (17 R457, 18 R475). -/
def hardwareVersion : BitVec 64 := dieSet.zeroExtend 64

/-- 100A.00: junction ROM revision (17 R457). -/
opaque softwareVersion : BitVec 64

/-- 1018.03: bits 15:0 of the revision number show the same die-set revision (17 R457, 18 R475), as its letter's code (DESIGN CHOICE, log 82);
bits 31:16 are 3. -/
def revision : BitVec 16 := dieSet.zeroExtend 16

/-- 1018.04: serial number (17 R457). -/
opaque serialNumber : BitVec 32

/-- 4100.02 and 4101.02: MAC address of an ECN port (11 R322). -/
opaque macAddress : Bool → BitVec 48

/-- Draws of the junction's random source for the password salt (13 R359): argument n is the draw's number in State.free. -/
opaque randomSalt : Nat → BitVec 128

/-- The container that a run of bytes spells, none when its structure is not recognised: the manual gives no byte layout. -/
opaque containerOf : Bytes → Option Container

/-- The delta container that a run of bytes spells. -/
opaque deltaOf : Bytes → Option Delta

/-- The bytes of the container whose signed part has this SHA-256 digest. -/
opaque containerBytes : Nat → Bytes

/-- The mixing function of a signature comparator (03 R63): a running signature and a word of the compared bus to the next signature. The
manual names its kind and not the function. -/
opaque mix : BitVec 32 → BitVec 128 → BitVec 32

end Sys2Proof.Config
end

