-- ==== Sys2Proof/Machine/State.lean ====
section
/-! DEFINITION. The state of the module as plain data, its reasons to stop, and State.reset: the module as delivered, at
the defaults of the dictionary tables, before VIN good (spec/ chapters 01 to 18).

Every scalar that the dictionary shows is held once, in a register map keyed by 256 × index + subindex: State.jreg for
class J (17 R439), Lane.reg for classes V and L in each lane. A register that a map does not list reads as the default
of its table (Machine/Entries.lean). What the manual describes with more structure than a number has fields of its own. -/

namespace Sys2Proof.Machine

open Sys2Proof

/-- Why a step can stop. The spec gives every command an effect, so no meaning raises a fault: the type has no value. -/
inductive Fault where
  deriving DecidableEq, Repr

/-- Why a step can be refused. -/
inductive Refusal where
  /-- Raised by an arm of exec that has no meaning yet; safe: nothing is claimed of such a command. -/
  | notModelled (mnemonic : String)
  deriving DecidableEq, Repr

/-! ## Engines (chapters 03 to 05) -/

/-- What an engine is doing within a cycle (04 R118, R124, 05 R163). -/
inductive Phase where
  | idle | running | waiting | stopped
  deriving DecidableEq, Repr

/-- Operators on the bracket stack (05 R140). -/
inductive BrOp where
  | and | or | xor
  deriving DecidableEq, Repr

/-- A loop on the loop stack (05 R154): body [first, past), iterations, current iteration, index register, call depth. -/
structure LoopFrame where
  first : Nat
  past  : Nat
  iters : Nat
  iter  : Nat
  xn    : Fin 4
  depth : Nat
  deriving DecidableEq, Repr

/-- Registers and sequencing of one engine or half (04 Table 04-1, 05 R136, R140, R154, R155). `pos` is the place in the
order list, `queue` the event tasks still to run at the poll point in progress, `clock` the lane clock the engine has
reached and `began` the clock at the dispatch of the task. -/
structure Engine where
  phase : Phase
  pc    : Nat
  ctx   : Option Nat
  pos   : Nat
  queue : List Nat
  ba    : Bool
  wa    : W64
  wb    : W64
  x0    : BitVec 32
  x1    : BitVec 32
  x2    : BitVec 32
  x3    : BitVec 32
  z     : Bool
  n     : Bool
  v     : Bool
  c     : Bool
  brackets : List (Bool × BrOp)
  calls : List Nat
  loops : List LoopFrame
  tk    : Nat
  tr    : Nat
  tw    : Nat
  clock : Nat
  began : Nat
  deriving DecidableEq, Repr

/-- What a pair of shim registers of a safe engine holds (03 R62): the clock at which the leading core took its inputs; these: the instruction
word, the data loaded, the clocks until the rotation granted an access and the event tasks that the poll found; the registers that the
trailing core reaches on them, its output, and the leading core's output, delayed to meet it. -/
structure Shim where
  clock : Nat
  word  : Nat
  loads : Bytes
  grant : Nat
  poll  : List Nat
  core  : Engine
  give  : BitVec 128
  lead  : BitVec 128
  deriving DecidableEq, Repr

/-- The trailing core of a safe engine with its shim registers and comparators (03 R62, R63): what is on its way, oldest first, the core's
registers, those that it reaches on everything on its way and those that the leading core had reached then, the running signatures of
both sides, and what the comparators report. -/
structure Pair where
  shims : List Shim
  trail : Engine
  head  : Engine
  lead  : Engine
  sigLead : BitVec 32
  sigTrail : BitVec 32
  bitwise : Bool
  signature : Bool
  deriving DecidableEq, Repr

/-- An engine with nothing in it. -/
def Engine.blank : Engine :=
  { phase := .idle, pc := 0, ctx := none, pos := 0, queue := [], ba := false, wa := 0, wb := 0, x0 := 0, x1 := 0,
    x2 := 0, x3 := 0, z := false, n := false, v := false, c := false, brackets := [], calls := [], loops := [],
    tk := 0, tr := 0, tw := 0, clock := 0, began := 0 }

/-- A pair with nothing on its way. -/
def Pair.blank : Pair :=
  { shims := [], trail := Engine.blank, head := Engine.blank, lead := Engine.blank, sigLead := 0, sigTrail := 0, bitwise := false, signature := false }

/-- A check-value unit (05 R159, 11 R317 to R319): polynomial and register; `none` when not initialised. `owner` is the
dispatch clock of the activation that initialised a lane unit. -/
structure CrcUnit where
  poly  : Nat
  reg   : Nat
  owner : Option Nat
  deriving DecidableEq, Repr

/-- Per-context values of the fixed part (04 R115 to R117, 14 Table 14-1): pending, cycle of the last activation, merge
count, faults latched this cycle (first code and whether arithmetic and fence occurred) and in the previous cycle; whether the task has
ended in this cycle, or its poll point has been passed, and at which clock of its engine (04 R124). -/
structure CtxState where
  pending : Bool
  kLast   : Option Nat
  merged  : Nat
  first   : Nat
  arith   : Bool
  fence   : Bool
  firstPrev : Nat
  arithPrev : Bool
  fencePrev : Bool
  done    : Bool
  doneAt  : Nat
  deriving DecidableEq, Repr

/-- A context with nothing pending. -/
def CtxState.blank : CtxState :=
  { pending := false, kLast := none, merged := 0, first := 0, arith := false, fence := false, firstPrev := 0,
    arithPrev := false, fencePrev := false, done := false, doneAt := 0 }

/-! ## The batch (01 R16) -/

/-- A change of the force table in a batch (06 R184). -/
inductive ForceOp where
  | set (slot : Nat) | release (slot : Nat)
  deriving DecidableEq, Repr

/-- A dictionary write waiting for its cycle start (17 R439): register key, value, and the lane it reaches (none: all). -/
structure BatchWrite where
  key  : Nat
  val  : Nat
  lane : Option LaneId
  deriving DecidableEq, Repr

/-- Data of one flow in the batch: the frame accepted last, its header bytes 0, 2, 6, 7, 8, 9, 18, 19, and the windows of the flow
that ended after it and in all (09 R257, R258). -/
structure FlowItem where
  id      : Nat
  frame   : Option RFrame
  after   : Nat
  windows : Nat
  deriving DecidableEq, Repr

/-- Verdicts of a pending change (06 R174). -/
inductive Verdict where
  | go | abandon
  deriving DecidableEq, Repr

/-- The batch of a cycle (01 R16, 06 R174, R184, 04 R129). -/
structure Batch where
  k        : Nat
  flows    : List FlowItem
  telegrams : List (Nat × Option Bytes)
  can      : List (Nat × Bytes)
  writes   : List BatchWrite
  forces   : List ForceOp
  triggers : List Nat
  stations : List (Nat × Nat)
  dropped  : List Nat
  recovered : List Nat
  verdict  : Option Verdict
  deriving DecidableEq, Repr

/-- A batch with nothing in it. -/
def Batch.empty : Batch :=
  { k := 0, flows := [], telegrams := [], can := [], writes := [], forces := [], triggers := [], stations := [],
    dropped := [], recovered := [], verdict := none }

/-! ## Persistent state (chapter 14) -/

/-- Kinds of journal record (14 Table 14-2). -/
inductive RecKind where
  | delta | full | final | carry | void
  deriving DecidableEq, Repr

/-- A monitor's content (14 R391). -/
structure Monitor where
  min   : Int
  max   : Int
  count : Nat
  bins  : Store Nat
  deriving DecidableEq, Repr

/-- An empty monitor. -/
def Monitor.empty : Monitor := { min := 2147483647, max := -2147483648, count := 0, bins := [] }

/-- The manual's fixed part of a lane's persistent state (14 Table 14-1): `regs` holds the run count (3125.00), the safety
sequences and freshness ages (44xx.06, 44xx.08, 411B, 414B) and the station status (54xx.02); beside it the remaining limp
time, the per-context values, the persistent forces and the monitor copy. -/
structure FixedPart where
  regs     : Store Nat
  limpNs   : Option Nat
  ctxs     : Store CtxState
  forces   : List (Nat × Bytes)
  monitors : Store Monitor
  deriving DecidableEq, Repr

/-- A fixed part with nothing in it. -/
def FixedPart.empty : FixedPart := { regs := [], limpNs := none, ctxs := [], forces := [], monitors := [] }

/-- A journal record (14 Table 14-2): sequence, write count, configuration, kind, blocks by index, fixed part, signature of
the whole state at the snapshot, its trailer as written, empty until then, and the bytes written of one that was abandoned. -/
structure Record where
  seq    : Nat
  count  : Nat
  config : Nat
  kind   : RecKind
  blocks : Store Bytes
  fixed  : FixedPart
  sig    : Nat
  trailer : Bytes
  cut    : Option Nat
  deriving DecidableEq, Repr

/-- Glue-up controller of a lane (14 R368 to R378): journal (newest first), lane write count, blocks dirty since the
snapshot of the previous commit, blocks kept by copy-on-write since the last release, the commit being written, whether
a snapshot is deferred, whether a full commit is due, the last release with its fixed part and its configuration (06 R180), when the commit
in writing began, the bytes of the journal written and those whose regions carry their write time (14 R382), and the blocks that were dirty at
the last release (14 R377). -/
structure Glue where
  journal : List Record
  count   : Nat
  dirty   : List Nat
  kept    : Store Bytes
  writing : Option Record
  deferred : Bool
  fullDue : Bool
  lastRel : Nat
  fixedRel : FixedPart
  relCfg  : Option Container
  began   : Nat
  written : Nat
  stamped : Nat
  dirtyRel : List Nat
  deriving DecidableEq, Repr

/-- A glue-up controller with an empty journal. -/
def Glue.empty : Glue :=
  { journal := [], count := 0, dirty := [], kept := [], writing := none, deferred := false, fullDue := false,
    lastRel := 0, fixedRel := FixedPart.empty, relCfg := none, began := 0, written := 0, stamped := 0, dirtyRel := [] }

/-! ## Lane time and recognition (chapters 02 and 08) -/

/-- A time mark as a lane keeps it for R46: its node time, the lane's crystal count and the rate correction carried. -/
structure Mark where
  node    : Nat
  crystal : Nat
  rate    : Int
  deriving DecidableEq, Repr

/-- Lane time counter (02 R43 to R46): linear count in units of 10⁻⁹ ns, which holds the fractional accumulator; rate correction
in ppb; deviation of the lane's crystal from node time in the interval in progress, in ppb, as the last mark showed it (DESIGN CHOICE,
log 76); offset still to be removed by slewing, in 10⁻⁹ ns; locked, marks since the first, node time at the last mark, crystal count in
10⁻⁹ ns, marks of the window in progress (newest first) and time of the last rate report. -/
structure LaneTime where
  fine   : Nat
  rate   : Int
  drift  : Int
  slew   : Int
  locked : Bool
  marks  : Nat
  lastMark : Option Nat
  crystal : Nat
  window : List Mark
  reported : Option Nat
  deriving DecidableEq, Repr

/-- A lane time counter that has seen no mark. -/
def LaneTime.zero : LaneTime :=
  { fine := 0, rate := 0, drift := 0, slew := 0, locked := false, marks := 0, lastMark := none, crystal := 0, window := [],
    reported := none }

/-- Linear count of a lane time counter in ns. -/
def LaneTime.now (t : LaneTime) : Nat := t.fine / 1000000000

/-- Results of one evaluation (08 Table 08-3). -/
structure RecogResult where
  cls   : Nat
  conf  : Int
  uMean : Int
  uRms  : Int
  uAc   : Int
  freq  : Int
  iMean : Int
  iRms  : Int
  flags : Nat
  deriving DecidableEq, Repr

/-- Results before any evaluation: class 255, nothing measured (08 R235). -/
def RecogResult.none : RecogResult :=
  { cls := 255, conf := 0, uMean := 0, uRms := 0, uAc := 0, freq := 0, iMean := 0, iRms := 0, flags := 0 }

/-- A decimated sample: lane time, voltage and current in line units (binary32 patterns), over-range seen (08 R228). -/
structure Decim where
  t    : Nat
  u    : Nat
  i    : Nat
  clip : Bool
  deriving DecidableEq, Repr

/-- Recognition unit of a lane (08 R228 to R235): conversions of the block in progress, window store (newest first), lane times of the last
block boundary, evaluation and publication, previous raw class, confirmed class, results waiting for publication and results published. -/
structure Recog where
  uBlock : List Int
  iBlock : List Int
  window : List Decim
  blockAt : Option Nat
  evalAt : Option Nat
  pubAt  : Option Nat
  rawPrev : Nat
  cls    : Nat
  waiting : RecogResult
  shown  : RecogResult
  deriving DecidableEq, Repr

/-- A recognition unit at its start (08 R235). -/
def Recog.start : Recog :=
  { uBlock := [], iBlock := [], window := [], blockAt := none, evalAt := none, pubAt := none, rawPrev := 255, cls := 255, waiting := RecogResult.none,
    shown := RecogResult.none }

/-! ## A lane -/

/-- Lane status (03 R100): 0 active, 1 excluded and held, 2 restarting, 3 scribe test, 4 transferring, 5 shadow, 6 excluded
with no reintegration permitted. -/
inductive LaneStatus where
  | active | held | restarting | scribe | transferring | shadow | barred
  deriving DecidableEq, Repr

/-- Codes of R100. -/
def LaneStatus.code : LaneStatus → Nat
  | .active => 0
  | .held => 1
  | .restarting => 2
  | .scribe => 3
  | .transferring => 4
  | .shadow => 5
  | .barred => 6

/-- What a lane knows of a vector of the exchange in progress (03 R74, R75). -/
inductive VecState where
  | awaited | accepted (v : Bytes) | rejected | absent
  deriving DecidableEq, Repr

/-- A Dovetail submission (03 Table 03-5): the bytes, and Σ as the submission signature unit delivers it. -/
structure Submission where
  data  : Bytes
  sigma : Nat
  deriving DecidableEq, Repr

/-- A lane die: status and exclusion, lane data store (I, Q, M, D, S) with published copies and local stores, engines with
their trailing cores, check-value units, the exchange in progress, the agreed values, task and flow state, forces as they are and as they were
at the last release, glue-up, the lane time counter with the instants in lane time of its last sample and of the last firing of each
converter-start entry, and recognition. -/
structure Lane where
  status  : LaneStatus
  hold    : Bool
  excludedAt : Option Nat
  reg     : Store Nat
  rel     : Store Nat
  relSeen : Bool
  i : Store Byte
  q : Store Byte
  m : Store Byte
  d : Store Byte
  s : Store Byte
  published : Store (Store Byte)
  locals  : Store (Store Byte)
  istore  : Store (Store Nat)
  engines : Store Engine
  pairs   : Store Pair
  lcv0    : Option CrcUnit
  lcv1    : Option CrcUnit
  sampled : Bytes
  view    : Nat
  vecs    : Tri VecState
  exchanged : Bool
  executing : Bool
  incomplete : Bool
  agreedC : Nat
  agreedK : Nat
  image   : Bytes
  imagePrev : Option Bytes
  newFields : List Nat
  iBase   : Store Byte
  batch   : Batch
  batchCrc : Nat
  first   : Bool
  afterChange : Bool
  afterRestore : Bool
  ctxs    : Store CtxState
  pubs    : List (Nat × Nat)
  seenSeq : List Nat
  lastGood : Store Bytes
  diffs   : Store Nat
  reports : List Nat
  forces  : List (Nat × Bytes)
  forcesRel : List (Nat × Bytes)
  glue    : Glue
  time    : LaneTime
  sampledAt : Option Nat
  fired   : Store Nat
  recog   : Recog
  container : Option Container
  stored  : Option Container
  spare   : Option Container
  released : Bytes
  deriving DecidableEq, Repr

/-- A lane as delivered: stores empty, registers at their defaults, no container. -/
def Lane.blank : Lane :=
  { status := .active, hold := false, excludedAt := none, reg := [], rel := [], relSeen := false, i := [], q := [],
    m := [], d := [], s := [], published := [], locals := [], istore := [], engines := [], pairs := [], lcv0 := none, lcv1 := none,
    sampled := [], view := 0, vecs := Tri.all .awaited, exchanged := false, executing := false,
    incomplete := false, agreedC := 0, agreedK := 0, image := [], imagePrev := none, newFields := [], iBase := [], batch := Batch.empty, batchCrc := 0,
    first := false, afterChange := false, afterRestore := false, ctxs := [], pubs := [], seenSeq := [],
    lastGood := [], diffs := [], reports := [], forces := [], forcesRel := [],
    glue := Glue.empty, time := LaneTime.zero, sampledAt := none, fired := [], recog := Recog.start, container := none,
    stored := none, spare := none, released := [] }

/-! ## Time base and outside time (chapter 02) -/

/-- A direct or epoch compare (02 R37): the target taken at arming (a direct compare has only the low 32 bits, in `ns`), its
trigger id, whether an epoch compare's private compare is armed, and state 0 idle, 1 armed, 2 fired. -/
structure Compare where
  sec   : Nat
  ns    : Nat
  id    : Nat
  close : Bool
  state : Nat
  deriving DecidableEq, Repr

/-- A compare never armed. -/
def Compare.idle : Compare := { sec := 0, ns := 0, id := 0, close := false, state := 0 }

/-- The output PPS_OUT (02 R60, 16 Table 16-7): high impedance in reset and unpowered, low, or high until an instant. -/
inductive PpsOut where
  | hiZ | low | high (until_ : Nat)
  deriving DecidableEq, Repr

/-- What can become due at one edge of a counter (02 R39): a cutting-list entry of the time base, a lane's sample or a converter-start
entry of a lane, a direct or an epoch compare, the boundary of a lane's recognition blocks, the cycle start and the vote. -/
inductive Trig where
  | entry (i : Nat) | sample (l : LaneId) | conv (l : LaneId) (i : Nat) | direct (n : Nat) | epoch (n : Nat) | block (l : LaneId) | cycle | vote
  deriving DecidableEq, Repr

/-- The junction's time base and its reference (02 R29 to R61): `now` is the linear count N of node time, `frac` the part of a ns
accumulated, `rc` the rate correction and `slew` and `slewPrev` the slew rates of this round and the previous one in ppb;
TAI correction, its samples (newest first) and validity; loss of the reference; the second at which PPS_IN's next edge is expected and the
expected edges missed since the last; the TAI second written and when; PTP second last sampled; time-source node heard; whether its
reference is PPS_IN; PPS_OUT and the start of its last pulse; last time announcement; compares; triggers fired in the order of R39 ahead of
their commands, with their instants; junction time fault; and the node time in recorder MRAM (R33). -/
structure TimeBase where
  now   : Nat
  frac  : Nat
  rc    : Int
  slew  : Int
  slewPrev : Int
  uncertain : Bool
  synced : Bool
  tai   : Int
  taiValid : Bool
  utcValid : Bool
  refLocked : Bool
  samples : List Int
  lostAt : Option Nat
  ppsDue : Option Nat
  ppsMiss : Nat
  taiSecond : Option (Nat × Nat)
  ptpSecond : Option Int
  sourceSeen : Option Nat
  refPps : Bool
  ppsOut : PpsOut
  ppsStart : Option Nat
  announcedAt : Option Nat
  dc    : List Compare
  ec    : List Compare
  early : List (Trig × Nat)
  jtf   : Bool
  saved : Nat
  deriving DecidableEq, Repr

/-- A PTP port (02 R52 to R54): sequence of its own messages, master followed, two-step sync awaiting its follow-up (sequence,
arrival), times of the last sync, departure of its own request, a peer's answer (its receipt of the request, arrival of the
answer), last periodic messages and last monitor sample. -/
structure PtpPort where
  seq    : Nat
  master : Option Nat
  data   : Option PtpDataset
  syncT  : Option (Nat × Int)
  t1     : Option Int
  t2     : Option Int
  reqT   : Option (Nat × Int)
  respT  : Option (Int × Int)
  syncAt : Option Nat
  announceAt : Option Nat
  sampleAt : Option Nat
  deriving DecidableEq, Repr

/-- A PTP port that has seen nothing. -/
def PtpPort.blank : PtpPort :=
  { seq := 0, master := none, data := none, syncT := none, t1 := none, t2 := none, reqT := none, respT := none, syncAt := none,
    announceAt := none, sampleAt := none }

/-! ## Field die (chapters 07 and 08) -/

/-- Classes of a digital input path (07 Table 07-2). -/
inductive DiClass where
  | wire | indet | off | on
  deriving DecidableEq, Repr

/-- One comparator path of a digital input (07 R193 to R197): band of Table 07-2 of the input current, raw class and since when it has
been held, none before the first classification since boot, filtered class, pulse count, and the count that its lane sampled last. -/
structure DiPath where
  band   : Nat
  raw    : DiClass
  since  : Option Nat
  filt   : DiClass
  count  : Nat
  shown  : Nat
  deriving DecidableEq, Repr

/-- A path without filter history (07 R195). -/
def DiPath.blank : DiPath := { band := 0, raw := .indet, since := none, filt := .indet, count := 0, shown := 0 }

/-- One lane section's part of an output channel (07 R199 to R213): released command, elements closed by command, pending, since when its
own comparator sees demagnetisation, event bits since the last sample, event bits whose condition lasts, latched bits 10 to 12, latched
element map, and the output voltage in mV that it measured last with whether the bridge conducted then. -/
structure DoSection where
  cmd    : Bool
  closed : Bool
  pend   : Bool
  demag  : Option Nat
  events : Nat
  lasting : Nat
  latched : Nat
  map    : Nat
  sense  : Option (Nat × Bool)
  deriving DecidableEq, Repr

/-- A section's part with elements open. -/
def DoSection.blank : DoSection :=
  { cmd := false, closed := false, pend := false, demag := none, events := 0, lasting := 0, latched := 0, map := 0, sense := none }

/-- An output channel (07): its sections, shut down by temperature, thermally latched, commanded off at an O_k since then,
below the restart temperature, locked off, opened by the element test, out of the element test round in progress and since which apply, without
a verdict in this cycle, off-pulse in progress and since when, cycle for which an off-pulse is due or deferred. -/
structure DoChan where
  sec    : Tri DoSection
  hot    : Bool
  latch  : Bool
  offSeen : Bool
  cool   : Bool
  locked : Bool
  tested : Bool
  skip   : Option Nat
  mute   : Bool
  pulse  : Option Nat
  due    : Option Nat
  deriving DecidableEq, Repr

/-- A channel that is off and in order. -/
def DoChan.blank : DoChan :=
  { sec := Tri.all DoSection.blank, hot := false, latch := false, offSeen := false, cool := true, locked := false, tested := false,
    skip := none, mute := false, pulse := none, due := none }

/-- One lane section of the field die (07 R190, R209, R215, 08 R220 to R224): whether its channel is alive, its alarm, the
supply flag, its comparator's raw state and the time of the last low report, input paths, converter results by input and by
converter-start entry, and its HEALTH elements. -/
structure Section where
  alive  : Bool
  quietAt : Option Nat
  alarm  : Bool
  under  : Bool
  raw    : Bool
  rawLow : Option Nat
  di     : Store DiPath
  ai     : Store Int
  conv   : Store Int
  la     : Store Int
  laConv : Store Int
  laAt   : Store Nat
  converting : List Nat
  health : Bool
  deriving DecidableEq, Repr

/-- A section that is not operating. -/
def Section.blank : Section :=
  { alive := false, quietAt := none, alarm := false, under := false, raw := false, rawLow := none, di := [], ai := [],
    conv := [], la := [], laConv := [], laAt := [], converting := [], health := false }

/-- The field die: operating, whether it has operated before, field supply loss in progress, sections, channels, shunt protection by input
(since when open), group supply loss, the element test step (lane stepping, first cycle of the round), the last cycle that the off-pulses
started so far span, and the values of 5105 to 5108 in effect (07 R190, R206 to R214). -/
structure FieldDie where
  operating : Bool
  ran    : Bool
  lost   : Bool
  sec    : Tri Section
  chan   : Store DoChan
  shunt  : Store Nat
  groups : Nat
  step   : Option LaneId
  roundAt : Option Nat
  spanTo : Nat
  effMask : Nat
  effPeriod : Nat
  effWidth : Nat
  effTest : Nat
  deriving DecidableEq, Repr

/-! ## Ring (chapters 09 and 10) -/

/-- Ring start-up states (10 Table 10-1). -/
inductive RingState where
  | off | listen | coldstart | integrate | active | passive | alone
  deriving DecidableEq, Repr

/-- Codes of Table 10-1. -/
def RingState.code : RingState → Nat
  | .off => 0
  | .listen => 1
  | .coldstart => 2
  | .integrate => 3
  | .active => 4
  | .passive => 5
  | .alone => 6

/-- A ring port (09 R260 to R264, 10 R287 to R292): link state code; wrapped and since when; frames discarded at the last
transition; best-effort queue; wrap notices to send ahead of it, each with the instant from which it may be sent; answers to
time queries; since when the link carries frames again; when the own restoration notice was sent and the other end's received;
the neighbour seen in ticks; the end of the last frame heard and sent; and the span that the last time-triggered frame occupies. -/
structure RingPortState where
  link   : Nat
  wrapped : Bool
  wrapAt : Nat
  lost   : Nat
  queue  : List RFrame
  notices : List (Nat × RFrame)
  answers : List RFrame
  upAt   : Option Nat
  ownNotice : Option Nat
  peerNotice : Option Nat
  neighbour : Nat
  lastHeard : Nat
  lastSent : Nat
  busyFrom : Nat
  busyTo : Nat
  deriving DecidableEq, Repr

/-- A port with its link down. -/
def RingPortState.down : RingPortState :=
  { link := 0, wrapped := false, wrapAt := 0, lost := 0, queue := [], notices := [], answers := [], upAt := none,
    ownNotice := none, peerNotice := none, neighbour := 0, lastHeard := 0, lastSent := 0, busyFrom := 0,
    busyTo := 0 }

/-- A buffer locked by a slot: its data and the cycle of the release that published them. -/
structure TxBuffer where
  data : Bytes
  k    : Nat
  deriving DecidableEq, Repr

/-- Transmit context of a flow or telegram (09 R254, 11 R304): the data of the latest release and whether it published, the
release's cycle, the buffer locked by each slot, by the index of its entry, and the sequence. -/
structure TxCtx where
  data   : Bytes
  fresh  : Bool
  k      : Nat
  locked : Store TxBuffer
  seq    : Nat
  deriving DecidableEq, Repr

/-- A transmit context that holds nothing. -/
def TxCtx.blank : TxCtx := { data := [], fresh := false, k := 0, locked := [], seq := 0 }

/-- Receive context of a flow (09 R256, R257): the open window (start, end), whether a frame occupies it, the frame accepted in it, last
accepted header sequence, what a copy at the east port with the same time-stamp would precede (time-stamp of the copy accepted at the
west port, and the sequence before it), frame of the closed windows waiting for its batch, windows closed since the last batch and those
after the waiting frame. -/
structure RxCtx where
  opened : Option (Nat × Nat)
  taken  : Bool
  held   : Option RFrame
  seq    : Option Nat
  west   : Option (Nat × Option Nat)
  frame  : Option RFrame
  windows : Nat
  after  : Nat
  deriving DecidableEq, Repr

/-- A receive context that has seen nothing. -/
def RxCtx.blank : RxCtx :=
  { opened := none, taken := false, held := none, seq := none, west := none, frame := none, windows := 0, after := 0 }

/-- A sync or coldstart frame accepted in a round (10 R276 to R283): sender, whether it is a sync frame, deviation, arrival after the
round start, whether it carries CSTART, and its byte 6. -/
structure SyncSeen where
  node  : Nat
  sync  : Bool
  dev   : Option Int
  ofs   : Nat
  cstart : Bool
  named : Nat
  deriving DecidableEq, Repr

/-- A partition key (10 R293): L and M. -/
structure PartKey where
  l : Nat
  m : Nat
  deriving DecidableEq, Repr

/-- A sync frame from which a node adopts its time (10 R274): frame, arrival, port. -/
structure Adopt where
  frame : RFrame
  at_   : Nat
  port  : RingPort
  deriving DecidableEq, Repr

/-- The ring controller (10): state and when it was entered; coldstart attempts and whether another node's sync frame named this
one; whether a time has been adopted since INTEGRATE; ports; sync windows open by sender (start, end, SYNC of the entry); sync frames of this
round and the previous one, the own ones included; L of the partition whose frames are the reference in PASSIVE (R294); successive rounds with a large offset and
without foreign sync frames; end of the last round; partition key; highest foreign key of this round and the previous one; time query outstanding (id, node, sent), last id,
and the frame it serves; break known; BYP outputs; instant at which a leave frame left; contexts of the flows; header sequences
in recorder MRAM; the last firing of each cutting-list entry; the corrections 4040 and 4041 in effect (02 R50); and whether the device has
entered RUN since its start (10 R275). -/
structure Ring where
  state  : RingState
  since  : Nat
  attempts : Nat
  confirmed : Bool
  adopted : Bool
  east   : RingPortState
  west   : RingPortState
  windows : Store (Nat × Nat × Bool)
  seen   : List SyncSeen
  prev   : List SyncSeen
  follow : Option Nat
  bigOff : Nat
  silent : Nat
  lastEnd : Nat
  key    : PartKey
  foreign : Option PartKey
  foreignPrev : Option PartKey
  query  : Option (Nat × Nat × Nat)
  queryNo : Nat
  adopting : Option Adopt
  breakKnown : Option (Nat × Nat)
  bypass : Bool
  leaveAt : Option Nat
  tx     : Store TxCtx
  rx     : Store RxCtx
  saved  : Store Nat
  fired  : Store Nat
  lat    : Store Int
  ran    : Bool
  deriving DecidableEq, Repr

/-! ## ECN, CAN, host link (chapter 11) -/

/-- Receive side of a telegram context (11 R306, R307): telegram waiting, last accepted sequences, one for each sequence insertion. -/
structure TelRx where
  data : Option Bytes
  seq  : List Nat
  deriving DecidableEq, Repr

/-- An ECN port (11 R300 to R307): link state code, IPv4 identification, resolved addresses (MAC, when), transmit and receive
contexts, frames on the wire or waiting for it (start, end, order of R305: 0 a PTP event message, 1 a telegram, 2 any other frame), echo
requests answered last, sequences in recorder MRAM, whether the port is switched on (16 R417), and datagrams that wait for the address of their
next hop. -/
structure Ecn where
  speed : Nat
  ident : Nat
  arp   : Store (Nat × Nat)
  tx    : Store TxCtx
  rx    : Store TelRx
  queue : List (Nat × Nat × Nat)
  lastEnd : Nat
  icmp  : List Nat
  saved : Store Nat
  on    : Bool
  awaiting : List (Nat × EFrame)
  deriving DecidableEq, Repr

/-- An ECN port with nothing in it. -/
def Ecn.blank : Ecn :=
  { speed := 0, ident := 0, arp := [], tx := [], rx := [], queue := [], lastEnd := 0, icmp := [], saved := [], on := true, awaiting := [] }

/-- NMT states (11 R311) with their heartbeat codes. -/
inductive Nmt where
  | bootUp | stopped | operational | preOp
  deriving DecidableEq, Repr

/-- Heartbeat codes of Table 11-3. -/
def Nmt.code : Nmt → Nat
  | .bootUp => 0
  | .stopped => 4
  | .operational => 5
  | .preOp => 127

/-- A block transfer in progress (17 R447, CiA 301): segments to a block, the last segment number received or sent in it, whether check values
are exchanged, and whether all segments have been. -/
structure SdoBlock where
  size  : Nat
  seq   : Nat
  crc   : Bool
  ended : Bool
  deriving DecidableEq, Repr

/-- An SDO transfer on a channel (11 R313): what is transferred so far or, in an upload, read; when its last segment came; the transaction of
the request that it has formed; the toggle bit expected, the bytes of an upload sent, and its block transfer, if it is one. -/
structure SdoXfer where
  upload : Bool
  index  : Nat
  sub    : Nat
  data   : Bytes
  at_    : Nat
  txn    : Option Nat := none
  toggle : Bool := false
  sent   : Nat := 0
  block  : Option SdoBlock := none
  deriving DecidableEq, Repr

/-- A CAN controller (11 R309 to R311): NMT state, error state (0 active, 1 passive, 2 bus-off, 3 off), times of the bus-offs in the
last 60 s, frames waiting for the batch by receive object, frames waiting for arbitration by transmit object, and when the last
heartbeat was sent. -/
structure Can where
  nmt    : Nmt
  err    : Nat
  busOffs : List Nat
  rx     : Store Bytes
  tx     : Store CFrame
  hbAt   : Nat
  deriving DecidableEq, Repr

/-- A CAN controller after boot. -/
def Can.blank : Can := { nmt := .bootUp, err := 0, busOffs := [], rx := [], tx := [], hbAt := 0 }

/-- The host link (11 R314 to R316): response queue (oldest first), requests whose responses are not yet read, sticky bits, and when the clock of
its last transaction ran (15 Table 15-1). -/
structure HostLink where
  queue   : List Bytes
  pending : Nat
  overrun : Bool
  discarded : Bool
  ranAt : Option Nat
  deriving DecidableEq, Repr

/-- A junction check-value unit (11 R319): register, claiming client and time of its last access. -/
structure Cvu where
  unit   : Option CrcUnit
  client : Option Nat
  at_    : Nat
  deriving DecidableEq, Repr

/-! ## Dictionary server (chapter 17) -/

/-- A client's binding (17 R442) with its cursors and selections (14 R386, 04 R478). -/
structure Binding where
  path    : Path
  carrier : Nat
  ip      : Nat
  udpPort : Nat
  at_     : Nat
  recCursor : Nat
  logCursor : Nat
  view    : Nat
  deriving DecidableEq, Repr

/-- A duplicate-history entry (17 R452): transaction id, CRC-32C of the body from byte 4, the response, when it was sent. -/
structure Dup where
  txn  : Nat
  crc  : Nat
  resp : Bytes
  at_  : Nat
  deriving DecidableEq, Repr

/-- An open DOMAIN write transfer (17 R445): entry, bytes so far, time of the last segment. -/
structure Xfer where
  index : Nat
  sub   : Nat
  data  : Bytes
  at_   : Nat
  deriving DecidableEq, Repr

/-- A DOMAIN read capture (17 R446). -/
structure Capture where
  index : Nat
  sub   : Nat
  data  : Bytes
  at_   : Nat
  deriving DecidableEq, Repr

/-- A record of the write history 1E10 (17 R450), with the junction tick of the write. -/
structure HistRec where
  time   : Nat
  client : Nat
  path   : Nat
  index  : Nat
  sub    : Nat
  flags  : Nat
  abort  : Nat
  value  : Bytes
  tick   : Nat
  deriving DecidableEq, Repr

/-- A write to a write-only entry in a junction tick, which 1E10 does not hold (17 R453): tick, entry, whether it was executed and
whether it is superseded. -/
structure WoWrite where
  tick : Nat
  key  : Nat
  done : Bool
  over_ : Bool
  deriving DecidableEq, Repr

/-- The dictionary server (17): the UDP port in use since the last module reset, requests arrived in the tick (in order of arrival), requests in
flight, bindings, histories,
transfers, captures, write history (newest first) and the writes of the tick in progress to write-only entries. -/
structure Dict where
  port     : Nat
  arrived  : List Request
  inFlight : List (Nat × Nat)
  bindings : Store Binding
  dups     : Store (List Dup)
  xfers    : Store Xfer
  captures : Store Capture
  history  : List HistRec
  tick     : List WoWrite
  sdo      : Store SdoXfer
  sdoTxn   : Store Nat
  deriving DecidableEq, Repr

/-! ## Admission, change, privilege, recorder (chapters 06, 12 to 14) -/

/-- What the Gauge is working on (12 R324). -/
inductive Subject where
  | full (store : Bool)
  | delta
  | entry (r : Sender) (index sub val tick : Nat)
  | stored
  deriving DecidableEq, Repr

/-- On-line change (06): state code, delta, activation cycle, lanes that hold it, last result and detail. -/
structure Change where
  state  : Nat
  delta  : Option Delta
  kAct   : Nat
  holds  : Tri Bool
  deriving DecidableEq, Repr

/-- A force slot (06 Table 06-3): record, set time, client. -/
structure Force where
  rec_   : Bytes
  time   : Nat
  client : Nat
  deriving DecidableEq, Repr

/-- The privileged session and password (13 R355 to R359). -/
structure Priv where
  holder : Option Sender
  lastAt : Nat
  salt   : Bytes
  digest : Option Nat
  fails  : Nat
  lockNs : Nat
  deriving DecidableEq, Repr

/-- A recorder record (14 Table 14-3), without its CRC, which is a function of the rest. -/
structure EvRec where
  seq    : Nat
  time   : Nat
  source : Nat
  type   : Nat
  payload : Bytes
  deriving DecidableEq, Repr

/-- The event recorder (14 R383 to R388): keep and circulating areas by slot, the sizes in force, staging, records waiting
in the controller, freeze holder and the time of its last request, staging losses not yet recorded, last write of each region of
the staging buffer (14 R382). -/
structure Recorder where
  keep    : Store EvRec
  circ    : Store EvRec
  sizeN   : Nat
  sizeM   : Nat
  sArm    : Nat
  head    : Nat
  staged  : List EvRec
  holder  : Option Nat
  holdAt  : Nat
  lost    : Nat
  stageAt : Store Nat
  deriving DecidableEq, Repr

/-- A change-log entry (14 Table 14-5), without number and CRC. -/
structure LogEntry where
  time   : Nat
  client : Nat
  path   : Nat
  index  : Nat
  sub    : Nat
  kind   : Nat
  oldVal : Bytes
  newVal : Bytes
  deriving DecidableEq, Repr

/-! ## Lanes together, power, start-up, pins (chapters 03, 13, 15, 16) -/

/-- Voting mode (03 Table 03-10, 3000.01). -/
inductive Mode where
  | startUp | run2oo3 | run2oo2 | safe
  deriving DecidableEq, Repr

/-- Codes of 3000.01. -/
def Mode.code : Mode → Nat
  | .startUp => 0
  | .run2oo3 => 1
  | .run2oo2 => 2
  | .safe => 3

/-- The hub and the voters (03): cycle start and index of the cycle in progress, index agreed in it and in the last cycle before it in
which one was agreed, the cycle whose agreed values the monitors took last (14 R391), verdicts on the vectors, the submissions of the vote in
progress with its cycle, its C_k, the voting mode, the participating lanes and what they published at V_k, and whether a change took effect in
its cycle, the image released last and its cycle, limp time left, the instants at which reintegrations started, the lane in reintegration, its matching shadow cycles, its blocks still to be transferred, the cycle in
which its first pass ended, the cause that began the limp, the voting mode at C_k, the instant of the last output apply and
the lane whose reintegration waits for an on-line change to end, and the force slots as they were at the last release (17 R439). -/
structure Vote where
  cK      : Nat
  k       : Option Nat
  agreed  : Option Nat
  agreedLast : Option Nat
  monK    : Option Nat
  kV      : Option Nat
  cV      : Nat
  pubsV   : Tri (List (Nat × Nat))
  changeV : Bool
  hub     : Tri VecState
  subs    : Tri (Option Submission)
  voting  : Bool
  modeV   : Mode
  partsV  : List LaneId
  released : Bytes
  relK    : Option Nat
  limpNs  : Option Nat
  starts  : List Nat
  reint   : Option LaneId
  shadowOk : Nat
  blocksDue : List Nat
  passEnd : Option Nat
  causeAt : List (LaneId × Nat)
  modeC   : Nat
  oAt     : Nat
  deferred : Option LaneId
  forcesRel : Store Force
  deriving DecidableEq, Repr

/-- Power, shedding and start-up (16): stage in force, domains on, step in progress, stop code, reset pending, PFW_N asserted, and
the highest stage in force since C_k, at which tasks are shed, ECN_PHY_RST_N low, when the junction booted, the test latches of
the scribe test by unit (03 R70), when the step in progress began, the time since VIN good before node time was last stepped (R430), and the
states of the lands that only a reset changes (R434). -/
structure Power where
  stage   : Nat
  domains : Nat
  step    : Nat
  stop    : Nat
  restart : Option Nat
  pfw     : Bool
  vinGood : Option Nat
  mV      : Store Nat
  restored : Bool
  c1      : Option Nat
  shedC   : Nat
  phyReset : Bool
  bootAt  : Nat
  latches : Store Nat
  stepAt  : Nat
  upNs    : Nat
  lands   : Lands
  deriving DecidableEq, Repr

/-- The lands that the device reads (13 R351, 16 R431): plug readings, those of the lanes at the last reset, COMPAT, and the JTAG instruction
register. -/
structure Pins where
  escJ   : Nat
  escL   : Tri Nat
  escBoot : Tri Nat
  esc7   : Bool
  esc7Runs : Nat
  escRuns : Tri Nat
  disagree : Bool
  node   : Nat
  split  : Bool
  compat : List Nat
  jtag   : JtagCode
  unsealedMode : Bool
  readAt : Nat
  deriving DecidableEq, Repr

/-- Flip-flops of an event crossing for one kind of report: the source's request, the destination's acknowledge, the acknowledge that the
source has taken, and the instant of the last toggle (15 R398). -/
structure EventFlops where
  req   : Bool
  ack   : Bool
  taken : Bool
  at_   : Option Nat
  deriving DecidableEq, Repr

/-- An event crossing that has delivered nothing. -/
def EventFlops.idle : EventFlops := { req := false, ack := false, taken := false, at_ := none }

/-- A frame of a lane's control channel to its section: the sample trigger, a converter-start entry, or the outputs of a cycle (15 Table
15-2, 7l + 4). -/
inductive FieldFrame where
  | sample | convert (entry : Nat) | outputs
  deriving DecidableEq, Repr

/-- What a section gives its lane: the sampled fields, a converter result by input or by converter-start entry, or a line-analog conversion with
the entries that take it (15 Table 15-2, 7l + 5). -/
inductive FieldReport where
  | sampled (bytes : Bytes) | input (n : Nat) | entry (e : Nat) (code : Int) | line (n : Nat) (code : Int) (primary : Bool) (entries : List Nat)
  deriving DecidableEq, Repr

/-- What waits in a crossing: the traffic of a command with the instant at which it was written, a trigger's id, a fault that a lane has
latched and reports, a frame or message on its way out, a lane's submission in a cycle, a released image for a lane with its cycle, a frame of a
control channel, what a section reports, a correction or a compare on its way to the time base, or entries of a frame that its port discards
(15 R400, R403, R405, Table 15-2). -/
inductive XItem where
  | traffic (c : Instr) (at_ : Nat)
  | trigger (id : Nat)
  | fault (l : LaneId) (cause : Nat)
  | wire (w : Wire)
  | submission (l : LaneId) (k : Nat) (x : Submission) (pubs : List (Nat × Nat))
  | image (l : LaneId) (k : Nat) (vb : Bytes) (limp : Option Nat) (change : Bool)
  | frame (l : LaneId) (f : FieldFrame)
  | report (l : LaneId) (r : FieldReport)
  | correction (rc slew : Int)
  | compare (epoch : Bool) (n : Nat) (c : Compare)
  | refuse
  deriving DecidableEq, Repr

/-- One clock-domain crossing (15 R398 to R402, Table 15-4): its status bits; the handshakes of an event crossing; the pointers of a queue with
what each side has seen of the other's; what is held, each with its entries; the counts that the destination has, and the samples it took
them from. `offered` is what a source waits to write, `resets` the sides that have been in reset since the crossing closed, source first, `flush`
those of a flush handshake that waits for a clock, `flushed` the instant of the last completed one with the count before it. -/
structure Crossing where
  open_  : Bool
  stalled : Bool
  bits   : Nat
  epoch  : Bool
  offered : List (XItem × Nat)
  resets : Bool × Bool
  flush  : Option (Bool × Bool)
  flushed : Option (Nat × Nat)
  events : Store EventFlops
  wp     : Nat
  rp     : Nat
  wpSeen : Nat
  rpSeen : Nat
  held   : List (XItem × Nat)
  counts : Store Nat
  refs   : Store Nat
  deriving DecidableEq, Repr

/-- A crossing that is open and has carried nothing. -/
def Crossing.fresh : Crossing :=
  { open_ := true, stalled := false, bits := 0, epoch := false, offered := [], resets := (false, false), flush := none, flushed := none, events := [], wp := 0, rp := 0, wpSeen := 0, rpSeen := 0, held := [],
    counts := [], refs := [] }

/-- The containers of the module: stored copies lie in the lanes; here the download with its load status (13 Table 13-5), the
configuration in force with its signing key and version, the base kept until its commit, and what the Gauge works on: subject,
container, start, and the timing-relevant writes of the same junction tick that wait for it (12 R342). -/
structure Config where
  download : Option (Container × Nat)
  inForce  : Option Container
  keyId    : Nat
  version  : Nat
  base     : Option Container
  gauge    : Option Subject
  gaugeK   : Option Container
  gaugeAt  : Nat
  gaugeQ   : List Subject
  deriving DecidableEq, Repr

/-- The state of the module. `pending` is the queue of commands, first in, first out; `free` counts the free values drawn
and is the model's own, as is `wires`, what left the device (newest first). -/
structure State where
  pending : List Instr
  free    : Nat
  wires   : List Wire
  jreg    : Store Nat
  mode    : Mode
  lanes   : Tri Lane
  vote    : Vote
  time    : TimeBase
  ptp0    : PtpPort
  ptp1    : PtpPort
  field   : FieldDie
  ring    : Ring
  ecn0    : Ecn
  ecn1    : Ecn
  can0    : Can
  can1    : Can
  host    : HostLink
  cvu     : Store Cvu
  dict    : Dict
  cfg     : Config
  change  : Change
  forces  : Store Force
  priv    : Priv
  keys    : Store Bytes
  revoked : List Nat
  recorder : Recorder
  log     : List LogEntry
  monitors : Store Monitor
  power   : Power
  pins    : Pins
  domains : Nat
  crossings : Store Crossing
  batchIn : Batch
  stationRun : Store Nat
  hbAt    : Store Nat
  hbExpired : List Nat
  scrub   : Store Nat
  deriving DecidableEq, Repr

/-- Reset of the time base: node time continues from the value saved in MRAM, 0 on a delivered module (02 R33). -/
def TimeBase.reset (saved : Nat) : TimeBase :=
  { now := saved, frac := 0, rc := 0, slew := 0, slewPrev := 0, uncertain := true, synced := false, tai := 0,
    taiValid := false, utcValid := false, refLocked := false, samples := [], lostAt := none, ppsDue := none, ppsMiss := 0,
    taiSecond := none, ptpSecond := none, sourceSeen := none, refPps := false, ppsOut := .hiZ, ppsStart := none,
    announcedAt := none, dc := List.replicate 8 Compare.idle, ec := List.replicate 4 Compare.idle, early := [], jtf := false,
    saved := saved }

/-- Reset of the ring controller: state OFF (10 R271). -/
def Ring.reset (saved : Store Nat) : Ring :=
  { state := .off, since := 0, attempts := 0, confirmed := false, adopted := false, east := RingPortState.down,
    west := RingPortState.down, windows := [], seen := [], prev := [], follow := none, bigOff := 0, silent := 0, lastEnd := 0,
    key := ⟨255, 255⟩, foreign := none, foreignPrev := none, query := none, queryNo := 0, adopting := none,
    breakKnown := none, bypass := false, leaveAt := none, tx := [], rx := [], saved := saved, fired := [],
    lat := [], ran := false }

/-- Reset of the field die: not operating. -/
def FieldDie.reset : FieldDie :=
  { operating := false, ran := false, lost := false, sec := Tri.all Section.blank, chan := [], shunt := [], groups := 0, step := none,
    roundAt := none, spanTo := 0, effMask := 0, effPeriod := 10, effWidth := 400, effTest := 1000 }

/-- Reset of the dictionary server: no request, binding or history. -/
def Dict.reset : Dict :=
  { port := 50310, arrived := [], inFlight := [], bindings := [], dups := [], xfers := [], captures := [], history := [], tick := [],
    sdo := [], sdoTxn := [] }

/-- Reset of the hub and voters. -/
def Vote.reset : Vote :=
  { cK := 0, k := none, hub := Tri.all .awaited, subs := Tri.all none, voting := false, modeV := .startUp, partsV := [], released := [], relK := none,
    agreed := none, agreedLast := none, monK := none, kV := none, cV := 0, pubsV := Tri.all [], changeV := false, limpNs := none, starts := [], reint := none, shadowOk := 0, blocksDue := [], passEnd := none,
    causeAt := [], modeC := 0, oAt := 0, deferred := none, forcesRel := [] }

/-- The recorder as delivered: armed with the default sizes, nothing recorded (14 R383). -/
def Recorder.delivered : Recorder :=
  { keep := [], circ := [], sizeN := 262144, sizeM := 1703936, sArm := 0, head := 0, staged := [], holder := none,
    holdAt := 0, lost := 0, stageAt := [] }

/-- The plug and COMPAT lands as delivered: every land open, read as 0 (13 R351, 16 Table 16-7). -/
def Pins.delivered : Pins :=
  { escJ := 0, escL := Tri.all 0, escBoot := Tri.all 0, esc7 := false, esc7Runs := 0, escRuns := Tri.all 0, disagree := false, node := 0,
    split := false, compat := [0, 0, 0], jtag := .idcode, unsealedMode := false, readAt := 0 }

/-- The module as delivered, every register at the default of its dictionary table, before VIN good is reached. -/
def State.reset : State :=
  { pending := [], free := 0, wires := [], jreg := [], mode := .startUp, lanes := Tri.all Lane.blank,
    vote := Vote.reset, time := TimeBase.reset 0, ptp0 := PtpPort.blank, ptp1 := PtpPort.blank, field := FieldDie.reset,
    ring := Ring.reset [], ecn0 := Ecn.blank, ecn1 := Ecn.blank, can0 := Can.blank, can1 := Can.blank,
    host := { queue := [], pending := 0, overrun := false, discarded := false, ranAt := none }, cvu := [], dict := Dict.reset,
    cfg := { download := none, inForce := none, keyId := 0, version := 0, base := none, gauge := none, gaugeK := none, gaugeAt := 0, gaugeQ := [] },
    change := { state := 0, delta := none, kAct := 0, holds := Tri.all false }, forces := [],
    priv := { holder := none, lastAt := 0, salt := [], digest := none, fails := 0, lockNs := 0 }, keys := [],
    revoked := [], recorder := Recorder.delivered, log := [], monitors := [],
    power := { stage := 0, domains := 0, step := 0, stop := 0, restart := none, pfw := false, vinGood := none, mV := [],
               restored := false, c1 := none, shedC := 0, phyReset := true, bootAt := 0, latches := [], stepAt := 0, upNs := 0, lands := Lands.off },
    pins := Pins.delivered, domains := 2047, crossings := [], batchIn := Batch.empty, stationRun := [], hbAt := [], hbExpired := [],
    scrub := [] }

end Sys2Proof.Machine
end

