-- ==== Sys2Proof/Machine/Crc.lean ====
section
/-! DEFINITION. The polynomial set of the check-value units and the CRCs of the manual (11 R317, R318, Table 11-6). -/

namespace Sys2Proof.Machine

open Sys2Proof

/-- Parameters of a polynomial: width, polynomial, initial value, reflected, output XOR. -/
structure CrcParams where
  width : Nat
  poly  : Nat
  init  : Nat
  refl  : Bool
  xorOut : Nat
  deriving DecidableEq, Repr

/-- POLY 0 to 4 of Table 11-6; for a reflected polynomial `poly` is written with its bits reversed. -/
def crcParams : Nat → CrcParams
  | 0 => ⟨8, 0x07, 0x00, false, 0x55⟩
  | 1 => ⟨16, 0x8408, 0xFFFF, true, 0xFFFF⟩
  | 2 => ⟨32, 0xEDB88320, 0xFFFFFFFF, true, 0xFFFFFFFF⟩
  | 3 => ⟨32, 0x82F63B78, 0xFFFFFFFF, true, 0xFFFFFFFF⟩
  | _ => ⟨64, 0x42F0E1EBA9EA3693, 0, false, 0⟩

/-- One bit of a reflected register. -/
def crcBitLow (p reg : Nat) : Nat := if reg % 2 = 1 then Nat.xor (reg / 2) p else reg / 2

/-- One bit of a register that shifts towards its top. -/
def crcBitHigh (w p reg : Nat) : Nat :=
  if reg / 2 ^ (w - 1) % 2 = 1 then Nat.xor (reg * 2 % 2 ^ w) p else reg * 2 % 2 ^ w

/-- One byte fed into the register of polynomial `n` (R318). -/
def crcByte (n reg b : Nat) : Nat :=
  let p := crcParams n
  if p.refl then
    let f := crcBitLow p.poly
    f (f (f (f (f (f (f (f (Nat.xor reg (b % 256)))))))))
  else
    let f := crcBitHigh p.width p.poly
    f (f (f (f (f (f (f (f (Nat.xor reg (b % 256 * 2 ^ (p.width - 8))))))))))

/-- Bytes fed in order. -/
def crcFeed (n reg : Nat) (bs : Bytes) : Nat := bs.foldl (fun r b => crcByte n r b.toNat) reg

/-- The finished value of a register (R318). -/
def crcFinish (n reg : Nat) : Nat := Nat.xor reg (crcParams n).xorOut

/-- Check value of a run of bytes. -/
def crcOf (n : Nat) (bs : Bytes) : Nat := crcFinish n (crcFeed n (crcParams n).init bs)

/-- CRC-32C, POLY 3 (R318). -/
def crc32c (bs : Bytes) : Nat := crcOf 3 bs

/-- CRC-64/ECMA-182, POLY 4. -/
def crc64 (bs : Bytes) : Nat := crcOf 4 bs

/-- CRC-16/CCITT, POLY 1 (09 Table 09-1). -/
def crc16 (bs : Bytes) : Nat := crcOf 1 bs

/-- A unit initialised with a polynomial (R319, 05 R159). -/
def CrcUnit.init (poly : Nat) (owner : Option Nat) : CrcUnit :=
  { poly := poly, reg := (crcParams poly).init, owner := owner }

/-- A unit fed with the low `n` bytes of a value, least significant first (R318). -/
def CrcUnit.feed (u : CrcUnit) (n v : Nat) : CrcUnit := { u with reg := crcFeed u.poly u.reg (leBytes n v) }

/-- The finished value of a unit. -/
def CrcUnit.result (u : CrcUnit) : Nat := crcFinish u.poly u.reg

end Sys2Proof.Machine
end

