-- ==== Sys2Proof/Machine/Entries.lean ====
section
/-! DEFINITION. The entries of the object dictionary as the tables of the chapters give them (17 R437 to R439). -/

namespace Sys2Proof.Machine

open Sys2Proof

/-- Data types of 17 Table 17-1. -/
inductive DType where
  | bool | i8 | i16 | i32 | i64 | u8 | u16 | u32 | u64 | r32 | oct (n : Nat) | domain
  deriving DecidableEq, Repr

/-- Length of a value of the type; 0 for DOMAIN, whose length varies. -/
def DType.len : DType → Nat
  | .bool | .i8 | .u8 => 1
  | .i16 | .u16 => 2
  | .i32 | .u32 | .r32 => 4
  | .i64 | .u64 => 8
  | .oct n => n
  | .domain => 0

/-- Whether values of the type are two's complement. -/
def DType.signed : DType → Bool
  | .i8 | .i16 | .i32 | .i64 => true
  | _ => false

/-- Whether the type is a number that the range of its row bounds. -/
def DType.numeric : DType → Bool
  | .oct _ | .domain | .r32 => false
  | _ => true

/-- Access of 17 Table 17-2. -/
inductive Access where
  | ro | const | wo | rw | rwS | rwP
  deriving DecidableEq, Repr

/-- Whether the access permits a read. -/
def Access.canRead : Access → Bool
  | .wo => false
  | _ => true

/-- Whether the access permits a write. -/
def Access.canWrite : Access → Bool
  | .ro | .const => false
  | _ => true

/-- Classes of 17 R439. -/
inductive EClass where
  | j | v | l
  deriving DecidableEq, Repr

/-- A row of a dictionary table: first and last index, first and last subindex, type, access, default as a bit pattern,
class, and the range that its meaning states. -/
structure Entry where
  lo    : Nat
  hi    : Nat
  subLo : Nat
  subHi : Nat
  typ   : DType
  acc   : Access
  dflt  : Nat
  cls   : EClass
  min   : Int
  max   : Int
  deriving DecidableEq, Repr

/-- Entries 1000 to 2000 of the dictionary tables, in the order of their indices. -/
def Entry.rows0 : List Entry :=
  [⟨0x1000, 0x1000, 0x00, 0x00, .u32, .const, 0, .j, 0, 4294967295⟩,
   ⟨0x1001, 0x1001, 0x00, 0x00, .u8, .ro, 0, .j, 0, 255⟩,
   ⟨0x1008, 0x1008, 0x00, 0x00, (.oct 8), .const, 0, .j, 0, 4294967295⟩,
   ⟨0x1009, 0x1009, 0x00, 0x00, (.oct 8), .const, 0, .j, 0, 4294967295⟩,
   ⟨0x100A, 0x100A, 0x00, 0x00, (.oct 8), .const, 0, .j, 0, 4294967295⟩,
   ⟨0x1014, 0x1014, 0x00, 0x00, .u32, .rwS, 128, .j, 0, 4294967295⟩,
   ⟨0x1016, 0x1016, 0x01, 0x20, .u32, .rwS, 0, .j, 0, 33554431⟩,
   ⟨0x1017, 0x1017, 0x00, 0x00, .u16, .rwS, 0, .j, 0, 65535⟩,
   ⟨0x1018, 0x1018, 0x01, 0x01, .u32, .const, 2649, .j, 0, 4294967295⟩,
   ⟨0x1018, 0x1018, 0x02, 0x02, .u32, .const, 0, .j, 0, 4294967295⟩,
   ⟨0x1018, 0x1018, 0x03, 0x03, .u32, .const, 0, .j, 0, 4294967295⟩,
   ⟨0x1018, 0x1018, 0x04, 0x04, .u32, .const, 0, .j, 0, 4294967295⟩,
   ⟨0x1E00, 0x1E00, 0x01, 0x01, .u16, .rwS, 50310, .j, 0, 65535⟩,
   ⟨0x1E00, 0x1E00, 0x02, 0x02, .u8, .rwS, 7, .j, 0, 7⟩,
   ⟨0x1E00, 0x1E00, 0x03, 0x03, .u8, .ro, 0, .j, 0, 255⟩,
   ⟨0x1E00, 0x1E00, 0x04, 0x04, .u32, .ro, 0, .j, 0, 4294967295⟩,
   ⟨0x1E00, 0x1E00, 0x05, 0x05, .u32, .ro, 0, .j, 0, 4294967295⟩,
   ⟨0x1E00, 0x1E00, 0x06, 0x06, .u32, .ro, 0, .j, 0, 4294967295⟩,
   ⟨0x1E00, 0x1E00, 0x07, 0x07, .u32, .ro, 0, .j, 0, 4294967295⟩,
   ⟨0x1E00, 0x1E00, 0x08, 0x08, .u8, .ro, 0, .j, 0, 255⟩,
   ⟨0x1E00, 0x1E00, 0x09, 0x09, .u32, .ro, 0, .j, 0, 4294967295⟩,
   ⟨0x1E01, 0x1E01, 0x01, 0x20, .u64, .ro, 0, .j, 0, 18446744073709551615⟩,
   ⟨0x1E10, 0x1E10, 0x01, 0x40, (.oct 32), .ro, 0, .j, 0, 4294967295⟩,
   ⟨0x2000, 0x2000, 0x01, 0x01, .u8, .ro, 0, .j, 0, 255⟩,
   ⟨0x2000, 0x2000, 0x02, 0x02, .u8, .rwS, 0, .j, 0, 3⟩]

/-- Entries 2000 to 2200 of the dictionary tables, in the order of their indices. -/
def Entry.rows1 : List Entry :=
  [⟨0x2000, 0x2000, 0x03, 0x03, .u8, .ro, 0, .j, 0, 255⟩,
   ⟨0x2000, 0x2000, 0x04, 0x04, .u8, .ro, 0, .j, 0, 255⟩,
   ⟨0x2000, 0x2000, 0x05, 0x05, .u8, .ro, 0, .j, 0, 255⟩,
   ⟨0x2000, 0x2000, 0x06, 0x06, .u8, .ro, 0, .j, 0, 255⟩,
   ⟨0x2000, 0x2000, 0x07, 0x07, .u32, .ro, 0, .j, 0, 4294967295⟩,
   ⟨0x2000, 0x2000, 0x08, 0x08, .u8, .ro, 0, .j, 0, 255⟩,
   ⟨0x2000, 0x2000, 0x09, 0x09, .u32, .ro, 0, .j, 0, 4294967295⟩,
   ⟨0x2010, 0x2010, 0x00, 0x00, .u8, .rwP, 0, .j, 165, 165⟩,
   ⟨0x2100, 0x2100, 0x01, 0x01, .u8, .ro, 0, .j, 0, 255⟩,
   ⟨0x2101, 0x2101, 0x01, 0x03, .u16, .ro, 0, .l, 0, 65535⟩,
   ⟨0x2101, 0x2101, 0x04, 0x04, .u16, .ro, 0, .j, 0, 65535⟩,
   ⟨0x2102, 0x2102, 0x01, 0x03, .u32, .ro, 0, .j, 0, 4294967295⟩,
   ⟨0x2103, 0x2103, 0x00, 0x00, .u32, .ro, 0, .j, 0, 4294967295⟩,
   ⟨0x2104, 0x2104, 0x00, 0x00, .u32, .ro, 0, .j, 0, 4294967295⟩,
   ⟨0x2105, 0x2105, 0x00, 0x00, .u32, .ro, 0, .j, 0, 4294967295⟩,
   ⟨0x2106, 0x2106, 0x00, 0x00, .u16, .ro, 0, .j, 0, 65535⟩,
   ⟨0x2107, 0x2107, 0x01, 0x01, .u32, .ro, 0, .j, 0, 4294967295⟩,
   ⟨0x2107, 0x2107, 0x02, 0x02, .u16, .ro, 0, .j, 0, 65535⟩,
   ⟨0x2108, 0x2108, 0x01, 0x03, .i16, .ro, 0, .l, (-32768), 32767⟩,
   ⟨0x2108, 0x2108, 0x04, 0x04, .i16, .ro, 0, .j, (-32768), 32767⟩,
   ⟨0x2108, 0x2108, 0x05, 0x05, .i16, .ro, 0, .j, (-32768), 32767⟩,
   ⟨0x2108, 0x2108, 0x06, 0x0A, .u32, .ro, 0, .j, 0, 4294967295⟩,
   ⟨0x2109, 0x2109, 0x00, 0x00, .u32, .ro, 0, .j, 0, 4294967295⟩,
   ⟨0x2200, 0x2200, 0x01, 0x01, .u8, .ro, 42, .j, 0, 255⟩,
   ⟨0x2200, 0x2200, 0x02, 0x02, .u8, .ro, 0, .j, 0, 255⟩]

/-- Entries 2201 to 3010 of the dictionary tables, in the order of their indices. -/
def Entry.rows2 : List Entry :=
  [⟨0x2201, 0x2201, 0x01, 0x0B, .u8, .ro, 0, .j, 0, 255⟩,
   ⟨0x2202, 0x2202, 0x01, 0x0B, .u32, .ro, 0, .j, 0, 4294967295⟩,
   ⟨0x2203, 0x2203, 0x00, 0x00, .u8, .wo, 0, .j, 0, 255⟩,
   ⟨0x2210, 0x2239, 0x01, 0x01, .u8, .ro, 1, .j, 0, 255⟩,
   ⟨0x2210, 0x2239, 0x02, 0x02, .u8, .ro, 0, .j, 0, 255⟩,
   ⟨0x2210, 0x2239, 0x03, 0x03, .u32, .ro, 0, .j, 0, 4294967295⟩,
   ⟨0x2210, 0x2239, 0x04, 0x04, .u8, .ro, 0, .j, 0, 255⟩,
   ⟨0x2210, 0x2239, 0x05, 0x05, .u32, .ro, 0, .j, 0, 4294967295⟩,
   ⟨0x2210, 0x2239, 0x06, 0x06, .u32, .ro, 0, .j, 0, 4294967295⟩,
   ⟨0x2210, 0x2239, 0x07, 0x07, .u8, .wo, 0, .j, 0, 255⟩,
   ⟨0x3000, 0x3000, 0x01, 0x01, .u8, .ro, 0, .j, 0, 255⟩,
   ⟨0x3000, 0x3000, 0x02, 0x02, .u16, .ro, 0, .j, 0, 65535⟩,
   ⟨0x3001, 0x3001, 0x01, 0x03, .u8, .ro, 0, .l, 0, 255⟩,
   ⟨0x3002, 0x3002, 0x00, 0x00, .u8, .ro, 0, .j, 0, 255⟩,
   ⟨0x3003, 0x3003, 0x00, 0x00, .u8, .ro, 0, .j, 0, 255⟩,
   ⟨0x3004, 0x3004, 0x00, 0x00, .u32, .rwP, 28800, .v, 60, 259200⟩,
   ⟨0x3005, 0x3005, 0x00, 0x00, .u32, .ro, 0, .j, 0, 4294967295⟩,
   ⟨0x3006, 0x3006, 0x01, 0x01, .u8, .rwS, 1, .j, 0, 2⟩,
   ⟨0x3006, 0x3006, 0x02, 0x02, .u8, .rwP, 0, .j, 0, 2⟩,
   ⟨0x3006, 0x3006, 0x03, 0x03, .u8, .ro, 0, .j, 0, 255⟩,
   ⟨0x3006, 0x3006, 0x04, 0x04, .u8, .ro, 0, .j, 0, 255⟩,
   ⟨0x3007, 0x3007, 0x00, 0x00, .u8, .rwP, 0, .j, 165, 165⟩,
   ⟨0x3010, 0x3010, 0x01, 0x01, .u8, .ro, 0, .j, 0, 255⟩,
   ⟨0x3010, 0x3010, 0x02, 0x02, .u8, .ro, 255, .j, 0, 255⟩,
   ⟨0x3010, 0x3010, 0x03, 0x03, .u16, .ro, 65535, .j, 0, 65535⟩]

/-- Entries 3020 to 3125 of the dictionary tables, in the order of their indices. -/
def Entry.rows3 : List Entry :=
  [⟨0x3020, 0x3020, 0x01, 0x03, .u32, .ro, 0, .l, 0, 4294967295⟩,
   ⟨0x3021, 0x3021, 0x01, 0x03, .u32, .ro, 0, .l, 0, 4294967295⟩,
   ⟨0x3022, 0x3022, 0x00, 0x00, .u32, .ro, 0, .j, 0, 4294967295⟩,
   ⟨0x3030, 0x3030, 0x01, 0x03, .u32, .ro, 0, .l, 0, 4294967295⟩,
   ⟨0x3030, 0x3030, 0x04, 0x04, .u32, .ro, 0, .j, 0, 4294967295⟩,
   ⟨0x3030, 0x3030, 0x05, 0x05, .u32, .ro, 0, .v, 0, 4294967295⟩,
   ⟨0x3040, 0x3040, 0x01, 0x01, .u16, .ro, 10, .v, 0, 65535⟩,
   ⟨0x3040, 0x3040, 0x02, 0x02, .u64, .ro, 0, .v, 0, 18446744073709551615⟩,
   ⟨0x3040, 0x3040, 0x03, 0x03, .u64, .ro, 0, .v, 0, 18446744073709551615⟩,
   ⟨0x3040, 0x3040, 0x04, 0x04, .u32, .ro, 0, .v, 0, 4294967295⟩,
   ⟨0x3041, 0x3041, 0x01, 0x03, .u32, .ro, 0, .l, 0, 4294967295⟩,
   ⟨0x3042, 0x3042, 0x01, 0x03, .u64, .ro, 0, .l, 0, 18446744073709551615⟩,
   ⟨0x3043, 0x3043, 0x00, 0x00, .u8, .ro, 0, .j, 0, 255⟩,
   ⟨0x3044, 0x3044, 0x00, 0x00, .u8, .rwP, 0, .j, 165, 165⟩,
   ⟨0x3045, 0x3045, 0x01, 0x03, .u64, .ro, 0, .l, 0, 18446744073709551615⟩,
   ⟨0x3046, 0x3046, 0x00, 0x00, .u32, .ro, 0, .j, 0, 4294967295⟩,
   ⟨0x3100, 0x3100, 0x01, 0x01, .u16, .ro, 0, .v, 0, 65535⟩,
   ⟨0x3101, 0x3101, 0x01, 0x03, .u32, .ro, 0, .l, 0, 4294967295⟩,
   ⟨0x3110, 0x3110, 0x01, 0x20, .u16, .ro, 0, .v, 0, 65535⟩,
   ⟨0x3120, 0x3120, 0x01, 0x03, .u32, .ro, 0, .l, 0, 4294967295⟩,
   ⟨0x3121, 0x3121, 0x01, 0x03, .u32, .ro, 0, .l, 0, 4294967295⟩,
   ⟨0x3122, 0x3122, 0x00, 0x00, .u16, .ro, 0, .v, 0, 65535⟩,
   ⟨0x3123, 0x3123, 0x01, 0x03, .u32, .ro, 0, .l, 0, 4294967295⟩,
   ⟨0x3124, 0x3124, 0x01, 0x03, .u32, .ro, 0, .l, 0, 4294967295⟩,
   ⟨0x3125, 0x3125, 0x00, 0x00, .u64, .ro, 0, .v, 0, 18446744073709551615⟩]

/-- Entries 3126 to 4003 of the dictionary tables, in the order of their indices. -/
def Entry.rows4 : List Entry :=
  [⟨0x3126, 0x3126, 0x01, 0x01, .u8, .ro, 255, .v, 0, 255⟩,
   ⟨0x3126, 0x3126, 0x02, 0x02, .u8, .ro, 255, .v, 0, 255⟩,
   ⟨0x3127, 0x3127, 0x00, 0x00, .u8, .rw, 0, .j, 0, 2⟩,
   ⟨0x3200, 0x33FF, 0x01, 0x01, .u8, .ro, 0, .v, 0, 255⟩,
   ⟨0x3200, 0x33FF, 0x02, 0x02, .u8, .ro, 0, .v, 0, 255⟩,
   ⟨0x3200, 0x33FF, 0x03, 0x03, .u16, .rwS, 1, .v, 1, 1024⟩,
   ⟨0x3200, 0x33FF, 0x04, 0x04, .u16, .rwS, 0, .v, 0, 1023⟩,
   ⟨0x3200, 0x33FF, 0x05, 0x05, .u8, .ro, 0, .v, 0, 255⟩,
   ⟨0x3200, 0x33FF, 0x06, 0x06, .u32, .ro, 0, .v, 0, 4294967295⟩,
   ⟨0x3200, 0x33FF, 0x07, 0x07, .u32, .ro, 0, .v, 0, 4294967295⟩,
   ⟨0x3200, 0x33FF, 0x08, 0x08, .u16, .ro, 0, .v, 0, 65535⟩,
   ⟨0x3200, 0x33FF, 0x09, 0x09, .bool, .ro, 0, .v, 0, 1⟩,
   ⟨0x3200, 0x33FF, 0x0A, 0x0A, .u32, .ro, 0, .v, 0, 4294967295⟩,
   ⟨0x3200, 0x33FF, 0x0B, 0x0B, .u32, .ro, 0, .v, 0, 4294967295⟩,
   ⟨0x3200, 0x33FF, 0x0C, 0x0C, .u32, .ro, 0, .v, 0, 4294967295⟩,
   ⟨0x3200, 0x33FF, 0x0D, 0x0F, .u32, .ro, 0, .l, 0, 4294967295⟩,
   ⟨0x3200, 0x33FF, 0x10, 0x12, .u32, .ro, 0, .l, 0, 4294967295⟩,
   ⟨0x3200, 0x33FF, 0x13, 0x13, .u64, .ro, 0, .v, 0, 18446744073709551615⟩,
   ⟨0x4000, 0x4000, 0x01, 0x01, (.oct 10), .ro, 0, .j, 0, 4294967295⟩,
   ⟨0x4000, 0x4000, 0x02, 0x02, .u8, .ro, 0, .j, 0, 255⟩,
   ⟨0x4001, 0x4001, 0x00, 0x00, .i64, .ro, 0, .j, (-9223372036854775808), 9223372036854775807⟩,
   ⟨0x4002, 0x4002, 0x01, 0x01, .i16, .rw, 37, .j, (-32768), 32767⟩,
   ⟨0x4002, 0x4002, 0x02, 0x02, .u8, .rw, 0, .j, 0, 2⟩,
   ⟨0x4003, 0x4003, 0x01, 0x01, .bool, .rwS, 0, .j, 0, 1⟩,
   ⟨0x4003, 0x4003, 0x02, 0x02, .u8, .rwS, 0, .j, 0, 3⟩]

/-- Entries 4003 to 4100 of the dictionary tables, in the order of their indices. -/
def Entry.rows5 : List Entry :=
  [⟨0x4003, 0x4003, 0x03, 0x03, .u8, .rwS, 0, .j, 0, 1⟩,
   ⟨0x4004, 0x4004, 0x00, 0x00, .u64, .wo, 0, .j, 0, 18446744073709551615⟩,
   ⟨0x4008, 0x4008, 0x01, 0x03, .i32, .ro, 0, .l, (-2147483648), 2147483647⟩,
   ⟨0x4009, 0x4009, 0x01, 0x03, .i32, .ro, 0, .l, (-2147483648), 2147483647⟩,
   ⟨0x4009, 0x4009, 0x04, 0x04, .u8, .ro, 0, .j, 0, 255⟩,
   ⟨0x4010, 0x4017, 0x01, 0x01, .u32, .rw, 0, .j, 0, 4294967295⟩,
   ⟨0x4010, 0x4017, 0x02, 0x02, .u16, .rw, 0, .j, 0, 65535⟩,
   ⟨0x4010, 0x4017, 0x03, 0x03, .u8, .ro, 0, .j, 0, 255⟩,
   ⟨0x4018, 0x401B, 0x01, 0x01, .u64, .rw, 0, .j, 0, 18446744073709551615⟩,
   ⟨0x4018, 0x401B, 0x02, 0x02, .u32, .rw, 0, .j, 0, 999999999⟩,
   ⟨0x4018, 0x401B, 0x03, 0x03, .u16, .rw, 0, .j, 0, 65535⟩,
   ⟨0x4018, 0x401B, 0x04, 0x04, .u8, .ro, 0, .j, 0, 255⟩,
   ⟨0x4020, 0x4020, 0x01, 0x01, .u8, .rwS, 0, .j, 0, 2⟩,
   ⟨0x4020, 0x4020, 0x02, 0x02, .u32, .rwS, 10000000, .j, 1000, 500000000⟩,
   ⟨0x4020, 0x4020, 0x04, 0x04, .u8, .rwS, 0, .j, 0, 1⟩,
   ⟨0x4021, 0x4021, 0x01, 0x01, .bool, .rwS, 0, .j, 0, 1⟩,
   ⟨0x4021, 0x4021, 0x02, 0x02, (.oct 10), .ro, 0, .j, 0, 4294967295⟩,
   ⟨0x4021, 0x4021, 0x03, 0x03, .u32, .ro, 0, .j, 0, 4294967295⟩,
   ⟨0x4040, 0x4043, 0x01, 0x01, .i32, .rwS, 0, .j, (-100000), 100000⟩,
   ⟨0x4040, 0x4043, 0x02, 0x02, .i32, .rwS, 0, .j, (-100000), 100000⟩,
   ⟨0x4040, 0x4043, 0x03, 0x03, .i32, .rwS, 0, .j, (-100000), 100000⟩,
   ⟨0x4100, 0x4100, 0x01, 0x01, .bool, .rwS, 0, .j, 0, 1⟩,
   ⟨0x4100, 0x4100, 0x02, 0x02, (.oct 6), .ro, 0, .j, 0, 4294967295⟩,
   ⟨0x4100, 0x4100, 0x03, 0x05, .u32, .rwS, 0, .j, 0, 4294967295⟩,
   ⟨0x4100, 0x4100, 0x06, 0x06, .u8, .ro, 0, .j, 0, 255⟩]

/-- Entries 4100 to 4118 of the dictionary tables, in the order of their indices. -/
def Entry.rows6 : List Entry :=
  [⟨0x4100, 0x4100, 0x07, 0x07, .u8, .ro, 3, .v, 0, 255⟩,
   ⟨0x4100, 0x4100, 0x08, 0x08, .u8, .rwS, 0, .j, 0, 31⟩,
   ⟨0x4100, 0x4100, 0x09, 0x09, .u32, .ro, 0, .j, 0, 4294967295⟩,
   ⟨0x4100, 0x4100, 0x0A, 0x0A, .u32, .ro, 0, .j, 0, 4294967295⟩,
   ⟨0x4100, 0x4100, 0x0B, 0x0B, .u32, .ro, 0, .j, 0, 4294967295⟩,
   ⟨0x4100, 0x4100, 0x0C, 0x0C, .u32, .ro, 0, .j, 0, 4294967295⟩,
   ⟨0x4101, 0x4101, 0x01, 0x01, .bool, .rwS, 0, .j, 0, 1⟩,
   ⟨0x4101, 0x4101, 0x02, 0x02, (.oct 6), .ro, 0, .j, 0, 4294967295⟩,
   ⟨0x4101, 0x4101, 0x03, 0x05, .u32, .rwS, 0, .j, 0, 4294967295⟩,
   ⟨0x4101, 0x4101, 0x06, 0x06, .u8, .ro, 0, .j, 0, 255⟩,
   ⟨0x4101, 0x4101, 0x07, 0x07, .u8, .ro, 3, .v, 0, 255⟩,
   ⟨0x4101, 0x4101, 0x08, 0x08, .u8, .rwS, 0, .j, 0, 31⟩,
   ⟨0x4101, 0x4101, 0x09, 0x09, .u32, .ro, 0, .j, 0, 4294967295⟩,
   ⟨0x4101, 0x4101, 0x0A, 0x0A, .u32, .ro, 0, .j, 0, 4294967295⟩,
   ⟨0x4101, 0x4101, 0x0B, 0x0B, .u32, .ro, 0, .j, 0, 4294967295⟩,
   ⟨0x4101, 0x4101, 0x0C, 0x0C, .u32, .ro, 0, .j, 0, 4294967295⟩,
   ⟨0x4110, 0x4110, 0x00, 0xFF, .u8, .ro, 0, .v, 0, 255⟩,
   ⟨0x4111, 0x4111, 0x00, 0xFF, .u16, .ro, 0, .v, 0, 65535⟩,
   ⟨0x4112, 0x4112, 0x00, 0xFF, (.oct 6), .ro, 0, .v, 0, 4294967295⟩,
   ⟨0x4113, 0x4113, 0x00, 0xFF, .u32, .ro, 0, .v, 0, 4294967295⟩,
   ⟨0x4114, 0x4114, 0x00, 0xFF, .u32, .ro, 0, .v, 0, 4294967295⟩,
   ⟨0x4115, 0x4115, 0x00, 0xFF, .u32, .ro, 0, .v, 0, 4294967295⟩,
   ⟨0x4116, 0x4116, 0x00, 0xFF, .u8, .ro, 0, .v, 0, 255⟩,
   ⟨0x4117, 0x4117, 0x00, 0xFF, .u16, .ro, 0, .v, 0, 65535⟩,
   ⟨0x4118, 0x4118, 0x00, 0xFF, (.oct 64), .ro, 0, .v, 0, 4294967295⟩]

/-- Entries 4119 to 4180 of the dictionary tables, in the order of their indices. -/
def Entry.rows7 : List Entry :=
  [⟨0x4119, 0x4119, 0x00, 0xFF, .u64, .ro, 0, .v, 0, 18446744073709551615⟩,
   ⟨0x411A, 0x411A, 0x00, 0xFF, .u8, .rwS, 3, .v, 1, 255⟩,
   ⟨0x411B, 0x411B, 0x00, 0xFF, .u8, .ro, 0, .v, 0, 255⟩,
   ⟨0x411C, 0x411C, 0x00, 0xFF, .bool, .ro, 0, .v, 0, 1⟩,
   ⟨0x411D, 0x411D, 0x00, 0xFF, .u32, .ro, 0, .j, 0, 4294967295⟩,
   ⟨0x411E, 0x411E, 0x00, 0xFF, .u32, .ro, 0, .j, 0, 4294967295⟩,
   ⟨0x411F, 0x411F, 0x00, 0xFF, .u8, .ro, 255, .v, 0, 255⟩,
   ⟨0x4140, 0x4140, 0x00, 0xFF, .u8, .ro, 0, .v, 0, 255⟩,
   ⟨0x4141, 0x4141, 0x00, 0xFF, .u16, .ro, 0, .v, 0, 65535⟩,
   ⟨0x4142, 0x4142, 0x00, 0xFF, (.oct 6), .ro, 0, .v, 0, 4294967295⟩,
   ⟨0x4143, 0x4143, 0x00, 0xFF, .u32, .ro, 0, .v, 0, 4294967295⟩,
   ⟨0x4144, 0x4144, 0x00, 0xFF, .u32, .ro, 0, .v, 0, 4294967295⟩,
   ⟨0x4145, 0x4145, 0x00, 0xFF, .u32, .ro, 0, .v, 0, 4294967295⟩,
   ⟨0x4146, 0x4146, 0x00, 0xFF, .u8, .ro, 0, .v, 0, 255⟩,
   ⟨0x4147, 0x4147, 0x00, 0xFF, .u16, .ro, 0, .v, 0, 65535⟩,
   ⟨0x4148, 0x4148, 0x00, 0xFF, (.oct 64), .ro, 0, .v, 0, 4294967295⟩,
   ⟨0x4149, 0x4149, 0x00, 0xFF, .u64, .ro, 0, .v, 0, 18446744073709551615⟩,
   ⟨0x414A, 0x414A, 0x00, 0xFF, .u8, .rwS, 3, .v, 1, 255⟩,
   ⟨0x414B, 0x414B, 0x00, 0xFF, .u8, .ro, 0, .v, 0, 255⟩,
   ⟨0x414C, 0x414C, 0x00, 0xFF, .bool, .ro, 0, .v, 0, 1⟩,
   ⟨0x414D, 0x414D, 0x00, 0xFF, .u32, .ro, 0, .j, 0, 4294967295⟩,
   ⟨0x414E, 0x414E, 0x00, 0xFF, .u32, .ro, 0, .j, 0, 4294967295⟩,
   ⟨0x414F, 0x414F, 0x00, 0xFF, .u8, .ro, 255, .v, 0, 255⟩,
   ⟨0x4180, 0x4180, 0x01, 0x01, .u8, .rwS, 0, .j, 0, 2⟩,
   ⟨0x4180, 0x4180, 0x02, 0x02, .u8, .rwS, 2, .j, 1, 2⟩]

/-- Entries 4180 to 4181 of the dictionary tables, in the order of their indices. -/
def Entry.rows8 : List Entry :=
  [⟨0x4180, 0x4180, 0x03, 0x03, .u8, .rwS, 1, .j, 1, 2⟩,
   ⟨0x4180, 0x4180, 0x04, 0x04, .u8, .rwS, 1, .j, 1, 2⟩,
   ⟨0x4180, 0x4180, 0x05, 0x05, .u8, .rwS, 0, .j, 0, 127⟩,
   ⟨0x4180, 0x4180, 0x06, 0x06, .i8, .rwS, 253, .j, (-7), 1⟩,
   ⟨0x4180, 0x4180, 0x07, 0x07, .i8, .rwS, 1, .j, 0, 3⟩,
   ⟨0x4180, 0x4180, 0x08, 0x08, .u8, .rwS, 128, .j, 0, 255⟩,
   ⟨0x4180, 0x4180, 0x09, 0x09, .u8, .rwS, 128, .j, 0, 255⟩,
   ⟨0x4180, 0x4180, 0x0A, 0x0A, .u8, .rwS, 248, .j, 0, 255⟩,
   ⟨0x4180, 0x4180, 0x0B, 0x0B, .i64, .ro, 0, .j, (-9223372036854775808), 9223372036854775807⟩,
   ⟨0x4180, 0x4180, 0x0C, 0x0C, .i64, .ro, 0, .j, (-9223372036854775808), 9223372036854775807⟩,
   ⟨0x4180, 0x4180, 0x0D, 0x0D, .u8, .ro, 1, .j, 0, 255⟩,
   ⟨0x4180, 0x4180, 0x0E, 0x0E, .u32, .ro, 0, .j, 0, 4294967295⟩,
   ⟨0x4181, 0x4181, 0x01, 0x01, .u8, .rwS, 0, .j, 0, 2⟩,
   ⟨0x4181, 0x4181, 0x02, 0x02, .u8, .rwS, 2, .j, 1, 2⟩,
   ⟨0x4181, 0x4181, 0x03, 0x03, .u8, .rwS, 1, .j, 1, 2⟩,
   ⟨0x4181, 0x4181, 0x04, 0x04, .u8, .rwS, 1, .j, 1, 2⟩,
   ⟨0x4181, 0x4181, 0x05, 0x05, .u8, .rwS, 0, .j, 0, 127⟩,
   ⟨0x4181, 0x4181, 0x06, 0x06, .i8, .rwS, 253, .j, (-7), 1⟩,
   ⟨0x4181, 0x4181, 0x07, 0x07, .i8, .rwS, 1, .j, 0, 3⟩,
   ⟨0x4181, 0x4181, 0x08, 0x08, .u8, .rwS, 128, .j, 0, 255⟩,
   ⟨0x4181, 0x4181, 0x09, 0x09, .u8, .rwS, 128, .j, 0, 255⟩,
   ⟨0x4181, 0x4181, 0x0A, 0x0A, .u8, .rwS, 248, .j, 0, 255⟩,
   ⟨0x4181, 0x4181, 0x0B, 0x0B, .i64, .ro, 0, .j, (-9223372036854775808), 9223372036854775807⟩,
   ⟨0x4181, 0x4181, 0x0C, 0x0C, .i64, .ro, 0, .j, (-9223372036854775808), 9223372036854775807⟩,
   ⟨0x4181, 0x4181, 0x0D, 0x0D, .u8, .ro, 1, .j, 0, 255⟩]

/-- Entries 4181 to 4220 of the dictionary tables, in the order of their indices. -/
def Entry.rows9 : List Entry :=
  [⟨0x4181, 0x4181, 0x0E, 0x0E, .u32, .ro, 0, .j, 0, 4294967295⟩,
   ⟨0x4200, 0x4200, 0x01, 0x01, .u8, .ro, 0, .j, 0, 255⟩,
   ⟨0x4200, 0x4200, 0x02, 0x02, .u8, .ro, 0, .j, 0, 255⟩,
   ⟨0x4200, 0x4200, 0x03, 0x03, .u8, .ro, 0, .j, 0, 255⟩,
   ⟨0x4200, 0x4200, 0x04, 0x04, .u32, .ro, 0, .j, 0, 4294967295⟩,
   ⟨0x4201, 0x4201, 0x01, 0x01, .u32, .ro, 0, .j, 0, 4294967295⟩,
   ⟨0x4201, 0x4201, 0x02, 0x02, .u8, .ro, 0, .j, 0, 255⟩,
   ⟨0x4201, 0x4201, 0x03, 0x03, .u16, .ro, 0, .j, 0, 65535⟩,
   ⟨0x4202, 0x4202, 0x01, 0x01, .u8, .ro, 0, .j, 0, 255⟩,
   ⟨0x4202, 0x4202, 0x02, 0x02, .u8, .ro, 0, .j, 0, 255⟩,
   ⟨0x4203, 0x4203, 0x01, 0x01, .u32, .ro, 0, .j, 0, 4294967295⟩,
   ⟨0x4203, 0x4203, 0x02, 0x02, .u32, .ro, 0, .j, 0, 4294967295⟩,
   ⟨0x4210, 0x4210, 0x01, 0x01, .u32, .ro, 0, .j, 0, 4294967295⟩,
   ⟨0x4210, 0x4210, 0x02, 0x02, .u32, .ro, 0, .j, 0, 4294967295⟩,
   ⟨0x4210, 0x4210, 0x03, 0x03, .u32, .ro, 0, .j, 0, 4294967295⟩,
   ⟨0x4210, 0x4210, 0x06, 0x06, .u32, .ro, 0, .j, 0, 4294967295⟩,
   ⟨0x4210, 0x4210, 0x07, 0x07, .u32, .ro, 0, .j, 0, 4294967295⟩,
   ⟨0x4210, 0x4210, 0x08, 0x08, .u32, .ro, 0, .j, 0, 4294967295⟩,
   ⟨0x4211, 0x4211, 0x01, 0x01, .u32, .ro, 0, .j, 0, 4294967295⟩,
   ⟨0x4211, 0x4211, 0x02, 0x02, .u32, .ro, 0, .j, 0, 4294967295⟩,
   ⟨0x4211, 0x4211, 0x03, 0x03, .u32, .ro, 0, .j, 0, 4294967295⟩,
   ⟨0x4211, 0x4211, 0x06, 0x06, .u32, .ro, 0, .j, 0, 4294967295⟩,
   ⟨0x4211, 0x4211, 0x07, 0x07, .u32, .ro, 0, .j, 0, 4294967295⟩,
   ⟨0x4211, 0x4211, 0x08, 0x08, .u32, .ro, 0, .j, 0, 4294967295⟩,
   ⟨0x4220, 0x4220, 0x01, 0x01, .u32, .rwS, 173626112, .j, 0, 4294967295⟩]

/-- Entries 4220 to 4234 of the dictionary tables, in the order of their indices. -/
def Entry.rows10 : List Entry :=
  [⟨0x4220, 0x4220, 0x02, 0x02, .u32, .ro, 0, .j, 0, 4294967295⟩,
   ⟨0x4220, 0x4220, 0x03, 0x03, .u32, .ro, 0, .j, 0, 4294967295⟩,
   ⟨0x4220, 0x4220, 0x04, 0x04, .u32, .ro, 0, .j, 0, 4294967295⟩,
   ⟨0x4230, 0x4230, 0x01, 0x01, .u8, .ro, 0, .j, 0, 255⟩,
   ⟨0x4230, 0x4230, 0x02, 0x02, .bool, .ro, 0, .j, 0, 1⟩,
   ⟨0x4230, 0x4230, 0x03, 0x03, .u16, .ro, 0, .j, 0, 65535⟩,
   ⟨0x4230, 0x4230, 0x04, 0x04, .bool, .ro, 0, .j, 0, 1⟩,
   ⟨0x4230, 0x4230, 0x05, 0x05, .bool, .rwS, 0, .j, 0, 1⟩,
   ⟨0x4230, 0x4230, 0x06, 0x06, .u8, .ro, 0, .j, 0, 255⟩,
   ⟨0x4230, 0x4230, 0x07, 0x07, .u32, .ro, 0, .j, 0, 4294967295⟩,
   ⟨0x4230, 0x4230, 0x08, 0x08, .u8, .ro, 0, .j, 0, 255⟩,
   ⟨0x4231, 0x4231, 0x01, 0x01, .u8, .ro, 0, .j, 0, 255⟩,
   ⟨0x4231, 0x4231, 0x02, 0x02, .u8, .ro, 0, .j, 0, 255⟩,
   ⟨0x4231, 0x4231, 0x03, 0x03, .i32, .ro, 0, .j, (-2147483648), 2147483647⟩,
   ⟨0x4231, 0x4231, 0x04, 0x04, .i32, .ro, 0, .j, (-2147483648), 2147483647⟩,
   ⟨0x4231, 0x4231, 0x05, 0x05, .u32, .ro, 0, .j, 0, 4294967295⟩,
   ⟨0x4231, 0x4231, 0x06, 0x06, .u32, .ro, 0, .j, 0, 4294967295⟩,
   ⟨0x4231, 0x4231, 0x07, 0x07, .bool, .ro, 0, .j, 0, 1⟩,
   ⟨0x4231, 0x4231, 0x08, 0x08, .bool, .ro, 0, .j, 0, 1⟩,
   ⟨0x4232, 0x4232, 0x01, 0x01, .bool, .ro, 0, .j, 0, 1⟩,
   ⟨0x4232, 0x4232, 0x02, 0x02, .bool, .ro, 0, .j, 0, 1⟩,
   ⟨0x4233, 0x4233, 0x01, 0x01, .u32, .ro, 0, .j, 0, 4294967295⟩,
   ⟨0x4233, 0x4233, 0x02, 0x02, .u32, .ro, 0, .j, 0, 4294967295⟩,
   ⟨0x4234, 0x4234, 0x01, 0x01, .u32, .ro, 0, .j, 0, 4294967295⟩,
   ⟨0x4234, 0x4234, 0x02, 0x02, .u32, .ro, 0, .j, 0, 4294967295⟩]

/-- Entries 4235 to 47FF of the dictionary tables, in the order of their indices. -/
def Entry.rows11 : List Entry :=
  [⟨0x4235, 0x4235, 0x01, 0x01, .u16, .ro, 0, .j, 0, 65535⟩,
   ⟨0x4236, 0x4236, 0x01, 0x01, .u32, .ro, 0, .j, 0, 4294967295⟩,
   ⟨0x4236, 0x4236, 0x02, 0x02, .u32, .ro, 0, .j, 0, 4294967295⟩,
   ⟨0x4237, 0x4237, 0x01, 0x01, .u8, .ro, 0, .j, 0, 255⟩,
   ⟨0x4237, 0x4237, 0x02, 0x02, .bool, .ro, 0, .j, 0, 1⟩,
   ⟨0x4237, 0x4237, 0x03, 0x03, .bool, .ro, 0, .j, 0, 1⟩,
   ⟨0x4300, 0x4300, 0x01, 0x01, .domain, .ro, 0, .j, 0, 4294967295⟩,
   ⟨0x4300, 0x4300, 0x02, 0x02, .u16, .ro, 0, .j, 0, 65535⟩,
   ⟨0x4300, 0x4300, 0x03, 0x03, .u32, .ro, 0, .j, 0, 4294967295⟩,
   ⟨0x4400, 0x47FF, 0x01, 0x01, .u8, .ro, 0, .v, 0, 255⟩,
   ⟨0x4400, 0x47FF, 0x02, 0x02, .u8, .ro, 0, .v, 0, 255⟩,
   ⟨0x4400, 0x47FF, 0x03, 0x03, .bool, .ro, 0, .v, 0, 1⟩,
   ⟨0x4400, 0x47FF, 0x04, 0x04, .u16, .ro, 0, .v, 0, 65535⟩,
   ⟨0x4400, 0x47FF, 0x05, 0x05, .u32, .ro, 0, .j, 0, 4294967295⟩,
   ⟨0x4400, 0x47FF, 0x06, 0x06, .u32, .ro, 0, .v, 0, 4294967295⟩,
   ⟨0x4400, 0x47FF, 0x07, 0x07, .u32, .ro, 0, .j, 0, 4294967295⟩,
   ⟨0x4400, 0x47FF, 0x08, 0x08, .u8, .ro, 0, .v, 0, 255⟩,
   ⟨0x4400, 0x47FF, 0x09, 0x09, .u8, .rwS, 3, .v, 1, 255⟩,
   ⟨0x4400, 0x47FF, 0x0A, 0x0A, .u32, .rwS, 0, .v, 0, 1000000⟩,
   ⟨0x4400, 0x47FF, 0x0B, 0x0B, .u32, .ro, 0, .v, 0, 4294967295⟩,
   ⟨0x4400, 0x47FF, 0x0C, 0x0C, .u32, .ro, 0, .v, 0, 4294967295⟩,
   ⟨0x4400, 0x47FF, 0x0D, 0x0D, .u32, .ro, 0, .v, 0, 4294967295⟩,
   ⟨0x4400, 0x47FF, 0x0E, 0x0E, .u32, .ro, 0, .v, 0, 4294967295⟩,
   ⟨0x4400, 0x47FF, 0x0F, 0x0F, .u32, .ro, 0, .j, 0, 4294967295⟩,
   ⟨0x4400, 0x47FF, 0x10, 0x10, .u32, .ro, 0, .j, 0, 4294967295⟩]

/-- Entries 4400 to 4810 of the dictionary tables, in the order of their indices. -/
def Entry.rows12 : List Entry :=
  [⟨0x4400, 0x47FF, 0x11, 0x11, .u32, .ro, 0, .j, 0, 4294967295⟩,
   ⟨0x4400, 0x47FF, 0x12, 0x12, .u32, .ro, 0, .j, 0, 4294967295⟩,
   ⟨0x4400, 0x47FF, 0x13, 0x13, .bool, .ro, 0, .v, 0, 1⟩,
   ⟨0x4400, 0x47FF, 0x14, 0x14, .u32, .ro, 0, .v, 0, 4294967295⟩,
   ⟨0x4800, 0x4800, 0x01, 0x01, .bool, .rwS, 0, .j, 0, 1⟩,
   ⟨0x4800, 0x4800, 0x02, 0x02, .u8, .rwS, 0, .j, 1, 127⟩,
   ⟨0x4800, 0x4800, 0x03, 0x03, .u16, .rwS, 500, .j, 125, 1000⟩,
   ⟨0x4800, 0x4800, 0x04, 0x04, .u16, .rwS, 2000, .j, 1, 5000⟩,
   ⟨0x4800, 0x4800, 0x05, 0x05, .u16, .rwS, 875, .j, 0, 1000⟩,
   ⟨0x4800, 0x4800, 0x06, 0x06, .u16, .rwS, 750, .j, 0, 1000⟩,
   ⟨0x4800, 0x4800, 0x07, 0x07, .bool, .rwS, 1, .j, 0, 1⟩,
   ⟨0x4800, 0x4800, 0x08, 0x08, .u8, .ro, 0, .j, 0, 255⟩,
   ⟨0x4800, 0x4800, 0x09, 0x09, .u8, .ro, 0, .j, 0, 255⟩,
   ⟨0x4800, 0x4800, 0x0A, 0x0A, .u16, .ro, 0, .j, 0, 65535⟩,
   ⟨0x4800, 0x4800, 0x0B, 0x0B, .u32, .ro, 0, .j, 0, 4294967295⟩,
   ⟨0x4800, 0x4800, 0x0C, 0x0C, .u32, .ro, 0, .j, 0, 4294967295⟩,
   ⟨0x4800, 0x4800, 0x0D, 0x0D, .u32, .ro, 0, .j, 0, 4294967295⟩,
   ⟨0x4800, 0x4800, 0x0E, 0x0E, .u8, .rwS, 0, .j, 1, 1⟩,
   ⟨0x4800, 0x4800, 0x0F, 0x0F, .u32, .ro, 0, .j, 0, 4294967295⟩,
   ⟨0x4804, 0x4804, 0x01, 0x08, .u32, .rwS, 2147483648, .j, 0, 4294967295⟩,
   ⟨0x4805, 0x4805, 0x01, 0x08, .u32, .rwS, 2147483648, .j, 0, 4294967295⟩,
   ⟨0x4810, 0x4810, 0x01, 0x01, .bool, .rwS, 0, .j, 0, 1⟩,
   ⟨0x4810, 0x4810, 0x02, 0x02, .u8, .rwS, 0, .j, 1, 127⟩,
   ⟨0x4810, 0x4810, 0x03, 0x03, .u16, .rwS, 500, .j, 125, 1000⟩,
   ⟨0x4810, 0x4810, 0x04, 0x04, .u16, .rwS, 2000, .j, 1, 5000⟩]

/-- Entries 4810 to 4A07 of the dictionary tables, in the order of their indices. -/
def Entry.rows13 : List Entry :=
  [⟨0x4810, 0x4810, 0x05, 0x05, .u16, .rwS, 875, .j, 0, 1000⟩,
   ⟨0x4810, 0x4810, 0x06, 0x06, .u16, .rwS, 750, .j, 0, 1000⟩,
   ⟨0x4810, 0x4810, 0x07, 0x07, .bool, .rwS, 1, .j, 0, 1⟩,
   ⟨0x4810, 0x4810, 0x08, 0x08, .u8, .ro, 0, .j, 0, 255⟩,
   ⟨0x4810, 0x4810, 0x09, 0x09, .u8, .ro, 0, .j, 0, 255⟩,
   ⟨0x4810, 0x4810, 0x0A, 0x0A, .u16, .ro, 0, .j, 0, 65535⟩,
   ⟨0x4810, 0x4810, 0x0B, 0x0B, .u32, .ro, 0, .j, 0, 4294967295⟩,
   ⟨0x4810, 0x4810, 0x0C, 0x0C, .u32, .ro, 0, .j, 0, 4294967295⟩,
   ⟨0x4810, 0x4810, 0x0D, 0x0D, .u32, .ro, 0, .j, 0, 4294967295⟩,
   ⟨0x4810, 0x4810, 0x0E, 0x0E, .u8, .rwS, 0, .j, 1, 1⟩,
   ⟨0x4810, 0x4810, 0x0F, 0x0F, .u32, .ro, 0, .j, 0, 4294967295⟩,
   ⟨0x4900, 0x4900, 0x01, 0x01, .bool, .rwS, 1, .j, 0, 1⟩,
   ⟨0x4900, 0x4900, 0x02, 0x02, .u8, .ro, 0, .j, 0, 255⟩,
   ⟨0x4900, 0x4900, 0x03, 0x03, .u32, .ro, 0, .j, 0, 4294967295⟩,
   ⟨0x4900, 0x4900, 0x04, 0x04, .u32, .ro, 0, .j, 0, 4294967295⟩,
   ⟨0x4900, 0x4900, 0x05, 0x05, .u32, .ro, 0, .j, 0, 4294967295⟩,
   ⟨0x4A00, 0x4A07, 0x01, 0x01, .u8, .ro, 0, .v, 0, 255⟩,
   ⟨0x4A00, 0x4A07, 0x02, 0x02, .u16, .ro, 0, .v, 0, 65535⟩,
   ⟨0x4A00, 0x4A07, 0x03, 0x03, .u16, .ro, 0, .v, 0, 65535⟩,
   ⟨0x4A00, 0x4A07, 0x04, 0x04, .u8, .ro, 0, .v, 0, 255⟩,
   ⟨0x4A00, 0x4A07, 0x05, 0x05, .u8, .rw, 0, .j, 0, 4⟩,
   ⟨0x4A00, 0x4A07, 0x06, 0x06, .u8, .wo, 0, .j, 0, 255⟩,
   ⟨0x4A00, 0x4A07, 0x07, 0x07, .u16, .wo, 0, .j, 0, 65535⟩,
   ⟨0x4A00, 0x4A07, 0x08, 0x08, .u32, .wo, 0, .j, 0, 4294967295⟩,
   ⟨0x4A00, 0x4A07, 0x09, 0x09, .u64, .ro, 0, .j, 0, 18446744073709551615⟩]

/-- Entries 4A00 to 5180 of the dictionary tables, in the order of their indices. -/
def Entry.rows14 : List Entry :=
  [⟨0x4A00, 0x4A07, 0x0A, 0x0A, .u8, .wo, 0, .j, 0, 255⟩,
   ⟨0x4A00, 0x4A07, 0x0B, 0x0B, .u32, .ro, 0, .j, 0, 4294967295⟩,
   ⟨0x4A00, 0x4A07, 0x0C, 0x0C, .u8, .ro, 255, .j, 0, 255⟩,
   ⟨0x5000, 0x5000, 0x01, 0x01, .u8, .ro, 0, .v, 0, 255⟩,
   ⟨0x5000, 0x5000, 0x02, 0x04, .u16, .ro, 0, .l, 0, 65535⟩,
   ⟨0x5001, 0x5001, 0x01, 0x20, .u8, .rwS, 2, .v, 0, 4⟩,
   ⟨0x5002, 0x5002, 0x01, 0x20, .bool, .rwS, 0, .v, 0, 1⟩,
   ⟨0x5003, 0x5003, 0x01, 0x08, .bool, .ro, 0, .v, 0, 1⟩,
   ⟨0x5004, 0x5004, 0x01, 0x08, .u8, .ro, 2, .v, 0, 255⟩,
   ⟨0x5010, 0x5010, 0x01, 0x20, .u8, .ro, 0, .v, 0, 255⟩,
   ⟨0x5011, 0x5011, 0x01, 0x08, .u16, .ro, 0, .v, 0, 65535⟩,
   ⟨0x5012, 0x5012, 0x01, 0x03, .u32, .ro, 0, .l, 0, 4294967295⟩,
   ⟨0x5100, 0x5100, 0x01, 0x01, .u8, .ro, 0, .v, 0, 255⟩,
   ⟨0x5101, 0x5101, 0x01, 0x10, .u16, .ro, 0, .v, 0, 65535⟩,
   ⟨0x5102, 0x5102, 0x01, 0x10, .u8, .ro, 0, .v, 0, 255⟩,
   ⟨0x5103, 0x5103, 0x01, 0x10, .u8, .rwS, 0, .v, 0, 1⟩,
   ⟨0x5104, 0x5104, 0x01, 0x10, .bool, .rwS, 1, .v, 0, 1⟩,
   ⟨0x5105, 0x5105, 0x01, 0x10, .bool, .rwS, 0, .v, 0, 1⟩,
   ⟨0x5106, 0x5106, 0x00, 0x00, .u8, .rwS, 10, .v, 1, 60⟩,
   ⟨0x5107, 0x5107, 0x00, 0x00, .u16, .rwS, 400, .v, 200, 800⟩,
   ⟨0x5108, 0x5108, 0x00, 0x00, .u16, .rwS, 1000, .v, 100, 60000⟩,
   ⟨0x5109, 0x5109, 0x01, 0x10, .u8, .rwS, 0, .v, 0, 1⟩,
   ⟨0x510A, 0x510A, 0x01, 0x10, .u32, .ro, 0, .v, 0, 4294967295⟩,
   ⟨0x510B, 0x510B, 0x00, 0x00, .u32, .ro, 0, .v, 0, 4294967295⟩,
   ⟨0x5180, 0x5180, 0x01, 0x01, .u8, .ro, 0, .j, 0, 255⟩]

/-- Entries 5200 to 5320 of the dictionary tables, in the order of their indices. -/
def Entry.rows15 : List Entry :=
  [⟨0x5200, 0x5200, 0x01, 0x08, .u8, .rwS, 0, .v, 0, 3⟩,
   ⟨0x5201, 0x5201, 0x01, 0x08, .u16, .rwS, 64, .v, 1, 4095⟩,
   ⟨0x5202, 0x5202, 0x01, 0x08, .i16, .ro, 0, .v, (-32768), 32767⟩,
   ⟨0x5203, 0x5203, 0x01, 0x08, .u8, .ro, 0, .v, 0, 255⟩,
   ⟨0x5204, 0x5204, 0x01, 0x18, .i16, .ro, 0, .l, (-32768), 32767⟩,
   ⟨0x5300, 0x5300, 0x01, 0x04, .r32, .rwS, 1065353216, .v, 0, 4294967295⟩,
   ⟨0x5301, 0x5301, 0x01, 0x04, .r32, .rwS, 0, .v, 0, 4294967295⟩,
   ⟨0x5302, 0x5302, 0x01, 0x04, .u16, .rwS, 64, .v, 1, 4095⟩,
   ⟨0x5303, 0x5303, 0x01, 0x04, .i16, .ro, 0, .v, (-32768), 32767⟩,
   ⟨0x5304, 0x5304, 0x01, 0x04, .u8, .ro, 0, .v, 0, 255⟩,
   ⟨0x5310, 0x5310, 0x01, 0x01, .u8, .rwS, 0, .v, 0, 3⟩,
   ⟨0x5310, 0x5310, 0x02, 0x02, .u8, .rwS, 255, .v, 0, 255⟩,
   ⟨0x5310, 0x5310, 0x03, 0x03, .u16, .rwS, 300, .v, 0, 65535⟩,
   ⟨0x5311, 0x5318, 0x01, 0x01, .u8, .rwS, 0, .v, 0, 2⟩,
   ⟨0x5311, 0x5318, 0x02, 0x02, .u16, .rwS, 0, .v, 0, 65535⟩,
   ⟨0x5311, 0x5318, 0x03, 0x03, .u16, .rwS, 0, .v, 0, 65535⟩,
   ⟨0x5311, 0x5318, 0x04, 0x04, .u16, .rwS, 0, .v, 0, 65535⟩,
   ⟨0x5311, 0x5318, 0x05, 0x05, .u16, .rwS, 0, .v, 0, 65535⟩,
   ⟨0x5311, 0x5318, 0x06, 0x06, .u32, .ro, 0, .v, 0, 4294967295⟩,
   ⟨0x5320, 0x5320, 0x01, 0x01, .u8, .ro, 255, .v, 0, 255⟩,
   ⟨0x5320, 0x5320, 0x02, 0x02, .i16, .ro, 0, .v, (-32768), 32767⟩,
   ⟨0x5320, 0x5320, 0x03, 0x03, .i16, .ro, 0, .v, (-32768), 32767⟩,
   ⟨0x5320, 0x5320, 0x04, 0x04, .i16, .ro, 0, .v, (-32768), 32767⟩,
   ⟨0x5320, 0x5320, 0x05, 0x05, .i16, .ro, 0, .v, (-32768), 32767⟩,
   ⟨0x5320, 0x5320, 0x06, 0x06, .i16, .ro, 0, .v, (-32768), 32767⟩]

/-- Entries 5320 to 6800 of the dictionary tables, in the order of their indices. -/
def Entry.rows16 : List Entry :=
  [⟨0x5320, 0x5320, 0x07, 0x07, .i16, .ro, 0, .v, (-32768), 32767⟩,
   ⟨0x5320, 0x5320, 0x08, 0x08, .i16, .ro, 0, .v, (-32768), 32767⟩,
   ⟨0x5320, 0x5320, 0x09, 0x09, .u8, .ro, 0, .v, 0, 255⟩,
   ⟨0x5321, 0x5321, 0x00, 0x00, .u32, .ro, 0, .v, 0, 4294967295⟩,
   ⟨0x5322, 0x5322, 0x01, 0x03, .u8, .ro, 255, .l, 0, 255⟩,
   ⟨0x5400, 0x543F, 0x01, 0x01, .u8, .ro, 0, .v, 0, 255⟩,
   ⟨0x5400, 0x543F, 0x02, 0x02, .u8, .ro, 0, .v, 0, 255⟩,
   ⟨0x5400, 0x543F, 0x03, 0x03, .u8, .rwS, 3, .v, 1, 255⟩,
   ⟨0x5400, 0x543F, 0x04, 0x04, .u8, .rwS, 3, .v, 1, 255⟩,
   ⟨0x5400, 0x543F, 0x05, 0x05, .u32, .ro, 0, .v, 0, 4294967295⟩,
   ⟨0x5400, 0x543F, 0x06, 0x06, .u32, .ro, 0, .v, 0, 4294967295⟩,
   ⟨0x6400, 0x6400, 0x01, 0x01, (.oct 20), .rwP, 0, .v, 0, 4294967295⟩,
   ⟨0x6400, 0x6400, 0x02, 0x02, .u8, .rwP, 0, .v, 0, 255⟩,
   ⟨0x6400, 0x6400, 0x03, 0x03, .u8, .rwP, 0, .v, 165, 165⟩,
   ⟨0x6400, 0x6400, 0x04, 0x04, .u16, .ro, 0, .v, 0, 65535⟩,
   ⟨0x6400, 0x6400, 0x05, 0x05, .u16, .ro, 0, .v, 0, 65535⟩,
   ⟨0x6500, 0x65FF, 0x01, 0x01, (.oct 20), .ro, 0, .v, 0, 4294967295⟩,
   ⟨0x6500, 0x65FF, 0x02, 0x02, (.oct 10), .ro, 0, .v, 0, 4294967295⟩,
   ⟨0x6500, 0x65FF, 0x03, 0x03, .u8, .ro, 0, .v, 0, 255⟩,
   ⟨0x6800, 0x6800, 0x01, 0x01, .u8, .ro, 0, .j, 0, 255⟩,
   ⟨0x6800, 0x6800, 0x02, 0x02, .domain, .rwP, 0, .j, 0, 4294967295⟩,
   ⟨0x6800, 0x6800, 0x03, 0x03, .u8, .rwP, 0, .j, 1, 3⟩,
   ⟨0x6800, 0x6800, 0x04, 0x04, .u64, .rwP, 0, .j, 0, 18446744073709551615⟩,
   ⟨0x6800, 0x6800, 0x05, 0x05, .bool, .rwP, 0, .j, 0, 1⟩,
   ⟨0x6800, 0x6800, 0x06, 0x06, .u8, .ro, 0, .j, 0, 255⟩]

/-- Entries 6800 to 717F of the dictionary tables, in the order of their indices. -/
def Entry.rows17 : List Entry :=
  [⟨0x6800, 0x6800, 0x07, 0x07, .u32, .ro, 0, .j, 0, 4294967295⟩,
   ⟨0x6800, 0x6800, 0x08, 0x08, .u32, .ro, 0, .v, 0, 4294967295⟩,
   ⟨0x6800, 0x6800, 0x09, 0x09, .u32, .ro, 0, .j, 0, 4294967295⟩,
   ⟨0x6800, 0x6800, 0x0A, 0x0A, .u32, .ro, 0, .v, 0, 4294967295⟩,
   ⟨0x6800, 0x6800, 0x0B, 0x0B, .u64, .ro, 0, .v, 0, 18446744073709551615⟩,
   ⟨0x7000, 0x7000, 0x01, 0x01, .u32, .rwS, 262144, .j, 0, 262144⟩,
   ⟨0x7000, 0x7000, 0x02, 0x02, .u32, .rwS, 1703936, .j, 4096, 1703936⟩,
   ⟨0x7000, 0x7000, 0x03, 0x03, .u8, .rwS, 1, .j, 0, 1⟩,
   ⟨0x7000, 0x7000, 0x04, 0x04, .u64, .ro, 0, .j, 0, 18446744073709551615⟩,
   ⟨0x7000, 0x7000, 0x05, 0x05, .u64, .ro, 0, .j, 0, 18446744073709551615⟩,
   ⟨0x7001, 0x7001, 0x01, 0x01, .u8, .rwP, 0, .j, 165, 165⟩,
   ⟨0x7010, 0x7010, 0x01, 0x01, .u64, .rw, 0, .j, 0, 18446744073709551615⟩,
   ⟨0x7010, 0x7010, 0x02, 0x02, (.oct 128), .ro, 0, .j, 0, 4294967295⟩,
   ⟨0x7010, 0x7010, 0x03, 0x03, .domain, .ro, 0, .j, 0, 4294967295⟩,
   ⟨0x7011, 0x7011, 0x01, 0x01, .u8, .rw, 0, .j, 0, 1⟩,
   ⟨0x7011, 0x7011, 0x02, 0x02, .u8, .ro, 255, .j, 0, 255⟩,
   ⟨0x7011, 0x7011, 0x03, 0x03, .u16, .ro, 0, .j, 0, 65535⟩,
   ⟨0x7011, 0x7011, 0x04, 0x04, .u32, .ro, 0, .j, 0, 4294967295⟩,
   ⟨0x7100, 0x713F, 0x01, 0x01, .u8, .rw, 0, .j, 0, 255⟩,
   ⟨0x7100, 0x713F, 0x02, 0x02, .u32, .rw, 0, .j, 0, 4294967295⟩,
   ⟨0x7100, 0x713F, 0x03, 0x03, .u8, .rw, 0, .j, 0, 1⟩,
   ⟨0x7100, 0x713F, 0x04, 0x04, .i32, .rw, 0, .j, (-2147483648), 2147483647⟩,
   ⟨0x7100, 0x713F, 0x05, 0x05, .u32, .rw, 1, .j, 1, 4294967295⟩,
   ⟨0x7100, 0x713F, 0x06, 0x06, .u8, .wo, 0, .j, 0, 255⟩,
   ⟨0x7140, 0x717F, 0x01, 0x01, (.oct 150), .ro, 0, .j, 0, 4294967295⟩]

/-- Entries 7140 to 8030 of the dictionary tables, in the order of their indices. -/
def Entry.rows18 : List Entry :=
  [⟨0x7140, 0x717F, 0x02, 0x02, (.oct 150), .ro, 0, .j, 0, 4294967295⟩,
   ⟨0x7200, 0x7200, 0x01, 0x01, .u16, .ro, 0, .j, 0, 65535⟩,
   ⟨0x7200, 0x7200, 0x02, 0x02, .u32, .ro, 0, .j, 0, 4294967295⟩,
   ⟨0x7202, 0x7202, 0x01, 0x01, .u16, .rw, 1, .j, 0, 65535⟩,
   ⟨0x7202, 0x7202, 0x02, 0x02, (.oct 128), .ro, 0, .j, 0, 4294967295⟩,
   ⟨0x7203, 0x7203, 0x00, 0x00, .u8, .rwS, 0, .j, 165, 165⟩,
   ⟨0x8000, 0x8000, 0x01, 0x01, .u8, .ro, 0, .j, 0, 255⟩,
   ⟨0x8000, 0x8000, 0x02, 0x04, .u8, .ro, 0, .l, 0, 255⟩,
   ⟨0x8000, 0x8000, 0x05, 0x05, .u8, .ro, 0, .j, 0, 255⟩,
   ⟨0x8000, 0x8000, 0x06, 0x06, .u8, .ro, 0, .j, 0, 255⟩,
   ⟨0x8000, 0x8000, 0x07, 0x07, .bool, .ro, 0, .j, 0, 1⟩,
   ⟨0x8000, 0x8000, 0x08, 0x08, .bool, .ro, 1, .j, 0, 1⟩,
   ⟨0x8010, 0x8010, 0x01, 0x01, (.oct 32), .wo, 0, .j, 0, 4294967295⟩,
   ⟨0x8010, 0x8010, 0x02, 0x02, .u8, .wo, 0, .j, 0, 255⟩,
   ⟨0x8010, 0x8010, 0x03, 0x03, (.oct 32), .rwP, 0, .j, 0, 4294967295⟩,
   ⟨0x8010, 0x8010, 0x04, 0x04, .u8, .rwS, 0, .j, 165, 165⟩,
   ⟨0x8010, 0x8010, 0x05, 0x05, .u16, .rwP, 600, .j, 60, 3600⟩,
   ⟨0x8010, 0x8010, 0x06, 0x06, .u8, .ro, 0, .j, 0, 255⟩,
   ⟨0x8010, 0x8010, 0x07, 0x07, .u16, .ro, 0, .j, 0, 65535⟩,
   ⟨0x8010, 0x8010, 0x08, 0x08, .u8, .ro, 0, .j, 0, 255⟩,
   ⟨0x8010, 0x8010, 0x09, 0x09, .u16, .ro, 0, .j, 0, 65535⟩,
   ⟨0x8010, 0x8010, 0x0A, 0x0A, .bool, .ro, 0, .j, 0, 1⟩,
   ⟨0x8011, 0x8011, 0x01, 0x01, .u8, .rwS, 3, .j, 0, 15⟩,
   ⟨0x8020, 0x8020, 0x01, 0x01, .u32, .ro, 0, .j, 0, 4294967295⟩,
   ⟨0x8030, 0x8030, 0x01, 0x01, .u8, .ro, 0, .j, 0, 255⟩]

/-- Entries 8030 to 9020 of the dictionary tables, in the order of their indices. -/
def Entry.rows19 : List Entry :=
  [⟨0x8030, 0x8030, 0x02, 0x02, .u32, .ro, 0, .j, 0, 4294967295⟩,
   ⟨0x8101, 0x8104, 0x01, 0x01, (.oct 65), .rwP, 0, .j, 0, 4294967295⟩,
   ⟨0x8101, 0x8104, 0x02, 0x02, .u32, .ro, 0, .j, 0, 4294967295⟩,
   ⟨0x8101, 0x8104, 0x03, 0x03, .u8, .ro, 0, .j, 0, 255⟩,
   ⟨0x8101, 0x8104, 0x04, 0x04, .u8, .rwP, 0, .j, 165, 165⟩,
   ⟨0x8105, 0x8105, 0x01, 0x01, .u32, .rwP, 0, .j, 0, 4294967295⟩,
   ⟨0x8105, 0x8105, 0x02, 0x02, .u8, .ro, 0, .j, 0, 255⟩,
   ⟨0x8105, 0x8105, 0x03, 0x03, .u32, .ro, 0, .j, 0, 4294967295⟩,
   ⟨0x8105, 0x8105, 0x04, 0x04, .u32, .ro, 0, .j, 0, 4294967295⟩,
   ⟨0x8106, 0x8106, 0x01, 0x10, .u32, .ro, 0, .j, 0, 4294967295⟩,
   ⟨0x9000, 0x9000, 0x01, 0x01, .domain, .rwS, 0, .j, 0, 4294967295⟩,
   ⟨0x9000, 0x9000, 0x02, 0x02, .u8, .rwS, 0, .j, 1, 2⟩,
   ⟨0x9000, 0x9000, 0x03, 0x03, .u32, .ro, 0, .j, 0, 4294967295⟩,
   ⟨0x9000, 0x9000, 0x04, 0x04, .u8, .ro, 1, .j, 0, 255⟩,
   ⟨0x9010, 0x9010, 0x01, 0x01, .u8, .ro, 0, .j, 0, 255⟩,
   ⟨0x9010, 0x9010, 0x02, 0x02, .u8, .ro, 0, .j, 0, 255⟩,
   ⟨0x9010, 0x9010, 0x03, 0x03, .u16, .ro, 0, .j, 0, 65535⟩,
   ⟨0x9010, 0x9010, 0x04, 0x04, .u8, .ro, 0, .j, 0, 255⟩,
   ⟨0x9010, 0x9010, 0x05, 0x05, .u32, .ro, 0, .j, 0, 4294967295⟩,
   ⟨0x9010, 0x9010, 0x06, 0x06, .i64, .ro, 0, .j, (-9223372036854775808), 9223372036854775807⟩,
   ⟨0x9010, 0x9010, 0x07, 0x07, .i64, .ro, 0, .j, (-9223372036854775808), 9223372036854775807⟩,
   ⟨0x9010, 0x9010, 0x08, 0x08, .u16, .ro, 65535, .j, 0, 65535⟩,
   ⟨0x9010, 0x9010, 0x09, 0x09, .u32, .ro, 0, .j, 0, 4294967295⟩,
   ⟨0x9010, 0x9010, 0x0A, 0x0A, .u32, .ro, 0, .j, 0, 4294967295⟩,
   ⟨0x9020, 0x9020, 0x00, 0x00, .u8, .ro, 0, .v, 0, 255⟩]

/-- Entries 9021 to 9030 of the dictionary tables, in the order of their indices. -/
def Entry.rows20 : List Entry :=
  [⟨0x9021, 0x9021, 0x01, 0xFF, .u32, .ro, 0, .v, 0, 4294967295⟩,
   ⟨0x9022, 0x9022, 0x01, 0xFF, .u32, .ro, 0, .v, 0, 4294967295⟩,
   ⟨0x9023, 0x9023, 0x01, 0xFF, .u32, .ro, 0, .v, 0, 4294967295⟩,
   ⟨0x9024, 0x9024, 0x01, 0xFF, .u32, .ro, 0, .v, 0, 4294967295⟩,
   ⟨0x9030, 0x9030, 0x01, 0x01, .u32, .ro, 0, .v, 0, 4294967295⟩,
   ⟨0x9030, 0x9030, 0x02, 0x02, .u32, .ro, 0, .v, 0, 4294967295⟩,
   ⟨0x9030, 0x9030, 0x03, 0x03, .u32, .ro, 0, .v, 0, 4294967295⟩,
   ⟨0x9030, 0x9030, 0x04, 0x04, .u32, .ro, 0, .v, 0, 4294967295⟩,
   ⟨0x9030, 0x9030, 0x05, 0x05, .u64, .ro, 0, .v, 0, 18446744073709551615⟩]

/-- All entries of the dictionary tables (17 R437, Table 17-9). -/
def Entry.rows : List Entry :=
  Entry.rows0 ++ Entry.rows1 ++ Entry.rows2 ++ Entry.rows3 ++ Entry.rows4 ++ Entry.rows5 ++ Entry.rows6 ++ Entry.rows7 ++ Entry.rows8 ++ Entry.rows9 ++ Entry.rows10 ++ Entry.rows11 ++ Entry.rows12 ++ Entry.rows13 ++ Entry.rows14 ++ Entry.rows15 ++ Entry.rows16 ++ Entry.rows17 ++ Entry.rows18 ++ Entry.rows19 ++ Entry.rows20

/-- Whether a row holds an entry. -/
def Entry.holds (e : Entry) (index sub : Nat) : Bool :=
  decide (e.lo ≤ index) && decide (index ≤ e.hi) && decide (e.subLo ≤ sub) && decide (sub ≤ e.subHi)

/-- The row of an entry. -/
def entry? (index sub : Nat) : Option Entry := Entry.rows.find? (fun e => e.holds index sub)

/-- Whether an index holds any entry of the tables. -/
def indexExists (index : Nat) : Bool := Entry.rows.any (fun e => decide (e.lo ≤ index) && decide (index ≤ e.hi))

/-- Lowest subindex in use at an index. -/
def firstSub (index : Nat) : Nat :=
  (Entry.rows.filter (fun e => decide (e.lo ≤ index) && decide (index ≤ e.hi))).foldl (fun m e => Nat.min m e.subLo) 255

/-- Highest subindex in use at an index (17 R437). -/
def lastSub (index : Nat) : Nat :=
  (Entry.rows.filter (fun e => decide (e.lo ≤ index) && decide (index ≤ e.hi))).foldl (fun m e => Nat.max m e.subHi) 0

/-- Key of an entry in a register map. -/
def regKey (index sub : Nat) : Nat := 256 * index + sub

/-- Values per lane of a row of class L (17 R439). -/
def Entry.perLane (e : Entry) : Nat := (e.subHi + 1 - e.subLo) / 3

/-- Lane that a subindex of a row of class L belongs to (17 R439). -/
def Entry.laneOf (e : Entry) (sub : Nat) : LaneId :=
  let j := (sub - e.subLo) / (Nat.max 1 e.perLane)
  if j = 0 then .a else if j = 1 then .b else .c

/-- Register key, within its lane, of a subindex of a row of class L. -/
def Entry.laneKey (e : Entry) (index sub : Nat) : Nat :=
  regKey index (e.subLo + (sub - e.subLo) % (Nat.max 1 e.perLane))

/-- Default of an entry in its table, 0 for one that has none. -/
def tableDefault (key : Nat) : Nat :=
  match entry? (key / 256) (key % 256) with
  | some e => e.dflt
  | none => 0

end Sys2Proof.Machine
end

