-- ==== Sys2Proof/Machine/Ops.lean ====
section
/-! DEFINITION. The named operations that the meanings share: registers, lanes, time, outputs, free values, the event
recorder, the change log and the monitors. -/

namespace Sys2Proof.Machine

open Sys2Proof

/-! ## Registers -/

/-- Entries whose default rests on the node identity: EMCY COB-ID, best-effort address, CAN node ids. -/
def nodeKeys : List Nat := [regKey 0x4220 1, regKey 0x4800 2, regKey 0x4810 2]

/-- Default of a class J entry; three defaults add the node identity (09 Table 09-9, 11 Table 11-9). -/
def jDefault (s : State) (key : Nat) : Nat :=
  if nodeKeys.contains key then tableDefault key + s.pins.node else tableDefault key

/-- A class J register. -/
def jget (s : State) (index sub : Nat) : Nat :=
  Store.get s.jreg (jDefault s (regKey index sub)) (regKey index sub)

/-- Write of a class J register. An entry whose default rests on the node identity stays listed once written. -/
def jset (s : State) (index sub v : Nat) : State :=
  let key := regKey index sub
  { s with jreg := if nodeKeys.contains key then Store.insert s.jreg key v
                   else Store.put s.jreg (tableDefault key) key v }

/-- One more count in a class J register, saturating at 2^32 − 1. -/
def jbump (s : State) (index sub : Nat) : State := jset s index sub (bump32 (jget s index sub))

/-- `n` more counts in a class J register, saturating. -/
def jadd (s : State) (index sub n : Nat) : State := jset s index sub (satAdd 4294967295 (jget s index sub) n)

/-- A class J register read as a BOOLEAN. -/
def jbool (s : State) (index sub : Nat) : Bool := jget s index sub != 0

/-- A register of classes V and L in a lane. -/
def Lane.rget (ln : Lane) (index sub : Nat) : Nat := Store.get ln.reg (tableDefault (regKey index sub)) (regKey index sub)

/-- Write of a lane's register. -/
def Lane.rset (ln : Lane) (index sub v : Nat) : Lane :=
  { ln with reg := Store.put ln.reg (tableDefault (regKey index sub)) (regKey index sub) v }

/-- One more count in a lane's register, saturating at 2^32 − 1. -/
def Lane.rbump (ln : Lane) (index sub : Nat) : Lane := ln.rset index sub (bump32 (ln.rget index sub))

/-- `n` more counts in a lane's register, saturating. -/
def Lane.radd (ln : Lane) (index sub n : Nat) : Lane := ln.rset index sub (satAdd 4294967295 (ln.rget index sub) n)

/-! ## Lanes -/

/-- A lane of the state. -/
def State.lane (s : State) (l : LaneId) : Lane := s.lanes.get l

/-- The state with one lane changed. -/
def State.modLane (s : State) (l : LaneId) (f : Lane → Lane) : State := { s with lanes := s.lanes.set l (f (s.lanes.get l)) }

/-- The state with every lane changed. -/
def State.modLanes (s : State) (f : LaneId → Lane → Lane) : State := { s with lanes := s.lanes.mapId f }

/-- Whether a lane takes part in agreement, voting and output (03 R67). -/
def State.active (s : State) (l : LaneId) : Bool := decide ((s.lane l).status = .active)

/-- Whether a lane runs: active, or in shadow execution. -/
def State.runs (s : State) (l : LaneId) : Bool :=
  decide ((s.lane l).status = .active) || decide ((s.lane l).status = .shadow)

/-- The active lanes in order. -/
def State.actives (s : State) : List LaneId := LaneId.all.filter (fun l => s.active l)

/-- The lowest-lettered active lane, Lane A when there is none. -/
def State.lead (s : State) : LaneId := s.actives.headD .a

/-- Whether the device is in RUN (03 Table 03-10). -/
def State.inRun (s : State) : Bool := decide (s.mode = .run2oo3) || decide (s.mode = .run2oo2)

/-- The configuration in force, if a container has been admitted. -/
def State.config (s : State) : Option Container := s.cfg.inForce

/-- A parameter of class V as the lanes hold it; the lowest-lettered active lane is read. -/
def State.vget (s : State) (index sub : Nat) : Nat := (s.lane s.lead).rget index sub

/-- Whether the part is HMY-V3-F (16 2000.01; 00 R1). -/
def State.variantF (s : State) : Bool := decide (jget s 0x2000 1 = 0)

/-- Effective V2 ring level (16 2000.04 bit 0). -/
def State.v2ring (s : State) : Bool := bitOf (jget s 0x2000 4) 0

/-- Effective V2 Serzel level (16 2000.04 bit 1). -/
def State.v2serzel (s : State) : Bool := bitOf (jget s 0x2000 4) 1

/-- Whether ESC7 reads 1 as the device uses it (13 R353). -/
def State.unsealed (s : State) : Bool := s.pins.esc7 && !s.pins.disagree

/-- Whether start-up has passed the junction boot, so that the dictionary and the ports are in service: a step is in
progress, the device is in RUN or in the safe state, and no reset is due (16 R426). -/
def State.booted (s : State) : Bool := decide (s.power.step ≠ 0) && decide (s.power.stage < 4)

/-! ## Free values and outputs -/

/-- The next free value. -/
def State.freeVal (s : State) : Nat := Config.freeValue s.free

/-- The state after one free value has been drawn. -/
def State.drew (s : State) : State := { s with free := s.free + 1 }

/-- What leaves the device, newest first. -/
def State.emit (s : State) (w : Wire) : State := { s with wires := w :: s.wires }

/-! ## Time -/

/-- A node time in the 10 bytes of 02 R61: nanoseconds, then seconds. -/
def timeBytes (n : Nat) : Bytes := leBytes 4 (n % 1000000000) ++ leBytes 6 (n / 1000000000)

/-- The linear count of 10 bytes of node time (02 R30, R61). -/
def ofTimeBytes (bs : Bytes) : Nat := ofLe (bs.take 4) + 1000000000 * ofLe ((bs.drop 4).take 6)

/-- Advance of a lane time counter in one ns of node time, in 10⁻⁹ ns, while nothing is slewed: its crystal with the rate
correction, in steps of 1 ppb (02 R43). -/
def LaneTime.perNs (t : LaneTime) : Int := 1000000000 + t.drift + t.rate

/-- A lane time counter moved by `d` ns of node time; an offset is removed at up to 500 ppm (02 R43). -/
def LaneTime.advance (t : LaneTime) (d : Nat) : LaneTime :=
  let step := clampInt (-(500000 * d : Nat)) (500000 * d : Nat) t.slew
  { t with fine := (t.fine + d * t.perNs + step).toNat, slew := t.slew - step
           crystal := (t.crystal + d * (1000000000 + t.drift)).toNat }

/-- ns of node time until a lane time counter reaches the lane time `at_`, 0 when it has. The counter's course is the smaller of two
straight lines while it slews forward, the larger while it slews back. -/
def LaneTime.reach (t : LaneTime) (at_ : Nat) : Nat :=
  let need : Int := (1000000000 * at_ : Nat) - (t.fine : Int)
  let after := fun (n r : Int) => ceilDiv n.toNat r.toNat
  if 0 ≤ t.slew then Nat.max (after need (t.perNs + 500000)) (after (need - t.slew) t.perNs)
  else Nat.min (after need (t.perNs - 500000)) (after (need - t.slew) t.perNs)

/-- Lockout time runs down with node time and ends at 0 (13 R356); see LOCKOUT_END. -/
def Priv.advance (p : Priv) (d : Nat) : Priv := { p with lockNs := p.lockNs - d }

/-- Node time moved on to the instant `t`, never back; the lane counters, the limp timer and the lockout move by the
same distance (02 R29, 03 R90, 13 R356). -/
def advanceTo (s : State) (t : Nat) : State :=
  let d := t - s.time.now
  { s with
    time := { s.time with now := s.time.now + d }
    lanes := s.lanes.map (fun ln => { ln with time := ln.time.advance d })
    vote := { s.vote with limpNs := s.vote.limpNs.map (fun r => r - d) }
    priv := s.priv.advance d }

/-- TAI as the node knows it: node time plus TAI correction (02 R31). -/
def State.taiNow (s : State) : Int := (s.time.now : Int) + s.time.tai

/-- First instant of the grid `base + i × step` at or after `now`. -/
def gridFrom (now base step : Nat) : Nat :=
  if now ≤ base % step then base % step else base % step + ceilDiv (now - base % step) step * step

/-- What a lane's triggers run on: its own counter once that is locked, node time before (02 R40, R44). -/
def State.laneNow (s : State) (l : LaneId) : Nat :=
  if (s.lane l).time.locked then (s.lane l).time.now else s.time.now

/-- Node time at which a lane's counter reaches the lane time `t` (02 R40). -/
def State.laneAt (s : State) (l : LaneId) (t : Nat) : Nat :=
  if (s.lane l).time.locked then s.time.now + (s.lane l).time.reach t else Nat.max s.time.now t

/-- Span in which a trigger that has come due can still be commanded, ns: the counters of the lanes differ by their discipline
error, so that of triggers due at one instant of node time the later command finds the counter of its lane a little beyond it. -/
def play : Nat := 1000

/-- First instant of the grid `base + i × step` that a counter reading `now` has reached by at most `play`, or reaches next, and that lies
after `last`. -/
def dueAt (now base step : Nat) (last : Option Nat) : Nat :=
  gridFrom (Nat.max (now - play) (last.elim 0 (fun t => t + 1))) base step

/-- Round length of the ring schedule in force, ns; 1 ms without one (09 R242). -/
def State.tRound (s : State) : Nat :=
  match s.config with
  | some c => if c.ring.tRound = 0 then 1000000 else c.ring.tRound
  | none => 1000000

/-- Rounds per cluster cycle in force (09 R242). -/
def State.nRounds (s : State) : Nat :=
  match s.config with
  | some c => if c.ring.nR = 0 then 1 else c.ring.nR
  | none => 1

/-- Round number at a node time (09 R242). -/
def State.roundAt (s : State) (t : Nat) : Nat := t / s.tRound % 65536

/-! ## The event recorder (14 R383 to R385) -/

/-- A record put into its slot (14 R383). -/
def Recorder.place (r : Recorder) (e : EvRec) : Recorder :=
  if e.seq - r.sArm < r.sizeN then { r with keep := Store.insert r.keep (e.seq - r.sArm) e }
  else { r with circ := Store.insert r.circ ((e.seq - r.sArm - r.sizeN) % Nat.max 1 r.sizeM) e }

/-- A record offered to the recorder: into the areas, or into staging while frozen or while older records wait there; a
full staging buffer discards it without a sequence number (14 R385, R387). A record waits in the place of the buffer that its sequence
number names modulo 4 096 (DESIGN CHOICE, log 88). -/
def Recorder.offer (r : Recorder) (time source type : Nat) (payload : Bytes) : Recorder :=
  let e : EvRec := { seq := r.head, time := time, source := source, type := type, payload := payload.take 100 }
  if r.holder.isSome || !r.staged.isEmpty then
    if r.staged.length < 4096 then { r with staged := r.staged ++ [e], head := r.head + 1, stageAt := Store.insert r.stageAt (r.head % 4096 / 512) time }
    else { r with lost := bump32 r.lost }
  else { r.place e with head := r.head + 1 }

/-- The count of lost records, recorded with type 20 when the buffer has room again (14 R385). -/
def Recorder.tellLost (r : Recorder) (time : Nat) : Recorder :=
  if r.lost ≠ 0 ∧ r.staged.length < 4096 then { r.offer time 10 20 (leBytes 4 r.lost) with lost := 0 } else r

/-- One event recorded at node time (14 Table 14-3). A discarded record is counted in 7011.04 (14 R385). -/
def record (s : State) (source type : Nat) (payload : Bytes) : State :=
  let r := s.recorder.tellLost s.time.now
  let r' := r.offer s.time.now source type payload
  let s' := { s with recorder := r' }
  if r'.lost ≠ r.lost then jbump s' 0x7011 4 else s'

/-- Recorder source of a lane: 1 to 3 (14 Table 14-3). -/
def laneSource (l : LaneId) : Nat := l.num + 1

/-- Whether the device has entered RUN since its start: from then on it makes no step of node time (10 R275). -/
def State.hasRun (s : State) : Bool := s.inRun || s.ring.ran

/-- Time since VIN good in ns, whatever steps node time has made since (16 R430). -/
def State.sinceVin (s : State) : Nat := s.power.upNs + (s.time.now - s.power.vinGood.getD s.time.now)

/-- Type 6: a start-up step reached, 8 being RUN (14 Table 14-4, 16 Table 16-5). -/
def recordStep (s : State) (step : Nat) : State :=
  record s 0 6 (leBytes 1 step ++ leBytes 4 (s.sinceVin / 1000000 % 4294967296))

/-! ## The change log (14 R389) -/

/-- Whether the change log has room for `n` entries. -/
def logRoom (s : State) (n : Nat) : Bool := decide (s.log.length + n ≤ 4096)

/-- Type 21: a write refused or not logged, since the change log is full: entry and client (14 Table 14-4). -/
def recordUnlogged (s : State) (client index sub : Nat) : State := record s 0 21 (leBytes 2 index ++ leBytes 1 sub ++ leBytes 1 client)

/-- One entry in the change log; with the log full it is not made, counted in 7200.02 and recorded. -/
def logEntry (s : State) (client path index sub kind : Nat) (old new : Bytes) : State :=
  if logRoom s 1 then
    { s with log := s.log ++ [{ time := s.time.now, client := client, path := path, index := index, sub := sub,
                                kind := kind, oldVal := old, newVal := new }] }
  else recordUnlogged (jbump s 0x7200 2) client index sub

/-- `n` bytes of a list, padded with zeros. -/
def padTo (n : Nat) (bs : Bytes) : Bytes := bs.take n ++ List.replicate (n - bs.length) 0

/-- A change-log entry in its 128 bytes (14 Table 14-5). -/
def LogEntry.bytes (e : LogEntry) (number : Nat) : Bytes :=
  let body := leBytes 4 number ++ timeBytes e.time ++ leBytes 1 e.client ++ leBytes 1 e.path ++ leBytes 2 e.index ++
    leBytes 1 e.sub ++ leBytes 1 e.kind ++ leBytes 2 e.oldVal.length ++ leBytes 2 e.newVal.length ++
    padTo 48 e.oldVal ++ padTo 48 e.newVal ++ leBytes 4 0
  body ++ leBytes 4 (crc32c body)

/-- A recorder record in its 128 bytes (14 Table 14-3). -/
def EvRec.bytes (e : EvRec) : Bytes :=
  let body := leBytes 8 e.seq ++ timeBytes e.time ++ leBytes 1 e.source ++ leBytes 1 e.type ++
    leBytes 1 e.payload.length ++ leBytes 3 0 ++ padTo 100 e.payload
  body ++ leBytes 4 (crc32c body)

/-! ## Monitors (14 R391) -/

/-- Bin of a value: linear or logarithmic, base `b`, width `w` (14 R391). -/
def monitorBin (log : Bool) (b : Int) (w : Nat) (x : Int) : Nat :=
  let d := (x - b) / (Nat.max 1 w : Nat)
  if log then (if d ≤ 0 then 0 else Nat.min 31 (1 + Nat.log2 d.toNat)) else (clampInt 0 31 d).toNat

/-- One update; with `shed` the bins are left as they are (14 R392). -/
def Monitor.update (m : Monitor) (log : Bool) (b : Int) (w : Nat) (shed : Bool) (x : Int) : Monitor :=
  let i := monitorBin log b w x
  { min := Min.min m.min x, max := Max.max m.max x, count := bump32 m.count,
    bins := if shed then m.bins else Store.put m.bins 0 i (bump32 (Store.get m.bins 0 i)) }

/-- Monitor `n`. -/
def State.monitor (s : State) (n : Nat) : Monitor := Store.get s.monitors Monitor.empty n

/-- Update of monitor `n` when its source is of this kind and selector (14 Table 14-6). -/
def monitorOne (s : State) (kind sel : Nat) (x : Int) (n : Nat) : State :=
  let key := regKey (0x7100 + n)
  if Store.get s.jreg 0 (key 1) = kind ∧ Store.get s.jreg 0 (key 2) = sel then
    let m := (s.monitor n).update (Store.get s.jreg 0 (key 3) = 1) (signedOf 32 (Store.get s.jreg 0 (key 4)))
      (Store.get s.jreg 1 (key 5)) (s.power.stage ≥ 1) (signedOf 32 (wrapTo 32 x))
    { s with monitors := Store.put s.monitors Monitor.empty n m }
  else s

/-- Every monitor whose source has just produced the value `x` takes it. -/
def monitorTake (s : State) (kind sel : Nat) (x : Int) : State :=
  (List.range 64).foldl (fun s n => monitorOne s kind sel x n) s

/-- A monitor's 150 bytes (14 Table 14-7). -/
def Monitor.bytes (m : Monitor) (time : Nat) : Bytes :=
  leBytes 4 (wrapTo 32 m.min) ++ leBytes 4 (wrapTo 32 m.max) ++ leBytes 4 m.count ++
    ((List.range 32).flatMap fun i => leBytes 4 (Store.get m.bins 0 i)) ++ timeBytes time

end Sys2Proof.Machine
end

