-- ==== Sys2Proof/Machine/Glue.lean ====
section
/-! DEFINITION. The lane data store and local stores as persistent blocks, writes with copy-on-write, the journal and its
commits (14 R368 to R380), lane by lane. -/

namespace Sys2Proof.Machine

open Sys2Proof

/-! ## Stores and blocks -/

/-- Size of an area in bytes (04 Table 04-2); the local store as one engine's 64 KiB. -/
def areaSize : Area → Nat
  | .i => 262144
  | .q => 262144
  | .m => 524288
  | .d => 2097152
  | .s => 1048576
  | .l => 65536
  | .k => 0
  | .res => 0

/-- The store of an area; `eng` names the engine whose local store is meant. -/
def Lane.area (ln : Lane) (a : Area) (eng : Nat) : Store Byte :=
  match a with
  | .i => ln.i
  | .q => ln.q
  | .m => ln.m
  | .d => ln.d
  | .s => ln.s
  | .l => Store.get ln.locals [] eng
  | .k => []
  | .res => []

/-- The lane with the store of an area replaced. -/
def Lane.setArea (ln : Lane) (a : Area) (eng : Nat) (m : Store Byte) : Lane :=
  match a with
  | .i => { ln with i := m }
  | .q => { ln with q := m }
  | .m => { ln with m := m }
  | .d => { ln with d := m }
  | .s => { ln with s := m }
  | .l => { ln with locals := Store.put ln.locals [] eng m }
  | .k => ln
  | .res => ln

/-- `n` bytes of a working copy; a byte that nothing has written reads 0. -/
def Lane.load (ln : Lane) (a : Area) (eng ofs n : Nat) : Bytes := Store.bytes (ln.area a eng) 0 ofs n

/-- First block of an area in the numbering of 14 Table 14-1, if the area is persistent. -/
def blockBase (a : Area) (eng : Nat) : Option Nat :=
  match a with
  | .m => some 0
  | .d => some 8192
  | .s => some 40960
  | .l => some (57344 + 1024 * eng)
  | _ => none

/-- First block of the fixed part, and the number of blocks in all (14 Table 14-1). -/
def fixedBase : Nat := 73728

/-- Area, engine and byte offset of a block. -/
def blockPlace (b : Nat) : Area × Nat × Nat :=
  if b < 8192 then (.m, 0, 64 * b)
  else if b < 40960 then (.d, 0, 64 * (b - 8192))
  else if b < 57344 then (.s, 0, 64 * (b - 40960))
  else (.l, (b - 57344) / 1024, 64 * ((b - 57344) % 1024))

/-- The 64 bytes of a block as they stand. -/
def Lane.block (ln : Lane) (b : Nat) : Bytes :=
  let p := blockPlace b
  ln.load p.1 p.2.1 p.2.2 64

/-- The 64 bytes of a block as they stood at the last release (14 R376). -/
def Lane.blockRel (ln : Lane) (b : Nat) : Bytes := (Store.find? ln.glue.kept b).getD (ln.block b)

/-- A number added to an ascending list without repeats. -/
def addAsc (n : Nat) : List Nat → List Nat
  | [] => [n]
  | m :: ms => if n < m then n :: m :: ms else if n = m then m :: ms else m :: addAsc n ms

/-- Before a write to a block: its old content is kept for the last release's state, and the block becomes dirty
(14 R368, R376). -/
def Lane.touch (ln : Lane) (b : Nat) : Lane :=
  let g := ln.glue
  { ln with glue := { g with dirty := addAsc b g.dirty
                             kept := if (Store.find? g.kept b).isSome then g.kept
                                     else Store.insert g.kept b (ln.block b) } }

/-- Blocks that `n` bytes from an offset lie in. -/
def blocksOf (a : Area) (eng ofs n : Nat) : List Nat :=
  match blockBase a eng with
  | some b => if n = 0 then [] else (List.range ((ofs + n - 1) / 64 - ofs / 64 + 1)).map (fun i => b + ofs / 64 + i)
  | none => []

/-- Bytes written to a working copy, with copy-on-write (04 R105, 14 R376). -/
def Lane.store (ln : Lane) (a : Area) (eng ofs : Nat) (bs : Bytes) : Lane :=
  let ln := (blocksOf a eng ofs bs.length).foldl Lane.touch ln
  ln.setArea a eng (Store.putBytes (ln.area a eng) 0 ofs bs)

/-- One bit of a working copy. -/
def Lane.loadBit (ln : Lane) (a : Area) (eng ofs bit : Nat) : Bool :=
  bitOf (Store.get (ln.area a eng) 0 ofs).toNat bit

/-- One bit written to a working copy; the other bits of the byte keep their values (04 R105). -/
def Lane.storeBit (ln : Lane) (a : Area) (eng ofs bit : Nat) (v : Bool) : Lane :=
  ln.store a eng ofs [BitVec.ofNat 8 (setBit (Store.get (ln.area a eng) 0 ofs).toNat bit v)]

/-! ## Single-lane regions (14 R370) -/

/-- Physical offset of an offset of area L: a b half has the upper half of its engine's local store (04 R101). -/
def localOfs (slot : Nat) (split : Bool) (ofs : Nat) : Nat := if split && slot % 2 = 1 then 32768 + ofs else ofs

/-- Whether a container splits the engine of a slot. -/
def isSplit (c : Container) (slot : Nat) : Bool := c.splits.a.contains (slot / 2)

/-- Blocks that hold bytes of single-lane regions: marked symbols and the partitions of single-lane tasks. -/
def singleBlocks (c : Container) : List Nat :=
  let ofSyms := (c.symbols.filter (fun y => decide (y.single ≠ 0))).flatMap (fun y =>
    blocksOf (Area.ofCode y.area) (y.slot / 2) (if y.area = 5 then localOfs y.slot (isSplit c y.slot) y.ofs else y.ofs) y.size)
  let ofTasks := (c.tasks.filter (fun t => decide (t.scope ≠ 0))).flatMap (fun t =>
    blocksOf .l (t.ctx / 32) (localOfs (t.ctx / 16) (isSplit c (t.ctx / 16)) t.lBase) t.lLen)
  (ofSyms ++ ofTasks).foldl (fun l b => addAsc b l) []

/-- Whether a context number holds a single-lane task of a lane (04 R478). -/
def singleCtx (c : Container) (l : LaneId) (ctx : Nat) : Bool :=
  c.tasks.any (fun t => decide (t.ctx = ctx) && decide (t.scope = l.num + 1))

/-! ## The fixed part and the state signature (14 Table 14-1, R372) -/

/-- Registers of the fixed part: run count, safety sequences and freshness ages of flows, freshness ages of telegram
contexts, station status (14 Table 14-1). -/
def fixedKey (key : Nat) : Bool :=
  let i := key / 256
  let s := key % 256
  (decide (i = 0x3125) && decide (s = 0)) ||
  (decide (0x4400 ≤ i) && decide (i ≤ 0x47FF) && (decide (s = 6) || decide (s = 8))) ||
  decide (i = 0x411B) || decide (i = 0x414B) || (decide (0x5400 ≤ i) && decide (i ≤ 0x543F) && decide (s = 2))

/-- The fixed part of a lane as it stands. -/
def Lane.fixedPart (ln : Lane) (limp : Option Nat) : FixedPart :=
  { regs := ln.reg.filter (fun p => fixedKey p.1), limpNs := limp, ctxs := ln.ctxs,
    forces := ln.forces.filter (fun f => bitOf ((f.2.drop 7).headD 0).toNat 0),
    monitors := ln.glue.fixedRel.monitors }

/-- A context value in bytes, for the signature. -/
def CtxState.bytes (x : CtxState) : Bytes :=
  leBytes 1 ((if x.pending then 1 else 0) + (if x.kLast.isSome then 2 else 0) + (if x.arith then 4 else 0) +
    (if x.fence then 8 else 0) + (if x.arithPrev then 16 else 0) + (if x.fencePrev then 32 else 0)) ++
  leBytes 8 (x.kLast.getD 0) ++ leBytes 4 x.merged ++ leBytes 1 x.first ++ leBytes 1 x.firstPrev

/-- The fixed part in bytes; contexts in `single` are taken as zero (14 R370). The manual gives the fixed part no layout: DESIGN CHOICE (log 88). -/
def FixedPart.bytes (f : FixedPart) (single : Nat → Bool) : Bytes :=
  f.regs.flatMap (fun p => leBytes 3 p.1 ++ leBytes 8 p.2) ++ leBytes 8 (f.limpNs.getD 0) ++
  (f.ctxs.filter (fun p => !single p.1)).flatMap (fun p => leBytes 2 p.1 ++ p.2.bytes) ++
  f.forces.flatMap (fun p => leBytes 2 p.1 ++ p.2) ++
  f.monitors.flatMap (fun p => leBytes 1 p.1 ++ p.2.bytes 0)

/-- XOR of the numbers 0 to n − 1. -/
def xorBelow (n : Nat) : Nat :=
  if n % 4 = 0 then 0 else if n % 4 = 1 then n - 1 else if n % 4 = 2 then 1 else n

/-- Two byte strings XORed, as far as both go. -/
def xorBytes (a b : Bytes) : Bytes := List.zipWith (fun x y => x ^^^ y) a b

/-- Pieces of 64 bytes put in turn into the 320 blocks of the fixed part, from piece `i` on. DESIGN CHOICE (log 88): what the layout of the model
needs beyond 20 480 bytes begins again at the first block, XORed into what stands there, so that every byte is in the blocks and signed. -/
def foldPieces : Nat → Nat → Bytes → Store Bytes → Store Bytes
  | n + 1, i, x :: xs, m =>
    let b := fixedBase + i % 320
    let zero := List.replicate 64 0
    foldPieces n (i + 1) ((x :: xs).drop 64) (Store.put m zero b (xorBytes (Store.get m zero b) (((x :: xs).take 64 ++ zero).take 64)))
  | _, _, _, m => m

/-- The 320 blocks of the fixed part (14 Table 14-1), those of zeros left out. -/
def fixedBlocks (fixed : Bytes) : Store Bytes := foldPieces fixed.length 0 fixed []

/-- State signature (14 R372) of blocks given by index, with every block not listed holding zeros, and of the fixed part.
CRC-64/ECMA-182 has initial value and output XOR 0, so it is linear: the XOR over all blocks of CRC(index, 64 bytes) is the
CRC of the XOR of the indices followed by zeros, XORed with the CRC of each block that is not all zero. -/
def signatureOf (blocks : Store Bytes) (single : List Nat) (fixed : Bytes) : Nat :=
  let idx := single.foldl (fun x b => Nat.xor x b) (xorBelow (fixedBase + 320))
  let base := crc64 (leBytes 4 idx ++ List.replicate 64 0)
  (blocks ++ fixedBlocks fixed).foldl (fun x p => if single.contains p.1 then x else Nat.xor x (crc64 (leBytes 4 0 ++ p.2))) base

/-- Indices of the blocks in which a store lists a byte. -/
def storeBlocks (base : Nat) (m : Store Byte) : List Nat :=
  m.foldl (fun l p => if l.head? = some (base + p.1 / 64) then l else (base + p.1 / 64) :: l) []

/-- Every block of a lane that is not all zero, with its content at the last release. -/
def Lane.allBlocks (ln : Lane) : Store Bytes :=
  let idx := storeBlocks 0 ln.m ++ storeBlocks 8192 ln.d ++ storeBlocks 40960 ln.s ++
    ln.locals.flatMap (fun p => storeBlocks (57344 + 1024 * p.1) p.2) ++ ln.glue.kept.map (·.1)
  idx.foldl (fun m b => Store.put m (List.replicate 64 0) b (ln.blockRel b)) []

/-- The configuration of a lane's last release, whose state a commit holds (06 R180). -/
def Lane.relConfig (ln : Lane) : Option Container := ln.glue.relCfg.orElse (fun _ => ln.container)

/-- Single-lane data of a lane's configuration, none without a container. -/
def Lane.singles (ln : Lane) : List Nat :=
  match ln.container with
  | some c => singleBlocks c
  | none => []

/-- Signature of a lane's whole state at the last release. -/
def Lane.signature (ln : Lane) (l : LaneId) (f : FixedPart) : Nat :=
  match ln.relConfig with
  | some c => signatureOf ln.allBlocks (singleBlocks c) (f.bytes (singleCtx c l))
  | none => signatureOf ln.allBlocks [] (f.bytes (fun _ => false))

/-! ## Commits (14 R371 to R378) -/

/-- Bytes of a journal record with `b` blocks (14 Table 14-2). -/
def recordSize (b : Nat) : Nat := 64 + ceilDiv (4 * b) 64 * 64 + 64 * b + 64

/-- Size of the journal area (14 The journal). -/
def journalSize : Nat := 100663296

/-- Kind code of a record. -/
def RecKind.code : RecKind → Nat
  | .delta => 1
  | .full => 2
  | .final => 3
  | .carry => 4
  | .void => 5

/-- Indices of the blocks that a record lists: a full commit holds every persistent block, a delta or final commit the fixed part besides its
dirty blocks (14 R369, R375, Table 14-1). -/
def Record.listed (r : Record) : List Nat :=
  match r.kind with
  | .full => List.range (fixedBase + 320)
  | .delta | .final => r.blocks.map Prod.fst ++ (List.range 320).map (fun i => fixedBase + i)
  | _ => r.blocks.map Prod.fst

/-- Blocks of a record in the journal. -/
def Record.blockCount (r : Record) : Nat :=
  match r.kind with
  | .full => fixedBase + 320
  | .delta | .final => r.blocks.length + 320
  | _ => r.blocks.length

/-- Bytes 0 to 59 of a record (14 Table 14-2). -/
def Record.header (r : Record) : Bytes :=
  leBytes 8 r.seq ++ leBytes 8 r.count ++ leBytes 4 r.config ++ leBytes 1 r.kind.code ++ leBytes 3 0 ++ leBytes 4 r.blockCount ++ leBytes 8 r.sig ++
  leBytes 24 0

/-- A record up to its trailer: header, directory and blocks (14 Table 14-2). -/
def Record.front (r : Record) : Bytes :=
  let dir := r.listed.flatMap (leBytes 4)
  let held := r.blocks ++ fixedBlocks (r.fixed.bytes (fun _ => false))
  r.header ++ leBytes 4 0 ++ dir ++ List.replicate (ceilDiv dir.length 64 * 64 - dir.length) 0 ++
  r.listed.flatMap (fun b => Store.get held (List.replicate 64 0) b)

/-- The trailer of a record: the header again, then the CRC-32C over everything before (14 Table 14-2). -/
def Record.trailerOf (r : Record) : Bytes := r.header ++ leBytes 4 (crc32c (r.front ++ r.header))

/-- A record that has received its trailer. -/
def Record.seal (r : Record) : Record := { r with trailer := r.trailerOf }

/-- Whether a record is complete: both copies of its header agree and its CRC-32C is correct (14 R371). -/
def Record.complete (r : Record) : Bool :=
  decide (r.trailer.take 60 = r.header) && decide (ofLe (r.trailer.drop 60) = crc32c (r.front ++ r.trailer.take 60)) &&
  decide (r.trailer.length = 64)

/-- Bytes that a record takes in the journal: all of them, or those written of one that was abandoned. -/
def Record.size (r : Record) : Nat := r.cut.getD (recordSize r.blockCount)

/-- Accounting of a record written: lane write count and writes per location, 3045 (14 R373). -/
def Lane.wrote (ln : Lane) (r : Record) : Lane :=
  let g := { ln.glue with count := ln.glue.count + 1, written := ln.glue.written + r.size }
  { ln with glue := g }.rset 0x3045 1 (ceilDiv g.written journalSize)

/-- What a ring of `room` bytes still holds of a journal, newest record first: the rest has been overwritten (14 R371). -/
def keepRing : Nat → List Record → List Record
  | room, r :: rs => if r.size ≤ room then r :: keepRing (room - r.size) rs else []
  | _, [] => []

/-- A record put at the head of the journal and accounted for; the ring wraps over the oldest ones (14 R371). -/
def Lane.append (ln : Lane) (r : Record) : Lane :=
  { ln with glue := { ln.glue with journal := keepRing journalSize (r :: ln.glue.journal) } }.wrote r

/-- Configuration identity that the lane's records name (06 R180). -/
def Lane.configId (ln : Lane) : Nat :=
  match ln.relConfig with
  | some c => c.identity
  | none => 0

/-- A record of a kind with the given blocks. -/
def Lane.recordOf (ln : Lane) (l : LaneId) (seq : Nat) (kind : RecKind) (blocks : Store Bytes) (f : FixedPart) : Record :=
  { seq := seq, count := ln.glue.count + 1, config := ln.configId, kind := kind, blocks := blocks, fixed := f,
    sig := ln.signature l f, trailer := [], cut := none }

/-- A void marker with commit sequence k (14 R375). -/
def Lane.voidMarker (ln : Lane) (k : Nat) : Lane :=
  let r : Record := { seq := k, count := ln.glue.count + 1, config := ln.configId, kind := .void, blocks := [],
                      fixed := FixedPart.empty, sig := 0, trailer := [], cut := none }
  ln.append r.seal

/-- The snapshot of a commit and the start of its writing: a full commit after its void marker when one is due, else the
dirty blocks (14 R375, R376, 01 R24). -/
def Lane.snapshot (ln : Lane) (l : LaneId) (k now : Nat) (f : FixedPart) : Lane :=
  let ln := if ln.glue.fullDue then ln.voidMarker k else ln
  let full := ln.glue.fullDue
  let blocks := if full then ln.allBlocks else ln.glue.dirty.foldl (fun m b => Store.insert m b (ln.blockRel b)) []
  let r := ln.recordOf l k (if full then .full else .delta) blocks f
  { ln with glue := { ln.glue with writing := some r, dirty := [], deferred := false, fullDue := false, began := now } }

/-- What a lane's glue-up controller does at the release of cycle k: content kept for the previous release is discarded, the
fixed part is noted, and in a commit cycle, or when a snapshot was deferred, a snapshot is taken unless the previous commit is
still being written, which defers and counts it (01 R24, R26, 14 R376). What is dirty then is what a final commit holds (R377). -/
def Lane.glueRelease (ln : Lane) (l : LaneId) (k now : Nat) (commit : Bool) (limp : Option Nat) : Lane :=
  let ln := { ln with glue := { ln.glue with kept := [], lastRel := k, relCfg := ln.container } }
  let f := ln.fixedPart limp
  let ln := { ln with glue := { ln.glue with fixedRel := f } }
  let ln := if commit || ln.glue.deferred then
      if ln.glue.writing.isSome then { ln with glue := { ln.glue with deferred := true } }.rbump 0x3040 4
      else ln.snapshot l k now f
    else ln
  { ln with glue := { ln.glue with dirtyRel := ln.glue.dirty } }

/-- Write count of the newest void marker, 0 when there is none (14 R374). -/
def newestVoid (j : List Record) : Nat :=
  j.foldl (fun m r => if r.kind = .void then Nat.max m r.count else m) 0

/-- Complete commits that a restore considers, newest first (14 R374, R379). -/
def Glue.commits (g : Glue) : List Record :=
  g.journal.filter (fun r => r.complete && decide (newestVoid g.journal < r.count) &&
    (decide (r.kind = .delta) || decide (r.kind = .full) || decide (r.kind = .final)))

/-- Whether record `a` is a better source of a block than `b` (14 R374). -/
def Record.newer (a b : Record) : Bool := decide (b.seq < a.seq) || (decide (a.seq = b.seq) && decide (b.count < a.count))

/-- The newest of a list of records. -/
def newestOf : List Record → Option Record
  | [] => none
  | r :: rs =>
    match newestOf rs with
    | some b => if b.newer r then some b else some r
    | none => some r

/-- Records that a restore to commit `seq` considers (14 R374). -/
def Glue.considered (g : Glue) (seq : Nat) : List Record :=
  g.journal.filter (fun r => r.complete && decide (newestVoid g.journal < r.count) && decide (r.kind ≠ .void) && decide (r.seq ≤ seq))

/-- The record from which a restore to commit `seq` takes a block (14 R374). -/
def Glue.sourceAt (g : Glue) (seq b : Nat) : Option Record :=
  newestOf ((g.considered seq).filter (fun r => decide (r.kind = .full) || (Store.find? r.blocks b).isSome))

/-- Content of a block at commit `seq`, none when no considered record holds it (14 R374). -/
def Glue.blockAt (g : Glue) (seq b : Nat) : Option Bytes :=
  (g.sourceAt seq b).map (fun r => (Store.find? r.blocks b).getD (List.replicate 64 0))

/-- Indices of the blocks that the considered records list. -/
def Glue.blockIdx (g : Glue) (seq : Nat) : List Nat :=
  (g.considered seq).foldl (fun l r => r.blocks.foldl (fun l p => addAsc p.1 l) l) []

/-- The carry record of some blocks: their values at the newest complete commit, under its sequence (14 R373). -/
def Lane.carryRecord (ln : Lane) (l : LaneId) (r : Record) (blocks : List Nat) : Record :=
  let bs : Store Bytes := blocks.foldl (fun m b => match ln.glue.blockAt r.seq b with
    | some v => Store.insert m b v
    | none => m) []
  { ln.recordOf l r.seq .carry bs FixedPart.empty with config := r.config, sig := r.sig }.seal

/-- Most blocks in a piece of 4 KiB. -/
def pieceBlocks : Nat := 58

/-- Blocks of the newest complete commit whose only committed copy the ring overwrites when it takes `n` more bytes, a segment ahead of its place
(14 R373). -/
def Glue.endangered (g : Glue) (n : Nat) : List Nat :=
  match g.commits with
  | [] => []
  | r :: _ =>
    let kept := keepRing (journalSize - n - 65536) g.journal
    if kept.length = g.journal.length then []
    else
      let old := g.journal.drop kept.length
      (g.blockIdx r.seq).filter (fun b => (g.sourceAt r.seq b).any (fun x => old.contains x))

/-- Carry records of some blocks, piece by piece (14 R373). -/
def Lane.carryPieces (l : LaneId) (r : Record) : Nat → List Nat → Lane → Lane
  | n + 1, b :: bs, ln => Lane.carryPieces l r n ((b :: bs).drop pieceBlocks) (ln.append (ln.carryRecord l r ((b :: bs).take pieceBlocks)))
  | _, _, ln => ln

/-- The blocks that `n` more bytes in the ring would lose, carried before (14 R373). -/
def Lane.carryAhead (ln : Lane) (l : LaneId) (n : Nat) : Lane :=
  match ln.glue.commits with
  | [] => ln
  | r :: _ => let bs := ln.glue.endangered n; Lane.carryPieces l r bs.length bs ln

/-- The record in writing receives its trailer (14 R371): it becomes the newest complete commit. The blocks that it would push out of the ring
have been carried before it (R373). -/
def Lane.commitDone (ln : Lane) (l : LaneId) (now : Nat) : Lane :=
  match ln.glue.writing with
  | none => ln
  | some r =>
    let ln := ln.carryAhead l r.size
    let ln := ln.append { r with count := ln.glue.count + 1 }.seal
    let ln := { ln with glue := { ln.glue with writing := none } }
    (((ln.rset 0x3040 2 r.seq).rset 0x3040 3 r.seq).rset 0x3041 1 (now - ln.glue.began)).rset 0x3042 1 r.sig

/-- Whether the lane makes a final commit at a power-fail warning or safe-state entry (14 R378). -/
def Lane.finalAllowed (ln : Lane) (p : Nat) : Bool :=
  match ln.glue.commits with
  | [] => false
  | r :: _ => decide (ln.glue.lastRel ≤ r.seq + 2 * p) && !ln.glue.fullDue

/-- A record in writing abandoned: it never receives its trailer, and what was written of it, at 800 bytes a µs after 10 µs, stays in the ring
and in the lane's write count (14 R371, R377). -/
def Lane.abandon (ln : Lane) (now : Nat) : Lane :=
  match ln.glue.writing with
  | none => ln
  | some r =>
    let n := Nat.min r.size ((now - ln.glue.began - 10000) * 800 / 1000)
    let ln := ln.append { r with count := ln.glue.count + 1, cut := some n }
    { ln with glue := { ln.glue with writing := none } }

/-- The start of the final commit: any commit in writing is abandoned, and the fixed part and every block dirty at the last release since
the snapshot of the newest complete commit are being written from here on (14 R377). It is complete with its trailer; a supply that goes
before loses it (14 Caution). -/
def Lane.finalCommit (ln : Lane) (l : LaneId) (p now : Nat) : Lane :=
  let abandoned := ln.glue.writing.elim [] (fun r => r.blocks.map Prod.fst)
  let ln' := ln.abandon now
  let ln' := { ln' with glue := { ln'.glue with deferred := false } }
  if ln.finalAllowed p then
    let idx := abandoned.foldl (fun d b => addAsc b d) ln.glue.dirtyRel
    let blocks := idx.foldl (fun m b => Store.insert m b (ln.blockRel b)) []
    let r := ln'.recordOf l ln.glue.lastRel .final blocks ln.glue.fixedRel
    { ln' with glue := { ln'.glue with writing := some r, dirty := ln.glue.dirty.filter (fun b => !idx.contains b), began := now } }
  else ln'

/-- Span of a commit's writing: 10 µs and 1 µs for each 800 bytes (12 R336). -/
def Record.span (r : Record) : Nat := 10000 + ceilDiv (r.size * 1000) 800

/-- The final commit of a restart, which waits for it (16 R425). -/
def Lane.finalWhole (ln : Lane) (l : LaneId) (p now : Nat) : Lane :=
  let ln := ln.finalCommit l p now
  ln.commitDone l (now + ln.glue.writing.elim 0 Record.span)

/-! ## Regions (14 R371, R382) -/

/-- The clock in which region ages are measured: node time plus TAI correction while the correction is valid (14 R382). -/
def State.regionClock (s : State) : Nat := if s.time.taiValid then s.taiNow.toNat else s.time.now

/-- Segments of 64 KiB that a lane has written since its regions were stamped last. -/
def Glue.freshSegments (g : Glue) : List Nat :=
  if g.stamped < g.written then
    (List.range (Nat.min 1536 ((g.written - 1) / 65536 - g.stamped / 65536 + 1))).map (fun i => (g.stamped / 65536 + i) % 1536)
  else []

/-- Every region of the lane MRAMs written since the last stamp takes the time of its write; a region is numbered by die, 0 to 2
for the lanes, and segment. -/
def stampRegions (s : State) : State :=
  let s := { s with scrub := LaneId.all.foldl (fun m l => (s.lane l).glue.freshSegments.foldl
      (fun m r => Store.insert m (65536 * l.num + r) s.regionClock) m) s.scrub }
  s.modLanes (fun _ ln => { ln with glue := { ln.glue with stamped := ln.glue.written } })

/-- The regions of a lane's container copy take the time of its writing: the 255 behind the journal for the stored copy, `place` 0, the 255 from
the 256th on for the configuration kept beside it, `place` 1, the one after each left to the management data. The manual gives neither the
places nor the length of a copy (DESIGN CHOICE, log 88). -/
def stampCopies (s : State) (ls : List LaneId) (place : Nat) : State :=
  { s with scrub := ls.foldl (fun m l => (List.range 255).foldl (fun m i =>
      Store.insert m (65536 * l.num + 1536 + 256 * place + i) s.regionClock) m) s.scrub }

/-! ## Restore (14 R374, R379) -/

/-- Stores of a lane cleared of persistent blocks. -/
def Lane.clearState (ln : Lane) : Lane := { ln with m := [], d := [], s := [], locals := [] }

/-- A block placed into a lane's stores. -/
def Lane.putBlock (ln : Lane) (b : Nat) (bs : Bytes) : Lane :=
  let p := blockPlace b
  ln.setArea p.1 p.2.1 (Store.putBytes (ln.area p.1 p.2.1) 0 p.2.2 bs)

/-- The lane with its persistent blocks as commit `seq` holds them, over the initial state `ini` (14 R374). -/
def Lane.reconstruct (ln ini : Lane) (seq : Nat) : Lane :=
  let base := if (ln.glue.considered seq).any (fun r => decide (r.kind = .full)) then ln.clearState
              else { ln with m := ini.m, d := ini.d, s := ini.s, locals := ini.locals }
  (ln.glue.blockIdx seq).foldl (fun x b => x.putBlock b ((ln.glue.blockAt seq b).getD [])) base

/-- A candidate offered at restore: commit sequence, configuration identity, signature (14 R379). -/
structure Candidate where
  seq    : Nat
  config : Nat
  sig    : Nat
  deriving DecidableEq, Repr

/-- Whether a commit's reconstructed state has the signature of its record (14 R379). `ini` is the lane loaded with the
configuration that the record names, none when the lane does not hold that configuration, which fails the check. -/
def Lane.commitValid (ln : Lane) (ini : Option Lane) (l : LaneId) (r : Record) : Bool :=
  match ini with
  | none => false
  | some i =>
    let x := { { i with glue := ln.glue }.reconstruct i r.seq with glue := { ln.glue with kept := [] } }
    let single := match i.container with
      | some c => singleCtx c l
      | none => fun _ => false
    decide (signatureOf x.allBlocks x.singles (r.fixed.bytes single) = r.sig)

/-- The two newest valid commits of a lane (14 R379). -/
def Lane.candidates (ln : Lane) (ini : Record → Option Lane) (l : LaneId) : List Candidate :=
  ((ln.glue.commits.filter (fun r => ln.commitValid (ini r) l r)).take 2).map (fun r => ⟨r.seq, r.config, r.sig⟩)

end Sys2Proof.Machine
end

