-- ==== Sys2Proof/Machine/Crossing.lean ====
section
/-! DEFINITION. What a clock-domain crossing is and does with its traffic: kinds, domains, depths, the event handshake, the queues and the
counts, its status and its clearing (15 R394 to R405, R410, Table 15-2). -/

namespace Sys2Proof.Machine

open Sys2Proof

/-! ## Inventory (15 Table 15-2) -/

/-- Kinds of crossing (R395). -/
inductive XKind where
  | bit | event | count | queue
  deriving DecidableEq, Repr

/-- Kind of a crossing. -/
def crossingKind (x : Nat) : XKind :=
  if x < 21 then
    (if x % 7 = 2 then .bit else if x % 7 = 3 then .event else if x % 7 = 6 then .count else .queue)
  else if x = 21 then .event
  else if x = 29 ∨ x = 30 ∨ 37 ≤ x then .bit else .queue

/-- Domain of a crossing's source; a pin or a land has none. -/
def crossingSource (x : Nat) : Option Nat :=
  if x < 21 then
    (if x % 7 = 1 then some 3 else if x % 7 = 2 then some 4 else if 5 ≤ x % 7 then some 9 else some (x / 7))
  else if x ≤ 22 then some 4
  else if x ≤ 24 then some 3
  else if x ≤ 30 then some (if x % 2 = 1 then 5 else 6)
  else if x = 31 ∨ x = 33 ∨ x = 36 then some 3
  else if x = 32 then some 7 else if x = 34 then some 8 else if x = 35 then some 10
  else if x = 39 then some 4 else none

/-- Domains of a crossing's destination. -/
def crossingDest (x : Nat) : List Nat :=
  if x < 21 then
    (if x % 7 = 0 ∨ x % 7 = 3 then [3] else if x % 7 = 4 then [9] else [x / 7])
  else if x ≤ 22 then [3]
  else if x ≤ 26 then [4]
  else if x ≤ 30 then [3]
  else if x = 31 then [7] else if x = 33 then [8] else if x = 36 then [10]
  else if x ≤ 35 ∨ x = 40 then [3]
  else if x = 38 then [3, 0, 1, 2] else if x = 39 then [0, 1, 2] else [4]

/-- Domains that a crossing joins. -/
def crossingDomains (x : Nat) : List Nat := (crossingSource x).toList ++ crossingDest x

/-- Entries that a queue holds. -/
def crossingDepth (x : Nat) : Nat :=
  if x < 21 then (if x % 7 = 4 then 8 else if x % 7 = 5 then 32 else 64)
  else if x = 22 then 16 else if x = 23 then 8 else if x = 25 ∨ x = 26 then 32
  else if 33 ≤ x then 16 else 64

/-- Bytes of one entry of a queue. -/
def crossingBytes (x : Nat) : Nat :=
  if x < 21 then (if x % 7 < 2 then 16 else 8) else if x = 22 ∨ x = 23 then 16 else if 35 ≤ x then 1 else 8

/-- Whether the source of a queue waits when it finds it full, rather than dropping the entry (R403). -/
def crossingStalls (x : Nat) : Bool :=
  if x < 21 then decide (x % 7 < 2) else [23, 24, 31, 33, 36].contains x

/-- Entries of a queue that `n` bytes fill, at least one. -/
def entriesOf (x n : Nat) : Nat := Nat.max 1 (ceilDiv n (crossingBytes x))

/-- Index of a crossing's entries (R410). -/
def crossingIndex (x : Nat) : Nat := 0x2210 + x

/-! ## State of a crossing -/

/-- Whether the source of a domain's clock is there: a lane's crystal while the lane's logic domain is on, the clock recovered from a ring line
while the link stands (R394). -/
def State.clockOn (s : State) (d : Nat) : Bool :=
  if d < 3 then bitOf s.power.domains (2 * d)
  else if d = 5 then decide (s.ring.east.link ≠ 0)
  else if d = 6 then decide (s.ring.west.link ≠ 0)
  else true

/-- Whether a domain shows clock edges: its clock has a source, and has not been lost (R394, R396). -/
def State.domainRuns (s : State) (d : Nat) : Bool := bitOf s.domains d && s.clockOn d

/-- A crossing of the state. -/
def State.crossing (s : State) (x : Nat) : Crossing := Store.get s.crossings Crossing.fresh x

/-- The state with a crossing replaced. -/
def State.setCrossing (s : State) (x : Nat) (c : Crossing) : State :=
  { s with crossings := Store.insert s.crossings x c }

/-- Whether a crossing operates: those of the field die do not on HMY-V3-C (R404). -/
def State.crossingLive (s : State) (x : Nat) : Bool := s.variantF || !(crossingDomains x).contains 9

/-- Whether a crossing's destination takes what crosses: every clock of it runs. -/
def State.destRuns (s : State) (x : Nat) : Bool := (crossingDest x).all s.domainRuns

/-- Whether a crossing's source can offer anything: its clock runs. -/
def State.sourceRuns (s : State) (x : Nat) : Bool := (crossingSource x).all s.domainRuns

/-- Gray code of a number (R401, R402). -/
def gray (n : Nat) : Nat := Nat.xor n (n / 2)

/-- Number of a Gray code of up to `w` bits. -/
def ofGray (w n : Nat) : Nat := (List.range w).foldl (fun acc i => Nat.xor acc (n / 2 ^ i)) 0

/-- Crossing status 22xx.01. -/
def Crossing.status (c : Crossing) : Nat :=
  (if c.open_ then 1 else 0) + (if c.stalled then 2 else 0) + c.bits + (if c.epoch then 32 else 0)

/-- A write to 22xx.07 (R410): sticky bits and subindices 02 to 05 cleared. -/
def clearCrossing (s : State) (x : Nat) : State :=
  let i := crossingIndex x
  let s := s.setCrossing x { s.crossing x with bits := 0 }
  jset (jset (jset (jset s i 2 0) i 3 0) i 4 0) i 5 0

/-- A write to 2203.00. -/
def clearCrossings (s : State) : State := (List.range 42).foldl clearCrossing s

/-- Crossings with any sticky bit set, 2200.02. -/
def State.crossingsFlagged (s : State) : Nat :=
  (s.crossings.filter (fun p => decide (p.2.bits ≠ 0))).length

/-! ## Domains (15 R394, R396) -/

/-- Nominal frequency of a clock domain in kHz (15 Table 15-1). -/
def domainKhz (d : Nat) : Nat :=
  if d < 3 then 500000
  else if d = 3 then 400000
  else if d = 4 then 250000
  else if d < 8 then 125000
  else if d = 8 then 80000
  else if d = 9 then 100000
  else 50000

/-- Whether the unit of a domain is in reset: a lane without its logic domain or in the restart of its reintegration, which a lane that is merely
held is not (03 R68, Table 03-8); the field die while it does not operate; the ECN MACs in stage 2. -/
def State.domainReset (s : State) (d : Nat) : Bool :=
  match LaneId.ofNum d with
  | some l => !s.clockOn d || decide ((s.lane l).status = .restarting)
  | none => if d = 9 then !s.field.operating else if d = 7 then decide (2 ≤ s.power.stage) else false

/-- Domain status 2201 as the supervisor marks it: running, lost now, lost since start, in reset (R396). It does not watch domain 10. -/
def State.domainStatus (s : State) (d : Nat) : Nat :=
  if d = 10 then 0
  else (if bitOf s.domains d then 1 else 2) + (if bitOf (jget s 0x2201 (d + 1)) 2 then 4 else 0) + (if s.domainReset d then 8 else 0)

/-! ## Queues (R402, R403) -/

/-- Pointer of a queue moved on by `n` entries: it has one bit more than its depth needs. -/
def movePointer (x p n : Nat) : Nat := (p + n) % (2 * crossingDepth x)

/-- A pointer as the other side sees it, through its Gray code. -/
def seenPointer (p : Nat) : Nat := ofGray 7 (gray p)

/-- The high-water mark of a crossing raised to `n` entries held at once (22xx.04). -/
def raiseMark (s : State) (x n : Nat) : State := jset s (crossingIndex x) 4 (Nat.max (jget s (crossingIndex x) 4) n)

/-- Most entries of `n` written that a queue held at once while its reader took them; the course of the reader's clock is open: a free value. -/
def State.peak (s : State) (x n : Nat) : Nat := 1 + s.freeVal % Nat.min n (crossingDepth x)

/-- `n` entries through a queue whose destination runs: both pointers move on, and each side sees the other's. -/
def through (s : State) (x n : Nat) : State :=
  if n = 0 ∨ !s.crossingLive x then s
  else
    let c := s.crossing x
    let wp := movePointer x c.wp n
    let rp := movePointer x c.rp n
    raiseMark (s.drew.setCrossing x { c with
      stalled := false, wp := wp, rp := rp, wpSeen := seenPointer wp, rpSeen := seenPointer rp }) x (s.peak x n)

/-- Entries held in a queue. -/
def Crossing.entries (c : Crossing) : Nat := c.held.foldl (fun n h => n + h.2) 0

/-- Entries that a queue has room for. -/
def Crossing.room (c : Crossing) (x : Nat) : Nat := crossingDepth x - c.entries

/-- An item of a crossing kept until its destination takes it. -/
def holdItem (s : State) (x n : Nat) (i : XItem) : State :=
  let c := s.crossing x
  let c := { c with held := c.held ++ [(i, n)] }
  if crossingKind x = .queue then
    raiseMark (s.setCrossing x { c with wp := movePointer x c.rp (Nat.min c.entries (crossingDepth x)) }) x (Nat.min c.entries (crossingDepth x))
  else s.setCrossing x c

/-- An item that its source goes on offering, since the queue is full or closed (R403, R408). -/
def offer (s : State) (x n : Nat) (i : XItem) : State :=
  let c := s.crossing x
  s.setCrossing x { c with offered := c.offered ++ [(i, n)] }

/-- One overrun counted: the sticky flag and 22xx.02, saturating at 255 (R399, R403). -/
def overrun (s : State) (x n : Nat) : State :=
  let c := s.crossing x
  jset (s.setCrossing x { c with bits := setBit c.bits 2 true }) (crossingIndex x) 2 (satAdd 255 (jget s (crossingIndex x) 2) n)

/-- `n` entries dropped (R403). -/
def dropEntries (s : State) (x n : Nat) : State := jadd (overrun s x n) (crossingIndex x) 3 n

/-- Traffic of `n` entries that finds too little room in a queue whose source cannot wait: what fits is written, for its reader to discard, and
the rest is dropped; a closed crossing drops all of it (R403, R408). `lost` is what the port of a received frame counts. -/
def spill (s : State) (x n : Nat) (lost : State → State) : State :=
  let c := s.crossing x
  let r := if c.open_ then Nat.min n (c.room x) else 0
  lost (dropEntries (if r = 0 then s else holdItem s x r .refuse) x (n - r))

/-- Traffic of `n` entries offered to a queue, with what it does on the far side and what its loss brings. With the clock of the destination
stopped it waits while there is room, and beyond that at a source that can wait; a source that cannot drops what does not fit, and all of it
while the crossing is closed (R403, R405, R408). A source whose clock is stopped offers nothing. -/
def carry (s : State) (x n : Nat) (i : XItem) (lost f : State → State) : State :=
  if !s.crossingLive x then f s
  else if !s.sourceRuns x then s
  else
    let c := s.crossing x
    if c.open_ && s.destRuns x && decide (c.held = []) && decide (c.offered = []) then f (through s x n)
    else if c.open_ && decide (c.offered = []) && decide (n ≤ c.room x) then holdItem s x n i
    else if crossingStalls x then offer s x n i
    else spill s x n lost

/-- A frame or message of `n` entries on its way out through a transmit queue (R405, Table 15-2). -/
def transmit (s : State) (x n : Nat) (w : Wire) : State := carry s x n (.wire w) id (fun s => s.emit w)

/-! ## Events (R398 to R400) -/

/-- Time for which an event crossing stays busy after a toggle while both its clocks run, in whole ns: 3 clocks of each side. -/
def spacing (x : Nat) : Nat := if x = 21 then 20 else 14

/-- The handshake that a crossing keeps for one kind of report. -/
def Crossing.flops (c : Crossing) (r : Nat) : EventFlops := Store.get c.events EventFlops.idle r

/-- Whether an event crossing is busy: its request is not acknowledged, or the acknowledge not yet taken. -/
def EventFlops.busy (e : EventFlops) (x now : Nat) : Bool :=
  decide (e.req ≠ e.taken) || e.at_.any (fun t => decide (now < t + spacing x))

/-- An event of kind `r` raised at a crossing, with what its receiver does. One that meets a busy crossing is merged and counted, and is never
delivered on its own (R399). With the clock of the destination stopped the request stays pending; a closed crossing discards the event, which
counts as overrun (R405, R408). -/
def raiseEvent (s : State) (x r : Nat) (i : XItem) (f : State → State) : State :=
  if !s.sourceRuns x then s
  else
    let c := s.crossing x
    let e := c.flops r
    if !c.open_ then overrun s x 1
    else if e.busy x s.time.now then overrun s x 1
    else
      let e := { e with req := !e.req, at_ := some s.time.now }
      if s.destRuns x then
        f (s.setCrossing x { c with stalled := false, events := Store.put c.events EventFlops.idle r { e with ack := e.req, taken := e.req } })
      else holdItem (s.setCrossing x { c with events := Store.put c.events EventFlops.idle r e }) x 0 i

/-! ## Counts (R401) -/

/-- Count `n` of a section as its lane has it: the difference from the sample before, modulo 65 536, added to its own. -/
def Crossing.follow (c : Crossing) (n count : Nat) : Crossing :=
  let seen := ofGray 16 (gray count)
  { c with counts := Store.put c.counts 0 n ((Store.get c.counts 0 n + (seen + 65536 - Store.get c.refs 0 n)) % 65536)
           refs := Store.put c.refs 0 n seen }

/-- The pulse counts of a section presented to its lane while both clocks run and the crossing is open. -/
def followCounts (s : State) (l : LaneId) : State :=
  let x := 7 * l.num + 6
  let c := s.crossing x
  if c.open_ && s.sourceRuns x && s.destRuns x then
    s.setCrossing x ((s.field.sec.get l).di.foldl (fun c p => c.follow p.1 p.2.count) c)
  else s

/-- A pulse count as its lane has it. -/
def State.laneCount (s : State) (l : LaneId) (n : Nat) : Nat := Store.get (s.crossing (7 * l.num + 6)).counts 0 n

/-! ## Resets of one side (R408) -/

/-- Bound in ns within which a flush handshake completes: 2 × (4 clocks of each side) (R408). -/
def handshakeNs (x : Nat) : Nat := (crossingDomains x).foldl (fun m d => m + ceilDiv 8000000 (domainKhz d)) 0

/-- A crossing closed: its source's side or its destination's enters reset and clears its own part. A handshake that waits, or that has not had
the time to complete, starts again: the step 2 carried out stands, its completion does not (R408, R409). A control bit has no flush and does not
close. -/
def closeCrossing (s : State) (x : Nat) (src : Bool) : State :=
  if crossingKind x ≠ .bit ∧ s.crossingLive x then
    let c := s.crossing x
    let s := match c.flushed with
      | some (t, n) => if s.time.now < t + handshakeNs x then jset s (crossingIndex x) 6 n else s
      | none => s
    s.setCrossing x { c with
      open_ := false, flush := none, flushed := none, resets := (c.resets.1 || src, c.resets.2 || !src)
      offered := if src then [] else c.offered }
  else s

/-- Whether a lane's side of crossing 7l + i is the source. -/
def laneWrites (i : Nat) : Bool := [0, 3, 4].contains i

/-- The crossings of a lane closed: its logic domain goes off (TC-8). -/
def closeLane (s : State) (l : LaneId) : State := (List.range 7).foldl (fun s i => closeCrossing s (7 * l.num + i) (laneWrites i)) s

/-- The crossings of a lane section closed: the field die is in reset. -/
def closeField (s : State) (l : LaneId) : State := [4, 5, 6].foldl (fun s i => closeCrossing s (7 * l.num + i) (decide (i ≠ 4))) s

/-- What a flush leaves of a crossing: nothing queued or pending; a count keeps its value and takes its next sample as the new reference
(R408). -/
def Crossing.cleared (c : Crossing) (path : Store DiPath) : Crossing :=
  { c with open_ := true, stalled := false, epoch := !c.epoch, flush := none, resets := (false, false), events := [], wp := 0, rp := 0, wpSeen := 0, rpSeen := 0, held := []
           refs := path.foldl (fun m p => Store.put m 0 p.1 (ofGray 16 (gray p.2.count))) [] }

/-- Pulse counters behind a count crossing. -/
def State.pathsOf (s : State) (x : Nat) : Store DiPath :=
  if crossingKind x = .count then ((LaneId.ofNum (x / 7)).elim [] (fun l => (s.field.sec.get l).di)) else []

/-- The steps of the flush handshake with both clocks running: the other side of the one reset sets its peer-reset flag and toggles the epoch; with
both sides in reset neither flag is set. The completed handshake is counted (R408, R409). -/
def handshake (s : State) (x : Nat) (src dst : Bool) : State :=
  let c := s.crossing x
  let bits := if src && dst then c.bits else if src then setBit c.bits 4 true else setBit c.bits 3 true
  jbump (s.setCrossing x { ({ c with bits := bits }.cleared (s.pathsOf x)) with flushed := some (s.time.now, jget s (crossingIndex x) 6) })
    (crossingIndex x) 6

/-- The handshake of a side that leaves reset by itself, where the crossing is closed still: what a source offered to the unit that was reset it
does not offer any more. The other side's stopped clock makes it wait (R408, R409). -/
def reopen (s : State) (x : Nat) (src : Bool) : State :=
  if crossingKind x ≠ .bit ∧ s.crossingLive x ∧ (s.crossing x).open_ = false then
    let c := s.crossing x
    let r := (c.resets.1 || src, c.resets.2 || !src)
    let s := s.setCrossing x { c with offered := [] }
    if s.sourceRuns x && s.destRuns x then handshake s x r.1 r.2 else s.setCrossing x { s.crossing x with flush := some r }
  else s

/-- The crossings of a lane that leaves reset: those to its section only while the field die operates (TC-8). -/
def reopenLane (s : State) (l : LaneId) : State :=
  ((List.range 7).filter (fun i => s.field.operating || decide (i < 4))).foldl (fun s i => reopen s (7 * l.num + i) (laneWrites i)) s

/-- The crossings of a lane section when the field die leaves reset: those of a lane whose logic domain is off stay closed. -/
def reopenField (s : State) (l : LaneId) : State :=
  if s.clockOn l.num then [4, 5, 6].foldl (fun s i => reopen s (7 * l.num + i) (decide (i ≠ 4))) s else s

/-- A frame of a lane's control channel to its section, with what the section does: nothing crosses to a die in reset, where a closed crossing
counts what the lane offers (R404, R408). -/
def toField (s : State) (l : LaneId) (i : FieldFrame) (f : State → State) : State :=
  let x := 7 * l.num + 4
  if s.field.operating || (s.crossing x).open_ then carry s x 1 (.frame l i) id f else dropEntries s x 1

/-- What a lane section gives its lane, in `n` entries: nothing crosses while the die is in reset, and the lane uses its substitutes. -/
def fromField (s : State) (l : LaneId) (n : Nat) (r : FieldReport) (f : State → State) : State :=
  let x := 7 * l.num + 5
  if !s.field.operating then f s else carry s x n (.report l r) id f

end Sys2Proof.Machine
end

