-- ==== Sys2Proof/Machine/Modes.lean ====
section
/-! DEFINITION. Lane exclusion, limp, abandoned reintegration, the safe state, the end of an on-line change and emergency
messages (03 R67 to R69, R90, R95, R97, R98, 06 R174, 11 R311). -/

namespace Sys2Proof.Machine

open Sys2Proof

/-! ## CAN emergency messages -/

/-- A CAN controller. -/
def State.can (s : State) : CanCtl → Can
  | .c0 => s.can0
  | .c1 => s.can1

/-- The state with one CAN controller changed. -/
def State.modCan (s : State) (c : CanCtl) (f : Can → Can) : State :=
  match c with
  | .c0 => { s with can0 := f s.can0 }
  | .c1 => { s with can1 := f s.can1 }

/-- Index of a controller's entries: 4800 or 4810 (11 R322). -/
def canIndex (c : CanCtl) : Nat := 0x4800 + 16 * c.num

/-- Whether a controller takes part in bus traffic: enabled, and neither bus-off nor off after eight bus-offs. -/
def State.canUp (s : State) (c : CanCtl) : Bool := jbool s (canIndex c) 1 && decide ((s.can c).err < 2)

/-- Error register after an emergency code (CiA 301: bit 0 generic, bit 4 communication, bit 7 manufacturer; PRESUMED, log 33). -/
def errorRegister (old code : Nat) : Nat :=
  if code = 0 then 0 else if code / 256 = 0x81 then Nat.lor old 17 else Nat.lor old 129

/-- COB-ID of a controller's emergency messages: 1014.00, whose default is 16#80 and the controller's own node id (11 Table 11-9, per
controller; DEDUCED, log 33). -/
def State.emcyIdent (s : State) (c : CanCtl) : Nat :=
  (Store.find? s.jreg (regKey 0x1014 c.num)).getD (0x80 + jget s (canIndex c) 2)

/-- The frame of an emergency message, sent in Pre-operational and Operational (11 R311, Table 11-4). -/
def sendEmcy (s : State) (c : CanCtl) (code b3 b4 : Nat) : State :=
  let n := (s.can c).nmt
  let id := s.emcyIdent c
  if s.canUp c && (decide (n = .preOp) || decide (n = .operational)) && decide (id < 2147483648) then
    transmit s 33 2 (.can c { ident := if bitOf id 29 then id % 536870912 else id % 2048, ext := bitOf id 29, data := leBytes 2 code ++ leBytes 1 (jget s 0x1001 0) ++ leBytes 1 b3 ++
                              leBytes 1 b4 ++ leBytes 3 0 })
  else s

/-- An emergency of one controller. -/
def emcyOne (s : State) (c : CanCtl) (code b3 b4 : Nat) : State :=
  sendEmcy (jset s 0x1001 0 (errorRegister (jget s 0x1001 0) code)) c code b3 b4

/-- An emergency message on both controllers. -/
def emcy (s : State) (code b3 b4 : Nat) : State :=
  let s := jset s 0x1001 0 (errorRegister (jget s 0x1001 0) code)
  sendEmcy (sendEmcy s .c0 code b3 b4) .c1 code b3 b4

/-! ## Field sections -/

/-- An output channel. -/
def State.chan (s : State) (n : Nat) : DoChan := Store.get s.field.chan DoChan.blank n

/-- The state with one output channel changed. -/
def State.modChan (s : State) (n : Nat) (f : DoChan → DoChan) : State :=
  { s with field := { s.field with chan := Store.insert s.field.chan n (f (s.chan n)) } }

/-- One section's part of a channel changed. -/
def DoChan.modSec (c : DoChan) (l : LaneId) (f : DoSection → DoSection) : DoChan := { c with sec := c.sec.set l (f (c.sec.get l)) }

/-- Whether two lane sections close their elements, so that the output conducts (07 R199, Table 07-3). -/
def DoChan.conducts (c : DoChan) : Bool :=
  (c.sec.a.closed && c.sec.b.closed) || (c.sec.b.closed && c.sec.c.closed) || (c.sec.a.closed && c.sec.c.closed)

/-- Whether a channel may close its elements: not shut down, latched or locked off (07 R200, R210). -/
def DoChan.free (c : DoChan) : Bool := !c.hot && !c.latch && !c.locked

/-- A step or pulse on a channel ends without a verdict: the elements that it held open close again where they are commanded on
(07 R211, Table 07-6). -/
def DoChan.endTests (c : DoChan) : DoChan :=
  if c.tested || c.pulse.isSome then
    { c with tested := false, pulse := none, mute := true
             sec := c.sec.map (fun x => { x with closed := x.closed || (x.cmd && c.free && !x.pend) }) }
  else c

/-- A channel with one section's elements open and its command withdrawn; a step or pulse on elements that it commanded ends
(07 R199, Table 07-6, 03 R67). -/
def DoChan.openSec (c : DoChan) (l : LaneId) : DoChan :=
  let had := (c.sec.get l).cmd
  let c := c.modSec l (fun x => { x with cmd := false, closed := false, pend := false })
  if had then c.endTests else c

/-- A lane section that opens its elements in every bridge and in HEALTH and stops its converters (01 R9, 03 R67). -/
def FieldDie.openSection (f : FieldDie) (l : LaneId) : FieldDie :=
  { f with sec := f.sec.set l { f.sec.get l with converting := [], health := false }
           chan := f.chan.map (fun p => (p.1, p.2.openSec l))
           step := if f.step = some l then none else f.step }

/-- Every section opens every element, and no step or pulse goes on (03 R97, 07 Table 07-6). -/
def FieldDie.openAll (f : FieldDie) : FieldDie :=
  { LaneId.all.foldl FieldDie.openSection f with step := none, roundAt := none }

/-- A section's part of a channel that has stopped conducting: the conditions of a conducting channel end, and with an inductive load
demagnetisation is in progress (07 R201, R203). -/
def DoSection.turnedOff (x : DoSection) (inductive_ : Bool) (now : Nat) : DoSection :=
  let x := { x with lasting := setBit (setBit x.lasting 1 false) 2 false }
  if inductive_ then { x with demag := some now, events := setBit x.events 7 true } else x

/-- What follows for one channel when elements have opened or closed: whether the load of a channel that has turned off is inductive is
a free value; a channel that has turned on ends the condition of its off state (07 R201, R203). -/
def settleChan (before : State) (s : State) (ch : Nat) : State :=
  let was := (before.chan ch).conducts
  let is := (s.chan ch).conducts
  if was && !is && s.field.operating then
    let ind := decide (s.freeVal % 2 = 1)
    s.drew.modChan ch (fun c => { c with sec := c.sec.map (fun x => x.turnedOff ind s.time.now) })
  else if !was && is then
    s.modChan ch (fun c => { c with sec := c.sec.map (fun x => { x with lasting := setBit x.lasting 3 false }) })
  else s

/-- A change of elements with what follows for every channel (07 R201). -/
def switching (s : State) (f : State → State) : State := (List.range 16).foldl (settleChan s) (f s)

/-! ## Exclusion -/

/-- Engines of a lane stopped by its hold line (03 R68). -/
def Lane.stopEngines (ln : Lane) : Lane :=
  { ln with engines := ln.engines.map (fun p => (p.1, { p.2 with phase := .stopped }))
            executing := false, exchanged := false }

/-- A cause entered: in 3001 when it is the first since the last start, and in the recorder (03 R69). -/
def enterCause (s : State) (l : LaneId) (cause : Nat) : State :=
  let s := s.modLane l (fun ln => if ln.rget 0x3001 1 = 0 then ln.rset 0x3001 1 cause else ln)
  record s (laneSource l) 2 (leBytes 1 l.num ++ leBytes 1 cause ++ leBytes 4 ((s.lane l).rget 0x3101 1))

/-- A vector still awaited from a lane that has fallen silent is absent (03 R67). -/
def VecState.lost : VecState → VecState
  | .awaited => .absent
  | v => v

/-- The hub and every lane give up the vector that the hub awaits from a lane; one that the hub has accepted still counts in the exchange in
progress, in the lanes that it has yet to reach too (03 R80). -/
def loseVector (s : State) (l : LaneId) : State :=
  if s.vote.hub.get l = .awaited then
    let s := { s with vote := { s.vote with hub := s.vote.hub.set l .absent } }
    s.modLanes (fun _ ln => { ln with vecs := ln.vecs.set l (ln.vecs.get l).lost })
  else s

/-- A lane falls silent: its hold line is asserted, its engines and converters stop, its elements open, its commit in writing
is abandoned. A crystal rate fault and a failed boot or scribe test bar reintegration (03 R67, R68, R93). -/
def silence (s : State) (l : LaneId) (cause : Nat) : State :=
  let st := if cause = 11 ∨ cause = 16 then LaneStatus.barred else LaneStatus.held
  let s := s.modLane l (fun ln =>
    let ln := ln.stopEngines.abandon s.time.now
    { ln with status := st, hold := true, excludedAt := some s.time.now, incomplete := false,
              glue := { ln.glue with deferred := false } })
  loseVector (switching s (fun s => { s with field := s.field.openSection l })) l

/-- End of an on-line change with a result of Table 06-5: the delta is discarded and the result recorded (06 R172, R174). -/
def endChange (s : State) (result detail : Nat) : State :=
  let s := { s with change := { s.change with state := 0, delta := none, kAct := 0, holds := Tri.all false }
                    dict := { s.dict with xfers := s.dict.xfers.filter (fun p => !(decide (p.2.index = 0x6800) && decide (p.2.sub = 2))) } }
  let s := jset (jset s 0x6800 6 result) 0x6800 7 detail
  record s 0 14 (leBytes 1 result ++ leBytes 4 detail)

/-- A reintegration abandoned: the lane is held again, the failure recorded with cause 15 or 16, the device stays in limp
(03 R94, R95). `step` is the step of Table 03-8 that failed. Its exclusion has had its automatic start (R93). -/
def abandonReint (s : State) (l : LaneId) (step cause : Nat) : State :=
  let s := (silence (enterCause s l cause) l cause).modLane l (fun ln => { ln with excludedAt := none })
  let s := { s with vote := { s.vote with reint := none, blocksDue := [], shadowOk := 0 } }
  let s := jset s 0x3006 4 2
  record s (laneSource l) 3 (leBytes 1 l.num ++ leBytes 1 step ++ leBytes 1 2)

/-! ## The safe state -/

/-- NMT state Stopped in the safe state (11 Table 11-3). -/
def Can.stopForSafe (c : Can) : Can := { c with nmt := if c.nmt = .bootUp then .bootUp else .stopped, tx := [] }

/-- What every lane does at safe-state entry: a lane that is not silent makes its final commit, then every lane is held
(03 R97). -/
def Lane.enterSafe (ln : Lane) (l : LaneId) (p now : Nat) : Lane :=
  let ln := if ln.status = .active then ln.finalCommit l p now else ln
  let ln := ln.stopEngines
  { ln with hold := true
            status := match ln.status with
              | .active => .active
              | .barred => .barred
              | _ => .held }

/-- Glue-up interval P of the configuration in force. -/
def State.pGlue (s : State) : Nat :=
  match s.config with
  | some c => c.pGlue
  | none => 10

/-- Entry into the safe state with a cause of Table 03-9 (03 R97): emergency message, final commits, every lane held, every
element open, HEALTH low, process data stopped, cause in 3002 and 3003 and in the recorder, with further bytes when a rule asks
for them (03 R78), a fixed activation abandoned (06 R174), a reintegration ended (3006.04). The cause in force stays when the
device is in the safe state already. -/
def enterSafeWith (s : State) (cause : Nat) (extra : Bytes) : State :=
  if s.mode = .safe then s
  else
    let before := s.mode
    let s := emcy s 0xFF02 cause 0
    let s := stampRegions (s.modLanes (fun l ln => ln.enterSafe l s.pGlue s.time.now))
    let s := switching s (fun s => { s with field := s.field.openAll })
    let s := { s with mode := .safe, can0 := s.can0.stopForSafe, can1 := s.can1.stopForSafe }
    let s := if s.vote.reint.isSome then jset s 0x3006 4 3 else s
    let s := { s with vote := { s.vote with voting := false, reint := none, blocksDue := [], limpNs := none, shadowOk := 0 } }
    let s := jset (jset s 0x3002 0 cause) 0x3003 0 cause
    let s := record s 0 1 (leBytes 1 cause ++ leBytes 1 before.code ++ extra)
    if s.change.state = 6 then endChange s 10 0 else s

/-- Entry into the safe state with a cause. -/
def enterSafe (s : State) (cause : Nat) : State := enterSafeWith s cause []

/-- Steps of Table 03-8 by lane status. -/
def LaneStatus.step : LaneStatus → Nat
  | .restarting => 1
  | .scribe => 2
  | .transferring => 4
  | .shadow => 5
  | _ => 0

/-- An exclusion cause of a lane (03 Table 03-1, R69, R90, R91, R98). In 2oo3 the lane falls silent and the device enters
limp with the limp time of 3004. In limp a cause of an active lane puts the device in the safe state: cause 10 when it lies
within 2 µs of the cause that began the limp, before that lane fell silent, else cause 1. A cause of a lane in reintegration
abandons it. -/
def exclude (s : State) (l : LaneId) (cause : Nat) : State :=
  let st := (s.lane l).status
  if st = .active then
    match s.mode with
    | .run2oo3 =>
      let s := silence (enterCause s l cause) l cause
      let s := { s with mode := .run2oo2
                        vote := { s.vote with limpNs := some (1000000000 * s.vget 0x3004 0), causeAt := [(l, s.time.now)] } }
      emcy s 0xFF01 cause l.num
    | .run2oo2 =>
      let s := enterCause s l cause
      if s.vote.causeAt.any (fun p => decide (p.1 ≠ l) && decide (s.time.now ≤ p.2 + 2000)) then enterSafe s 10
      else enterSafe s 1
    | .startUp => emcy (silence (enterCause s l cause) l cause) 0xFF01 cause l.num
    | .safe => enterCause s l cause
  else if s.vote.reint = some l then
    abandonReint (enterCause s l cause) l st.step (if st.step ≤ 2 then 16 else 15)
  else enterCause s l cause

/-- A lane's report to the junction: engine fault (causes 1 and 2), lane clock fault (10) or undervoltage (12), which exclude the lane
(R404, 03 Table 03-1). -/
def report (s : State) (l : LaneId) (cause : Nat) : State :=
  raiseEvent s (7 * l.num + 3) (if cause = 10 then 1 else if cause = 12 then 3 else 0) (.fault l cause) (fun s => exclude s l cause)

end Sys2Proof.Machine
end

