-- ==== Sys2Proof/Machine/Cutting.lean ====
section
/-! DEFINITION. The cutting list: its entries, their firing instants, their check, and the order of what comes due at one edge
(02 R34, R36, R39, R47, 09 R243 to R245). -/

namespace Sys2Proof.Machine

open Sys2Proof

/-! ## Entries (09 Table 09-1) -/

/-- Action of an entry. -/
def CutEntry.act (e : CutEntry) : Nat := e.w1 % 16
/-- Target of an entry. -/
def CutEntry.tgt (e : CutEntry) : Nat := e.w1 / 16 % 4096
/-- Length of an entry in ns. -/
def CutEntry.lenNs (e : CutEntry) : Nat := e.w1 / 65536 % 65536 * 8
/-- Repetition exponent of an entry. -/
def CutEntry.rep (e : CutEntry) : Nat := e.w2 % 16
/-- Payload length, or index of the field filled, of an entry. -/
def CutEntry.aux (e : CutEntry) : Nat := e.w2 / 65536 % 65536
/-- Direction of a best-effort window: whether it is the secondary one. -/
def CutEntry.dir (e : CutEntry) : Bool := bitOf e.w2 4
/-- SYNC of an entry. -/
def CutEntry.sync (e : CutEntry) : Bool := bitOf e.w2 5
/-- SAFE of an entry. -/
def CutEntry.safe (e : CutEntry) : Bool := bitOf e.w2 6
/-- CSTART of a sync slot. -/
def CutEntry.cstart (e : CutEntry) : Bool := bitOf e.w2 7

/-- Check value of an entry at an index. -/
def cutCheck (e : CutEntry) (i : Nat) : Nat :=
  crc16 (leBytes 4 e.w0 ++ leBytes 4 e.w1 ++ leBytes 4 e.w2 ++ leBytes 2 i)

/-- Entry `i` of the cutting list in force. -/
def State.cut (s : State) (i : Nat) : Option CutEntry :=
  match s.config with
  | some c => c.cut[i]?
  | none => none

/-- Time between two firings of an entry (09 R244). -/
def State.period (s : State) (e : CutEntry) : Nat := 2 ^ CutEntry.rep e * s.tRound

/-- Next firing of an entry of the time base that lies `ahead` ns or more from now and after its last one (09 R244). -/
def State.firing (s : State) (i : Nat) (e : CutEntry) (ahead : Nat) : Nat :=
  gridFrom (Nat.max (s.time.now + ahead - play) (Store.get s.ring.fired 0 i)) e.w0 (s.period e)

/-- The lanes in the order in which their counters reach a lane time (02 R40). -/
def State.laneOrder (s : State) (t : Nat) : List LaneId :=
  LaneId.all.foldl (fun ls l => ls.filter (fun m => decide (s.laneAt m t ≤ s.laneAt l t)) ++ [l] ++
    ls.filter (fun m => decide (s.laneAt l t < s.laneAt m t))) []

/-- Next firing of a converter-start entry in a lane, in lane time (02 R40, 09 R244). -/
def State.laneFiring (s : State) (l : LaneId) (i : Nat) (e : CutEntry) : Nat :=
  dueAt (s.laneNow l) e.w0 (s.period e) (Store.find? (s.lane l).fired i)

/-- Whether an entry fires at an instant of the counter that executes it (09 R244). -/
def State.firesAt (s : State) (e : CutEntry) (t : Nat) : Bool := decide (gridFrom t e.w0 (s.period e) = t)

/-- A junction time fault: latched, and the safe state with cause 7 (02 R47). -/
def junctionTimeFault (s : State) : State := enterSafe { s with time := { s.time with jtf := true } } 7

/-- An entry whose check value is wrong when it is armed: a junction time fault, counted in 4300.03 (09 R245). -/
def cutFault (s : State) : State := junctionTimeFault (jbump s 0x4300 3)

/-- Whether an entry of an action that fires at an instant has a wrong check value (09 R245). -/
def State.badAt (s : State) (act t : Nat) : Bool :=
  match s.config with
  | some c => c.cut.zipIdx.any (fun p => decide (CutEntry.act p.1 = act) && s.firesAt p.1 t && decide (p.1.w3 ≠ cutCheck p.1 p.2))
  | none => false

/-! ## What fired ahead of its command (02 R39) -/

/-- Whether a trigger has fired in its turn at this edge, ahead of its command. -/
def State.firedEarly (s : State) (x : Trig) : Bool :=
  s.time.early.any (fun p => decide (p.1 = x) && decide (s.time.now ≤ p.2 + play))

/-- A trigger noted as fired at this edge ahead of its command. -/
def markEarly (s : State) (x : Trig) : State :=
  { s with time := { s.time with early := (x, s.time.now) :: s.time.early.filter (fun p => decide (s.time.now ≤ p.2 + play)) } }

/-- The command of a trigger: with the trigger already fired in its turn, each due trigger firing exactly once, nothing more happens. -/
def once (s : State) (x : Trig) (f : State → State) : State :=
  if s.firedEarly x then { s with time := { s.time with early := s.time.early.filter (fun p => decide (p.1 ≠ x)) } } else f s

/-- What an entry of an action of the time base does at its firing. -/
def atEntry (s : State) (i act : Nat) (f : State → CutEntry → State) : State :=
  match s.cut i with
  | some e =>
    if CutEntry.act e ≠ act then s
    else if e.w3 ≠ cutCheck e i then cutFault s
    else
      let t := s.firing i e 0
      let s := advanceTo s t
      f { s with ring := { s.ring with fired := Store.insert s.ring.fired i (t + 1) } } e
  | none => s

/-- What a converter-start entry does at its firing in a lane's counter (02 R40, 08 R223). -/
def atLaneEntry (s : State) (l : LaneId) (i : Nat) (f : State → CutEntry → State) : State :=
  match s.cut i with
  | some e =>
    if CutEntry.act e ≠ 3 then s
    else if e.w3 ≠ cutCheck e i then cutFault s
    else
      let t := s.laneFiring l i e
      let s := advanceTo s (s.laneAt l t)
      f (s.modLane l (fun ln => { ln with fired := Store.insert ln.fired i t })) e
  | none => s

end Sys2Proof.Machine
end

