-- ==== Sys2Proof/Machine/Field.lean ====
section
/-! DEFINITION. Digital inputs, output bridges, their tests and HEALTH (chapter 07). Currents are in µA, voltages in mV. -/

namespace Sys2Proof.Machine

open Sys2Proof

/-! ## Access -/

/-- A lane section. -/
def State.sec (s : State) (l : LaneId) : Section := s.field.sec.get l

/-- The state with one section changed. -/
def State.modSec (s : State) (l : LaneId) (f : Section → Section) : State :=
  { s with field := { s.field with sec := s.field.sec.set l (f (s.field.sec.get l)) } }

/-- A digital input path. -/
def Section.path (x : Section) (n : Nat) : DiPath := Store.get x.di DiPath.blank n

/-- A section with one input path changed. -/
def Section.modPath (x : Section) (n : Nat) (f : DiPath → DiPath) : Section :=
  { x with di := Store.put x.di DiPath.blank n (f (x.path n)) }

/-- Group of a channel (07 R198). -/
def groupOf (ch : Nat) : Nat := ch / 4

/-- Group supply voltage as last sampled, 24 V before any sample. -/
def State.dovs (s : State) (g : Nat) : Nat := Store.get s.power.mV 24000 (5 + g)

/-- Elements of a section reclose at the end of a step or pulse, where its image still commands on (07 R202, R206, R211). -/
def DoChan.reclose (c : DoChan) (l : LaneId) : DoChan := c.modSec l (fun x => { x with closed := x.cmd && c.free })

/-- A section commanded on: its elements close, held open by a shutdown, a lock or an off-pulse; while it sees demagnetisation in progress
it is pending instead (07 R199, R200, R202, R210, R213). -/
def DoChan.turnOn (c : DoChan) (l : LaneId) : DoChan :=
  c.modSec l (fun x =>
    if !c.free || c.pulse.isSome then { x with cmd := true, closed := false }
    else if x.demag.isSome then { x with cmd := true, closed := false, pend := true }
    else { x with cmd := true, closed := true, pend := false })

/-- A section that follows its released command (07 R199, R200). -/
def DoChan.follow (c : DoChan) (l : LaneId) : DoChan :=
  if (c.sec.get l).cmd then c.turnOn l else c.modSec l (fun x => { x with closed := false, pend := false })

/-- An event bit seen by every section since the last sample (07 R203). -/
def DoChan.event (c : DoChan) (bit : Nat) : DoChan :=
  { c with sec := c.sec.map (fun x => { x with events := setBit x.events bit true }) }

/-- An event bit seen by one section. -/
def DoChan.eventOf (c : DoChan) (l : LaneId) (bit : Nat) : DoChan :=
  c.modSec l (fun x => { x with events := setBit x.events bit true })

/-- Latched status bits and element map bits found by one section (07 Table 07-5). -/
def DoChan.find (c : DoChan) (l : LaneId) (bit : Nat) (map : List Nat) : DoChan :=
  c.modSec l (fun x => { x with latched := setBit x.latched bit true, map := map.foldl (fun m b => setBit m b true) x.map })

/-! ## Field supply (07 R190, R191) -/

/-- FS_PWR as a section's comparator and converter see it: the voltage in 5000.02 to 5000.04 and the raw state that every control
channel frame reports, with the instant of the last low report (07 R190, Table 07-7). -/
def seeSupply (s : State) (l : LaneId) (mV : Nat) : State :=
  let low := decide (mV < 18000)
  (s.modSec l (fun x => { x with raw := low, rawLow := if low || x.raw || x.under then some s.time.now else x.rawLow })).modLane l
    (fun ln => ln.rset 0x5000 2 mV)

/-- FS_PWR as all three sections see it. -/
def seeSupplyAll (s : State) (mV : Nat) : State := LaneId.all.foldl (fun s l => seeSupply s l mV) s

/-- Whether a section reported FS_PWR below 18.0 V in the preceding 1 ms: flag or raw state (07 R191). -/
def State.lowReport (s : State) : Bool :=
  LaneId.all.any (fun l => (s.sec l).under || (s.sec l).raw ||
    (match (s.sec l).rawLow with
      | some t => decide (s.time.now ≤ t + 1000000)
      | none => false))

/-- 5000.01 as a lane samples it: operating, undervoltage, field supply loss since start (07 Table 07-1, Table 07-7). -/
def State.fieldStatus (s : State) (l : LaneId) : Nat :=
  if s.field.operating then
    1 + (if (s.sec l).under then 2 else 0) + (if bitOf (s.vget 0x5000 1) 2 || s.field.lost then 4 else 0)
  else 2 + (if bitOf (s.vget 0x5000 1) 2 || s.field.lost then 4 else 0)

/-- Field supply loss: no lane is excluded, the field die does not operate, and its crossings close (07 R191, 15 R408). -/
def fieldSupplyLoss (s : State) : State :=
  let s := { s with field := { s.field.openAll with operating := false, lost := true, step := none, roundAt := none } }
  let s := LaneId.all.foldl closeField s
  record s 9 19 (leBytes 1 (s.fieldStatus s.lead))

/-- A section whose control channel is quiet opens its elements, stops its converters and drives its alarm (01 R9, 03 R68). -/
def quietSection (s : State) (l : LaneId) : State :=
  let s := switching s (fun s => { s with field := s.field.openSection l })
  s.modSec l (fun x => { x with alive := false, alarm := true, quietAt := some s.time.now })

/-- Whether all three channels fell quiet within 10 µs of one another (07 R191). -/
def State.allQuiet (s : State) : Bool :=
  match (s.sec .a).quietAt, (s.sec .b).quietAt, (s.sec .c).quietAt with
  | some a, some b, some c =>
    !(s.sec .a).alive && !(s.sec .b).alive && !(s.sec .c).alive &&
      decide (Nat.max a (Nat.max b c) ≤ Nat.min a (Nat.min b c) + 10000)
  | _, _, _ => false

/-- The junction's judgement once a channel has fallen quiet: field supply loss when all three did with a low report; a single
channel waits 10 µs while there is a low report; else exclusion cause 14 (07 R191). -/
def judgeQuiet (s : State) (l : LaneId) : State :=
  if (s.sec l).alive then s
  else if s.field.lost then s
  else if s.lowReport then
    if s.allQuiet then fieldSupplyLoss s
    else if s.time.now ≤ (s.sec l).quietAt.getD 0 + 10000 then s
    else if s.active l then exclude s l 14 else s
  else if s.active l then exclude s l 14 else s

/-- CHANNEL_QUIET (03 R68, 07 R191): no valid frame for 1 µs. -/
def channelQuiet (s : State) (l : LaneId) : State := judgeQuiet (quietSection s l) l

/-- SECTION_ALARM (07 R209, 01 R7): the receiving section ends its test step, reclosing where its image still commands on, and
reports the alarm, by which cause 14 reaches the junction. -/
def sectionAlarm (s : State) (l src : LaneId) : State :=
  if l = src ∨ (s.sec src).alarm = false then s
  else
    let s := if s.field.step = some l then
        switching s (fun s => { s with field := { s.field with
          step := none
          chan := s.field.chan.map (fun p => (p.1, if p.2.tested then { p.2.reclose l with tested := false } else p.2)) } })
      else s
    judgeQuiet s src

/-- FIELD_UNDERVOLTAGE (07 R190): a section's comparator saw FS_PWR below 18.0 V for 100 µs. -/
def fieldUndervoltage (s : State) (l : LaneId) (mV : Nat) : State :=
  let s := seeSupply s l mV
  if mV < 18000 then s.modSec l (fun x => { x with under := true }) else s

/-- FIELD_UNDERVOLTAGE_CLEAR (07 R190): at or above 18.5 V for 100 µs. -/
def fieldUndervoltageClear (s : State) (l : LaneId) (mV : Nat) : State :=
  let s := seeSupply s l mV
  if mV ≥ 18500 then s.modSec l (fun x => { x with under := false }) else s

/-- FIELD_DIE_RESET (07 R190, R191): below 16.0 V every element opens, every converter stops, all channels fall quiet; with
a low report in the last millisecond it is field supply loss, else cause 14 for every lane. Its crossings close (15 R408). A die whose
loss has been judged already shows its supply. -/
def fieldDieReset (s : State) (mV : Nat) : State :=
  if mV < 16000 ∧ s.field.operating then
    let loss := s.lowReport
    let s := LaneId.all.foldl quietSection { s with field := { s.field with operating := false } }
    let s := if loss then fieldSupplyLoss s else LaneId.all.foldl judgeQuiet s
    LaneId.all.foldl closeField (s.modLanes (fun _ ln => ln.rset 0x5000 2 mV))
  else if mV < 16000 ∧ s.field.lost then LaneId.all.foldl closeField (s.modLanes (fun _ ln => ln.rset 0x5000 2 mV))
  else s

/-- Channel state at the boot of the field die: nothing conducts; latched findings stay until the next start-up (07 R203). -/
def DoChan.boot (c : DoChan) : DoChan :=
  { c with sec := c.sec.map (fun x => { DoSection.blank with latched := x.latched, map := x.map })
           tested := false, skip := none, mute := false, pulse := none, due := none }

/-- Channel state at a start-up: the findings of bits 10 to 13 and the element map end (07 R203, R210). -/
def DoChan.startUp (c : DoChan) : DoChan :=
  { c with locked := false, sec := c.sec.map (fun x => { x with latched := 0, map := 0 }) }

/-- FIELD_DIE_BOOT (07 R190, R195, 08 R235): FS_PWR above 18.5 V, the channels of lanes that are not held resume, no filter
history, pulse counters from zero, the recognition units start again; its crossings open (15 R408); the return is recorded. -/
def fieldDieBoot (s : State) (mV : Nat) : State :=
  if mV > 18500 ∧ s.variantF ∧ s.field.operating = false then
    let wasLost := s.field.lost
    let back := s.field.ran
    let s := { s with
      field := { s.field with
        operating := true, ran := true, lost := false
        sec := s.field.sec.mapId (fun l x =>
          { x with alive := !(s.lane l).hold, alarm := (s.lane l).hold, quietAt := none, under := false, raw := false, rawLow := none,
                   di := x.di.map (fun p => (p.1, { DiPath.blank with shown := p.2.shown })) })
        chan := s.field.chan.map (fun p => (p.1, p.2.boot)) }
      lanes := s.lanes.map (fun ln => { ln with recog := Recog.start }) }
    let s := LaneId.all.foldl reopenField s
    let s := seeSupplyAll s mV
    let s := if wasLost then s.modLanes (fun _ ln => ln.rset 0x5000 1 (setBit (ln.rget 0x5000 1) 2 true)) else s
    if back then record s 9 19 (leBytes 1 (s.fieldStatus s.lead)) else s
  else s

/-! ## Digital inputs (07 R193 to R197) -/

/-- Number of thresholds of R193 below a current, and whether the current lies within ±2 % of one of them (which then counts
as below). -/
def diBand (uA : Nat) : Nat × Bool :=
  let f := fun (acc : Nat × Bool) (th : Nat) =>
    if 100 * uA > 102 * th then (acc.1 + 1, acc.2) else if 100 * uA ≥ 98 * th then (acc.1, true) else acc
  [200, 300, 1000, 2000].foldl f (0, false)

/-- Class of a band (07 Table 07-2). -/
def diClassOf (wireBreak : Bool) : Nat → DiClass
  | 0 => if wireBreak then .wire else .off
  | 1 => if wireBreak then .indet else .off
  | 2 => .off
  | 3 => .indet
  | _ => .on

/-- t_filter in ns of a value of 5001 (07 R195). -/
def filterNs : Nat → Nat
  | 0 => 0
  | 1 => 50000
  | 2 => 200000
  | 3 => 1000000
  | _ => 3000000

/-- The class of a band in one path as the lane's parameters have it; without a filter the filtered class follows at once (07 R193,
R195). -/
def classify (s : State) (l : LaneId) (n band : Nat) : State :=
  let ln := s.lane l
  let c := diClassOf (ln.rget 0x5002 (n + 1) != 0) band
  let nofilt := ln.rget 0x5001 (n + 1) = 0
  s.modSec l (fun x => x.modPath n (fun p =>
    { p with band := band, raw := c
             since := if p.raw = c ∧ p.since.isSome then p.since else some s.time.now
             filt := if nofilt then c else p.filt }))

/-- DI_RAW_CLASS_CHANGE (07 R193, R195): the path classifies its input current; within the tolerance of a threshold the class
is one of the two adjacent ones, by a free value. A quiet control channel stops no classification. -/
def diRaw (s : State) (l : LaneId) (n uA : Nat) : State :=
  if s.field.operating then
    let b := diBand uA
    let band := if b.2 then b.1 + s.freeVal % 2 else b.1
    classify (if b.2 then s.drew else s) l n band
  else s

/-- Every classified path of a lane takes the wire-break detection in force (07 R193, 5002). -/
def reclassify (s : State) (l : LaneId) : State :=
  if s.field.operating then
    (s.sec l).di.foldl (fun s p => if p.2.since.isSome then classify s l p.1 p.2.band else s) s
  else s

/-- FILTER_EXPIRY (07 R195): the raw class has been held for t_filter; node time stands at that instant. A die that does not operate has
no classification to hold. -/
def filterExpiry (s : State) (l : LaneId) (n : Nat) : State :=
  if !s.field.operating then s else
  match ((s.sec l).path n).since with
  | none => s
  | some t =>
    let s := advanceTo s (t + filterNs ((s.lane l).rget 0x5001 (n + 1)))
    s.modSec l (fun x => x.modPath n (fun p => { p with filt := p.raw }))

/-- PULSE_COUNT (07 R197): a transition of the raw class into on, after the deglitch; the count wraps at 16 bits. -/
def pulseCount (s : State) (l : LaneId) (n : Nat) : State :=
  let on := match s.config with
    | some c => c.pulse.contains n
    | none => false
  if on && s.field.operating then
    followCounts (s.modSec l (fun x => x.modPath n (fun p => { p with count := (p.count + 1) % 65536 }))) l
  else s

/-! ## Output protection (07 R200 to R203) -/

/-- An event with a qualifying duration, seen by a section: it lasts until its condition ends (07 R203). -/
def DoSection.lasts (x : DoSection) (bit : Nat) : DoSection :=
  { x with events := setBit x.events bit true, lasting := setBit x.lasting bit true }

/-- The end of such a condition. -/
def DoSection.ends (x : DoSection) (bit : Nat) : DoSection := { x with lasting := setBit x.lasting bit false }

/-- What a measurement of a channel's current by one section ends: open wire in the on state at 8 mA and above, overload below the
current limit of at least 1.0 A (07 Table 07-4; R203: the condition lasts until its end is seen, DESIGN CHOICE, log 81). -/
def DoChan.seeCurrent (c : DoChan) (l : LaneId) (uA : Nat) : DoChan :=
  c.modSec l (fun x =>
    let x := if 8000 ≤ uA then x.ends 2 else x
    if uA < 1000000 then x.ends 1 else x)

/-- An output voltage as one section measured it (07 R204). -/
def DoChan.seeVoltage (c : DoChan) (l : LaneId) (mV : Nat) : DoChan :=
  c.modSec l (fun x => { x with sense := some (mV, c.conducts) })

/-- OVERLOAD (07 R200, R203, Table 07-6): each section's current sense sees it; a step or pulse on the channel gives no verdict in this
cycle. -/
def overload (s : State) (ch : Nat) : State :=
  if s.field.operating then
    s.modChan ch (fun c => { c with mute := true, sec := c.sec.map (fun x => x.lasts 1) })
  else s

/-- THERMAL_SHUTDOWN (07 R200, R214): all six elements open, a step or pulse on the channel ends without a verdict; latched
in thermal mode 0; counted in 510A. -/
def thermalShutdown (s : State) (ch : Nat) : State :=
  let latched := decide (s.vget 0x5103 (ch + 1) = 0)
  let s := switching s (fun s => s.modChan ch (fun c =>
    { c with hot := true, cool := false, latch := latched, offSeen := false, tested := false, mute := true, pulse := none, due := none
             sec := c.sec.map (fun x => { x with closed := false, pend := false }) }))
  s.modLanes (fun _ ln => if ln.status = .active then ln.rbump 0x510A (ch + 1) else ln)

/-- Every section of an operating channel follows its command again. -/
def DoChan.followAll (c : DoChan) : DoChan := LaneId.all.foldl DoChan.follow c

/-- THERMAL_RESTART (07 R200, R202): below 150 °C an auto-retry channel follows the image; a latched one only when its image has
commanded it off at an O_k since. -/
def thermalRestart (s : State) (ch : Nat) : State :=
  switching s (fun s => s.modChan ch (fun c =>
    if c.hot = false then c
    else if c.latch && !c.offSeen then { c with hot := false, cool := true }
    else { c with hot := false, cool := true, latch := false }.followAll))

/-- DEMAGNETISATION_END (07 R201, R202): a section's comparator sees the end and closes pending elements if its image still
commands on. -/
def demagEnd (s : State) (l : LaneId) (ch : Nat) : State :=
  switching s (fun s => s.modChan ch (fun c =>
    let pend := (c.sec.get l).pend
    let c := c.modSec l (fun x => { x.ends 9 with demag := none, pend := false })
    if pend then c.follow l else c))

/-- When the demagnetisation in progress on a channel began, in the section that has seen it longest. -/
def DoChan.demagAt (c : DoChan) : Option Nat :=
  LaneId.all.foldl (fun m l => match m, (c.sec.get l).demag with
    | some a, some b => some (Nat.min a b)
    | none, d => d
    | m, none => m) none

/-- DEMAGNETISATION_OVERRUN (07 R202): longer than 25 ms; node time stands at that instant. Each section that still sees it reports. -/
def demagOverrun (s : State) (ch : Nat) : State :=
  match (s.chan ch).demagAt with
  | none => s
  | some t =>
    let s := advanceTo s (t + 25000000)
    s.modChan ch (fun c => { c with sec := c.sec.map (fun x => if x.demag.isSome then x.lasts 9 else x) })

/-- Whether open-wire bits may be set for a channel (07 R214). -/
def State.wireTest (s : State) (ch : Nat) : Bool :=
  s.field.operating && !(s.chan ch).locked && !bitOf s.field.groups (groupOf ch)

/-- OPEN_WIRE_ON (07 Table 07-4): commanded on, below 8 mA for 1 ms; a current of 8 mA and above ends the condition. -/
def openWireOn (s : State) (l : LaneId) (ch uA : Nat) : State :=
  let s := s.modChan ch (fun c => c.seeCurrent l uA)
  if s.wireTest ch && ((s.chan ch).sec.get l).cmd && decide (uA < 8000) then
    s.modChan ch (fun c => c.modSec l (fun x => x.lasts 2))
  else s

/-- OPEN_WIRE_OFF (07 Table 07-4): test current enabled, output above 4.0 V 2 ms after switch-off; an output at or below ends the
condition. -/
def openWireOff (s : State) (l : LaneId) (ch mV : Nat) : State :=
  let s := s.modChan ch (fun c => c.seeVoltage l mV)
  if s.wireTest ch && !((s.chan ch).sec.get l).cmd && ((s.lane l).rget 0x5104 (ch + 1) != 0) && decide (mV > 4000) then
    s.modChan ch (fun c => c.modSec l (fun x => x.lasts 3))
  else if mV ≤ 4000 then s.modChan ch (fun c => c.modSec l (fun x => x.ends 3))
  else s

/-- The open-wire tests of a channel ended: a condition that lasted has to be met anew (07 R214). -/
def DoChan.endWire (c : DoChan) : DoChan := { c with sec := c.sec.map (fun x => (x.ends 2).ends 3) }

/-- GROUP_SUPPLY_LOSS (07 R203, R214, Table 07-4): entered for all four channels; it lasts until restored, and ends their open-wire tests. -/
def groupLoss (s : State) (g mV : Nat) : State :=
  if mV < 15000 then
    let s := { s with field := { s.field with groups := setBit s.field.groups g true }
                      power := { s.power with mV := Store.insert s.power.mV (5 + g) mV } }
    (List.range 4).foldl (fun s i => s.modChan (4 * g + i) (fun c => (c.event 6).endWire)) s
  else s

/-- GROUP_SUPPLY_RESTORED (07 Table 07-4): above 17.0 V. -/
def groupRestored (s : State) (g mV : Nat) : State :=
  if mV > 17000 then
    { s with field := { s.field with groups := setBit s.field.groups g false }
             power := { s.power with mV := Store.insert s.power.mV (5 + g) mV } }
  else s

/-! ## Status at the sample (07 R203, Table 07-5) -/

/-- Output voltage in mV as one section's comparator has it: as it measured last while the bridge has not switched since, else its group
supply when the bridge conducts and 0 when it does not (07 R203, R204). -/
def State.outputAt (s : State) (l : LaneId) (ch : Nat) : Nat :=
  let c := s.chan ch
  match (c.sec.get l).sense with
  | some (mV, on) => if on = c.conducts then mV else if c.conducts then s.dovs (groupOf ch) else 0
  | none => if c.conducts then s.dovs (groupOf ch) else 0

/-- Status field of a channel as one section delivers it; open-wire bits are not set while the group supply is lost or the channel locked off
(07 R214). -/
def State.doStatus (s : State) (l : LaneId) (ch : Nat) : Nat :=
  if s.field.operating then
    let c := s.chan ch
    let x := c.sec.get l
    let loss := bitOf s.field.groups (groupOf ch)
    let b := fun (i : Nat) (v : Bool) => if v then 2 ^ i else 0
    let ev := fun i => bitOf x.events i || bitOf x.lasting i
    let wire := !loss && !c.locked
    b 0 (decide (s.dovs (groupOf ch) < 2 * s.outputAt l ch)) + b 1 (ev 1) + b 2 (wire && ev 2) + b 3 (wire && ev 3) + b 4 c.hot + b 5 c.latch + b 6 (ev 6 || loss) +
      b 7 (ev 7 || x.demag.isSome) + b 8 x.pend + b 9 (ev 9) + b 10 (bitOf x.latched 10) + b 11 (bitOf x.latched 11) +
      b 12 (bitOf x.latched 12) + b 13 c.locked
  else 64

/-- Element fault map of a channel as one section delivers it. -/
def State.doMapOf (s : State) (l : LaneId) (ch : Nat) : Nat :=
  if s.field.operating then ((s.chan ch).sec.get l).map else 0

/-! ## Standing check and path judgement (07 R205, R207) -/

/-- Lanes of a path: 0 A∧B, 1 B∧C, 2 A∧C (07 Table 07-3); upper first. -/
def pathLanes : Nat → LaneId × LaneId
  | 0 => (.a, .b)
  | 1 => (.b, .c)
  | _ => (.a, .c)

/-- Map bits of a path: upper, lower (07 Table 07-5). -/
def pathBits (p : Nat) : Nat × Nat := (2 * p, 2 * p + 1)

/-- Value of a path in a triple ordered A∧B, B∧C, A∧C. -/
def Tri.path (t : Tri Nat) : Nat → Nat
  | 0 => t.a
  | 1 => t.b
  | _ => t.c

/-- The output apply that comes next, with its cycle: O of the cycle whose exchange came last, or of the cycle before when that
instant has not passed (01 R13, Table 01-3). -/
def State.applyNext (s : State) : Nat × Nat :=
  match s.config, s.vote.k with
  | some c, some k =>
    let o := s.vote.cK + c.vOff + c.oOff
    if s.time.now ≤ o - c.tBase ∧ s.vote.oAt < o - c.tBase then (o - c.tBase, k - 1) else (o, k)
  | _, _ => (s.time.now, 0)

/-- Finding of the standing check on one path: a midpoint above three quarters of DOVS is near DOVS, one below a quarter of
DOVS, with the output below 4.0 V, near the output (the manual states no limits: DESIGN CHOICE, log 63). -/
def standingPath (s : State) (l : LaneId) (ch mid out p : Nat) : State :=
  let dovs := s.dovs (groupOf ch)
  if 4 * mid > 3 * dovs then s.modChan ch (fun c => c.find l 10 [(pathBits p).1])
  else if out < 4000 ∧ 4 * mid < dovs then s.modChan ch (fun c => c.find l 10 [(pathBits p).2])
  else s

/-- STANDING_CHECK (07 R205): at O_k + 8 µs a section checks the midpoints of a channel that is off, whatever commands it. -/
def standingCheck (s : State) (l : LaneId) (ch : Nat) (mids : Tri Nat) (out : Nat) : State :=
  let s := advanceTo s (s.vote.oAt + 8000)
  let c := s.chan ch
  if s.field.operating && (s.sec l).alive && !c.conducts && !(c.sec.get l).demag.isSome && !bitOf s.field.groups (groupOf ch) then
    let s := s.modChan ch (fun c => c.seeVoltage l out)
    (List.range 3).foldl (fun s p => standingPath s l ch (Tri.path mids p) out p) s
  else s

/-- PATH_NOT_CONDUCTING (07 R207): a judged path below 1 mA for 1 ms while the channel carries at least 8 mA. -/
def pathNotConducting (s : State) (l : LaneId) (ch p total : Nat) : State :=
  let s := s.modChan ch (fun c => c.seeCurrent l total)
  let c := s.chan ch
  let q := pathLanes p
  if s.field.operating && (s.sec l).alive && c.conducts && !c.tested && decide (total ≥ 8000) &&
      (c.sec.get q.1).closed && (c.sec.get q.2).closed && s.active q.1 && s.active q.2 then
    s.modChan ch (fun c => c.find l 11 [(pathBits p).1, (pathBits p).2])
  else s

/-! ## Element test (07 R206, R208) -/

/-- Path that does not name a lane. -/
def remainingPath : LaneId → Nat
  | .a => 1
  | .b => 2
  | .c => 0

/-- Map bit of a lane's element in a path. -/
def elementBit (l : LaneId) (p : Nat) : Nat := if (pathLanes p).1 = l then (pathBits p).1 else (pathBits p).2

/-- Whether the element test is suspended (07 R208). -/
def State.testSuspended (s : State) : Bool := decide (s.mode ≠ .run2oo3) || s.vote.reint.isSome

/-- ELEMENT_TEST_MEASURE (07 R206 step 1): at O_k + 8 µs of a step cycle. Every section's measurement sets its own bit 11; the stepping
section's decides whether the channel is stepped; one that does not proceed is out of the round. A round that a lane's loss has interrupted
judges nothing (R208). -/
def elementMeasure (s : State) (l : LaneId) (ch : Nat) (paths : Tri Nat) : State :=
  let s := advanceTo s (s.vote.oAt + 8000)
  match s.field.step with
  | none => s
  | some st =>
    let c := s.chan ch
    if s.field.operating && (s.sec l).alive && c.conducts && c.free && c.skip.all (fun t => decide (t = s.vote.oAt)) && !c.pulse.isSome &&
        !bitOf s.field.groups (groupOf ch) && !s.testSuspended then
      let total := paths.a + paths.b + paths.c
      let ok := decide (total ≥ 8000) && decide (4 * Tri.path paths (remainingPath st) ≥ total)
      s.modChan ch (fun c =>
        let c := c.seeCurrent l total
        let c := if ok || c.mute then c else c.find l 11 []
        if l = st then { c with tested := ok, skip := if ok then none else some s.vote.oAt } else c)
    else s

/-- ELEMENT_TEST_OPEN (07 R206 step 2): at O_k + 10 µs the stepping section opens its elements of each channel that
proceeds. -/
def elementOpen (s : State) : State :=
  let s := advanceTo s (s.vote.oAt + 10000)
  match s.field.step with
  | none => s
  | some st =>
    if s.testSuspended then s else switching s (fun s => { s with field := { s.field with chan := s.field.chan.map (fun p =>
        (p.1, if p.2.tested then p.2.modSec st (fun x => { x with closed := false }) else p.2)) } })

/-- ELEMENT_TEST_CHECK (07 R206 step 3): at O_k + 50 µs each path that names the stepping lane carries less than 1 mA. -/
def elementCheck (s : State) (l : LaneId) (ch : Nat) (paths : Tri Nat) : State :=
  let s := advanceTo s (s.vote.oAt + 50000)
  match s.field.step with
  | none => s
  | some st =>
    if (s.chan ch).tested && !(s.chan ch).mute && (s.sec l).alive && !s.testSuspended then
      let bad := (List.range 3).filter (fun p =>
        (decide ((pathLanes p).1 = st) || decide ((pathLanes p).2 = st)) && decide (Tri.path paths p ≥ 1000))
      if bad.isEmpty then s else s.modChan ch (fun c => c.find l 10 (bad.map (elementBit st)))
    else s

/-- ELEMENT_TEST_RECLOSE (07 R206 step 4): at O_k + 52 µs the stepping section recloses where its image still commands on;
after Lane C's step the round is counted in 510B, unless it was interrupted (R208). -/
def elementReclose (s : State) : State :=
  let s := advanceTo s (s.vote.oAt + 52000)
  match s.field.step with
  | none => s
  | some st =>
    let s := switching s (fun s => { s with field := { s.field with
      step := none
      chan := s.field.chan.map (fun p => (p.1, if p.2.tested then { p.2.reclose st with tested := false } else p.2)) } })
    if st = .c ∧ !s.testSuspended then s.modLanes (fun _ ln => if ln.status = .active then ln.rbump 0x510B 0 else ln) else s

/-! ## Off-pulse test (07 R211, R212) -/

/-- n_et or n_op: a period in ns over T_base, rounded up. -/
def periodCycles (c : Container) (ns : Nat) : Nat := Nat.max 1 (ceilDiv ns (Nat.max 1 c.tBase))

/-- Cycles that an off-pulse spans after the one that it starts in (07 R212). -/
def State.pulseSpan (s : State) (c : Container) : Nat := ceilDiv (10000 + 1000 * s.field.effWidth) (Nat.max 1 c.tBase)

/-- Whether a step is carried out in cycle `j`, seen from cycle `k` after its apply: it belongs to the round begun, or to one that will
begin outside the span of every off-pulse started (07 R212). -/
def stepCycle (s : State) (c : Container) (k j : Nat) : Bool :=
  let n := periodCycles c (s.field.effTest * 1000000)
  let i := j % n
  !s.testSuspended && decide (i ≤ 2) &&
    (decide (s.field.roundAt = some (j - i)) || (decide (k < j - i) && decide (s.field.spanTo < j - i)))

/-- Whether an off-pulse that starts in cycle k would meet a step (07 R212). -/
def pulseBlocked (s : State) (c : Container) (k : Nat) : Bool :=
  (List.range (s.pulseSpan c + 1)).any (fun i => stepCycle s c k (k + i))

/-- Condition of a channel for its off-pulse (07 R211). -/
def State.pulseFit (s : State) (ch : Nat) : Bool :=
  let c := s.chan ch
  c.conducts && c.free && c.demagAt.isNone && !(LaneId.all.any (fun l => (c.sec.get l).pend)) &&
    !bitOf s.field.groups (groupOf ch)

/-- OFF_PULSE_START (07 R211, R212): at O_k + 10 µs every section opens its elements of a channel that is due, or deferred,
when no element test step falls within the pulse. -/
def offPulseStart (s : State) (ch : Nat) : State :=
  match s.config, s.vote.k, (s.chan ch).due with
  | some c, some _, some _ =>
    let k := s.vote.relK.getD 0
    let s := advanceTo s (s.vote.oAt + 10000)
    if s.pulseFit ch && !pulseBlocked s c k then
      let s := switching s (fun s => s.modChan ch (fun x => { x with
        pulse := some s.time.now, due := none, sec := x.sec.map (fun y => { y with closed := false }) }))
      { s with field := { s.field with spanTo := Nat.max s.field.spanTo (k + s.pulseSpan c) } }
    else s
  | _, _, _ => s

/-- OFF_PULSE_CHECK (07 R211): 2 µs before the end of the pulse an output at or above 3.0 V sets bit 12. -/
def offPulseCheck (s : State) (l : LaneId) (ch mV : Nat) : State :=
  match (s.chan ch).pulse with
  | none => s
  | some t =>
    let s := (advanceTo s (t + 1000 * s.field.effWidth - 2000)).modChan ch (fun c => c.seeVoltage l mV)
    if mV ≥ 3000 ∧ (s.sec l).alive ∧ !(s.chan ch).mute then s.modChan ch (fun c => c.find l 12 []) else s

/-- OFF_PULSE_END (07 R211, R213): the elements reclose where the image still commands on. -/
def offPulseEnd (s : State) (ch : Nat) : State :=
  match (s.chan ch).pulse with
  | none => s
  | some t =>
    let s := advanceTo s (t + 1000 * s.field.effWidth)
    switching s (fun s => s.modChan ch (fun c => LaneId.all.foldl DoChan.reclose { c with pulse := none }))

/-! ## HEALTH (07 R215, R216) -/

/-- HEALTH_TOGGLE (07 R215): at the next 50 µs instant of lane time the section of an active lane closes its HEALTH elements
at N mod 100 000 = 0 and opens them at 50 000; outside RUN they stay open. -/
def healthToggle (s : State) (l : LaneId) : State :=
  let phase := if (s.sec l).health then 50000 else 0
  let s := advanceTo s (s.laneAt l (gridFrom (s.laneNow l - play) phase 100000))
  s.modSec l (fun x => { x with health := s.inRun && s.field.operating && x.alive && s.active l && decide (phase = 0) })

/-- The HEALTH output: high while two sections close their elements of the two-out-of-three bridge (07 R215, Table 07-3). -/
def State.healthHigh (s : State) : Bool :=
  s.field.operating && decide (2 ≤ (LaneId.all.filter (fun l => (s.sec l).health)).length)

/-- HEALTH state, 5180.01: square wave while two lane sections command it (07 R216). -/
def State.healthState (s : State) : Nat :=
  if s.inRun && s.field.operating && decide (2 ≤ (s.actives.filter (fun l => (s.sec l).alive)).length) then 1 else 0

/-! ## Output apply (01 R23, 07 R199, R210 to R214) -/

/-- Command of a channel in a released image: the Q bit that the container maps onto it. -/
def imageCmd (c : Container) (image : Bytes) (ch : Nat) : Bool :=
  match c.doMap.find? (fun m => decide (m.1 = ch)) with
  | some m => bitOf ((image.drop (16 + m.2.1)).headD 0).toNat m.2.2
  | none => false

/-- One section applies its released image to one channel (07 R199, R200, R202). -/
def applyChan (c : DoChan) (l : LaneId) (cmd : Bool) : DoChan :=
  let c := { c with offSeen := c.offSeen || !cmd, latch := c.latch && !(!cmd && c.cool) }
  if cmd then c.turnOn l else c.modSec l (fun x => { x with cmd := false, closed := false, pend := false })

/-- Lock-off of a channel whose agreed status shows bit 10 or 12, under reaction 0 (07 R210). -/
def lockChan (s : State) (ch : Nat) : State :=
  let st := s.vget 0x5101 (ch + 1)
  if (bitOf st 10 || bitOf st 12) && decide (s.vget 0x5109 (ch + 1) = 0) then
    s.modChan ch (fun c => { c with locked := true, tested := false, pulse := none, due := none
                                    sec := c.sec.map (fun x => { (x.ends 2).ends 3 with closed := false, pend := false }) })
  else s

/-- Whether the current limit acts on a channel: a section's overload lasts (07 R200, R214). -/
def DoChan.limited (c : DoChan) : Bool := LaneId.all.any (fun l => bitOf (c.sec.get l).lasting 1)

/-- A section takes the outputs of a cycle: its image to every channel; an off-pulse ends when every section's image commands off (07 R213). A
channel whose current is still limited gives no verdict in this cycle either (R214). -/
def applyOutputs (cfg : Container) (s : State) (l : LaneId) : State :=
  (List.range 16).foldl (fun s ch =>
    let s := s.modChan ch (fun c => { applyChan c l (imageCmd cfg (s.lane l).released ch) with mute := c.limited })
    if LaneId.all.any (fun m => ((s.chan ch).sec.get m).cmd) then s else s.modChan ch (fun c => { c with pulse := none })) s

/-- One lane sends its section the outputs of a cycle at O_k (01 R23, 15 Table 15-2). -/
def applyLane (cfg : Container) (s : State) (l : LaneId) : State :=
  if s.active l && (s.sec l).alive then toField s l .outputs (fun s => applyOutputs cfg s l) else s

/-- Values of 5105 to 5108 taken over at their cycles (07 R214), and the element test round of cycle k (07 R206, R208,
R212). -/
def planTests (s : State) (c : Container) (k : Nat) : State :=
  let test := s.vget 0x5108 0
  let period := s.vget 0x5106 0
  let s := if decide (test ≠ s.field.effTest) && decide (k % periodCycles c (1000000 * test) = 0) then
      { s with field := { s.field with effTest := test, roundAt := none, step := none } } else s
  let s := if k % periodCycles c (1000000000 * period) = 0 then
      { s with field := { s.field with
          effPeriod := period, effWidth := s.vget 0x5107 0
          effMask := (List.range 16).foldl (fun m ch => setBit m ch (s.vget 0x5105 (ch + 1) != 0)) 0 } } else s
  let n := periodCycles c (1000000 * s.field.effTest)
  let i := k % n
  let busy := decide (k ≤ s.field.spanTo) || (List.range 16).any (fun ch => (s.chan ch).pulse.isSome)
  let begins := !s.testSuspended && decide (i = 0) && !busy
  let step := if s.testSuspended then none
    else if i = 0 then (if begins then some LaneId.a else none)
    else if s.field.roundAt = some (k - i) ∧ i ≤ 2 then LaneId.ofNum i else none
  let round := if s.testSuspended then none else if i = 0 then (if begins then some k else none)
    else if i ≤ 2 then s.field.roundAt else none
  let chan := if begins then s.field.chan.map (fun p => (p.1, { p.2 with skip := none })) else s.field.chan
  { s with field := { s.field with step := step, roundAt := round, chan := chan } }

/-- Off-pulses due in cycle k, or still deferred (07 R211, R212). -/
def planPulse (s : State) (c : Container) (k ch : Nat) : State :=
  let n := periodCycles c (1000000000 * s.field.effPeriod)
  let due := bitOf s.field.effMask ch && decide (k % n = (ch * (n / 16)) % n)
  let waiting := (s.chan ch).due.isSome
  if (due || waiting) && s.pulseFit ch then s.modChan ch (fun x => { x with due := some (x.due.getD k) })
  else if waiting then s.modChan ch (fun x => { x with due := none }) else s

/-- The values of 5105 to 5108 with which a device enters RUN: the container's, or those restored (07 R211, Table 07-7). -/
def startTests (s : State) : State :=
  { s with field := { s.field with
      step := none, roundAt := none, spanTo := 0, effTest := s.vget 0x5108 0, effPeriod := s.vget 0x5106 0, effWidth := s.vget 0x5107 0
      effMask := (List.range 16).foldl (fun m ch => setBit m ch (s.vget 0x5105 (ch + 1) != 0)) 0 } }

end Sys2Proof.Machine
end

