-- ==== Sys2Proof/Machine/Float.lean ====
section
/-! DEFINITION. IEEE 754 binary32 and binary64 on bit patterns: round to nearest, ties to even, subnormals in full
(05 R147 to R150, 08 R230). -/

namespace Sys2Proof.Machine

open Sys2Proof

/-- A binary format: exponent bits and fraction bits. -/
structure FFmt where
  eb : Nat
  mb : Nat
  deriving DecidableEq, Repr

/-- binary32. -/
def f32 : FFmt := ⟨8, 23⟩

/-- binary64. -/
def f64 : FFmt := ⟨11, 52⟩

/-- Exponent bias. -/
def FFmt.bias (f : FFmt) : Nat := 2 ^ (f.eb - 1) - 1

/-- Width of the format. -/
def FFmt.width (f : FFmt) : Nat := 1 + f.eb + f.mb

/-- Exponent of the least significant bit of a subnormal. -/
def FFmt.qmin (f : FFmt) : Int := 1 - (f.bias : Int) - f.mb

/-- A value: NaN, an infinity, or sign and magnitude m × 2^e. -/
inductive FVal where
  | nan
  | inf (neg : Bool)
  | fin (neg : Bool) (m : Nat) (e : Int)
  deriving DecidableEq, Repr

/-- Pattern of an infinity. -/
def FFmt.infBits (f : FFmt) (neg : Bool) : Nat := (if neg then 2 ^ (f.width - 1) else 0) + (2 ^ f.eb - 1) * 2 ^ f.mb

/-- Pattern of the canonical quiet NaN (05 R148). -/
def FFmt.nanBits (f : FFmt) : Nat := (2 ^ f.eb - 1) * 2 ^ f.mb + 2 ^ (f.mb - 1)

/-- Pattern of a zero. -/
def FFmt.zeroBits (f : FFmt) (neg : Bool) : Nat := if neg then 2 ^ (f.width - 1) else 0

/-- Value of a pattern. -/
def FFmt.decode (f : FFmt) (x : Nat) : FVal :=
  let neg := decide (x / 2 ^ (f.width - 1) % 2 = 1)
  let e := x / 2 ^ f.mb % 2 ^ f.eb
  let m := x % 2 ^ f.mb
  if e = 2 ^ f.eb - 1 then (if m = 0 then .inf neg else .nan)
  else if e = 0 then .fin neg m f.qmin
  else .fin neg (m + 2 ^ f.mb) (f.qmin + (e - 1 : Nat))

/-- m / 2^d rounded to nearest, ties to even. -/
def shiftRne (m d : Nat) : Nat :=
  let q := m / 2 ^ d
  let r := m % 2 ^ d
  if d = 0 then m
  else if r < 2 ^ (d - 1) then q
  else if 2 ^ (d - 1) < r then q + 1
  else q + q % 2

/-- Pattern nearest to ± m × 2^e, ties to even; an infinity beyond the largest finite value (05 R147, R148). -/
def FFmt.round (f : FFmt) (neg : Bool) (m : Nat) (e : Int) : Nat :=
  let s := if neg then 2 ^ (f.width - 1) else 0
  if m = 0 then s
  else
    let q := max (e + (Nat.log2 m : Int) - f.mb) f.qmin
    let m' := if q ≤ e then m * 2 ^ (e - q).toNat else shiftRne m (q - e).toNat
    let up := decide (m' = 2 ^ (f.mb + 1))
    let m' := if up then 2 ^ f.mb else m'
    let q := if up then q + 1 else q
    if m' < 2 ^ f.mb then s + m'
    else
      let ex := (q - f.qmin).toNat + 1
      if ex ≥ 2 ^ f.eb - 1 then s + (2 ^ f.eb - 1) * 2 ^ f.mb
      else s + ex * 2 ^ f.mb + (m' - 2 ^ f.mb)

/-- Pattern of a value in a format. -/
def FFmt.encode (f : FFmt) : FVal → Nat
  | .nan => f.nanBits
  | .inf s => f.infBits s
  | .fin s m e => f.round s m e

/-- A result with the fault it raises: 0 none, 4 invalid, 5 infinite from finite operands (05 R148). -/
structure FRes where
  bits  : Nat
  fault : Nat
  deriving DecidableEq, Repr

/-- NaN with fault 4. -/
def FFmt.invalid (f : FFmt) : FRes := ⟨f.nanBits, 4⟩

/-- Whether a pattern is an infinity. -/
def FFmt.isInf (f : FFmt) (x : Nat) : Bool := decide (x % 2 ^ (f.width - 1) = (2 ^ f.eb - 1) * 2 ^ f.mb)

/-- Whether a pattern is a NaN. -/
def FFmt.isNan (f : FFmt) (x : Nat) : Bool := decide ((2 ^ f.eb - 1) * 2 ^ f.mb < x % 2 ^ (f.width - 1))

/-- A rounded finite result, fault 5 when it became infinite. -/
def FFmt.fromFin (f : FFmt) (neg : Bool) (m : Nat) (e : Int) : FRes :=
  let b := f.round neg m e
  ⟨b, if f.isInf b then 5 else 0⟩

/-- Signed magnitude as an integer, at the exponent `e0` not above `e`. -/
def alignTo (neg : Bool) (m : Nat) (e e0 : Int) : Int :=
  let v : Int := (m * 2 ^ (e - e0).toNat : Nat)
  if neg then -v else v

/-- D + S. The sum of exactly zero is +0 unless both operands are −0. -/
def FFmt.add (f : FFmt) (x y : Nat) : FRes :=
  match f.decode x, f.decode y with
  | .nan, _ => f.invalid
  | _, .nan => f.invalid
  | .inf a, .inf b => if a = b then ⟨f.infBits a, 0⟩ else f.invalid
  | .inf a, .fin _ _ _ => ⟨f.infBits a, 0⟩
  | .fin _ _ _, .inf b => ⟨f.infBits b, 0⟩
  | .fin a m e, .fin b n g =>
    let e0 := min e g
    let v := alignTo a m e e0 + alignTo b n g e0
    if v = 0 then ⟨f.zeroBits (a && b), 0⟩ else f.fromFin (decide (v < 0)) v.natAbs e0

/-- −S: only the sign bit changes (05 R148). -/
def FFmt.neg (f : FFmt) (x : Nat) : Nat :=
  let s := 2 ^ (f.width - 1)
  if x / s % 2 = 1 then x % s else x % s + s

/-- |S|. -/
def FFmt.abs (f : FFmt) (x : Nat) : Nat := x % 2 ^ (f.width - 1)

/-- D − S. -/
def FFmt.sub (f : FFmt) (x y : Nat) : FRes := f.add x (if f.isNan y then y else f.neg y)

/-- D × S. -/
def FFmt.mul (f : FFmt) (x y : Nat) : FRes :=
  match f.decode x, f.decode y with
  | .nan, _ => f.invalid
  | _, .nan => f.invalid
  | .inf a, .inf b => ⟨f.infBits (a != b), 0⟩
  | .inf a, .fin b n _ => if n = 0 then f.invalid else ⟨f.infBits (a != b), 0⟩
  | .fin a m _, .inf b => if m = 0 then f.invalid else ⟨f.infBits (a != b), 0⟩
  | .fin a m e, .fin b n g => f.fromFin (a != b) (m * n) (e + g)

/-- D / S. -/
def FFmt.div (f : FFmt) (x y : Nat) : FRes :=
  match f.decode x, f.decode y with
  | .nan, _ => f.invalid
  | _, .nan => f.invalid
  | .inf _, .inf _ => f.invalid
  | .inf a, .fin b _ _ => ⟨f.infBits (a != b), 0⟩
  | .fin a _ _, .inf b => ⟨f.zeroBits (a != b), 0⟩
  | .fin a m e, .fin b n g =>
    if n = 0 then (if m = 0 then f.invalid else ⟨f.infBits (a != b), 5⟩)
    else if m = 0 then ⟨f.zeroBits (a != b), 0⟩
    else
      let k := f.mb + 3 + Nat.log2 n
      let q := m * 2 ^ k / n
      let sticky := if m * 2 ^ k % n = 0 then 0 else 1
      f.fromFin (a != b) (2 * q + sticky) (e - g - k - 1)

/-- Integer square root by bits, from bit `i` down. -/
def isqrtBits (v : Nat) : Nat → Nat → Nat
  | 0, r => if (r + 1) * (r + 1) ≤ v then r + 1 else r
  | i + 1, r =>
    let c := r + 2 ^ (i + 1)
    isqrtBits v i (if c * c ≤ v then c else r)

/-- ⌊√v⌋. -/
def isqrt (v : Nat) : Nat := isqrtBits v (Nat.log2 v / 2 + 1) 0

/-- √S; √(−0) = −0, a value below −0 is invalid. -/
def FFmt.sqrt (f : FFmt) (x : Nat) : FRes :=
  match f.decode x with
  | .nan => f.invalid
  | .inf a => if a then f.invalid else ⟨f.infBits false, 0⟩
  | .fin a m e =>
    if m = 0 then ⟨f.zeroBits a, 0⟩
    else if a then f.invalid
    else
      let k := 2 * f.mb + 6
      let k := if (e - k) % 2 = 0 then k else k + 1
      let v := m * 2 ^ k
      let r := isqrt v
      let sticky := if r * r = v then 0 else 1
      f.fromFin false (2 * r + sticky) ((e - k) / 2 - 1)

/-- Total order key of a number that is no NaN: −0 lies below +0. -/
def FFmt.key (f : FFmt) (x : Nat) : Int :=
  let s := 2 ^ (f.width - 1)
  if x / s % 2 = 1 then -((x % s : Nat) : Int) - 1 else (x % s : Nat)

/-- The smaller; MIN(−0, +0) = −0 (05 Table 05-6). -/
def FFmt.min (f : FFmt) (x y : Nat) : FRes :=
  if f.isNan x || f.isNan y then f.invalid else if f.key x ≤ f.key y then ⟨x, 0⟩ else ⟨y, 0⟩

/-- The larger; MAX(−0, +0) = +0 (05 Table 05-6). -/
def FFmt.max (f : FFmt) (x y : Nat) : FRes :=
  if f.isNan x || f.isNan y then f.invalid else if f.key x ≤ f.key y then ⟨y, 0⟩ else ⟨x, 0⟩

/-- IEEE 754 order of two numbers: none when one is a NaN (05 R149). -/
def FFmt.cmp (f : FFmt) (x y : Nat) : Option Ordering :=
  if f.isNan x || f.isNan y then none
  else
    let z := fun v => if v % 2 ^ (f.width - 1) = 0 then (0 : Int) else f.key v
    some (compare (z x) (z y))

/-- An integer in the format, rounded to nearest even; never faults for 64-bit integers (05 Table 05-7). -/
def FFmt.ofInt (f : FFmt) (i : Int) : Nat := if i = 0 then 0 else f.round (decide (i < 0)) i.natAbs 0

/-- A finite value rounded to an integer, to nearest even or toward zero. -/
def toIntOf (rne : Bool) (neg : Bool) (m : Nat) (e : Int) : Int :=
  let v := if 0 ≤ e then m * 2 ^ e.toNat else if rne then shiftRne m (-e).toNat else m / 2 ^ (-e).toNat
  if neg then -(v : Int) else v

/-- A number as an integer within [lo, hi]: saturated, or 0 for a NaN, with fault 3 (05 R150). -/
def FFmt.toInt (f : FFmt) (rne : Bool) (lo hi : Int) (x : Nat) : Int × Nat :=
  match f.decode x with
  | .nan => (0, 3)
  | .inf neg => (if neg then lo else hi, 3)
  | .fin neg m e =>
    let v := toIntOf rne neg m e
    if v < lo then (lo, 3) else if hi < v then (hi, 3) else (v, 0)

/-- A number moved from one format to another, rounded to nearest even; NaN gives the canonical NaN and fault 4, an infinite
result from a finite operand fault 5 (05 R148, R150). -/
def FFmt.convert (src dst : FFmt) (x : Nat) : FRes :=
  match src.decode x with
  | .nan => dst.invalid
  | .inf s => ⟨dst.infBits s, 0⟩
  | .fin s m e => dst.fromFin s m e

end Sys2Proof.Machine
end

