-- ==== Sys2Proof/Machine/Measure.lean ====
section
/-! DEFINITION. Sampled fields, analog conversions and supply-system recognition (chapter 08; 01 R14, 07 R196, R203). -/

namespace Sys2Proof.Machine

open Sys2Proof

/-! ## Codes (08 R220, R221) -/

/-- num / den to the nearest integer, halves away from zero (08 R220). -/
def roundAway (num : Int) (den : Nat) : Int :=
  let q := (2 * num.natAbs + den) / (2 * Nat.max 1 den)
  if num < 0 then -(q : Int) else q

/-- A code saturated to 16 bits. -/
def satCode (v : Int) : Int := clampInt (-32768) 32767 v

/-- Code of a general input: 3 200 per V of a value in µV in mode 1, 1 600 per mA of a value in nA in modes 2 and 3, 0 in
mode 0 (08 R220). -/
def aiCode (mode : Nat) (v : Int) : Int :=
  if mode = 0 then 0 else if mode = 1 then satCode (roundAway (2 * v) 625) else satCode (roundAway v 625)

/-- Code of a line-analog input from a value in µV. -/
def laCode (v : Int) : Int := satCode (roundAway (2 * v) 625)

/-- Whether a code is over-range (08 R221). -/
def overRange (code : Int) : Bool := decide (code.natAbs ≥ 32640)

/-- Status of a general input path (08 R221): while the shunt protection of a current mode is open, bit 2 alone. -/
def aiStatus (operating shunt : Bool) (mode : Nat) (code : Int) : Nat :=
  if !operating then 8
  else if shunt && decide (2 ≤ mode) then 4
  else (if mode = 3 ∧ code < 5760 then 1 else 0) + (if overRange code then 2 else 0)

/-- Status of a line-analog path (08 R221). -/
def laStatus (operating : Bool) (code : Int) : Nat :=
  if !operating then 8 else if overRange code then 2 else 0

/-! ## Sampled values (01 R14, 07 Table 07-1, 08 Table 08-2) -/

/-- Value of a recognition field: 0 class to 8 flags (08 Table 08-3). -/
def RecogResult.field (r : RecogResult) : Nat → Nat
  | 0 => r.cls
  | 1 => wrapTo 16 r.conf
  | 2 => wrapTo 16 r.uMean
  | 3 => wrapTo 16 r.uRms
  | 4 => wrapTo 16 r.uAc
  | 5 => wrapTo 16 r.freq
  | 6 => wrapTo 16 r.iMean
  | 7 => wrapTo 16 r.iRms
  | _ => r.flags

/-- Mode of a general input as a lane holds it (08 R219). -/
def State.aiMode (s : State) (l : LaneId) (n : Nat) : Nat := (s.lane l).rget 0x5200 (n + 1)

/-- Code of a general input in one lane as it was converted last; 0 in mode 0 (08 R220). -/
def State.aiCodeOf (s : State) (l : LaneId) (n : Nat) : Int := if s.aiMode l n = 0 then 0 else Store.get (s.sec l).ai 0 n

/-- What a lane samples for a field; a class of a digital input counts as the filtered class of its path. Table 08-2 has no row for the
recognition flags while the field die does not operate: 0 is entered (DESIGN CHOICE, log 87). -/
def sampleOf (s : State) (l : LaneId) (src : FieldSrc) : Nat :=
  let x := s.sec l
  let op := s.field.operating
  match src with
  | .diState n => if op ∧ (x.path n).filt = .on then 1 else 0
  | .diWire n => if op ∧ (x.path n).filt = .wire then 1 else 0
  | .diIndet n => if op then (if (x.path n).filt = .indet then 1 else 0) else 1
  | .diCount n => if op then s.laneCount l n else (x.path n).shown
  | .doStatus n => s.doStatus l n
  | .doMap n => s.doMapOf l n
  | .fieldDie => s.fieldStatus l
  | .ai n => if op then wrapTo 16 (s.aiCodeOf l n) else 0
  | .aiStatus n => aiStatus op (Store.find? s.field.shunt n).isSome (s.aiMode l n) (s.aiCodeOf l n)
  | .la n => if op then wrapTo 16 (Store.get x.la 0 n) else 0
  | .laStatus n => laStatus op (Store.get x.la 0 n)
  | .conv n entry => if op && !(decide (n < 8) && decide (s.aiMode l n = 0)) then wrapTo 16 (Store.get x.conv 0 entry) else 0
  | .recog r => if op then (s.lane l).recog.shown.field r else RecogResult.none.field r

/-- The sampled vector's fields as bytes, in container order (03 Table 03-3). -/
def sampleBytes (s : State) (l : LaneId) (c : Container) : Bytes :=
  c.fields.flatMap (fun f => leBytes f.size (sampleOf s l f.src))

/-- Byte position of field `i` among the sampled fields. -/
def fieldPos (c : Container) (i : Nat) : Nat := (c.fields.take i).foldl (fun n f => n + f.size) 0

/-- Size F of the sampled fields. -/
def fieldsSize (c : Container) : Nat := c.fields.foldl (fun n f => n + f.size) 0

/-- Bytes put into a list at a position. -/
def putAt (bs : Bytes) (pos : Nat) (v : Bytes) : Bytes := bs.take pos ++ v ++ bs.drop (pos + v.length)

/-- Results that arrive after the sample instant are entered in the vector of that sample (08 R223, R224). -/
def refreshSample (s : State) (l : LaneId) (hits : FieldSrc → Bool) : State :=
  match s.config with
  | none => s
  | some c =>
    let go := fun (acc : Bytes × Nat) (f : Field) =>
      (if hits f.src then putAt acc.1 acc.2 (leBytes f.size (sampleOf s l f.src)) else acc.1, acc.2 + f.size)
    s.modLane l (fun ln => if ln.sampled.length = fieldsSize c then { ln with sampled := (c.fields.foldl go (ln.sampled, 0)).1 } else ln)

/-- S_k of the cycle that comes next, in a lane's time (01 Table 01-3, 02 R40). -/
def State.sampleAt (s : State) (l : LaneId) : Nat :=
  match s.config with
  | some c =>
    let t := Nat.max 1 c.tBase
    dueAt (s.laneNow l) (((c.phi : Int) + c.sOff) % (t : Int)).toNat t (s.lane l).sampledAt
  | none => s.laneNow l

/-- Entries 5204 and 5322 of a lane: its own codes and its class at the last sample (08 Table 08-4). -/
def showCodes (s : State) (l : LaneId) : State :=
  s.modLane l (fun ln =>
    ((List.range 8).foldl (fun ln n => ln.rset 0x5204 (n + 1) (sampleOf s l (.ai n))) ln).rset 0x5322 1 (sampleOf s l (.recog 0)))

/-- Converters that the sample trigger starts: the general inputs that are in use and the line-analog inputs (01 R14, 08 R220). -/
def State.tiedStarts (s : State) (l : LaneId) : List Nat :=
  ((List.range 12).filter (fun n => decide (8 ≤ n) || decide (s.aiMode l n ≠ 0))).map (fun n => 1000 + n)

/-- Monitors of an output current take it at each S_k (14 Table 14-6, kind 8); the current of a channel is the load's: a free
value from 0 to 1 400 mA, the current limit. -/
def currentMonitor (s : State) (sel : Nat) : State :=
  if (List.range 64).any (fun n => decide (Store.get s.jreg 0 (regKey (0x7100 + n) 1) = 8) &&
      decide (Store.get s.jreg 0 (regKey (0x7100 + n) 2) = sel)) then
    monitorTake s.drew 8 sel ((s.freeVal % 1401 : Nat) : Int)
  else s

/-- A section takes its lane's sample trigger: it latches its counts and starts the conversions tied to it (01 R14). -/
def latchSection (s : State) (l : LaneId) : State :=
  s.modSec l (fun x => { x with
    di := if s.field.operating then x.di.map (fun p => (p.1, { p.2 with shown := s.laneCount l p.1 })) else x.di
    converting := s.tiedStarts l ++ x.converting.filter (fun n => decide (n ≥ 2000)) })

/-- A lane takes the fields that its section sampled. -/
def takeSampled (s : State) (l : LaneId) (bytes : Bytes) : State := showCodes (s.modLane l (fun ln => { ln with sampled := bytes })) l

/-- SAMPLE (01 R14, R15; 07 R191, R203): at S_k in the lane's own counter its section latches its inputs and statuses, the conversions
tied to the sample trigger start, event bits begin anew. A section whose channel stayed quiet is judged. -/
def sampleDue (s : State) (l : LaneId) : State :=
  match s.config with
  | none => s
  | some c =>
    if s.runs l then
      let t := s.sampleAt l
      if s.badAt 2 t then cutFault s
      else
      let s := advanceTo s (s.laneAt l t)
      let s := s.modLane l (fun ln => { ln with sampledAt := some t })
      let s := judgeQuiet s l
      let s := toField s l .sample (fun s => latchSection s l)
      let bytes := sampleBytes s l c
      let s := fromField s l (entriesOf 5 bytes.length) (.sampled bytes) (fun s => takeSampled s l bytes)
      let s := { s with field := { s.field with
        chan := s.field.chan.map (fun p => (p.1, p.2.modSec l (fun x => { x with events := 0 }))) } }
      (List.range 16).foldl (fun s ch => currentMonitor s (ch + 16 * l.num)) s
    else s

/-- SAMPLE, once at its instant (02 R39). -/
def sample (s : State) (l : LaneId) : State := once s (.sample l) (fun s => sampleDue s l)

/-- Whether a lane's converters work (01 R9, 03 R67). -/
def State.converts (s : State) (l : LaneId) : Bool := s.field.operating && (s.sec l).alive && !(s.lane l).hold

/-- A section marks the conversion of a converter-start entry (08 R223). -/
def markConversion (s : State) (l : LaneId) (entry : Nat) : State :=
  s.modSec l (fun x => { x with converting := addAsc (2000 + entry) x.converting })

/-- A converter-start entry of the cutting list fires in a lane's counter and marks its conversion (08 R223). -/
def converterDue (s : State) (l : LaneId) (entry : Nat) : State :=
  if s.converts l then
    atLaneEntry s l entry (fun s e =>
      if CutEntry.tgt e < 8 ∧ s.aiMode l (CutEntry.tgt e) = 0 then s
      else toField s l (.convert entry) (fun s => markConversion s l entry))
  else s

/-- CONVERTER_START (08 R223), once at its instant (02 R39). -/
def converterStart (s : State) (l : LaneId) (entry : Nat) : State := once s (.conv l entry) (fun s => converterDue s l entry)

/-- A lane takes the result of a general input into the vector of its last sample (08 R223). -/
def takeInput (s : State) (l : LaneId) (n : Nat) : State :=
  showCodes (refreshSample s l (fun src => decide (src = .ai n) || decide (src = .aiStatus n))) l

/-- A lane takes the result of a converter-start entry (08 R223). -/
def takeEntry (s : State) (l : LaneId) (e : Nat) (code : Int) : State := s.modSec l (fun x => { x with conv := Store.put x.conv 0 e code })

/-- CONVERSION_RESULT (08 R220, R223): of the sample trigger (no entry) or of a converter-start entry. The value is in µV in
mode 1 and in nA in the current modes. -/
def conversionResult (s : State) (l : LaneId) (n : Nat) (entry : Option Nat) (v : Int) : State :=
  if s.converts l then
    let shunt := (Store.find? s.field.shunt n).isSome && decide (2 ≤ s.aiMode l n)
    let code := if shunt then 0 else aiCode (s.aiMode l n) v
    match entry with
    | none =>
      if (s.sec l).converting.contains (1000 + n) then
        let s := s.modSec l (fun x => { x with ai := Store.put x.ai 0 n code, converting := x.converting.filter (fun m => decide (m ≠ 1000 + n)) })
        fromField s l 1 (.input n) (fun s => takeInput s l n)
      else s
    | some e =>
      if (s.sec l).converting.contains (2000 + e) ∧ (s.cut e).any (fun x => decide (CutEntry.tgt x = n)) then
        let s := s.modSec l (fun x => { x with converting := x.converting.filter (fun m => decide (m ≠ 2000 + e)) })
        fromField s l 1 (.entry e code) (fun s => takeEntry s l e code)
      else s
  else s

/-- SHUNT_PROTECTION_OPEN (08 R222): above 25 mA for 10 µs in a current mode; each path delivers code 0. -/
def shuntOpen (s : State) (n uA : Nat) : State :=
  if uA > 25000 ∧ s.field.operating ∧ 2 ≤ s.vget 0x5200 (n + 1) then
    let s := { s with field := { s.field with shunt := Store.insert s.field.shunt n s.time.now } }
    LaneId.all.foldl (fun s l => s.modSec l (fun x => { x with ai := Store.put x.ai 0 n 0 })) s
  else s

/-- SHUNT_PROTECTION_RECLOSE (08 R222): 1 s after it opened. -/
def shuntReclose (s : State) (n : Nat) : State :=
  match Store.find? s.field.shunt n with
  | none => s
  | some t =>
    let s := advanceTo s (t + 1000000000)
    { s with field := { s.field with shunt := Store.erase s.field.shunt n } }

/-! ## Supply-system recognition (08 R228 to R236) -/

/-- Cutting-list target of a line-analog entry (09 Table 09-2). -/
def entryTarget (c : Container) (e : Nat) : Nat := ((c.cut.getD e ⟨0, 0, 0, 0⟩).w1 / 16) % 4096

/-- binary32 of an integer. -/
def r32 (i : Int) : Nat := f32.ofInt i

/-- binary32 quotient. -/
def rdiv (x y : Nat) : Nat := (f32.div x y).bits

/-- binary32 product. -/
def rmul (x y : Nat) : Nat := (f32.mul x y).bits

/-- binary32 sum. -/
def radd (x y : Nat) : Nat := (f32.add x y).bits

/-- binary32 difference. -/
def rsub (x y : Nat) : Nat := (f32.sub x y).bits

/-- Average of a block of 40 conversions in line units: code / 3 200 × gain + offset (08 R228). The manual states a number format for R230
only; here too each operation is one of binary32 with its rounding (DESIGN CHOICE, log 87). -/
def blockValue (codes : List Int) (gain offset : Nat) : Nat :=
  radd (rmul (rdiv (rdiv (r32 (codes.foldl (fun a b => a + b) 0)) (r32 40)) (r32 3200)) gain) offset

/-- The block boundary at lane time `t` (08 R228): the blocks become one sample; a block of other than 40 conversions is an
interruption. 300 ms are kept. -/
def Lane.closeBlock (ln : Lane) (t : Nat) : Lane :=
  let r := ln.recog
  let un := ln.rget 0x5310 1
  let cn := ln.rget 0x5310 2
  let iOk := decide (cn = 255) || decide (r.iBlock.length = 40)
  if r.uBlock.length = 40 ∧ iOk then
    let d : Decim := { t := t
                       u := blockValue r.uBlock (ln.rget 0x5300 (un + 1)) (ln.rget 0x5301 (un + 1))
                       i := if cn = 255 then 0 else blockValue r.iBlock (ln.rget 0x5300 (cn + 1)) (ln.rget 0x5301 (cn + 1))
                       clip := r.uBlock.any overRange || (decide (cn ≠ 255) && r.iBlock.any overRange) }
    { ln with recog := { r with uBlock := [], iBlock := [], window := (d :: r.window).take 15000, blockAt := some t } }
  else { ln with recog := { r with uBlock := [], iBlock := [], window := [], blockAt := some t } }

/-- The boundary of a lane's blocks that falls at its present lane time, unless it is behind the lane (08 R228): the conversion of that
instant belongs to the next block. -/
def boundaryBefore (s : State) (l : LaneId) (t : Nat) : State :=
  if t % 20000 = 0 ∧ (s.lane l).recog.blockAt ≠ some t then
    markEarly (s.modLane l (fun ln => ln.closeBlock t)) (.block l)
  else s

/-- Next instant of a line-analog converter's grid in lane time, after its last conversion (08 R224). -/
def State.laGrid (s : State) (l : LaneId) (n : Nat) : Nat :=
  gridFrom (Nat.max (s.laneNow l) ((Store.find? (s.sec l).laAt n).elim 0 (fun t => t + 1))) 0 500

/-- A lane takes a line-analog conversion: the sample and the entries that asked for it, and the blocks of the recognition unit's named inputs. -/
def takeLine (s : State) (l : LaneId) (n : Nat) (code : Int) (primary : Bool) (entries : List Nat) : State :=
  let s := s.modSec l (fun x =>
    { x with la := if primary then Store.put x.la 0 n code else x.la
             conv := entries.foldl (fun m e => Store.put m 0 (e - 2000) code) x.conv })
  let s := if primary then refreshSample s l (fun src => decide (src = .la n) || decide (src = .laStatus n)) else s
  let ln := s.lane l
  let u := ln.rget 0x5310 1 = n
  let i := ln.rget 0x5310 2 = n
  s.modLane l (fun ln => { ln with recog := { ln.recog with
    uBlock := if u then code :: ln.recog.uBlock else ln.recog.uBlock
    iBlock := if i then code :: ln.recog.iBlock else ln.recog.iBlock } })

/-- LA_CONVERSION (08 R220, R224, R228): the conversion sampled at the next instant of the grid of the lane's time; triggers waiting for
the input take it, and it joins the block of the recognition unit's named inputs. -/
def laConversion (s : State) (l : LaneId) (n : Nat) (uV : Int) : State :=
  if s.converts l then
    let t := s.laGrid l n
    let s := advanceTo s (s.laneAt l t)
    let s := boundaryBefore (s.modSec l (fun x => { x with laAt := Store.insert x.laAt n t })) l t
    let code := laCode uV
    let marks := (s.sec l).converting
    let isMine := fun e => match s.config with
      | some c => decide (entryTarget c e = 8 + n)
      | none => false
    let entries := (marks.filter (fun m => decide (m ≥ 2000))).filter (fun m => isMine (m - 2000))
    let primary := marks.contains (1008 + n)
    let s := s.modSec l (fun x =>
      { x with laConv := Store.put x.laConv 0 n code
               converting := x.converting.filter (fun m => !entries.contains m && decide (m ≠ 1008 + n)) })
    fromField s l 1 (.line n code primary entries) (fun s => takeLine s l n code primary entries)
  else s

/-- x ≤ y in binary32; false with a NaN. -/
def rle (x y : Nat) : Bool :=
  match f32.cmp x y with
  | some .gt => false
  | some _ => true
  | none => false

/-- x < y in binary32. -/
def rlt (x y : Nat) : Bool := decide (f32.cmp x y = some .lt)

/-- DECIMATED_SAMPLE (08 R228): the boundary of a lane's blocks at the next lane time with N mod 20 000 = 0, once. -/
def decimatedSample (s : State) (l : LaneId) : State :=
  if s.converts l then
    once s (.block l) (fun s =>
      let t := dueAt (s.laneNow l) 0 20000 (s.lane l).recog.blockAt
      (advanceTo s (s.laneAt l t)).modLane l (fun ln => ln.closeBlock t))
  else s

/-- Window of a definition in µs (08 R229): 8 ms for DC, three periods of the band's centre for AC, in steps of 20 µs. -/
def windowUs (kind fLo fHi : Nat) : Nat :=
  if kind = 2 then ceilDiv (ceilDiv (600000000) (Nat.max 1 (fLo + fHi))) 20 * 20 else 8000

/-- Measurements of a window (08 R230). -/
structure WinMeas where
  m  : Nat
  q  : Nat
  ac : Nat
  f  : Nat
  im : Nat
  ir : Nat
  deriving DecidableEq, Repr

/-- State of the crossing search of R230: s, zero time, previous y, crossing times (newest first). -/
structure CrossSt where
  s  : Int
  z  : Nat
  yp : Nat
  first : Bool
  tc : List Nat
  deriving DecidableEq, Repr

/-- One sample of the crossing search; times are binary32 seconds after the first sample. -/
def crossStep (m h : Nat) (st : CrossSt) (tPrev u : Nat) : CrossSt :=
  let y := rsub u m
  let step := rdiv (r32 20) (r32 1000000)
  let z := if !st.first && (rle 0 y != rle 0 st.yp) then radd tPrev (rdiv (rmul step st.yp) (rsub st.yp y)) else st.z
  let tc := if rle h y then (if st.s = -1 then z :: st.tc else st.tc)
    else if rle y (f32.neg h) then (if st.s = 1 then z :: st.tc else st.tc) else st.tc
  let s := if rle h y then 1 else if rle y (f32.neg h) then -1 else st.s
  { s := s, z := z, yp := y, first := false, tc := tc }

/-- The crossing search over samples in time order. -/
def crossings (m h : Nat) : List Nat → Nat → CrossSt → CrossSt
  | [], _, st => st
  | u :: us, j, st =>
    crossings m h us (j + 1) (crossStep m h st (rdiv (r32 (20 * ((j : Int) - 1))) (r32 1000000)) u)

/-- Measurements of the samples of a window, in time order (08 R230). Frequencies are in Hz. Over a window that is not filled yet, for which the
manual states no n, n is the number of samples held; with none the quotients are no numbers, and what is published of them is 0 (DESIGN
CHOICE, log 87). -/
def measure (win : List Decim) (uDead : Nat) : WinMeas :=
  let n := r32 win.length
  let us := win.map (fun d => d.u)
  let is := win.map (fun d => d.i)
  let sum := fun (xs : List Nat) => xs.foldl radd 0
  let m := rdiv (sum us) n
  let q := rdiv (sum (us.map (fun u => rmul u u))) n
  let v := rsub q (rmul m m)
  let ac := (f32.sqrt (if rle 0 v then v else 0)).bits
  let mx := fun x y => if rle x y then y else x
  let h := mx (mx (rdiv ac (r32 4)) (rdiv (f32.abs m) (r32 8))) (rdiv (r32 uDead) (r32 50))
  let st := crossings m h us 0 { s := 0, z := 0, yp := 0, first := true, tc := [] }
  let c := st.tc.length
  let f := if 3 ≤ c then rdiv (r32 ((c : Int) - 1)) (rmul (r32 2) (rsub (st.tc.headD 0) (st.tc.getLastD 0))) else 0
  { m := m, q := q, ac := ac, f := f, im := rdiv (sum is) n
    ir := (f32.sqrt (rdiv (sum (is.map (fun i => rmul i i))) n)).bits }

/-- Definition `d` of a lane: kind, U_lo, U_hi, f_lo, f_hi (08 R229). -/
def defOf (ln : Lane) (d : Nat) : Nat × Nat × Nat × Nat × Nat :=
  (ln.rget (0x5310 + d) 1, ln.rget (0x5310 + d) 2, ln.rget (0x5310 + d) 3, ln.rget (0x5310 + d) 4, ln.rget (0x5310 + d) 5)

/-- Whether x lies within [lo, hi]. -/
def within (x lo hi : Nat) : Bool := rle lo x && rle x hi

/-- Nearest integer of a binary32 number, saturated to 16 bits (08 R232); a number halfway between two goes to the even one, on which the
manual is silent (DESIGN CHOICE, log 87). -/
def round16 (x : Nat) : Int := (f32.toInt true (-32768) 32767 x).1

/-- Confidence part of a band: 1 − |x − centre| / half-width (08 R232). -/
def confPart (x lo hi : Nat) : Nat :=
  let c := rdiv (r32 (lo + hi)) (r32 2)
  let h := rdiv (r32 ((hi : Int) - lo)) (r32 2)
  rsub (r32 1) (rdiv (f32.abs (rsub x c)) h)

/-- Samples of the last `us` µs, in time order. -/
def windowOf (r : Recog) (us : Nat) : List Decim := (r.window.take (us / 20)).reverse

/-- Windows in use in µs: the survey window and those of the definitions in use. -/
def windowsInUse (ln : Lane) : List Nat :=
  8000 :: ((List.range 8).filterMap (fun i =>
    let d := defOf ln (i + 1)
    if d.1 = 0 then none else some (windowUs d.1 d.2.2.2.1 d.2.2.2.2)))

/-- One evaluation of a lane's recognition unit (08 R230 to R232). -/
def evaluate (ln : Lane) : Recog :=
  let r := ln.recog
  let uDead := ln.rget 0x5310 3
  let wins := windowsInUse ln
  let longest := wins.foldl Nat.max 0
  let full := decide (longest / 20 ≤ r.window.length)
  let meas := fun us => measure (windowOf r us) uDead
  let m0 := meas 8000
  let hz100 := fun f => rmul f (r32 100)
  let fits := fun d =>
    let e := defOf ln d
    let w := meas (windowUs e.1 e.2.2.2.1 e.2.2.2.2)
    decide (e.1 ≠ 0) && within (if e.1 = 1 then w.m else w.ac) (r32 e.2.1) (r32 e.2.2.1) &&
      within (hz100 w.f) (r32 e.2.2.2.1) (r32 e.2.2.2.2)
  let matched := ((List.range 8).map (fun i => i + 1)).filter fits
  let mx := if rle (f32.abs m0.m) m0.ac then m0.ac else f32.abs m0.m
  let raw := if !full then 255 else if rlt mx (r32 uDead) then 0 else matched.headD 14
  let cls := if raw = r.rawPrev then raw else r.cls
  let acWins := (List.range 8).filterMap (fun i =>
    let d := defOf ln (i + 1)
    if d.1 = 2 then some (windowUs 2 d.2.2.2.1 d.2.2.2.2) else none)
  let win := if 1 ≤ cls ∧ cls ≤ 8 then (let e := defOf ln cls; windowUs e.1 e.2.2.2.1 e.2.2.2.2)
    else if acWins.isEmpty then 8000 else acWins.foldl Nat.max 0
  let w := meas win
  let conf := if 1 ≤ cls ∧ cls ≤ 8 then
      let e := defOf ln cls
      let cu := confPart (if e.1 = 1 then w.m else w.ac) e.2.1 e.2.2.1
      let cf := if e.1 = 1 then r32 1 else confPart (hz100 w.f) e.2.2.2.1 e.2.2.2.2
      round16 (rmul (r32 1000) (if rle cu cf then cu else cf))
    else 0
  let many := full && !rlt mx (r32 uDead) && decide (2 ≤ matched.length)
  { r with
    rawPrev := raw, cls := cls
    waiting := { cls := cls, conf := conf, uMean := round16 w.m, uRms := round16 (f32.sqrt w.q).bits, uAc := round16 w.ac,
                 freq := round16 (hz100 w.f), iMean := round16 w.im, iRms := round16 w.ir,
                 flags := (if many then 1 else 0) + (if full then 2 else 0) +
                   (if (r.window.take (longest / 20)).any (fun d => d.clip) then 4 else 0) } }

/-- RECOGNITION_EVALUATION (08 R230, R231): at the next lane time with N mod 4 000 000 = 0. -/
def recognitionEvaluation (s : State) (l : LaneId) : State :=
  if s.converts l then
    let t := dueAt (s.laneNow l) 0 4000000 (s.lane l).recog.evalAt
    (advanceTo s (s.laneAt l t)).modLane l (fun ln => { ln with recog := { evaluate ln with evalAt := some t } })
  else s

/-- RECOGNITION_PUBLICATION (08 R232): 1 ms after the evaluation its results are published in the lane. -/
def recognitionPublication (s : State) (l : LaneId) : State :=
  if s.converts l then
    let t := dueAt (s.laneNow l) 1000000 4000000 (s.lane l).recog.pubAt
    (advanceTo s (s.laneAt l t)).modLane l (fun ln => { ln with recog := { ln.recog with shown := ln.recog.waiting, pubAt := some t } })
  else s

end Sys2Proof.Machine
end

