-- ==== Sys2Proof/Machine/Setup.lean ====
section
/-! DEFINITION. A container brought into a lane: parameters in their registers, initial values, code, cross-engine copies,
process image windows, forces on their targets, and the carry-over of an on-line change (04 R106, R123, R132, 06 R175 to R185,
17 R440). -/

namespace Sys2Proof.Machine

open Sys2Proof

/-! ## Places -/

/-- Area of a symbol. -/
def symArea (y : Symbol) : Area := Area.ofCode y.area

/-- Physical offset of a symbol in its area. -/
def symOfs (c : Container) (y : Symbol) : Nat := if y.area = 5 then localOfs y.slot (isSplit c y.slot) y.ofs else y.ofs

/-- Working copy of a symbol's bytes; a Boolean symbol keeps its bit places. -/
def Lane.symBytes (ln : Lane) (c : Container) (y : Symbol) : Bytes := ln.load (symArea y) (y.slot / 2) (symOfs c y) y.size

/-- Whether bit `n` of the bytes of a Boolean symbol is one of its elements. -/
def symBit (y : Symbol) (n : Nat) : Bool := decide (y.bit ≤ n) && decide (n < y.bit + y.elems)

/-- Bytes merged bit by bit: the bits that `take` names come from `new`, the others from `old`. -/
def mergeBits (take : Nat → Bool) : Nat → Bytes → Bytes → Bytes
  | _, [], _ => []
  | i, o :: os, ns =>
    let n := ns.headD 0
    let b := (List.range 8).foldl (fun v j => setBit v j (if take (8 * i + j) then bitOf n.toNat j else bitOf o.toNat j)) 0
    BitVec.ofNat 8 b :: mergeBits take (i + 1) os (ns.drop 1)

/-- Write of a symbol's bytes to its working copy; beside a Boolean symbol the other bits keep their values (04 R105). -/
def Lane.putSym (ln : Lane) (c : Container) (y : Symbol) (bs : Bytes) : Lane :=
  let bs := if y.bool then mergeBits (symBit y) 0 (ln.symBytes c y) bs else bs
  ln.store (symArea y) (y.slot / 2) (symOfs c y) bs

/-- Initial bytes of a symbol: declared, or 0 (04 R106). An edge memory takes the pair (prev, valid) of its level: valid is 1
at a container load under V2 Serzel semantics, else 0 (05 R141, Table 05-11). -/
def symInit (v2 : Bool) (y : Symbol) : Bytes :=
  match y.kind with
  | .edge =>
    let pairs := (List.range y.elems).foldl (fun n i => if i % 2 = 1 ∧ v2 then setBit n (y.bit + i) true else n) 0
    leBytes y.size pairs
  | _ => padTo y.size y.init

/-! ## Registers of a lane -/

/-- Tasks that a lane holds: the voted ones and its own (04 R478). -/
def tasksOf (c : Container) (l : LaneId) : List Task :=
  c.tasks.filter (fun t => decide (t.scope = 0) || decide (t.scope = l.num + 1))

/-- Index of the entries of an ECN port's telegram contexts, from 4110 or 4140 (11 Table 11-8). -/
def telBase (port : Nat) : Nat := if port = 0 then 0x4110 else 0x4140

/-- Code bands that a container declares for its count fields: 5004 shows them (07 R197). -/
def bandParams (c : Container) : List (Nat × Nat) :=
  c.fields.filterMap (fun f => match f.src with
    | .diCount n => some (regKey 0x5004 (n + 1), f.band)
    | _ => none)

/-- The values that a container gives to registers of classes V and L in a lane (04 R132, 07 R197, 09 R267, 11 R308). -/
def laneParams (c : Container) (l : LaneId) : List (Nat × Nat) :=
  (c.params.filter (fun p => match entry? (p.1 / 256) (p.1 % 256) with
    | some e => decide (e.cls ≠ .j)
    | none => false)) ++ bandParams c ++
  (tasksOf c l).flatMap (fun t => match t.kind with
    | .cyclic m p => [(regKey (0x3200 + t.ctx) 3, m), (regKey (0x3200 + t.ctx) 4, p)]
    | _ => []) ++
  c.stations.flatMap (fun x => [(regKey (0x5400 + x.no) 3, x.nDrop), (regKey (0x5400 + x.no) 4, x.nRec)]) ++
  (c.flows.filter (fun f => decide (f.role = 2))).flatMap (fun f =>
    [(regKey (0x4400 + f.id) 9, f.aMax), (regKey (0x4400 + f.id) 10, f.dMaxUs)]) ++
  (c.telegrams.filter (fun t => decide (t.role = 2))).map (fun t => (regKey (telBase t.port + 10) t.ctx, t.aMax))

/-- The values that a container gives to registers of class J. -/
def moduleParams (c : Container) : List (Nat × Nat) :=
  c.params.filter (fun p => match entry? (p.1 / 256) (p.1 % 256) with
    | some e => decide (e.cls = .j)
    | none => false)

/-- Write of a lane register by its key. -/
def Lane.putKey (ln : Lane) (p : Nat × Nat) : Lane := ln.rset (p.1 / 256) (p.1 % 256) p.2

/-- Code of a container in a lane's instruction stores: index to word (05 R133). -/
def codeOf (c : Container) (l : LaneId) : Store (Store Nat) :=
  (c.programs.filter (fun p => decide (p.lanes = 0) || decide (p.lanes = l.num + 1))).foldl (fun m p =>
    Store.insert m p.slot (p.words.zipIdx.map (fun w => (w.2, w.1.toNat)))) []

/-- Edge memory that a word names as an EDGR or EDGF: byte offset in S and bit of prev (05 R141). -/
def edgePlace (w : BitVec 32) : Option (Nat × Nat) :=
  let op := field w.toNat 26 6
  if op = 0x10 ∨ op = 0x11 then
    match decodeEdge { lane := .a, num := 0, half := false } op w.toNat with
    | some (.edgr _ o p) => some (o.val, 2 * p.val)
    | some (.edgf _ o p) => some (o.val, 2 * p.val)
    | _ => none
  else none

/-- Edge memories of a lane: those that its loaded code names, in a listed routine or outside (05 R141). -/
def edgesOf (c : Container) (l : LaneId) : List (Nat × Nat) :=
  (c.programs.filter (fun p => decide (p.lanes = 0) || decide (p.lanes = l.num + 1))).flatMap (fun p => p.words.filterMap edgePlace)

/-- An edge memory with prev 0; valid is 1 at a container load under V2 Serzel semantics, else 0 (05 Table 05-11). -/
def Lane.putEdge (ln : Lane) (v2 : Bool) (p : Nat × Nat) : Lane :=
  let b := ofLe (ln.load .s 0 p.1 1)
  ln.store .s 0 p.1 (leBytes 1 (setBit (setBit b p.2 false) (p.2 + 1) v2))

/-- Packed fields at their initial values (03 R77). -/
def initFields (c : Container) : Bytes := c.fields.flatMap (fun f => leBytes f.size f.init)

/-- Publication unit: working copies of the cross-engine variables copied to the published copies (04 R123). -/
def Lane.publish (ln : Lane) (c : Container) : Lane :=
  { ln with published := (c.symbols.filter (fun y => y.cross)).foldl (fun m y =>
      Store.put m [] y.area (Store.putBytes (Store.get m [] y.area) 0 (symOfs c y) (ln.symBytes c y))) ln.published }

/-- A lane's engines as the split pattern makes them, with nothing running (04 R101). -/
def enginesOf (c : Container) : Store Engine :=
  (List.range 32).filterMap (fun n => if n % 2 = 0 || isSplit c n then some (n, Engine.blank) else none)

/-- A lane loaded with a container at boot: code, engines and parameters; initial values in every area (04 R106). -/
def Lane.load0 (ln : Lane) (c : Container) (l : LaneId) (v2 : Bool) : Lane :=
  let ln := { ln with container := some c, istore := codeOf c l, engines := enginesOf c, pairs := [], i := [], q := [], m := [], d := [],
                      s := [], locals := [], published := [], iBase := [], image := initFields c, imagePrev := none,
                      newFields := [], ctxs := [], pubs := [], lastGood := [], diffs := [], reports := [], lcv0 := none, lcv1 := none,
                      incomplete := false, exchanged := false, executing := false, seenSeq := [], sampled := initFields c }
  let ln := (laneParams c l).foldl Lane.putKey ln
  let ln := c.symbols.foldl (fun ln y =>
    if y.single = 0 ∨ y.single = l.num + 1 then ln.putSym c y (symInit v2 y) else ln) ln
  let ln := (edgesOf c l).foldl (fun ln p => ln.putEdge v2 p) ln
  { ln with iBase := ln.i, glue := { ln.glue with dirty := [], kept := [], relCfg := some c } }

/-- Declared cross-engine bytes of a lane (04 R123). -/
def crossBytes (c : Container) (l : LaneId) : Nat :=
  ((c.symbols.filter (fun y => y.cross && (decide (y.single = 0) || decide (y.single = l.num + 1)))).map (fun y => y.size)).foldl (· + ·) 0

/-- Area I with the declared initial values (04 R106). -/
def initImage (c : Container) : Store Byte :=
  ((c.symbols.filter (fun y => decide (y.area = 0))).foldl (fun ln y => ln.putSym c y (symInit false y)) Lane.blank).i

/-! ## Process image windows (17 R440) -/

/-- The symbol behind a window entry and whether it may be written. -/
def windowSym (c : Container) (w v : Nat) : Option (Symbol × Bool) :=
  match c.windows.find? (fun x => decide (x.w = w)) with
  | some x =>
    if v = 0 then none
    else match x.vars[v - 1]? with
      | some p => match c.symbols.find? (fun y => decide (y.id = p.1)) with
        | some y => some (y, p.2)
        | none => none
      | none => none
  | none => none

/-- Value of an elementary symbol in a lane's working copy. -/
def Lane.symVal (ln : Lane) (c : Container) (y : Symbol) : Nat :=
  let v := ofLe (ln.symBytes c y)
  if y.bool then (v / 2 ^ y.bit) % 2 else v

/-- Write of an elementary symbol. -/
def Lane.putSymVal (ln : Lane) (c : Container) (y : Symbol) (v : Nat) : Lane :=
  ln.putSym c y (leBytes y.size (if y.bool then (v % 2) * 2 ^ y.bit else v))

/-- Entries whose change restarts recognition: the connection and the definitions (08 R235). -/
def recogEntry (index : Nat) : Bool := decide (0x5310 ≤ index) && decide (index ≤ 0x5318)

/-- What a lane holds of the connection and the definitions. -/
def Lane.recogDefs (ln : Lane) : Store Nat := ln.reg.filter (fun p => recogEntry (p.1 / 256))

/-- A dictionary write as the batch applies it in a lane (01 R27, 17 R440). -/
def Lane.applyWrite (ln : Lane) (l : LaneId) (w : BatchWrite) : Lane :=
  if w.lane.any (fun x => decide (x ≠ l)) then ln
  else
    let index := w.key / 256
    if 0x6000 ≤ index ∧ index ≤ 0x63FF then
      match ln.container with
      | some c => match windowSym c (index - 0x6000) (w.key % 256) with
        | some (y, _) => ln.putSymVal c y w.val
        | none => ln
      | none => ln
    else
      ln.putKey (w.key, w.val)

/-! ## Forces (06 R182 to R185) -/

/-- Symbol id, area, width code, bit, flags, value and element offset of a force record (06 Table 06-3). -/
structure ForceRec where
  sym   : Nat
  area  : Nat
  width : Nat
  bit   : Nat
  flags : Nat
  value : Nat
  elem  : Nat
  deriving DecidableEq, Repr

/-- A force record read from its 20 bytes. -/
def forceRec (bs : Bytes) : ForceRec :=
  { sym := ofLe (bs.take 4), area := ((bs.drop 4).headD 0).toNat, width := ((bs.drop 5).headD 0).toNat,
    bit := ((bs.drop 6).headD 0).toNat, flags := ((bs.drop 7).headD 0).toNat, value := ofLe ((bs.drop 8).take 8),
    elem := ofLe ((bs.drop 16).take 4) }

/-- Bytes that a force width covers; a bit lies in one byte. -/
def ForceRec.bytes (f : ForceRec) : Nat := if f.width = 0 then 1 else 2 ^ (f.width - 1)

/-- Where a force acts: byte offset in I or Q, none when its symbol is not in the configuration. -/
def ForceRec.place (f : ForceRec) (c : Container) : Option Nat :=
  match c.symbols.find? (fun y => decide (y.id = f.sym)) with
  | some y => some (y.ofs + f.elem)
  | none => none

/-- Bytes at a target with the forced value put in. -/
def ForceRec.putOn (f : ForceRec) (old : Bytes) : Bytes :=
  if f.width = 0 then [BitVec.ofNat 8 (setBit (ofLe old) f.bit (f.value % 2 = 1))] else leBytes f.bytes f.value

/-- A force record after a change that moved its symbol: the element keeps its place in the symbol, a BOOL its bit number from the symbol's
first bit (06 R188). -/
def movedForce (base merged : Container) (rec_ : Bytes) : Bytes :=
  let f := forceRec rec_
  match base.symbols.find? (fun y => decide (y.id = f.sym)), merged.symbols.find? (fun y => decide (y.id = f.sym)) with
  | some b, some y =>
    if f.width = 0 then
      let p := 8 * f.elem + f.bit - b.bit + y.bit
      rec_.take 6 ++ leBytes 1 (p % 8) ++ (rec_.drop 7).take 9 ++ leBytes 4 (p / 8)
    else rec_
  | _, _ => rec_

/-- The forced bits of a byte of Q as a mask (06 R184). -/
def forceMask (ln : Lane) (ofs : Nat) : Nat :=
  match ln.container with
  | none => 0
  | some c => ln.forces.foldl (fun m p =>
      let f := forceRec p.2
      match f.place c with
      | some o => if f.area = 1 ∧ o ≤ ofs ∧ ofs < o + f.bytes then
          Nat.lor m (if f.width = 0 then 2 ^ (f.bit % 8) else 255) else m
      | none => m) 0

/-- Forced values of Q written at the cycle start (06 R184). -/
def Lane.forceQ (ln : Lane) : Lane :=
  match ln.container with
  | none => ln
  | some c => ln.forces.foldl (fun ln p =>
      let f := forceRec p.2
      match f.place c with
      | some o => if f.area = 1 then ln.store .q 0 o (f.putOn (ln.load .q 0 o f.bytes)) else ln
      | none => ln) ln

/-- Forced values of I, the last step of forming the agreed image (06 R184). -/
def Lane.forceI (ln : Lane) : Lane :=
  match ln.container with
  | none => ln
  | some c =>
    let one := fun (m : Store Byte) (p : Nat × Bytes) =>
      let f := forceRec p.2
      match f.place c with
      | some o => if f.area = 0 then Store.putBytes m 0 o (f.putOn (Store.bytes m 0 o f.bytes)) else m
      | none => m
    { ln with i := ln.forces.foldl one ln.i }

/-- One change of the force table as a lane takes it from the batch: a set names its record (06 R184). -/
def Lane.forceOp (ln : Lane) (table : Store Force) : ForceOp → Lane
  | .set slot =>
    match Store.find? table slot with
    | some f => { ln with forces := Store.insert ln.forces slot f.rec_ }
    | none => ln
  | .release slot => { ln with forces := Store.erase ln.forces slot }

/-! ## Carry-over at an activation (06 R175 to R179) -/

/-- Whether a symbol of the merged configuration carries the state of a base symbol (06 Table 06-2): same id and type; a
timer also keeps its opcode and WALL. -/
def carries (b y : Symbol) : Bool := decide (b.id = y.id) && decide (b.type = y.type) && decide (b.kind = y.kind)

/-- Bytes that a symbol of the merged configuration holds at C of k_act (06 Table 06-2). -/
def carriedBytes (ln : Lane) (base : Container) (y : Symbol) : Bytes :=
  match base.symbols.find? (fun b => decide (b.id = y.id)) with
  | some b =>
    if carries b y then
      if y.bool then
        let v := ofLe (ln.symBytes base b) / 2 ^ b.bit % 2 ^ y.elems
        leBytes y.size (v * 2 ^ y.bit)
      else padTo y.size (ln.symBytes base b)
    else match y.kind with
      | .timer _ _ => List.replicate y.size 0
      | .edge => List.replicate y.size 0
      | _ => padTo y.size y.init
  | none => match y.kind with
    | .edge => List.replicate y.size 0
    | _ => padTo y.size y.init

/-- Symbols whose state ends at an activation: removed, or with their type changed, in M, D, S or L (06 R178). -/
def endedSyms (base merged : Container) : List Symbol :=
  base.symbols.filter (fun b => (decide (b.area = 2) || decide (b.area = 3) || decide (b.area = 4) || decide (b.area = 5)) &&
    !(merged.symbols.any (fun y => decide (y.id = b.id) && decide (y.type = b.type))))

/-- Whether a symbol in S holds an edge memory. -/
def holdsEdge (c : Container) (y : Symbol) (p : Nat × Nat) : Bool :=
  decide (y.area = 4) && decide (symOfs c y ≤ p.1) && decide (p.1 < symOfs c y + y.size) &&
    (!y.bool || symBit y (8 * (p.1 - symOfs c y) + p.2))

/-- Edge memories that an activation starts anew: named by the merged code alone and held by no symbol that carries its state
(06 Table 06-2). -/
def newEdges (base merged : Container) (l : LaneId) : List (Nat × Nat) :=
  (edgesOf merged l).filter (fun p => !(edgesOf base l).contains p &&
    !(merged.symbols.any (fun y => holdsEdge merged y p && base.symbols.any (fun b => carries b y))))

/-- Task of the base that a task of the merged configuration continues. -/
def baseTask (base : Container) (t : Task) : Option Task :=
  base.tasks.find? (fun b => decide (b.id = t.id) && decide (b.scope = t.scope))

/-- Place of a task's partition in its engine's local store. -/
def partOfs (c : Container) (t : Task) : Nat := localOfs (t.ctx / 16) (isSplit c (t.ctx / 16)) t.lBase

/-- Values of a field of the merged configuration among packed fields of the base, found by its source. -/
def remapField (base : Container) (packed : Bytes) (f : Field) : Option Bytes :=
  match base.fields.findIdx? (fun b => decide (b.src = f.src) && decide (b.kind = f.kind)) with
  | some i => some ((packed.drop (fieldPos base i)).take f.size)
  | none => none

/-- A lane carried from its base to the merged configuration (06 R175 steps 1 and 2): task tables and code switched, state
relocated, parameters that the delta changes taken over. -/
def Lane.carry (ln : Lane) (base merged : Container) (l : LaneId) : Lane :=
  let old := ln
  let mine := fun (y : Symbol) => decide (y.single = 0) || decide (y.single = l.num + 1)
  let ln := (endedSyms base merged).foldl (fun ln b => if mine b then ln.putSym base b (List.replicate b.size 0) else ln) ln
  let ln := (tasksOf merged l).foldl (fun ln t =>
    ln.store .l (t.ctx / 32) (partOfs merged t) (match baseTask base t with
      | some b => padTo t.lLen (old.load .l (b.ctx / 32) (partOfs base b) b.lLen)
      | none => List.replicate t.lLen 0)) ln
  let ln := merged.symbols.foldl (fun ln y => if mine y then ln.putSym merged y (carriedBytes old base y) else ln) ln
  let ln := (newEdges base merged l).foldl (fun ln p => ln.putEdge false p) ln
  let ctxs := (tasksOf merged l).foldl (fun m t => match baseTask base t with
    | some b => Store.put m CtxState.blank t.ctx (Store.get old.ctxs CtxState.blank b.ctx)
    | none => m) []
  let news := (laneParams merged l).filter (fun p => !(laneParams base l).contains p)
  let ln := news.foldl Lane.putKey ln
  { ln with container := some merged, istore := codeOf merged l, ctxs := ctxs
            image := merged.fields.flatMap (fun f => (remapField base old.image f).getD (leBytes f.size f.init))
            imagePrev := old.imagePrev.map (fun p => merged.fields.flatMap (fun f => (remapField base p f).getD (leBytes f.size f.init)))
            newFields := (List.range merged.fields.length).filter (fun i => match merged.fields[i]? with
              | some f => (remapField base [] f).isNone
              | none => false)
            seenSeq := old.seenSeq.filter (fun f => base.flows.any (fun x => decide (x.id = f) && decide (x.role = 2)))
            sampled := merged.fields.flatMap (fun f => (remapField base old.sampled f).getD (leBytes f.size f.init))
            forces := old.forces.map (fun p => (p.1, movedForce base merged p.2)), afterChange := true }

/-- Latches of cycle k_act − 1 of removed tasks that an activation drops (06 R179): of the tasks of a scope in a lane that runs them, once the
lane has received the batch of k_act. -/
def droppedLatches (ln : Lane) (base merged : Container) (scope : Nat) : Nat :=
  (base.tasks.filter (fun b => decide (b.scope = scope) && decide ((Store.get ln.ctxs CtxState.blank b.ctx).firstPrev ≠ 0) &&
    !(merged.tasks.any (fun t => decide (t.id = b.id) && decide (t.scope = b.scope))))).length

end Sys2Proof.Machine
end

