-- ==== Sys2Proof/Machine/Reint.lean ====
section
/-! DEFINITION. Reintegration of a lane: the grounds on which it is not started, its start, the time lock and the state
transfer (03 R93 to R95, Table 03-8, 14 R370, 16 R424). -/

namespace Sys2Proof.Machine

open Sys2Proof

/-- Starts of reintegration in the preceding 24 h of node time (03 R93, 3006.03). -/
def State.starts24 (s : State) : Nat :=
  (s.vote.starts.filter (fun t => decide (s.time.now < t + 86400000000000))).length

/-- Voltage of a lane's supply as last measured; 12 V before any measurement. -/
def State.laneMv (s : State) (l : LaneId) : Nat := Store.get s.power.mV 12000 l.num

/-- Whether the lane of a reintegration may not be started: cause 11 or 16, three starts in 24 h, another in progress (03 R93), or a supply of
the lane that stays low (16 R424). -/
def reintBarred (s : State) (l : LaneId) : Bool :=
  decide ((s.lane l).status = .barred) || decide (s.laneMv l < 9000) || decide (3 ≤ s.starts24) || s.vote.reint.isSome

/-- A start counted (03 R93, R96). -/
def countStart (s : State) : State :=
  { s with vote := { s.vote with starts := (s.time.now :: s.vote.starts).take 3 } }

/-- A lane's section resumes its control channel when its lane boots: its elements stay open until the lane applies an image again
(01 R9, 03 R68, 07 R190). -/
def resumeSection (s : State) (l : LaneId) : State :=
  if s.field.operating then s.modSec l (fun x => { x with alive := true, alarm := false, quietAt := none }) else s

/-- Step 1 of Table 03-8: the hold line is released and the lane's logic domain power-cycled, which closes its crossings (15 R408). -/
def startReint (s : State) (l : LaneId) : State :=
  let s := countStart s
  let s := s.modLane l (fun ln =>
    { ln with status := .restarting, hold := false, engines := ln.engines.map (fun p => (p.1, Engine.blank)), pairs := [], lcv0 := none,
              lcv1 := none, time := LaneTime.zero, sampledAt := none, fired := [], recog := Recog.start, i := [], q := [], m := [], d := [], s := [],
              locals := [], published := [] })
  let s := { s with vote := { s.vote with reint := some l, blocksDue := [], passEnd := none, shadowOk := 0, deferred := none }
                    power := { s.power with domains := Nat.lor s.power.domains (3 * 4 ^ l.num) } }
  let s := closeLane s l
  record s (laneSource l) 3 (leBytes 1 l.num ++ leBytes 1 1 ++ leBytes 1 0)

/-- A start that waits while a change is fixed for its activation (06 R173). -/
def startOrDefer (s : State) (l : LaneId) : State :=
  if s.change.state = 6 then { s with vote := { s.vote with deferred := some l } } else startReint s l

/-- A deferred start once the change has taken effect or has been abandoned (06 R173). -/
def startDeferred (s : State) : State :=
  match s.vote.deferred with
  | some l =>
    if s.change.state = 6 then s
    else if s.mode = .run2oo2 ∧ (s.lane l).status = .held ∧ !reintBarred s l then startReint s l
    else { s with vote := { s.vote with deferred := none } }
  | none => s

/-- AUTOMATIC_REINTEGRATION_START (03 R93, 16 R424): 100 ms after the exclusion, or after the lane's supply has recovered. One
that is not started on the grounds of R93 is recorded. -/
def automaticReint (s : State) (l : LaneId) : State :=
  let ln := s.lane l
  match ln.excludedAt with
  | some t =>
    if s.mode = .run2oo2 ∧ (ln.status = .held ∨ ln.status = .barred) ∧ jget s 0x3006 1 = 1 then
      let s := advanceTo s (t + 100000000)
      if reintBarred s l then record s (laneSource l) 3 (leBytes 1 l.num ++ leBytes 1 0 ++ leBytes 1 2) else startOrDefer s l
    else s
  | none => s

/-- Blocks of the state transfer: 0 to 63 area I, 64 to 127 area Q, 128 to 1279 the persistent blocks, 64 to a block, and 1280
the structured state (03 Table 03-8 step 4; the numbering is the model's own). -/
def transferCount : Nat := 1281

/-- Mark of a block to be sent again among the blocks due. -/
def resend : Nat := 4096

/-- 4 KiB block of the transfer that a persistent block lies in. -/
def transferBlock (b : Nat) : Nat := 128 + b / 64

/-- TIME_LOCK (02 R44, 03 Table 03-8 step 3): a lane that has seen its first mark and 16 further marks declares its counter
locked; a lane in reintegration goes on to the state transfer. -/
def timeLock (s : State) (l : LaneId) : State :=
  if 17 ≤ (s.lane l).time.marks then
    let s := s.modLane l (fun ln => { ln with time := { ln.time with locked := true } })
    if s.vote.reint = some l ∧ (s.lane l).status = .scribe then
      let s := s.modLane l (fun ln => { ln with status := .transferring })
      let s := { s with vote := { s.vote with blocksDue := List.range transferCount, passEnd := none } }
      record s (laneSource l) 3 (leBytes 1 l.num ++ leBytes 1 4 ++ leBytes 1 0)
    else s
  else s

/-- A block of the transfer placed in the receiving lane; blocks of single-lane regions keep their initial values (14 R370). -/
def Lane.takeBlock (ln : Lane) (blk : Nat) (d : Bytes) : Lane :=
  let d := padTo 4096 d
  if blk < 64 then { ln with i := Store.putBytes ln.i 0 (4096 * blk) d }
  else if blk < 128 then { ln with q := Store.putBytes ln.q 0 (4096 * (blk - 64)) d }
  else if blk < 1280 then
    let single := ln.singles
    (List.range 64).foldl (fun ln j =>
      let b := 64 * (blk - 128) + j
      if single.contains b then ln else ln.putBlock b ((d.drop (64 * j)).take 64)) ln
  else ln

/-- STATE_TRANSFER_BLOCK (03 R94, R95): `crcA` and `crcB` are the donors' values for the block `d`. Donors that differ put the
device in the safe state with cause 8; a lane that differs from both abandons its reintegration. -/
def stateTransferBlock (s : State) (l : LaneId) (blk : Nat) (d : Bytes) (crcA crcB : Nat) : State :=
  let due := s.vote.blocksDue
  if s.vote.reint = some l ∧ (s.lane l).status = .transferring ∧ (due.contains blk ∨ due.contains (blk + resend)) ∧
      blk < transferCount then
    if crcA ≠ crcB then enterSafe s 8
    else if crc32c d ≠ crcA then abandonReint s l 4 15
    else
      let s := s.modLane l (fun ln => ln.takeBlock blk d)
      let rest := due.filter (fun b => decide (b ≠ blk) && decide (b ≠ blk + resend))
      let pass := if s.vote.passEnd.isNone && !(rest.any (fun b => decide (b < resend))) then s.vote.k else s.vote.passEnd
      { s with vote := { s.vote with blocksDue := rest, passEnd := pass } }
  else s

end Sys2Proof.Machine
end

