-- ==== Sys2Proof/Machine/Batch.lean ====
section
/-! DEFINITION. The cycle start: station judgement, the batch and the change verdict at C_k, its delivery to the lanes, the
activation of an on-line change, and the steps of a reintegration that fall at a cycle start (01 R11, R16, R27, 03 R94, 04 R123,
R129, 06 R174, R175). What fires with a cycle start is in Machine/Fire.lean. -/

namespace Sys2Proof.Machine

open Sys2Proof

/-! ## Closing the batch (01 R16) -/

/-- Items of the consumed flows (09 R257, R258). -/
def flowItems (s : State) (c : Container) : List FlowItem :=
  (c.flows.filter (fun f => decide (f.role = 2))).map (fun f =>
    let rx := Store.get s.ring.rx RxCtx.blank f.id
    { id := f.id, frame := rx.frame, after := rx.after, windows := rx.windows })

/-- Receive contexts of the ring after their frames went into the batch. -/
def RxCtx.taken' (rx : RxCtx) : RxCtx := { rx with frame := none, windows := 0, after := 0 }

/-- The receive side of an ECN port. -/
def State.ecn (s : State) (p : Nat) : Ecn := if p = 0 then s.ecn0 else s.ecn1

/-- The state with one ECN port changed. -/
def State.modEcn (s : State) (p : Nat) (f : Ecn → Ecn) : State :=
  if p = 0 then { s with ecn0 := f s.ecn0 } else { s with ecn1 := f s.ecn1 }

/-- Number of a receive telegram context among flows and contexts (04 Table 04-4). -/
def telKey (port ctx : Nat) : Nat := 1024 + 256 * port + ctx

/-- Items of the receive telegram contexts: the telegram received most recently, if any (11 R307). -/
def telItems (s : State) (c : Container) : List (Nat × Option Bytes) :=
  (c.telegrams.filter (fun t => decide (t.role = 2))).map (fun t =>
    (telKey t.port t.ctx, (Store.get (s.ecn t.port).rx { data := none, seq := [] } t.ctx).data))

/-- Items of the CAN receive objects that hold a frame (11 R310). -/
def canItems (s : State) : List (Nat × Bytes) :=
  s.can0.rx ++ s.can1.rx.map (fun p => (64 + p.1, p.2))

/-- Inputs of a station that delivered fresh data in this batch, and how many inputs it has (04 R129). -/
def stationFresh (c : Container) (x : Station) (flows : List FlowItem) (can : List (Nat × Bytes)) : List Bool :=
  if x.no < 32 then
    (c.canRx.filter (fun r => decide (r.station = x.no))).map (fun r => can.any (fun p => decide (p.1 = 64 * r.ctl + r.obj)))
  else x.flows.map (fun f => flows.any (fun i => decide (i.id = f) && i.frame.isSome))

/-- Consumer time in ns, node and controller of entry 1016 n + 1 (11 R312). -/
def consumer (s : State) (n : Nat) : Nat × Nat × Nat :=
  let e := jget s 0x1016 (n + 1)
  (e % 65536 * 1000000, e / 65536 % 256, e / 16777216 % 2)

/-- Controller of a heartbeat consumer. -/
def consumerCtl (s : State) (n : Nat) : CanCtl := if (consumer s n).2.2 = 0 then .c0 else .c1

/-- A heartbeat consumer expires (11 R312, Table 11-4). -/
def expireConsumer (s : State) (n : Nat) : State :=
  let x := consumer s n
  let s := { s with hbAt := Store.insert s.hbAt n 0, hbExpired := s.hbExpired ++ [n] }
  emcyOne s (consumerCtl s n) 0x8130 x.2.1 0

/-- Heartbeat consumers judged as the batch is closed: those whose time has passed expire (11 R312). -/
def judgeHeartbeats (s : State) : State :=
  s.hbAt.foldl (fun s p =>
    let x := consumer s p.1
    if p.2 ≠ 0 ∧ x.1 ≠ 0 ∧ p.2 - 1 + x.1 ≤ s.time.now then expireConsumer s p.1 else s) s

/-- Whether a heartbeat consumer expiry concerns a CAN station (11 R312). -/
def stationExpired (s : State) (c : Container) (x : Station) : Bool :=
  decide (x.no < 32) && s.hbExpired.any (fun n =>
    let e := jget s 0x1016 (n + 1)
    decide ((e / 65536) % 256 = x.node) &&
    ((c.canRx.filter (fun r => decide (r.station = x.no))).all (fun r => decide (r.ctl = (e / 16777216) % 2))))

/-- New status and run of a station (04 Table 04-5): status 1 operational, 2 dropped, 3 recovering. Whether 'every input' holds of a station with
no input the table does not say: such a station is never fresh and stays dropped (DESIGN CHOICE, log 88). -/
def judgeStation (status run nDrop nRec : Nat) (first expired : Bool) (fresh : List Bool) : Nat × Nat :=
  let all := !fresh.isEmpty && fresh.all id
  let any := fresh.any id
  if first then (3, 0)
  else if status = 1 then
    let r := if any then 0 else run + 1
    if expired || decide (r ≥ nDrop) then (2, 0) else (1, r)
  else if status = 2 then (if all then (3, 0) else (2, 0))
  else if !all then (2, 0)
  else if run + 1 ≥ nRec then (1, 0) else (3, run + 1)

/-- Every configured station judged: status list, stations dropped, stations that became operational (04 R129, R131), with a
record of each change. -/
def judgeStations (s : State) (c : Container) (first : Bool) (flows : List FlowItem) (can : List (Nat × Bytes)) :
    State × List (Nat × Nat) × List Nat × List Nat :=
  c.stations.foldl (fun acc x =>
    let s := acc.1
    let old := Store.get s.stationRun (3 * 65536) x.no
    let new := judgeStation (old / 65536) (old % 65536) (s.vget (0x5400 + x.no) 3) (s.vget (0x5400 + x.no) 4) first
      (stationExpired s c x) (stationFresh c x flows can)
    let s := { s with stationRun := Store.insert s.stationRun x.no (new.1 * 65536 + new.2) }
    let s := if new.1 = old / 65536 then s else record s (if x.no < 32 then 7 else 5) 18 (leBytes 1 x.no ++ leBytes 1 new.1)
    (s, acc.2.1 ++ [(x.no, new.1)],
      (if new.1 = 2 ∧ old / 65536 ≠ 2 then acc.2.2.1 ++ [x.no] else acc.2.2.1),
      (if new.1 = 1 ∧ old / 65536 ≠ 1 then acc.2.2.2 ++ [x.no] else acc.2.2.2))) (s, [], [], [])

/-- Change verdict of the batch of cycle k (06 R174). -/
def changeVerdict (s : State) (k : Nat) : Option Verdict :=
  if s.change.state = 6 ∧ s.change.kAct = k then
    if s.actives.all (fun l => s.change.holds.get l) && s.vote.reint.isNone && s.inRun then some .go else some .abandon
  else none

/-- Bytes over which the batch signature is formed. The manual gives the batch no layout: DESIGN CHOICE, log 64. -/
def Batch.bytes (b : Batch) : Bytes :=
  leBytes 8 b.k ++
  b.flows.flatMap (fun i => leBytes 2 i.id ++ leBytes 1 i.after ++ leBytes 1 i.windows ++
    (match i.frame with | some f => leBytes 1 1 ++ leBytes 2 f.len ++ f.payload | none => leBytes 1 0)) ++
  b.telegrams.flatMap (fun p => leBytes 2 p.1 ++ (match p.2 with | some d => leBytes 2 d.length ++ d | none => leBytes 2 0)) ++
  b.can.flatMap (fun p => leBytes 2 p.1 ++ leBytes 1 p.2.length ++ p.2) ++
  b.writes.flatMap (fun w => leBytes 4 w.key ++ leBytes 8 w.val ++ leBytes 1 (w.lane.elim 3 LaneId.num)) ++
  b.forces.flatMap (fun o => match o with | .set n => leBytes 2 n | .release n => leBytes 2 (n + 256)) ++
  b.triggers.flatMap (fun t => leBytes 2 t) ++ b.stations.flatMap (fun p => leBytes 1 p.1 ++ leBytes 1 p.2) ++
  (match b.verdict with | none => leBytes 1 0 | some .go => leBytes 1 1 | some .abandon => leBytes 1 2)

/-- The junction closes the batch of cycle k: what waited in the receive contexts, the writes, force changes and triggers
collected since C_{k−1}, the station status and the change verdict. -/
def closeBatch (s : State) (c : Container) (k : Nat) (first : Bool) : State × Batch :=
  let s := judgeHeartbeats s
  let flows := flowItems s c
  let can := canItems s
  let tels := telItems s c
  let j := judgeStations s c first flows can
  let s := j.1
  let b : Batch := { k := k, flows := flows, telegrams := tels, can := can, writes := s.batchIn.writes, forces := s.batchIn.forces,
                     triggers := s.batchIn.triggers, stations := j.2.1, dropped := j.2.2.1, recovered := j.2.2.2,
                     verdict := changeVerdict s k }
  ({ s with ring := { s.ring with rx := s.ring.rx.map (fun p => (p.1, p.2.taken')) }
            ecn0 := { s.ecn0 with rx := s.ecn0.rx.map (fun p => (p.1, { p.2 with data := none })) }
            ecn1 := { s.ecn1 with rx := s.ecn1.rx.map (fun p => (p.1, { p.2 with data := none })) }
            can0 := { s.can0 with rx := [] }, can1 := { s.can1 with rx := [] }
            batchIn := Batch.empty, hbExpired := [] }, b)

/-! ## Forces in the batch -/

/-- Table 06-3 records and their set time: a force takes effect at the batch that carries it (06 Table 06-4). -/
def stampForces (s : State) (b : Batch) (cK : Nat) : State :=
  b.forces.foldl (fun s o => match o with
    | .set n => { s with forces := match Store.find? s.forces n with
        | some f => Store.insert s.forces n { f with time := cK }
        | none => s.forces }
    | .release _ => s) s

/-- Path of a change-log entry that a client's force causes: that of its binding, the device's own without one (14 Table 14-5). -/
def State.pathOf (s : State) (client : Nat) : Nat := (Store.find? s.dict.bindings client).elim 4 (fun b => b.path.code)

/-- Slots whose force names a symbol that a delta removes or retypes (06 R188). -/
def endedForces (s : State) (base merged : Container) : List Nat :=
  (s.forces.filter (fun p =>
    let f := forceRec p.2.rec_
    !(merged.symbols.any (fun y => decide (y.id = f.sym) && base.symbols.any (fun b => decide (b.id = y.id) && decide (b.type = y.type)))))).map
    (fun p => p.1)

/-- One force released at C of k_act: the slot is free and the release is logged (06 R186, R188). -/
def releaseSlot (s : State) (client path n : Nat) : State :=
  match Store.find? s.forces n with
  | some f =>
    let s := { s with forces := Store.erase s.forces n }
    logEntry s client path (0x6500 + n) 1 2 f.rec_ []
  | none => s

/-! ## Activation (06 R174 to R180) -/

/-- Records of ended symbols (06 R178, R179): id, k_act and the first 16 bytes of the last value; the first also carries the
count of records that follow and the number of fault latches dropped. Which record carries that number when no symbol has ended the manual does
not say: one with symbol id 4294967295 and no value is written (DESIGN CHOICE, log 88). -/
def recordEnded (s : State) (ended : List (Nat × Bytes)) (k dropped : Nat) : State :=
  let rows := if ended.isEmpty && decide (dropped ≠ 0) then [(4294967295, [])] else ended
  (rows.zipIdx).foldl (fun s p =>
    record s 0 15 (leBytes 4 p.1.1 ++ leBytes 8 k ++ padTo 16 p.1.2 ++
      (if p.2 = 0 then leBytes 4 (rows.length - 1) ++ leBytes 4 dropped else []))) s

/-- The lane that holds the state of a symbol: the lead lane, or for a single-lane symbol the lane that it belongs to. -/
def State.holderOf (s : State) (y : Symbol) : Lane :=
  match LaneId.ofNum (y.single - 1) with
  | some l => if y.single = 0 then s.lane s.lead else s.lane l
  | none => s.lane s.lead

/-- The change of k_act taking effect in the junction and in every running lane (06 R175); the parameters of class J follow. Each
lane keeps the merged configuration beside the base (06 R180). -/
def activate (s : State) (d : Delta) (base : Container) (k : Nat) : State :=
  let gone := endedForces s base d.merged
  let ended := (endedSyms base d.merged).map (fun y => (y.id, ((s.holderOf y).symBytes base y).take 16))
  let dropped := droppedLatches (s.lane s.lead) base d.merged 0 +
    ((s.actives.map (fun l => droppedLatches (s.lane l) base d.merged (l.num + 1))).foldl (· + ·) 0)
  let s := recordEnded s ended k dropped
  let s := s.modLanes (fun l ln =>
    if ln.status = .active ∨ ln.status = .shadow then
      let ln := ln.carry base d.merged l
      let ln := { ln with forces := ln.forces.filter (fun p => !gone.contains p.1), spare := some d.merged }
      (ln.rbump 0x6800 10).rset 0x6800 11 k
    else ln)
  let s := stampCopies s (LaneId.all.filter (fun l => decide ((s.lane l).status = .active) || decide ((s.lane l).status = .shadow))) 1
  let s := gone.foldl (fun s n =>
    let client := (Store.find? s.forces n).elim 255 Force.client
    releaseSlot s client (s.pathOf client) n) s
  let s := { s with forces := s.forces.map (fun p => (p.1, { p.2 with rec_ := movedForce base d.merged p.2.rec_ })) }
  let s := ((moduleParams d.merged).filter (fun p => !(moduleParams base).contains p)).foldl
    (fun s p => jset s (p.1 / 256) (p.1 % 256) p.2) s
  let s := { s with cfg := { s.cfg with inForce := some d.merged, base := some base, keyId := d.signed.keyId, version := d.version }
                    change := { s.change with state := 0, delta := none, kAct := 0, holds := Tri.all false } }
  let s := jset (jset s 0x6800 6 1) 0x6800 7 gone.length
  record s 0 14 (leBytes 1 1 ++ leBytes 4 gone.length)

/-- The verdict of the batch acted on (06 R174). -/
def applyVerdict (s : State) (b : Batch) : State :=
  match b.verdict, s.change.delta, s.config with
  | some .go, some d, some c => activate s d c b.k
  | some .abandon, _, _ => if s.actives.all (fun l => s.change.holds.get l) then endChange s 10 0 else endChange s 9 0
  | _, _, _ => s

/-! ## A lane at its cycle start -/

/-- Fault latches of the cycle that ended move to the previous cycle's place (04 R117). -/
def CtxState.roll (x : CtxState) : CtxState :=
  { x with firstPrev := x.first, arithPrev := x.arith, fencePrev := x.fence, first := 0, arith := false, fence := false, done := false, doneAt := 0 }

/-- Whether a register key is of class V. -/
def keyIsV (key : Nat) : Bool :=
  match entry? (key / 256) (key % 256) with
  | some e => decide (e.cls = .v)
  | none => false

/-- What a lane sees of C_k: the grid instant nearest to its own counter (03 Table 03-3). -/
def Lane.viewOf (ln : Lane) (c : Container) : Nat :=
  let t := Nat.max 1 c.tBase
  c.phi + (ln.time.now - c.phi + t / 2) / t * t

/-- The vector that a lane sends at C_k (03 Table 03-3). -/
def Lane.vector (ln : Lane) (l : LaneId) : Bytes :=
  let body := timeBytes ln.view ++ leBytes 1 l.num ++ leBytes 1 (if ln.status = .shadow then 1 else 0) ++ leBytes 4 ln.batchCrc ++ ln.sampled
  body ++ leBytes 4 (crc32c body)

/-- A lane at its cycle start: batch received, latches rolled, publications of the last cycle forgotten (04 R117, R160). -/
def Lane.receive (ln : Lane) (c : Container) (b : Batch) (first restored : Bool) : Lane :=
  { ln with batch := b, batchCrc := crc32c b.bytes, pubs := [], ctxs := ln.ctxs.map (fun p => (p.1, p.2.roll))
            first := first, afterRestore := first && restored, afterChange := false, exchanged := false, executing := false,
            incomplete := false, view := ln.viewOf c, engines := ln.engines.map (fun p => (p.1, { p.2 with phase := .idle })) }

/-- Forces in use and persistent forces, 6400.04 and 6400.05 (06 Table 06-4). -/
def Lane.showForces (ln : Lane) : Lane :=
  (ln.rset 0x6400 4 ln.forces.length).rset 0x6400 5
    (ln.forces.filter (fun p => bitOf ((p.2.drop 7).headD 0).toNat 0)).length

/-- A lane after the batch's writes and forces (06 R175 step 3, R184). -/
def Lane.takeBatch (ln : Lane) (l : LaneId) (table : Store Force) (b : Batch) : Lane :=
  let ln := b.writes.foldl (fun ln w => ln.applyWrite l w) ln
  let ln := b.forces.foldl (fun ln o => ln.forceOp table o) ln
  ln.showForces.forceQ

/-- Vectors that a lane knows at C_k: its own, those awaited from the other senders, and absent ones. -/
def startVecs (s : State) (l : LaneId) : Tri VecState :=
  (Tri.mk LaneId.a LaneId.b LaneId.c).map (fun m =>
    if !s.runs m then .absent else if m = l then .accepted ((s.lane l).vector l) else .awaited)

/-! ## Reintegration at a cycle start (03 R94) -/

/-- Structured state that the donors send beside the blocks: registers of class V, task contexts, forces, agreed image, flow
state (03 Table 03-8 step 4). What belongs to contexts with single-lane tasks, their entries too, stays initial (14 R370, 04 R127). -/
def Lane.adopt (ln donor : Lane) : Lane :=
  let single := fun (ctx : Nat) => match ln.container with
    | some c => c.tasks.any (fun t => decide (t.ctx = ctx) && decide (t.scope ≠ 0))
    | none => false
  let own := fun (key : Nat) => !keyIsV key ||
    (decide (0x3200 ≤ key / 256) && decide (key / 256 ≤ 0x33FF) && single (key / 256 - 0x3200))
  { ln with reg := donor.reg.foldl (fun m p => if own p.1 then m else Store.insert m p.1 p.2) (ln.reg.filter (fun p => own p.1))
            ctxs := donor.ctxs.filter (fun p => !single p.1), forces := donor.forces, image := donor.image,
            imagePrev := donor.imagePrev, newFields := donor.newFields, iBase := donor.iBase, lastGood := donor.lastGood,
            diffs := donor.diffs, reports := donor.reports, seenSeq := donor.seenSeq, q := donor.q, agreedC := donor.agreedC,
            agreedK := donor.agreedK, first := donor.first }

/-- The transfer of the lane in reintegration completes at the first cycle start at which no block is outstanding; 64 cycles
after the first pass it is abandoned (03 Table 03-8 step 4). -/
def transferStep (s : State) (k : Nat) : State :=
  match s.vote.reint with
  | some l =>
    if (s.lane l).status = .transferring then
      match s.vote.passEnd with
      | some e =>
        if s.vote.blocksDue.isEmpty then
          let donor := s.lane s.lead
          let s := s.modLane l (fun ln => { ln.adopt donor with status := .shadow })
          let s := record s (laneSource l) 3 (leBytes 1 l.num ++ leBytes 1 5 ++ leBytes 1 0)
          { s with vote := { s.vote with shadowOk := 0, passEnd := none } }
        else if k > e + 64 then abandonReint s l 4 15 else s
      | none => s
    else s
  | none => s

/-- Rejoin at the cycle start after 16 matching shadow cycles (03 Table 03-8 step 6, R96): mode 2oo3, limp timer stopped, a
full commit due in that lane (14 R375), error reset on CAN. -/
def rejoinStep (s : State) : State :=
  match s.vote.reint with
  | some l =>
    if (s.lane l).status = .shadow ∧ s.vote.shadowOk = 16 ∧ s.mode = .run2oo2 then
      let s := s.modLane l (fun ln => { ln with status := .active, hold := false, excludedAt := none,
                                                glue := { ln.glue with fullDue := true } })
      let s := s.modLanes (fun _ ln => { ln with seenSeq := [] })
      let s := { s with mode := .run2oo3, vote := { s.vote with reint := none, limpNs := none, shadowOk := 0, causeAt := [] } }
      let s := jset s 0x3006 4 1
      let s := record s (laneSource l) 3 (leBytes 1 l.num ++ leBytes 1 6 ++ leBytes 1 1)
      emcy s 0 0 0
    else s
  | none => s

/-! ## The cycle start -/

/-- C of the next cycle: the first instant of the grid at or after now that is later than the last cycle start (01 R11). -/
def nextC (s : State) (c : Container) : Nat :=
  let t := Nat.max 1 c.tBase
  let g := gridFrom s.time.now c.phi t
  if s.vote.k.isSome ∧ g ≤ s.vote.cK then s.vote.cK + t else g

/-- Monitors of an analog value take the agreed code (14 Table 14-6, kind 9). -/
def State.analogMonitors (s : State) : State :=
  (List.range 12).foldl (fun s n =>
    let v := if n < 8 then s.vget 0x5202 (n + 1) else s.vget 0x5303 (n - 7)
    monitorTake s 9 n (signedOf 16 v)) s

/-- Monitors of the agreement time and of the agreed analog values take those of the cycle, once every active lane has agreed: with the last
agreement, or once a lane that had not agreed is active no more (14 R391, Table 14-6). -/
def exchangeMonitors (s : State) : State :=
  if s.inRun && s.vote.agreed.isSome && decide (s.vote.monK ≠ s.vote.k) && s.actives.all (fun m => (s.lane m).exchanged) then
    (monitorTake { s with vote := { s.vote with monK := s.vote.k } } 1 0 (jget s 0x3022 0 : Int)).analogMonitors
  else s

/-- The junction and the lanes at C_k: batch closed and delivered, verdict acted on, writes and forces applied, cross-engine copies
published with them, so that every reader sees the batch's values in this cycle, recognition restarted in every lane where its definitions
changed, vectors sent (01 R16, R17, R27, 04 R123, 06 R175, R184, 08 R235). -/
def startCycle (s : State) (c : Container) (k cK : Nat) (first : Bool) : State :=
  let r := closeBatch s c k first
  let b := r.2
  let s := stampForces r.1 b cK
  let s := s.modLanes (fun _ ln =>
    if ln.status = .active ∨ ln.status = .shadow then ln.receive c b first s.power.restored else ln)
  let defs := (s.lane s.lead).recogDefs
  let s := startDeferred (applyVerdict s b)
  let s := s.modLanes (fun l ln =>
    if ln.status = .active ∨ ln.status = .shadow then
      let ln := ln.takeBatch l s.forces b
      let ln := match ln.container with
        | some m => ln.publish m
        | none => ln
      if k % Nat.max 1 s.pGlue = 0 ∨ ln.afterChange then
        { ln with glue := { ln.glue with fixedRel := { ln.glue.fixedRel with monitors := s.monitors } } }
      else ln
    else ln)
  let s := if (s.lane s.lead).recogDefs = defs then s else s.modLanes (fun _ ln => { ln with recog := Recog.start })
  let s := LaneId.all.foldl reclassify s
  let s := { s with power := { s.power with shedC := s.power.stage }
                    vote := { s.vote with cK := cK, k := some k, modeC := s.mode.code, agreed := none
                                          agreedLast := s.vote.agreed.orElse (fun _ => s.vote.agreedLast)
                                          hub := (Tri.mk LaneId.a LaneId.b LaneId.c).map (fun m =>
                                            if s.runs m then VecState.awaited else VecState.absent) } }
  let s := s.modLanes (fun l ln => { ln with vecs := startVecs s l })
  (LaneId.all.filter s.runs).foldl (fun s l => through s (7 * l.num + 1) (entriesOf 1 c.bIn)) s

end Sys2Proof.Machine
end

