-- ==== Sys2Proof/Machine/Mitre.lean ====
section
/-! DEFINITION. The Mitre exchange: vectors at the hub and in the lanes, agreement of the sampled fields, path discrepancies,
envelope checks and freshness, and the agreed input image with its header, substitutes, error words and forces (03 R73 to R81,
04 R107 to R117, R130, 09 R251 to R258, 11 R308). -/

namespace Sys2Proof.Machine

open Sys2Proof

/-! ## Agreement of one field (03 R76) -/

/-- Bits of a mask. -/
def maskOf (bits : Nat) : Nat := 2 ^ bits - 1

/-- The value of a field from the accepted values of three or two lanes, in lane order, and the previous agreed value. -/
def agreeField (kind : AgreeKind) (v : List Nat) (prev : Nat) : Nat :=
  match kind, v with
  | .bit n, [a, b, c] => Nat.land (Nat.lor (Nat.lor (Nat.land a b) (Nat.land b c)) (Nat.land a c)) (maskOf n)
  | .bit n, [a, b] =>
    let same := Nat.xor (maskOf n) (Nat.land (Nat.xor a b) (maskOf n))
    Nat.lor (Nat.land a same) (Nat.land prev (Nat.xor (maskOf n) same))
  | .analog, [a, b, c] => wrapTo 16 (median3 (signedOf 16 a) (signedOf 16 b) (signedOf 16 c))
  | .analog, [a, b] => wrapTo 16 ((signedOf 16 a + signedOf 16 b) / 2)
  | .count, [a, b, c] =>
    let d := fun x => (x + 65536 - prev % 65536) % 65536
    (prev + median3Nat (d a) (d b) (d c)) % 65536
  | .count, [a, b] =>
    let d := fun x => (x + 65536 - prev % 65536) % 65536
    (prev + Nat.min (d a) (d b)) % 65536
  | .enum fb, [a, b, c] => if a = b then a else if a = c ∨ b = c then c else fb
  | .enum fb, [a, b] => if a = b then a else fb
  | _, _ => prev

/-- Packed fields agreed one by one, in container order. -/
def agreeAll : List Field → List Bytes → Bytes → Bytes
  | [], _, _ => []
  | f :: fs, vs, prev =>
    leBytes f.size (agreeField f.kind (vs.map (fun v => ofLe (v.take f.size))) (ofLe (prev.take f.size))) ++
      agreeAll fs (vs.map (fun v => v.drop f.size)) (prev.drop f.size)

/-- The value that at least two of a list hold (03 R78, R79). -/
def majorityOf {α : Type} [DecidableEq α] (vs : List α) : Option α :=
  vs.find? (fun v => decide (2 ≤ (vs.filter (fun w => decide (w = v))).length))

/-! ## Path discrepancies (03 R77) -/

/-- Band of a field: the entries of the inputs where they show it, else the container's (07 5004, 08 R226). -/
def bandOf (ln : Lane) (f : Field) : Nat :=
  match f.src with
  | .diCount n => ln.rget 0x5004 (n + 1)
  | .ai n => ln.rget 0x5201 (n + 1)
  | .la n => ln.rget 0x5302 (n + 1)
  | .conv n _ => if n < 8 then ln.rget 0x5201 (n + 1) else ln.rget 0x5302 (n - 7)
  | _ => f.band

/-- Whether a sample differs from the agreed value by more than the tolerance; counts differ by their distance on the wrap. -/
def differs (ln : Lane) (f : Field) (v a : Nat) : Bool :=
  match f.kind with
  | .bit n => decide (v % 2 ^ n ≠ a % 2 ^ n)
  | .enum _ => decide (v ≠ a)
  | .analog => decide ((signedOf 16 v - signedOf 16 a).natAbs > bandOf ln f)
  | .count =>
    let d := (v + 65536 - a % 65536) % 65536
    decide (Nat.min d (65536 - d) > bandOf ln f)

/-- Channel of a source, 65535 for none: what is counted and reported as one. A digital input has its states and its count, an output its
status and its map, an analog input its codes and its status; the recognition unit is one channel (DEDUCED, log 83: 5010, 5203 and 5304
report by input). -/
def channelOf : FieldSrc → Nat
  | .diState n | .diWire n | .diIndet n | .diCount n => n
  | .doStatus n | .doMap n => 32 + n
  | .fieldDie => 48
  | .ai n | .aiStatus n => 49 + n
  | .la n | .laStatus n => 57 + n
  | .conv n _ => 49 + n
  | .recog _ => 61

/-- Recognition flags byte of a lane's vector, if the flags are exchanged (08 Table 08-3). -/
def recogFlags : List Field → Bytes → Option Nat
  | [], _ => none
  | f :: fs, v => if f.src = .recog 8 then some (ofLe (v.take f.size)) else recogFlags fs (v.drop f.size)

/-- Lanes whose recognition flag bit 1 is 0 (08 R235): as their vectors say it, and where the container exchanges no flags, as the lane's
recognition unit has it (DEDUCED, log 87). -/
def State.recogYoung (s : State) (c : Container) (parts : List (LaneId × Bytes)) : List LaneId :=
  LaneId.all.filter (fun m =>
    match (parts.find? (fun p => decide (p.1 = m))).bind (fun p => recogFlags c.fields p.2) with
    | some v => !bitOf v 1
    | none => !bitOf (sampleOf s m (.recog 8)) 1)

/-- Channels on which a lane's fields differ from the agreed ones by more than the tolerance. -/
def channelsOff (ln : Lane) : List Field → Bytes → Bytes → List Nat
  | [], _, _ => []
  | f :: fs, v, a =>
    (if differs ln f (ofLe (v.take f.size)) (ofLe (a.take f.size)) then [channelOf f.src] else []) ++
      channelsOff ln fs (v.drop f.size) (a.drop f.size)

/-- Count and report of one channel for one lane: key 3 × channel + lane; `sample` tells whether an accepted sample differs, none without
one (03 R77). -/
def stepDiff (ln : Lane) (key : Nat) (sample : Option Bool) : Lane :=
  match sample with
  | none => { ln with diffs := Store.put ln.diffs 0 key 0 }
  | some true =>
    let n := Nat.min 16 (Store.get ln.diffs 0 key + 1)
    { ln with diffs := Store.put ln.diffs 0 key n, reports := if n ≥ 16 then addAsc key ln.reports else ln.reports }
  | some false =>
    { ln with diffs := Store.put ln.diffs 0 key 0, reports := ln.reports.filter (fun x => decide (x ≠ key)) }

/-- Counts of one lane `m` after an agreement: a channel at a time; recognition is left out while the lane is among the `young`, whose flag
bit 1 is 0 (08 R235). -/
def stepDiffsOf (ln : Lane) (fields : List Field) (young : List LaneId) (parts : List (LaneId × Bytes)) (agreed : Bytes) (m : LaneId) : Lane :=
  let part := parts.find? (fun p => decide (p.1 = m))
  let off := match part with
    | some p => channelsOff ln fields p.2 agreed
    | none => []
  let quiet := part.isSome && young.contains m
  ((fields.map (fun f => channelOf f.src)).dedup.filter (fun c => !(quiet && decide (c = 61)))).foldl (fun ln c =>
    stepDiff ln (3 * c + m.num) (part.map (fun _ => off.contains c))) ln

/-- Counts of every channel and lane after an agreement. -/
def stepDiffs (ln : Lane) (fields : List Field) (young : List LaneId) (parts : List (LaneId × Bytes)) (agreed : Bytes) : Lane :=
  LaneId.all.foldl (stepDiffsOf · fields young parts agreed) ln

/-! ## The safety envelope (09 R251 to R253) -/

/-- Flow seed (09 R252). -/
def flowSeed (id node ident : Nat) : Nat := crc32c (leBytes 2 id ++ leBytes 1 node ++ leBytes 1 0 ++ leBytes 4 ident)

/-- Safety code over header bytes, data, sequence and stamp; at V2 ring over header bytes 0, 2, 6, 7, data and sequence (09 R252,
Table 09-8, where bytes 6 to 7 are the flow id). `len` is the payload length of the header. -/
def safetyCode (v2 : Bool) (id node ident cli len : Nat) (data : Bytes) (seq stamp : Nat) : Nat :=
  let seed := leBytes 4 (flowSeed id node ident)
  if v2 then crc32c (seed ++ leBytes 1 0x20 ++ leBytes 1 node ++ leBytes 2 id ++ data ++ leBytes 4 seq)
  else crc32c (seed ++ leBytes 1 0x30 ++ leBytes 1 node ++ leBytes 2 cli ++ leBytes 2 id ++ leBytes 2 len ++ data ++
    leBytes 4 seq ++ leBytes 4 stamp)

/-- Bytes of the envelope at a ring level. -/
def envLen (v2 : Bool) : Nat := if v2 then 8 else 12

/-- Data part of a SAFE flow at a ring level (09 R251, Table 09-8). -/
def safeData (v2 : Bool) (f : Flow) : Nat := f.aux - envLen v2

/-- Verdict of Table 09-7 on a frame: data accepted, or the number of the failing check. -/
inductive EnvCheck where
  | ok (data : Bytes) (seq deleted : Nat)
  | bad (check : Nat)
  deriving DecidableEq, Repr

/-- Envelope checks of a SAFE frame (09 R253); `last` is the sequence accepted last, none when check 2 passes whatever it is. -/
def checkEnvelope (v2 : Bool) (f : Flow) (ident dMaxUs cK : Nat) (last : Option Nat) (fr : RFrame) : EnvCheck :=
  let n := fr.payload.length - envLen v2
  let data := fr.payload.take n
  let seq := ofLe ((fr.payload.drop n).take 4)
  let stamp := if v2 then 0 else ofLe ((fr.payload.drop (n + 4)).take 4)
  let code := ofLe ((fr.payload.drop (n + envLen v2 - 4)).take 4)
  if code ≠ safetyCode v2 f.id fr.sender ident fr.cli fr.len data seq stamp then .bad 1
  else
    let d := match last with
      | some q => (seq + 4294967296 - q) % 4294967296
      | none => 1
    if d = 0 ∨ d ≥ 2147483648 then .bad 2
    else if !v2 && decide ((cK % 4294967296 + 4294967296 - stamp) % 4294967296 > 1000 * dMaxUs) then .bad 3
    else .ok data seq (d - 1)

/-! ## Flow and telegram data into the image -/

/-- Data of one flow taken from the batch in a lane: checks, freshness age, data into I, arrival noted (09 R253, R258). `news`
collects the flows whose new data entered, `stales` those that became stale in this batch. -/
def takeFlow (v2 : Bool) (ident cK : Nat) (f : Flow) (it : FlowItem) (acc : Lane × List Nat × List Nat) : Lane × List Nat × List Nat :=
  let ln := acc.1
  let idx := 0x4400 + f.id
  let age := ln.rget idx 8
  let res : Lane × Option Bytes :=
    match it.frame with
    | none => (ln, none)
    | some fr =>
      if f.safe then
        let last := if ln.seenSeq.contains f.id then some (ln.rget idx 6) else none
        match checkEnvelope v2 f ident (ln.rget idx 10) cK last fr with
        | .ok data seq del =>
          (({ ln with seenSeq := if ln.seenSeq.contains f.id then ln.seenSeq else f.id :: ln.seenSeq }.rset idx 6 seq).radd idx 14 del,
            some data)
        | .bad n => (ln.rbump idx (10 + n), none)
      else (ln, some fr.payload)
  let age' := match res.2 with
    | some _ => Nat.min 255 it.after
    | none => Nat.min 255 (age + it.windows)
  let aMax := ln.rget idx 9
  let ln := (res.1.rset idx 8 age').rset idx 19 (if age' ≥ aMax then 1 else 0)
  let ln := match res.2 with
    | some d => { ln with iBase := Store.putBytes ln.iBase 0 f.iOfs d }
    | none => ln
  (ln, if res.2.isSome then acc.2.1 ++ [f.id] else acc.2.1,
    if age' ≥ aMax ∧ age < aMax then acc.2.2 ++ [f.id] else acc.2.2)

/-- Data of one receive telegram context (11 R307, R308). -/
def takeTelegram (t : Telegram) (d : Option Bytes) (acc : Lane × List Nat) : Lane × List Nat :=
  let ln := acc.1
  let b := telBase t.port
  let age := ln.rget (b + 11) t.ctx
  let age' := match d with
    | some _ => 0
    | none => Nat.min 255 (age + 1)
  let aMax := ln.rget (b + 10) t.ctx
  let ln := (ln.rset (b + 11) t.ctx age').rset (b + 12) t.ctx (if age' ≥ aMax then 1 else 0)
  let ln := match d with
    | some bs => { ln with iBase := Store.putBytes ln.iBase 0 t.iOfs bs }
    | none => ln
  (ln, if age' ≥ aMax ∧ age < aMax then acc.2 ++ [telKey t.port t.ctx] else acc.2)

/-- Data of the CAN receive objects (11 R310). -/
def takeCan (c : Container) (ln : Lane) : Lane :=
  { ln with iBase := ln.batch.can.foldl (fun m p =>
      match c.canRx.find? (fun r => decide (64 * r.ctl + r.obj = p.1)) with
      | some r => Store.putBytes m 0 r.iOfs (p.2.take r.len)
      | none => m) ln.iBase }

/-! ## Fields into the image -/

/-- One agreed field into I: BIT fields from their first bit on, the other bits of their bytes kept (04 R107). -/
def putField (m : Store Byte) (f : Field) (v : Nat) : Store Byte :=
  match f.kind with
  | .bit n =>
    let len := (f.iBit + n + 7) / 8
    let old := Store.bytes m 0 f.iOfs len
    Store.putBytes m 0 f.iOfs (mergeBits (fun i => decide (f.iBit ≤ i) && decide (i < f.iBit + n)) 0 old (leBytes len (v * 2 ^ f.iBit)))
  | _ => Store.putBytes m 0 f.iOfs (leBytes f.size v)

/-- All agreed fields into I. -/
def putFields : List Field → Bytes → Store Byte → Store Byte
  | [], _, m => m
  | f :: fs, v, m => putFields fs (v.drop f.size) (putField m f (ofLe (v.take f.size)))

/-- A field read back from an image. -/
def readField (m : Store Byte) (f : Field) : Nat :=
  match f.kind with
  | .bit n => ofLe (Store.bytes m 0 f.iOfs ((f.iBit + n + 7) / 8)) / 2 ^ f.iBit % 2 ^ n
  | _ => ofLe (Store.bytes m 0 f.iOfs f.size)

/-- Packed fields read back from an image. -/
def readFields (fs : List Field) (m : Store Byte) : Bytes := fs.flatMap (fun f => leBytes f.size (readField m f))

/-- Cycle header and station status (04 Table 04-3). -/
def headerBytes (k cK mode flags : Nat) (stations : List (Nat × Nat)) : Bytes :=
  leBytes 8 k ++ timeBytes cK ++ leBytes 1 mode ++ leBytes 1 flags ++ leBytes 12 0 ++
    (List.range 64).flatMap (fun n => leBytes 1 (Store.get stations 0 n))

/-! ## Substitution (04 R130) -/

/-- Every input region with a declared substitute, and whether its value is substituted in this cycle. -/
def substList (c : Container) (ln : Lane) : List (Subst × Bool) :=
  c.stations.flatMap (fun x => x.substs.map (fun y => (y, decide (Store.get ln.batch.stations 0 x.no ≠ 1)))) ++
  c.flows.flatMap (fun f => f.substs.map (fun y => (y, decide (ln.rget (0x4400 + f.id) 19 = 1)))) ++
  c.telegrams.flatMap (fun t => t.substs.map (fun y => (y, decide (ln.rget (telBase t.port + 12) t.ctx = 1))))

/-- Bytes of I that an input field touches. -/
def substSpan (y : Subst) : Nat := if y.bits = 0 then y.len else (y.bit + y.bits + 7) / 8

/-- The bytes of a fixed substitute, at the place of its field. -/
def substFixed (y : Subst) (b : Bytes) : Bytes :=
  if y.bits = 0 then padTo y.len b else leBytes (substSpan y) (ofLe b % 2 ^ y.bits * 2 ^ y.bit)

/-- One input field written; the other bits of its bytes keep their values. -/
def substPut (y : Subst) (m : Store Byte) (b : Bytes) : Store Byte :=
  if y.bits = 0 then Store.putBytes m 0 y.iOfs b
  else Store.putBytes m 0 y.iOfs
    (mergeBits (fun i => decide (y.bit ≤ i) && decide (i < y.bit + y.bits)) 0 (Store.bytes m 0 y.iOfs (substSpan y)) b)

/-- Substitution of input fields: fixed values, or the value of the last cycle in which the field was good, the initial value
when there was none. A field declared twice is good when both its causes are. -/
def Lane.substitute (ln : Lane) (c : Container) : Lane :=
  let all := substList c ln
  all.foldl (fun ln p =>
    let bad := all.any (fun q => decide (q.1.iOfs = p.1.iOfs ∧ q.1.bit = p.1.bit) && q.2)
    let key := 8 * p.1.iOfs + p.1.bit
    if bad then
      let v := match p.1.fixed with
        | some b => substFixed p.1 b
        | none => (Store.find? ln.lastGood key).getD (Store.bytes (initImage c) 0 p.1.iOfs (substSpan p.1))
      { ln with i := substPut p.1 ln.i v }
    else { ln with lastGood := Store.insert ln.lastGood key (Store.bytes ln.iBase 0 p.1.iOfs (substSpan p.1)) }) ln

/-! ## Error words (04 R116, R117) -/

/-- Least of a list of numbers, `d` for an empty one. -/
def leastOf (d : Nat) (xs : List Nat) : Nat := xs.foldl Nat.min (xs.headD d)

/-- The error word of a group from the causes of its cycle: zero when there is none. -/
def errorWord (g : Group) (tasks : List Task) (ln : Lane) (stales : List Nat) : Bytes :=
  let drop := ln.batch.dropped.filter (fun n => g.stations.contains n)
  let back := ln.batch.recovered.filter (fun n => g.stations.contains n)
  let keys := g.flows ++ g.telegrams
  let old := stales.filter (fun n => keys.contains n)
  let bad := tasks.filter (fun t => decide (t.group = g.id) && decide ((Store.get ln.ctxs CtxState.blank t.ctx).firstPrev ≠ 0))
  let st := bad.map (fun t => (t, Store.get ln.ctxs CtxState.blank t.ctx))
  let causes := (if drop.isEmpty then 0 else 1) + (if back.isEmpty then 0 else 2) + (if old.isEmpty then 0 else 4) +
    (if st.any (fun p => p.2.arithPrev) then 8 else 0) + (if st.any (fun p => p.2.fencePrev) then 16 else 0)
  let n := drop.length + back.length + old.length + bad.length
  if n = 0 then List.replicate 8 0
  else
    let ctx := leastOf 65535 (bad.map (fun t => t.ctx))
    leBytes 1 causes ++ leBytes 1 (leastOf 255 (drop ++ back)) ++ leBytes 2 (leastOf 65535 old) ++ leBytes 2 ctx ++
      leBytes 1 (Store.get ln.ctxs CtxState.blank ctx).firstPrev ++ leBytes 1 (Nat.min 255 n)

/-- Whether a lane forms a group's error word: a voted group, or its own single-lane group (04 R126). -/
def groupHere (g : Group) (l : LaneId) : Bool := decide (g.scope = 0) || decide (g.scope = l.num + 1)

/-- Error words of the groups placed in I, and kept as the last error word of each error task (04 R116, 32xx.13). DESIGN CHOICE (log 82):
32xx.13 takes the word of every cycle, a zero word too. -/
def Lane.errorWords (ln : Lane) (c : Container) (l : LaneId) (stales : List Nat) : Lane :=
  let ts := tasksOf c l
  (c.groups.filter (fun g => groupHere g l)).foldl (fun ln g =>
    let w := errorWord g ts ln stales
    let ln := { ln with i := Store.putBytes ln.i 0 g.errOfs w }
    ts.foldl (fun ln t => if t.group = g.id ∧ t.kind = .error then ln.rset (0x3200 + t.ctx) 19 (ofLe w) else ln) ln) ln

/-! ## Event triggers (04 R114, R115) -/

/-- Number of triggers of one source in this cycle: an edge compares the forced images of two cycles; an added field gives
none (06 R179), nor does the first cycle after entry into RUN. A BIT field of several bits has an edge when one bit has. -/
def triggersOf (ln : Lane) (c : Container) (news : List Nat) (now : Bytes) : EventSrc → Nat
  | .flow id => if news.contains id then 1 else 0
  | .trigger id => (ln.batch.triggers.filter (fun t => decide (t = id))).length
  | .rise i => edge i (fun o n => decide (Nat.land n (Nat.xor n (Nat.land n o)) ≠ 0))
  | .fall i => edge i (fun o n => decide (Nat.xor o (Nat.land n o) ≠ 0))
  | .either i => edge i (fun o n => decide (o ≠ n))
where
  edge (i : Nat) (p : Nat → Nat → Bool) : Nat :=
    match ln.imagePrev, c.fields[i]? with
    | some old, some f =>
      let pos := fieldPos c i
      if ln.newFields.contains i then 0
      else if p (ofLe ((old.drop pos).take f.size)) (ofLe ((now.drop pos).take f.size)) then 1 else 0
    | _, _ => 0

/-- Pending flags and merge counts of the event tasks of a lane (04 R115). -/
def Lane.trigger (ln : Lane) (c : Container) (l : LaneId) (news : List Nat) (now : Bytes) : Lane :=
  (tasksOf c l).foldl (fun ln t => match t.kind with
    | .event _ _ srcs =>
      let n := srcs.foldl (fun n x => n + triggersOf ln c news now x) 0
      if n = 0 then ln
      else
        let x := Store.get ln.ctxs CtxState.blank t.ctx
        let more := if x.pending then n else n - 1
        let x := { x with pending := true, merged := satAdd 4294967295 x.merged more }
        { ln with ctxs := Store.put ln.ctxs CtxState.blank t.ctx x }.rset (0x3200 + t.ctx) 11 x.merged
    | _ => ln) ln

/-! ## Entries that show agreed values (07 Table 07-7, 08 Table 08-4) -/

/-- Report bits of a channel for the three lanes, Lane A lowest. -/
def reportBits (ln : Lane) (channel : Nat) : Nat :=
  LaneId.all.foldl (fun n m => if ln.reports.contains (3 * channel + m.num) then n + 2 ^ m.num else n) 0

/-- The value of a source shown in its entry. -/
def Lane.showSource (ln : Lane) (src : FieldSrc) (v : Nat) : Lane :=
  match src with
  | .diState n => ln.rset 0x5010 (n + 1) (setBit (ln.rget 0x5010 (n + 1)) 0 (v % 2 = 1))
  | .diWire n => ln.rset 0x5010 (n + 1) (setBit (ln.rget 0x5010 (n + 1)) 1 (v % 2 = 1))
  | .diIndet n => ln.rset 0x5010 (n + 1) (setBit (ln.rget 0x5010 (n + 1)) 2 (v % 2 = 1))
  | .diCount n => ln.rset 0x5011 (n + 1) v
  | .doStatus n =>
    let ln := ln.rset 0x5101 (n + 1) v
    if n % 4 = 0 then ln.rset 0x5100 1 (setBit (ln.rget 0x5100 1) (n / 4) (bitOf v 6)) else ln
  | .doMap n => ln.rset 0x5102 (n + 1) v
  | .fieldDie => ln.rset 0x5000 1 v
  | .ai n => ln.rset 0x5202 (n + 1) v
  | .aiStatus n => ln.rset 0x5203 (n + 1) (v % 16 + ln.rget 0x5203 (n + 1) / 16 * 16)
  | .la n => ln.rset 0x5303 (n + 1) v
  | .laStatus n => ln.rset 0x5304 (n + 1) (v % 16 + ln.rget 0x5304 (n + 1) / 16 * 16)
  | .conv _ _ => ln
  | .recog r =>
    let ln := if r = 0 ∧ ln.rget 0x5320 1 ≠ v then ln.rbump 0x5321 0 else ln
    ln.rset 0x5320 (r + 1) v

/-- All agreed fields shown in their entries. -/
def Lane.showFields (ln : Lane) : List Field → Bytes → Lane
  | [], _ => ln
  | f :: fs, v => Lane.showFields (ln.showSource f.src (ofLe (v.take f.size))) fs (v.drop f.size)

/-- Discrepancy reports by channel shown in 5010, 5012, 5203 and 5304. -/
def Lane.showReports (ln : Lane) (l : LaneId) : Lane :=
  let ln := (List.range 32).foldl (fun ln n =>
    let b := reportBits ln n
    let ln := ln.rset 0x5010 (n + 1) (ln.rget 0x5010 (n + 1) % 8 + 8 * b)
    ln.rset 0x5012 1 (setBit (ln.rget 0x5012 1) n (bitOf b l.num))) ln
  let ln := (List.range 8).foldl (fun ln n =>
    let b := reportBits ln (49 + n)
    ln.rset 0x5203 (n + 1) (ln.rget 0x5203 (n + 1) % 16 + 16 * b)) ln
  (List.range 4).foldl (fun ln n =>
    let b := reportBits ln (57 + n)
    ln.rset 0x5304 (n + 1) (ln.rget 0x5304 (n + 1) % 16 + 16 * b)) ln

/-- Station counters of the batch: drop-outs and cycles not operational, and the status shown (04 Table 04-6). -/
def Lane.showStations (ln : Lane) : Lane :=
  let ln := ln.batch.stations.foldl (fun ln p =>
    let ln := ln.rset (0x5400 + p.1) 2 p.2
    if p.2 ≠ 1 then ln.rbump (0x5400 + p.1) 6 else ln) ln
  ln.batch.dropped.foldl (fun ln n => ln.rbump (0x5400 + n) 5) ln

/-! ## Forming the agreed image -/

/-- Extent of I over which the image CRC is taken, from the container's declarations (03 Table 03-5). The manual leaves the span
open: DESIGN CHOICE, log 64. -/
def imageExtent (c : Container) : Nat :=
  let ends := c.fields.map (fun f => f.iOfs + (match f.kind with | .bit n => (f.iBit + n + 7) / 8 | _ => f.size)) ++
    c.flows.map (fun f => f.iOfs + f.aux) ++ c.telegrams.map (fun t => t.iOfs + t.dLen) ++ c.canRx.map (fun r => r.iOfs + r.len) ++
    c.groups.map (fun g => g.errOfs + 8) ++ (c.symbols.filter (fun y => decide (y.area = 0))).map (fun y => y.ofs + y.size)
  ends.foldl Nat.max 96

/-- CRC-32C of a lane's agreed input image. How the error words of single-lane groups, which differ between lanes, enter it the manual does not
say (04 R127 excludes single-lane regions from the submission only): they count as zero (DESIGN CHOICE, log 64). -/
def Lane.imageCrc (ln : Lane) (c : Container) : Nat :=
  let m := (c.groups.filter (fun g => decide (g.scope ≠ 0))).foldl (fun m g => Store.putBytes m 0 g.errOfs (List.replicate 8 0)) ln.i
  crc32c (Store.bytes m 0 0 (imageExtent c))

/-- What a lane does when its exchange is complete: agreed values, discrepancies, the whole of I, triggers and run count. -/
def Lane.form (ln : Lane) (c : Container) (l : LaneId) (v2 : Bool) (young : List LaneId) (parts : List (LaneId × Bytes)) (cK k mode : Nat) : Lane :=
  let agreed := agreeAll c.fields (parts.map (fun p => p.2)) ln.image
  let ln := stepDiffs ln c.fields young parts agreed
  let ln := ((ln.showFields c.fields agreed).showReports l).showStations
  let flags := (if ln.first then 1 else 0) + (if ln.afterChange then 2 else 0) + (if ln.afterRestore then 4 else 0)
  let ln := { ln with agreedC := cK, agreedK := k, image := agreed, iBase := putFields c.fields agreed ln.iBase }
  let fl := ln.batch.flows.foldl (fun acc it => match c.flows.find? (fun f => decide (f.id = it.id) && decide (f.role = 2)) with
    | some f => takeFlow v2 c.ring.identity cK f it acc
    | none => acc) (ln, [], [])
  let te := ln.batch.telegrams.foldl (fun acc p => match c.telegrams.find? (fun t => decide (telKey t.port t.ctx = p.1) && decide (t.role = 2)) with
    | some t => takeTelegram t p.2 acc
    | none => acc) (fl.1, fl.2.2)
  let ln := takeCan c te.1
  let ln := { ln with i := Store.putBytes ln.iBase 0 0 (headerBytes k cK mode flags ln.batch.stations) }
  let ln := ((ln.substitute c).errorWords c l te.2).forceI
  let now := readFields c.fields ln.i
  let ln := ln.trigger c l fl.2.1 now
  let ln := if ln.first && !ln.afterRestore then ln else ln.rset 0x3125 0 ((ln.rget 0x3125 0 + 1) % 2 ^ 64)
  { ln with imagePrev := some now, newFields := [], exchanged := true }

/-! ## Judgement of an exchange (03 R78 to R80) -/

/-- Vectors that count in a lane's agreement: accepted, of lanes that are not in shadow execution, in lane order. -/
def partsOf (s : State) (l : LaneId) : List (LaneId × Bytes) :=
  LaneId.all.filterMap (fun m => match (s.lane l).vecs.get m with
    | .accepted v => if (s.lane m).status = .shadow then none else some (m, v)
    | _ => none)

/-- Whether a lane still waits for a vector. -/
def State.awaits (s : State) (l : LaneId) : Bool := LaneId.all.any (fun m => decide ((s.lane l).vecs.get m = .awaited))

/-- Lanes whose part of the vector differs from the majority are excluded (03 R78, R79). -/
def excludeMinority (s : State) (vals : List (LaneId × Bytes)) (v : Bytes) (cause : Nat) : State :=
  (vals.filter (fun p => decide (p.2 ≠ v))).foldl (fun s p => if (s.lane p.1).status = .active then exclude s p.1 cause else s) s

/-- The agreed index (01 R12): the one that another lane has agreed in this cycle, else the previous one plus one. -/
def indexOk (s : State) (k : Nat) : Bool :=
  match s.vote.agreed with
  | some k0 => decide (k = k0)
  | none => match s.vote.agreedLast with
    | some k1 => decide (k = k1 + 1)
    | none => true

/-- Sources that have an entry of their own: a digital input's states, the counts, the analog inputs, the recognition unit and
the field die (07 and 08, dictionary tables). Those of the outputs are in every container's fields (07 R203). -/
def shownSources : List FieldSrc :=
  (List.range 32).flatMap (fun n => [FieldSrc.diState n, .diWire n, .diIndet n]) ++ (List.range 8).map FieldSrc.diCount ++
    (List.range 8).flatMap (fun n => [FieldSrc.ai n, .aiStatus n]) ++ (List.range 4).flatMap (fun n => [FieldSrc.la n, .laStatus n]) ++
    (List.range 9).map FieldSrc.recog ++ [.fieldDie]

/-- Status entries of sources that the container declares no field for: each lane shows what its own section holds (the manual
states nothing for them: DESIGN CHOICE, log 74). -/
def showUndeclared (s : State) (l : LaneId) (c : Container) : State :=
  if s.variantF then
    let rest := shownSources.filter (fun x => !(c.fields.any (fun f => decide (f.src = x))))
    s.modLane l (fun ln => rest.foldl (fun ln x => ln.showSource x (sampleOf s l x)) ln)
  else s

/-- A lane's agreement when no vector is awaited any more: cycle time and batch judged, the index checked, the image formed. -/
def agreeLane (s : State) (l : LaneId) : State :=
  match s.config with
  | none => s
  | some c =>
    if !s.inRun || !s.runs l || (s.lane l).exchanged || s.awaits l then s
    else
      let parts := partsOf s l
      if parts.length < 2 then s
      else
        let views := parts.map (fun p => (p.1, p.2.take 10))
        let sigs := parts.map (fun p => (p.1, (p.2.drop 12).take 4))
        match majorityOf (views.map (fun p => p.2)) with
        | none => enterSafeWith s 5 (views.flatMap (fun p => p.2))
        | some v =>
          let s := excludeMinority s views v 7
          if !s.inRun then s
          else match majorityOf (sigs.map (fun p => p.2)) with
            | none => enterSafe s 5
            | some g =>
              let s := excludeMinority s sigs g 8
              let cK := ofTimeBytes v
              let t := Nat.max 1 c.tBase
              let k := (cK - c.phi) / t
              if !s.inRun then s
              else if cK < c.phi ∨ (cK - c.phi) % t ≠ 0 ∨ !indexOk s k then
                enterSafe { s with time := { s.time with jtf := true } } 7
              else if !s.runs l then s
              else
                let s := { s with vote := { s.vote with agreed := some k } }
                let fields := parts.map (fun p => (p.1, (p.2.drop 16).take (fieldsSize c)))
                let s := s.modLane l (fun ln => ln.form c l s.v2ring (s.recogYoung c fields) fields cK k s.vote.modeC)
                let s := showUndeclared s l c
                exchangeMonitors (jset s 0x3022 0 (s.time.now - s.vote.cK))

/-- Every lane that can agree now does. -/
def agreeAllLanes (s : State) : State := exchangeMonitors (LaneId.all.foldl agreeLane s)

/-! ## Commands of the exchange -/

/-- Length of a vector (03 Table 03-3). -/
def vectorLen (c : Container) : Nat := 20 + fieldsSize c

/-- Whether a vector's own CRC-32C is correct (03 R74, R75). -/
def vectorOk (c : Container) (v : Bytes) : Bool :=
  decide (v.length = vectorLen c) && decide (ofLe (v.drop (v.length - 4)) = crc32c (v.take (v.length - 4)))

/-- VECTOR_RECEIVED (03 R74): the hub accepts or rejects the vector of a lane from which it awaits one. A rejected vector is
rejected in every other lane, counted, and excludes its lane with cause 5. -/
def vectorReceived (s : State) (l : LaneId) (v : Bytes) : State :=
  match s.config with
  | none => s
  | some c =>
    if !s.inRun || decide (s.vote.hub.get l ≠ .awaited) then s
    else if vectorOk c v then { s with vote := { s.vote with hub := s.vote.hub.set l (.accepted v) } }
    else
      let s := { s with vote := { s.vote with hub := s.vote.hub.set l .rejected } }
      let s := s.modLanes (fun m ln => if m = l then ln.rbump 0x3020 1 else { ln with vecs := ln.vecs.set l .rejected })
      agreeAllLanes (exclude s l 5)

/-- Lanes whose vectors are still outstanding. -/
def outstanding (s : State) : List LaneId := LaneId.all.filter (fun l => decide (s.vote.hub.get l = .awaited))

/-- Exchange bound t_mx in ns (01 R18). -/
def tMx (c : Container) : Nat := 6000 + 20 * c.bIn

/-- VECTOR_DEADLINE (03 R74): at C_k + t_mx − 200 ns every outstanding vector is absent, and its lane excluded with cause 6. -/
def vectorDeadline (s : State) : State :=
  match s.config with
  | none => s
  | some c =>
    if s.inRun && decide (s.vote.k.isSome) then
      let s := advanceTo s (s.vote.cK + tMx c - 200)
      let s := (outstanding s).foldl (fun s l =>
        let s := { s with vote := { s.vote with hub := s.vote.hub.set l .absent } }
        let s := s.modLanes (fun m ln => if m = l then ln.rbump 0x3021 1 else { ln with vecs := ln.vecs.set l .absent })
        exclude s l 6) s
      agreeAllLanes s
    else s

/-- FORWARDED_VECTOR (03 R75): a lane that runs takes the vector that the hub accepted and it awaits; a wrong CRC-32C excludes
the receiving lane with cause 9. -/
def forwardedVector (s : State) (l src : LaneId) (v : Bytes) : State :=
  match s.config with
  | none => s
  | some c =>
    match s.vote.hub.get src with
    | .accepted _ =>
      if s.inRun && s.runs l && decide ((s.lane l).vecs.get src = .awaited) then
        if vectorOk c v then agreeLane (s.modLane l (fun ln => { ln with vecs := ln.vecs.set src (.accepted v) })) l
        else agreeAllLanes (exclude s l 9)
      else s
    | _ => s

end Sys2Proof.Machine
end

