-- ==== Sys2Proof/Machine/Operands.lean ====
section
/-! DEFINITION. What one Serzel instruction works on: the lane, its engine and the running task, with the checked accesses to
memory, the registers and the sources of 05 R134, R137, R138 and R143. -/

namespace Sys2Proof.Machine

open Sys2Proof

/-- An instruction in progress: lane and lane letter, place of the engine or half, engine, running task, container, behaviour
level, and what the instruction leaves: fault (0 none), sequence fault (0 none), next pc, clocks, whether the task ends, the data that it
loaded, and what it puts on the compared bus (03 R62). -/
structure Exec where
  ln   : Lane
  l    : LaneId
  slot : Nat
  en   : Engine
  task : Option Task
  con  : Option Container
  v2   : Bool
  fault : Nat
  seq  : Nat
  pc   : Nat
  cost : Nat
  ends : Bool
  ins  : Bytes
  out  : List (BitVec 128)
  deriving DecidableEq, Repr

/-- A fault raised; where several conditions hold together the lowest code is raised (05 R162). -/
def Exec.raise (x : Exec) (code : Nat) : Exec :=
  { x with fault := if code = 0 then x.fault else if x.fault = 0 then code else Nat.min x.fault code }

/-- A sequence fault (05 R162, R163): where several hold together the lowest code is raised. -/
def Exec.seqFault (x : Exec) (code : Nat) : Exec := { x with seq := if x.seq = 0 then code else Nat.min x.seq code }

/-- A word of the compared bus, 128 bits wide (03 R62): store data or the like, its address and what it is. The places of the signals
on the bus are the model's (DESIGN CHOICE, log 67). -/
def busWord (kind addr data : Nat) : BitVec 128 :=
  BitVec.ofNat 128 (data % 2 ^ 64 + 2 ^ 64 * (addr % 2 ^ 56) + 2 ^ 120 * (kind % 256))

/-- An output of a core. -/
def Exec.give (x : Exec) (w : BitVec 128) : Exec := { x with out := x.out ++ [w] }

/-- Words of a store of bytes, one for each clock that it takes on the bus. -/
def busOf (a : Area) (ofs : Nat) (bs : Bytes) : List (BitVec 128) :=
  (List.range ((bs.length + 7) / 8)).map (fun i => busWord 1 (2 ^ 32 * a.code + ofs + 8 * i) (ofLe ((bs.drop (8 * i)).take 8)))

/-- Clocks taken (05 R161). -/
def Exec.clocks (x : Exec) (n : Nat) : Exec := { x with cost := x.cost + n }

/-! ## Registers -/

/-- A word accumulator. -/
def Engine.acc (en : Engine) : Acc → W64
  | .wa => en.wa
  | .wb => en.wb

/-- Write of a word accumulator. -/
def Engine.setAcc (en : Engine) (r : Acc) (v : W64) : Engine :=
  match r with
  | .wa => { en with wa := v }
  | .wb => { en with wb := v }

/-- An index register. -/
def Engine.xreg (en : Engine) (n : Fin 4) : BitVec 32 :=
  match n with
  | 0 => en.x0
  | 1 => en.x1
  | 2 => en.x2
  | 3 => en.x3

/-- Write of an index register. -/
def Engine.setX (en : Engine) (n : Fin 4) (v : BitVec 32) : Engine :=
  match n with
  | 0 => { en with x0 := v }
  | 1 => { en with x1 := v }
  | 2 => { en with x2 := v }
  | 3 => { en with x3 := v }

/-- The engine of an instruction changed. -/
def Exec.mapEn (x : Exec) (f : Engine → Engine) : Exec := { x with en := f x.en }

/-! ## Places in memory -/

/-- Whether the engine of the instruction is split. -/
def Exec.split (x : Exec) : Bool :=
  match x.con with
  | some c => isSplit c x.slot
  | none => false

/-- Instructions in the instruction store of the engine or half (04 Table 04-1). -/
def Exec.codeSize (x : Exec) : Nat := if x.split then 32768 else 65536

/-- Extent of an area for the running task (04 Table 04-2, 05 R137). -/
def Exec.extent (x : Exec) (a : Area) : Nat :=
  match a with
  | .l => match x.task with
    | some t => t.lLen
    | none => 0
  | .k => 4 * x.codeSize
  | .res => 0
  | a => areaSize a

/-- Whether an area lies in the lane data store. -/
def isShared : Area → Bool
  | .i | .q | .m | .d | .s => true
  | _ => false

/-- Physical offset of an offset of the running task. -/
def Exec.physical (x : Exec) (a : Area) (ofs : Nat) : Nat :=
  match a, x.task with
  | .l, some t => localOfs x.slot x.split (t.lBase + ofs)
  | _, _ => ofs

/-- Whether the running task reads a byte of an area in its published copy: it belongs to a cross-engine variable whose writer
is a task of another engine or half and is not linked to it; a variable that the batch writes is read as it stands (04 R123,
R124, R27). -/
def Exec.published (x : Exec) (a : Area) (ofs : Nat) : Bool :=
  match x.con, x.task with
  | some c, some t => c.symbols.any (fun y => y.cross && !y.external && decide (symArea y = a) && decide (symOfs c y ≤ ofs) &&
      decide (ofs < symOfs c y + y.size) && decide (y.writer / 16 ≠ x.slot) &&
      !(c.links.any (fun k => decide (k.writer = y.writer) && decide (k.reader = t.ctx) &&
        (decide (k.lanes = 0) || decide (k.lanes = x.l.num + 1)))))
  | _, _ => false

/-- A byte of the instruction store (05 R137). -/
def Exec.codeByte (x : Exec) (ofs : Nat) : Byte :=
  BitVec.ofNat 8 (Store.get (Store.get x.ln.istore [] x.slot) 0 (ofs / 4) / 256 ^ (ofs % 4))

/-- A byte as the running task reads it. -/
def Exec.readByte (x : Exec) (a : Area) (ofs : Nat) : Byte :=
  match a with
  | .k => x.codeByte ofs
  | a =>
    if isShared a && x.published a ofs then Store.get (Store.get x.ln.published [] a.code) 0 ofs
    else Store.get (x.ln.area a (x.slot / 2)) 0 (x.physical a ofs)

/-- Bytes as the running task reads them. -/
def Exec.readBytes (x : Exec) (a : Area) (ofs n : Nat) : Bytes := (List.range n).map (fun i => x.readByte a (ofs + i))

/-- Whether a store lies in a fence window of the running task; its partition of L is one (04 R122). -/
def Exec.fenced (x : Exec) (a : Area) (ofs n : Nat) : Bool :=
  match x.task with
  | some t => decide (a = .l) ||
      t.fences.any (fun f => decide (Area.ofCode f.area = a) && decide (f.base ≤ ofs) && decide (ofs + n ≤ f.base + f.len))
  | none => false

/-- Bytes of Q written around the forced bits (06 R184). -/
def maskForced (ln : Lane) : Nat → Bytes → Bytes → Bytes
  | _, [], _ => []
  | ofs, n :: ns, olds =>
    let m := forceMask ln ofs
    let o := (olds.headD 0).toNat
    BitVec.ofNat 8 (Nat.lor (Nat.land o m) (Nat.land n.toNat (255 - m))) :: maskForced ln (ofs + 1) ns (olds.drop 1)

/-- Bytes put into memory; forced bits of Q keep their value. -/
def Exec.put (x : Exec) (a : Area) (ofs : Nat) (bs : Bytes) : Exec :=
  let p := x.physical a ofs
  let bs := if a = .q then maskForced x.ln ofs bs (x.ln.load .q 0 ofs bs.length) else bs
  { x with ln := x.ln.store a (x.slot / 2) p bs, out := x.out ++ busOf a ofs bs }

/-- Clocks that an access waits for the engine's slot of the rotation: slots n and n + 16, for a half slot n or n + 16 alone
(04 R110). -/
def Exec.wait (x : Exec) : Nat :=
  let own := x.slot / 2 + 16 * (x.slot % 2)
  if x.split then (own + 32 - x.en.clock % 32) % 32 else (x.slot / 2 + 32 - x.en.clock % 16) % 16

/-- The clocks of an access to an area: the wait for a shared store, nothing for L and K (05 R161). -/
def Exec.access (x : Exec) (a : Area) : Exec := if isShared a then x.clocks x.wait else x

/-! ## Checked accesses (05 R138) -/

/-- Fault of a load of `n` bytes, 0 when its checks pass. -/
def Exec.loadFault (x : Exec) (a : Area) (ofs n : Nat) : Nat :=
  if a = .res ∨ ofs + n > x.extent a then 17 else if ofs % n ≠ 0 then 18 else 0

/-- Fault of a store of `n` bytes, 0 when its checks pass. -/
def Exec.storeFault (x : Exec) (a : Area) (ofs n : Nat) : Nat :=
  if a = .res ∨ ofs + n > x.extent a then 16
  else if ofs % n ≠ 0 then 18
  else if a = .i ∨ a = .k ∨ !x.fenced a ofs n then 16 else 0

/-- The word that the address of a load of `n` bytes puts on the compared bus. -/
def busLoad (a : Area) (ofs n : Nat) : BitVec 128 := busWord 5 (2 ^ 32 * a.code + ofs) n

/-- A load of `n` bytes: its address goes to the compared bus, its data are an input (03 R62). -/
def Exec.fetch (x : Exec) (a : Area) (ofs n : Nat) : Exec :=
  { x with ins := x.ins ++ x.readBytes a ofs n, out := x.out ++ [busLoad a ofs n] }

/-- Value of a checked load, with its fault raised. -/
def Exec.loadVal (x : Exec) (a : Area) (ofs n : Nat) : Nat × Exec :=
  let f := x.loadFault a ofs n
  if f = 0 then (ofLe (x.readBytes a ofs n), x.fetch a ofs n) else (0, x.raise f)

/-- A checked store. -/
def Exec.storeVal (x : Exec) (a : Area) (ofs : Nat) (bs : Bytes) : Exec :=
  let f := x.storeFault a ofs bs.length
  if f = 0 then x.put a ofs bs else x.raise f

/-- The operand bit of a format B instruction. -/
def Exec.loadBit (x : Exec) (b : BitAddr) : Bool × Exec :=
  let r := x.loadVal b.area b.ofs.val 1
  (bitOf r.1 b.bit.val, r.2)

/-- A single-bit store (04 R105). -/
def Exec.storeBit (x : Exec) (b : BitAddr) (v : Bool) : Exec :=
  let f := x.storeFault b.area b.ofs.val 1
  if f = 0 then
    let p := x.physical b.area b.ofs.val
    if b.area = .q ∧ bitOf (forceMask x.ln b.ofs.val) b.bit.val then x
    else { x with ln := x.ln.storeBit b.area (x.slot / 2) p b.bit.val v
                  out := x.out ++ [busWord 2 (2 ^ 32 * b.area.code + 8 * b.ofs.val + b.bit.val) (if v then 1 else 0)] }
  else x.raise f

/-- Effective address of a format W operand; the sum does not wrap (05 R137). -/
def Exec.ea (x : Exec) (w : WordAddr) : Nat := w.ofs.val + (if w.idx = 0 then 0 else (x.en.xreg w.idx).toNat)

/-! ## Sources (05 R143) -/

/-- The constant at K byte offset 8 × IMM; beyond the extent of K it is zero with fault 17. -/
def Exec.konst (x : Exec) (v : Nat) : Nat × Exec :=
  if 8 * v + 8 > x.extent .k then (0, x.raise 17) else (ofLe (x.readBytes .k (8 * v) 8), x)

/-- Source S of a format A instruction, as 64 bits. -/
def Exec.src (x : Exec) : Src → Nat × Exec
  | .acc r => ((x.en.acc r).toNat, x)
  | .x n => ((x.en.xreg n).toNat, x)
  | .imm v => (wrapTo 64 (signedOf 16 v.val), x)
  | .k v => x.konst v.val

/-- Source of a REAL or CMPR instruction (05 R147). -/
def Exec.rsrc (x : Exec) : RSrc → Nat × Exec
  | .acc r => ((x.en.acc r).toNat, x)
  | .k v => x.konst v.val

/-- Source of a conversion from REAL (05 R150). -/
def Exec.csrc (x : Exec) : ConvSrc → Nat × Exec
  | .acc r => ((x.en.acc r).toNat, x)
  | .x n => ((x.en.xreg n).toNat, x)
  | .k v => x.konst v.val

end Sys2Proof.Machine
end

