-- ==== Sys2Proof/Machine/Flags.lean ====
section
/-! DEFINITION. Results and flags of the format A groups: integer, logic, compare, REAL and conversion (05 R143 to R150). -/

namespace Sys2Proof.Machine

open Sys2Proof

/-- Result of an integer or logic function: r in w bits, carry, overflow and fault. -/
structure Alu where
  r : Nat
  c : Bool
  v : Bool
  f : Nat
  deriving DecidableEq, Repr

/-- An exact integer reduced to w bits. -/
def low (w : Nat) (i : Int) : Nat := wrapTo w i

/-- Whether an exact integer is a signed w-bit value. -/
def fitsS (w : Nat) (i : Int) : Bool := decide (-(2 ^ (w - 1) : Int) ≤ i) && decide (i < (2 ^ (w - 1) : Int))

/-- The most negative signed w-bit value. -/
def minS (w : Nat) : Int := -(2 ^ (w - 1) : Int)

/-! ## INT (05 Table 05-4, R144); a and b as signed values -/

/-- Signed addition: carry out of bit w − 1, signed overflow. -/
def aluAddS (w : Nat) (a b : Int) : Alu :=
  { r := low w (a + b), c := decide (2 ^ w ≤ low w a + low w b), v := !fitsS w (a + b), f := 0 }

/-- Signed subtraction: borrow, signed overflow. -/
def aluSubS (w : Nat) (a b : Int) : Alu :=
  { r := low w (a - b), c := decide (low w a < low w b), v := !fitsS w (a - b), f := 0 }

/-- Negation of b; the most negative value gives itself with V. -/
def aluNeg (w : Nat) (b : Int) : Alu := { r := low w (-b), c := false, v := decide (b = minS w), f := 0 }

/-- Absolute value of b; the most negative value gives itself with V. -/
def aluAbs (w : Nat) (b : Int) : Alu := { r := low w b.natAbs, c := false, v := decide (b = minS w), f := 0 }

/-- A result with C and V clear. -/
def aluPlain (w : Nat) (i : Int) : Alu := { r := low w i, c := false, v := false, f := 0 }

/-- LIMIT: MIN(MAX(a, o), b) (05 Table 05-4). -/
def limitOf (a o b : Int) : Int := min (max a o) b

/-- Signed multiplication; V when the exact product does not fit. -/
def aluMulS (w : Nat) (a b : Int) : Alu := { r := low w (a * b), c := false, v := !fitsS w (a * b), f := 0 }

/-- Signed division truncated toward zero, with faults 1 and 2 (05 R144). -/
def aluDivS (w : Nat) (a b : Int) : Alu :=
  if b = 0 then { r := 0, c := false, v := true, f := 1 }
  else if a = minS w ∧ b = -1 then { r := low w a, c := false, v := true, f := 2 }
  else { r := low w (Int.tdiv a b), c := false, v := false, f := 0 }

/-- Signed remainder with the sign of a; fault 1 on zero (05 R144). -/
def aluModS (w : Nat) (a b : Int) : Alu :=
  if b = 0 then { r := 0, c := false, v := true, f := 1 } else aluPlain w (Int.tmod a b)

/-! ## UINT; a and b as unsigned values -/

/-- Unsigned addition: V := C. -/
def aluAddU (w a b : Nat) : Alu := { r := (a + b) % 2 ^ w, c := decide (2 ^ w ≤ a + b), v := decide (2 ^ w ≤ a + b), f := 0 }

/-- Unsigned subtraction: C is the borrow, V := C. -/
def aluSubU (w a b : Nat) : Alu := { r := low w ((a : Int) - b), c := decide (a < b), v := decide (a < b), f := 0 }

/-- Unsigned multiplication; V when the exact product does not fit. -/
def aluMulU (w a b : Nat) : Alu := { r := a * b % 2 ^ w, c := false, v := decide (2 ^ w ≤ a * b), f := 0 }

/-- Unsigned division; fault 1 on zero. -/
def aluDivU (a b : Nat) : Alu := if b = 0 then ⟨0, false, true, 1⟩ else ⟨a / b, false, false, 0⟩

/-- Unsigned remainder; fault 1 on zero. -/
def aluModU (a b : Nat) : Alu := if b = 0 then ⟨0, false, true, 1⟩ else ⟨a % b, false, false, 0⟩

/-! ## LOGIC (05 Table 05-5, R145) -/

/-- Shift left by s; C is bit w − s of a for 1 ≤ s ≤ w. -/
def aluShl (w a s : Nat) : Alu :=
  { r := if s ≥ w then 0 else a * 2 ^ s % 2 ^ w, c := decide (1 ≤ s) && decide (s ≤ w) && bitOf a (w - s), v := false, f := 0 }

/-- Logical shift right by s; C is bit s − 1 of a for 1 ≤ s ≤ w. -/
def aluShr (w a s : Nat) : Alu :=
  { r := if s ≥ w then 0 else a / 2 ^ s, c := decide (1 ≤ s) && decide (s ≤ w) && bitOf a (s - 1), v := false, f := 0 }

/-- Arithmetic shift right by s. -/
def aluSar (w a s : Nat) : Alu :=
  let top := bitOf a (w - 1)
  { r := low w (signedOf w a / (2 ^ s : Int))
    c := if s = 0 then false else if s ≤ w then bitOf a (s - 1) else top
    v := false, f := 0 }

/-- Rotate left by s mod w; C is bit 0 of r. -/
def aluRol (w a s : Nat) : Alu :=
  let n := s % w
  let r := (a * 2 ^ n + a / 2 ^ (w - n)) % 2 ^ w
  { r := r, c := decide (n ≠ 0) && bitOf r 0, v := false, f := 0 }

/-- Rotate right by s mod w; C is bit w − 1 of r. -/
def aluRor (w a s : Nat) : Alu :=
  let n := s % w
  let r := (a / 2 ^ n + a * 2 ^ (w - n)) % 2 ^ w
  { r := r, c := decide (n ≠ 0) && bitOf r (w - 1), v := false, f := 0 }

/-! ## Delivery -/

/-- Result and flags of an INT, UINT or LOGIC instruction: D takes r sign- or zero-extended, Z and N follow r (05 R143, R145). -/
def Exec.deliver (x : Exec) (w : Nat) (sgn : Bool) (d : Acc) (a : Alu) : Exec :=
  let v := if sgn then BitVec.ofInt 64 (signedOf w a.r) else BitVec.ofNat 64 a.r
  let x := x.mapEn (fun en => { en.setAcc d v with z := decide (a.r = 0), n := bitOf a.r (w - 1), c := a.c, v := a.v })
  x.raise a.f

/-- Compare functions (05 R146). -/
inductive Cmp where
  | eq | ne | lt | le | gt | ge
  deriving DecidableEq, Repr

/-- A comparison of two integers. -/
def Cmp.holds (k : Cmp) (a b : Int) : Bool :=
  match k with
  | .eq => decide (a = b)
  | .ne => decide (a ≠ b)
  | .lt => decide (a < b)
  | .le => decide (a ≤ b)
  | .gt => decide (b < a)
  | .ge => decide (b ≤ a)

/-- A REAL comparison; unordered gives 1 for NE alone (05 R149). -/
def Cmp.holdsReal (k : Cmp) (o : Option Ordering) : Bool :=
  match o, k with
  | none, .ne => true
  | none, _ => false
  | some .lt, k => k.holds 0 1
  | some .eq, k => k.holds 0 0
  | some .gt, k => k.holds 1 0

/-- Format of a REAL width (05 R147). -/
def realFmt : RWid → FFmt
  | .f32 => f32
  | .f64 => f64

/-- Low bits of a register that a REAL width reads. -/
def realLow (w : RWid) (v : Nat) : Nat := v % 2 ^ (realFmt w).width

/-- Result and flags of a REAL instruction (05 R148). -/
def Exec.deliverReal (x : Exec) (w : RWid) (d : Acc) (r : FRes) : Exec :=
  let f := realFmt w
  let x := x.mapEn (fun en => { en.setAcc d (BitVec.ofNat 64 r.bits) with
    z := decide (r.bits % 2 ^ (f.width - 1) = 0), n := bitOf r.bits (f.width - 1), v := decide (r.fault = 5), c := f.isNan r.bits })
  x.raise r.fault

/-- Flags after a conversion to an integer: Z and N of the w-bit result, V when fault 3 was raised (05 R150). -/
def Exec.deliverInt (x : Exec) (w : Nat) (sgn : Bool) (d : Acc) (i : Int) (fault : Nat) : Exec :=
  x.deliver w sgn d { r := low w i, c := false, v := decide (fault ≠ 0), f := fault }

/-- Flags after a conversion to REAL: Z and N of the result, V when fault 4 or 5 was raised, C := 0 (05 R150). -/
def Exec.deliverConv (x : Exec) (f : FFmt) (d : Acc) (r : FRes) : Exec :=
  let x := x.mapEn (fun en => { en.setAcc d (BitVec.ofNat 64 r.bits) with
    z := decide (r.bits % 2 ^ (f.width - 1) = 0), n := bitOf r.bits (f.width - 1), v := decide (r.fault ≠ 0), c := false })
  x.raise r.fault

end Sys2Proof.Machine
end

