-- ==== Sys2Proof/Machine/Tasks.lean ====
section
/-! DEFINITION. Engines and their order lists: due tasks, dispatch, poll points, links, the end of a task, fault latches and the
sequencing that every instruction shares (04 R102, R113 to R119, R124, R128, 05 R153 to R155, R161 to R163). -/

namespace Sys2Proof.Machine

open Sys2Proof

/-! ## Due tasks -/

/-- The task that a lane holds in a context. -/
def taskAt (c : Container) (l : LaneId) (ctx : Nat) : Option Task := (tasksOf c l).find? (fun t => decide (t.ctx = ctx))

/-- The order list of an engine or half in a lane (04 R112). -/
def orderOf (c : Container) (l : LaneId) (slot : Nat) : List OrderEntry :=
  match c.orders.find? (fun o => decide (o.slot = slot) && (decide (o.lanes = 0) || decide (o.lanes = l.num + 1))) with
  | some o => o.list
  | none => []

/-- Whether shedding stage 2 stops an engine's slot: a split half without a voted task (16 R417). -/
def haltsAt2 (c : Container) (slot : Nat) : Bool :=
  isSplit c slot && !(c.tasks.any (fun u => decide (u.ctx / 16 = slot) && decide (u.scope = 0)))

/-- Whether shedding keeps a task from running: a sheddable single-lane task from stage 1 on, every task of a half that carries
no voted task from stage 2 on (04 R128, 16 R417). -/
def isShed (c : Container) (stage : Nat) (t : Task) : Bool :=
  (decide (1 ≤ stage) && t.sheddable && decide (t.scope ≠ 0)) ||
  (decide (2 ≤ stage) && haltsAt2 c (t.ctx / 16))

/-- Whether the error word of a task's group is not zero in this cycle (04 R116). -/
def errorDue (ln : Lane) (c : Container) (t : Task) : Bool :=
  match c.groups.find? (fun g => decide (g.id = t.group)) with
  | some g => (ln.load .i 0 g.errOfs 8).any (fun b => decide (b ≠ 0))
  | none => false

/-- Whether a task is due in the cycle: a cyclic task by m and p, an error task by its word; an event task has its place at a
poll point (04 R113, R116). -/
def dueNow (ln : Lane) (c : Container) (t : Task) : Bool :=
  match t.kind with
  | .cyclic _ _ => decide (ln.agreedK % Nat.max 1 (ln.rget (0x3200 + t.ctx) 3) = ln.rget (0x3200 + t.ctx) 4)
  | .error => errorDue ln c t
  | .event _ _ _ => false

/-- Whether a pending event task is activated in the cycle (04 R115). -/
def eventReady (ln : Lane) (c : Container) (t : Task) : Bool :=
  match t.kind with
  | .event tIa _ _ =>
    let x := Store.get ln.ctxs CtxState.blank t.ctx
    x.pending && (match x.kLast with
      | some k => decide (ceilDiv (1000 * tIa) (Nat.max 1 c.tBase) ≤ ln.agreedK - k)
      | none => true)
  | _ => false

/-- Whether a task is an event task assigned to a poll point. -/
def polledAt (id : Nat) (t : Task) : Bool :=
  match t.kind with
  | .event _ p _ => decide (p = id)
  | _ => false

/-- Whether a link still holds a reader back: its writer is due, or is an event task, and has not ended, or its poll point has
not been passed (04 R124). -/
def linkHolds (ln : Lane) (c : Container) (l : LaneId) (stage reader : Nat) : Bool :=
  c.links.any (fun k => decide (k.reader = reader) && (decide (k.lanes = 0) || decide (k.lanes = l.num + 1)) &&
    (match taskAt c l k.writer with
      | some w => !(Store.get ln.ctxs CtxState.blank w.ctx).done &&
          (match w.kind with
            | .event _ _ _ => true
            | _ => dueNow ln c w && !isShed c stage w)
      | none => false))

/-- Clock at which the last of the writers that a reader is linked to was done in this cycle (04 R124). -/
def linkDone (ln : Lane) (c : Container) (l : LaneId) (reader : Nat) : Nat :=
  (c.links.filter (fun k => decide (k.reader = reader) && (decide (k.lanes = 0) || decide (k.lanes = l.num + 1)))).foldl (fun m k =>
    let x := Store.get ln.ctxs CtxState.blank k.writer
    if x.done then Nat.max m x.doneAt else m) 0

/-! ## Dispatch (04 R102, R118, 05 R136) -/

/-- TW from the agreed C_k: wall time in µs (05 R136). -/
def wallUs (cK : Nat) : Nat := (cK / 1000) % 2 ^ 64

/-- An engine at the dispatch of a task: registers, stacks and flags cleared, time registers loaded, 12 clocks. -/
def Engine.dispatch (en : Engine) (t : Task) (k r cK tBase : Nat) : Engine :=
  { Engine.blank with phase := .running, pc := t.entry, ctx := some t.ctx, pos := en.pos, queue := en.queue, tk := k,
                      tr := (r * tBase / 1000) % 2 ^ 64, tw := wallUs cK, clock := en.clock + 12, began := en.clock }

/-- A context's values changed. -/
def Lane.modCtx (ln : Lane) (ctx : Nat) (f : CtxState → CtxState) : Lane :=
  { ln with ctxs := Store.put ln.ctxs CtxState.blank ctx (f (Store.get ln.ctxs CtxState.blank ctx)) }

/-- A lane's engine. -/
def Lane.engine (ln : Lane) (slot : Nat) : Engine := Store.get ln.engines Engine.blank slot

/-- Write of a lane's engine. -/
def Lane.setEngine (ln : Lane) (slot : Nat) (en : Engine) : Lane := { ln with engines := Store.insert ln.engines slot en }

/-- A task started on its engine; an event task is no longer pending (04 R115). Entry 32xx.0A counts the activation. -/
def Lane.startTask (ln : Lane) (c : Container) (slot : Nat) (t : Task) : Lane :=
  let en := (ln.engine slot).dispatch t ln.agreedK (ln.rget 0x3125 0) ln.agreedC c.tBase
  let ln := (ln.setEngine slot en).rbump (0x3200 + t.ctx) 10
  ln.modCtx t.ctx (fun x => { x with pending := false, kLast := some ln.agreedK })

/-- An engine past the poll point of an event task: the links anchored there are free from clock `clk` on (04 R124, 12 R328). -/
def Lane.passPoll (ln : Lane) (c : Container) (l : LaneId) (slot : Nat) (t : Task) (clk : Nat) : Lane :=
  match t.kind with
  | .event _ id _ => ((tasksOf c l).filter (fun u => polledAt id u && decide (u.ctx / 16 = slot))).foldl
      (fun ln u => ln.modCtx u.ctx (fun x => { x with done := true, doneAt := clk })) ln
  | _ => ln

/-- What a walk leaves: the lane and the activations that shedding skipped (2104.00). -/
structure Walk where
  ln   : Lane
  shed : Nat
  deriving DecidableEq, Repr

/-- An engine's walk of its order list from its place: on to the first task that runs, a link that holds it, or the end (04 R118,
R124, R128). `fuel` bounds the entries and queued tasks that remain. -/
def walk (c : Container) (l : LaneId) (slot stage : Nat) : Nat → Walk → Walk
  | 0, w => w
  | fuel + 1, w =>
    let ln := w.ln
    let en := ln.engine slot
    match en.queue with
    | ctx :: rest =>
      let ln := ln.setEngine slot { en with queue := rest }
      (match taskAt c l ctx with
        | some t =>
          if isShed c stage t then walk c l slot stage fuel { ln := if rest.isEmpty then ln.passPoll c l slot t en.clock else ln, shed := w.shed + 1 }
          else { w with ln := ln.startTask c slot t }
        | none => walk c l slot stage fuel { w with ln := ln })
    | [] =>
      match (orderOf c l slot)[en.pos]? with
      | none => { w with ln := ln.setEngine slot { en with phase := .idle, ctx := none } }
      | some (.task ctx) =>
        (match taskAt c l ctx with
          | some t =>
            if !dueNow ln c t then walk c l slot stage fuel { w with ln := ln.setEngine slot { en with pos := en.pos + 1 } }
            else if isShed c stage t then
              walk c l slot stage fuel { ln := ln.setEngine slot { en with pos := en.pos + 1 }, shed := w.shed + 1 }
            else if linkHolds ln c l stage ctx then { w with ln := ln.setEngine slot { en with phase := .waiting } }
            else { w with ln := (ln.setEngine slot { en with pos := en.pos + 1, clock := Nat.max en.clock (linkDone ln c l ctx) }).startTask c slot t }
          | none => walk c l slot stage fuel { w with ln := ln.setEngine slot { en with pos := en.pos + 1 } })
      | some (.poll id) =>
        let here := (tasksOf c l).filter (fun t => polledAt id t && decide (t.ctx / 16 = slot))
        if here.any (fun t => linkHolds ln c l stage t.ctx) then { w with ln := ln.setEngine slot { en with phase := .waiting } }
        else
          let ready := here.filter (fun t => eventReady ln c t)
          let run := ready.filter (fun t => !isShed c stage t)
          let q := (run.map (fun t => t.ctx)).foldl (fun q n => addAsc n q) []
          let clk := here.foldl (fun m t => Nat.max m (linkDone ln c l t.ctx)) en.clock + 4
          let ln := if q.isEmpty then here.foldl (fun ln t => ln.modCtx t.ctx (fun x => { x with done := true, doneAt := clk })) ln else ln
          walk c l slot stage fuel
            { ln := ln.setEngine slot { en with pos := en.pos + 1, queue := q, clock := clk },
              shed := w.shed + (ready.length - run.length) }

/-- Walk of one engine of a lane with its shed activations counted. -/
def walkEngine (s : State) (l : LaneId) (slot : Nat) : State :=
  match (s.lane l).container with
  | none => s
  | some c =>
    let fuel := (orderOf c l slot).length * 2 + 40
    let w := walk c l slot s.power.shedC fuel { ln := s.lane l, shed := 0 }
    let s := s.modLane l (fun _ => w.ln)
    if w.shed = 0 then s else jadd s 0x2104 0 w.shed

/-- Clock at which the publication unit of a lane ends the copies of the cycle (04 R123): 16 bytes in each lane clock from C_k on. -/
def copyEnd (s : State) (l : LaneId) : Nat :=
  s.vote.cK / 2 + (match (s.lane l).container with
    | some c => ceilDiv (crossBytes c l) 16
    | none => 0)

/-- EXCHANGE_COMPLETE (01 R19, 04 R118, R123): a lane whose agreement is formed starts its engines at the top of their order lists, at the
later of the end of its exchange and the end of the copies. -/
def exchangeComplete (s : State) (l : LaneId) : State :=
  let s := agreeLane s l
  let ln := s.lane l
  if s.inRun && s.runs l && ln.exchanged && !ln.executing then
    let clk := Nat.max (s.time.now / 2) (copyEnd s l)
    let s := s.modLane l (fun ln => { ln with executing := true
                                              engines := ln.engines.map (fun p => (p.1, { Engine.blank with clock := clk })) })
    ((s.lane l).engines.map (fun p => p.1)).foldl (fun s n => walkEngine s l n) s
  else s

/-- LINK_WAIT_END (04 R124): an engine held at an entry goes on once nothing holds it, at the clock at which its writers were done. -/
def linkWaitEnd (s : State) (e : EngineId) : State :=
  let en := (s.lane e.lane).engine e.slot
  if s.inRun && s.runs e.lane && decide (en.phase = .waiting) then
    let go := s.modLane e.lane (fun ln => ln.setEngine e.slot { en with phase := .running, ctx := none })
    let s' := walkEngine go e.lane e.slot
    if ((s'.lane e.lane).engine e.slot).phase = .waiting then s else s'
  else s

/-! ## End of a task -/

/-- Execution time entries of a task that ended, dispatch to end (04 Table 04-6). -/
def Lane.timeTask (ln : Lane) (ctx clocks : Nat) : Lane :=
  let ln := ln.rset (0x3200 + ctx) 13 clocks
  ln.rset (0x3200 + ctx) 16 (Nat.max clocks (ln.rget (0x3200 + ctx) 16))

/-- A task ended: its execution time is noted, the monitors of it take the time, and the engine walks on. Its links are free; those of an event
task are so once the last queued task of its poll point has ended (04 R124, 12 R328). -/
def endTask (s : State) (l : LaneId) (slot : Nat) : State :=
  let en := (s.lane l).engine slot
  match en.ctx, (s.lane l).container with
  | some ctx, some c =>
    let clocks := en.clock - en.began
    let s := s.modLane l (fun ln =>
      let ln := (ln.timeTask ctx clocks).setEngine slot { en with ctx := none, phase := .running }
      match taskAt c l ctx with
      | some t => (match t.kind with
        | .event _ _ _ => if en.queue.isEmpty then ln.passPoll c l slot t en.clock else ln
        | _ => ln.modCtx ctx (fun x => { x with done := true, doneAt := en.clock }))
      | none => ln.modCtx ctx (fun x => { x with done := true, doneAt := en.clock }))
    let s := monitorTake s 2 (ctx + 512 * l.num) (clocks : Int)
    walkEngine s l slot
  | _, _ => s

/-- Shedding stage 2 entered (16 R415, R417): at that instant every split half without a voted task stops; a task in progress on it ends there,
and the activations that remain in its order list are skipped and counted. -/
def stopHalves (s : State) : State :=
  (LaneId.all.filter s.runs).foldl (fun s l =>
    match (s.lane l).container with
    | some c => (((s.lane l).engines.filter (fun p => haltsAt2 c p.1 && (decide (p.2.phase = .running) || decide (p.2.phase = .waiting)))).map
        (fun p => p.1)).foldl (fun s n =>
          walkEngine (s.modLane l (fun ln => ln.setEngine n { ln.engine n with phase := .running, ctx := none })) l n) s
    | none => s) s

/-! ## Faults (04 R117, 05 R162, R163) -/

/-- A latched fault: first code of the cycle, class, counters 3121 or 3120 and 32xx.0C. -/
def Lane.latch (ln : Lane) (ctx code : Nat) : Lane :=
  if code = 0 then ln
  else
    let fence := decide (16 ≤ code)
    let ln := ln.modCtx ctx (fun x => { x with first := if x.first = 0 then code else x.first
                                               arith := x.arith || !fence, fence := x.fence || fence })
    (ln.rbump (if fence then 0x3120 else 0x3121) 1).rbump (0x3200 + ctx) 12

/-- A sequence fault stops the engine for the cycle and makes the submission incomplete; 3123 counts it and 3124 shows it (05
R163). -/
def Lane.stopSeq (ln : Lane) (slot code : Nat) : Lane :=
  let en := ln.engine slot
  let ln := { ln.setEngine slot { en with phase := .stopped, queue := [] } with incomplete := true }
  (ln.rbump 0x3123 1).rset 0x3124 1 (code + 256 * en.ctx.getD 0)

/-! ## Sequencing -/

/-- Loops left behind and iterations begun when the pc reaches the end of a body of the current routine (05 R153, R154). -/
def settleLoops : Nat → Engine → Engine
  | 0, en => en
  | fuel + 1, en =>
    match en.loops with
    | f :: rest =>
      if f.depth = en.calls.length ∧ en.pc = f.past then
        if f.iter + 1 < f.iters then
          let en := { en with loops := { f with iter := f.iter + 1 } :: rest, pc := f.first }
          en.setX f.xn (BitVec.ofNat 32 (f.iter + 1))
        else settleLoops fuel { en with loops := rest }
      else en
    | [] => en

/-- Clocks of the iteration that begins at the end of an instruction, if one does: 2 (05 Table 05-2). Loops that end at the same instruction
have been left before it. -/
def loopClocks (before after : Engine) : Nat :=
  match before.loops.drop (before.loops.length - after.loops.length), after.loops with
  | f :: _, g :: _ => if f.iter ≠ g.iter then 2 else 0
  | _, _ => 0

/-- An instruction's start on an engine. -/
def Exec.start (s : State) (e : EngineId) : Exec :=
  let ln := s.lane e.lane
  let en := ln.engine e.slot
  { ln := ln, l := e.lane, slot := e.slot, en := en, con := ln.container, v2 := s.v2serzel, fault := 0, seq := 0,
    task := match ln.container, en.ctx with
      | some c, some n => taskAt c e.lane n
      | _, _ => none
    pc := en.pc + 1, cost := 0, ends := false, ins := [], out := [] }

/-- Whether an engine executes: its lane runs in RUN and a task is in progress on it. -/
def State.executes (s : State) (e : EngineId) : Bool :=
  let en := (s.lane e.lane).engine e.slot
  s.inRun && s.runs e.lane && decide (en.phase = .running) && en.ctx.isSome

/-- The engine after an instruction whose conditions all pass: pc, loops and clocks. -/
def Exec.core (x : Exec) : Engine :=
  let en := { x.en with pc := x.pc }
  let en' := settleLoops 5 en
  { en' with clock := en'.clock + x.cost + loopClocks en en' }

/-- The lane after an instruction whose conditions all pass: engine and fault latch. -/
def Exec.close (x : Exec) : Lane := (x.ln.setEngine x.slot x.core).latch (x.en.ctx.getD 0) x.fault

/-- Execution past the end of the instruction store (05 R155, Table 05-10): a loop body that ends there goes back for its next iteration. -/
def Exec.runsOut (x : Exec) : Bool := !x.ends && decide (x.codeSize ≤ x.core.pc)

/-! ## The trailing core (03 R62 to R64) -/

/-- An engine fault raised by the comparators of an engine (03 R64 to R66): a difference that both report is cause 1, a report of one alone
cause 2. 3101 shows the first engine to fault since start. -/
def comparatorFault (s : State) (e : EngineId) (bitwise signature : Bool) : State :=
  let s := s.modLane e.lane (fun ln => if ln.rget 0x3101 1 = 0 then ln.rset 0x3101 1 (2 ^ e.slot) else ln)
  report s e.lane (if bitwise && signature then 1 else 2)

/-- One clock of a pair: the trailing core takes its inputs, and both comparators compare its outputs with the leading core's, word with word
and running signature with running signature (03 R62, R63). -/
def Pair.compare (p : Pair) (x : Shim) : Pair :=
  let lead := Config.mix p.sigLead x.lead
  let trail := Config.mix p.sigTrail x.give
  { p with trail := x.core, sigLead := lead, sigTrail := trail
           bitwise := p.bitwise || decide (x.lead ≠ x.give)
           signature := p.signature || decide (lead ≠ trail) }

/-- A pair at a clock of its engine: what entered the shim registers two clocks before has reached the trailing core (03 R62). -/
def Pair.advance (p : Pair) (clock : Nat) : Pair :=
  (p.shims.filter (fun x => decide (x.clock + 2 ≤ clock))).foldl Pair.compare
    { p with shims := p.shims.filter (fun x => decide (clock < x.clock + 2)) }

/-- The pair of an engine in a lane. -/
def Lane.pair (ln : Lane) (slot : Nat) : Pair := Store.get ln.pairs Pair.blank slot

/-- The word at an engine's program counter. -/
def State.wordAt (s : State) (e : EngineId) : Nat :=
  Store.get (Store.get (s.lane e.lane).istore [] e.slot) 0 ((s.lane e.lane).engine e.slot).pc

/-- What a core puts on the compared bus in an instruction, the address that it fetches next last; a core that stops in it puts nothing. -/
def Exec.shown (x : Exec) : List (BitVec 128) := if x.seq ≠ 0 || x.runsOut then [] else x.out ++ [busWord 0 x.core.pc 0]

/-- The outputs of the two cores clock by clock; a core with no output shows zeros. -/
def pairUp : List (BitVec 128) → List (BitVec 128) → List (BitVec 128 × BitVec 128)
  | [], bs => bs.map (fun b => (0, b))
  | a :: as, bs => (a, bs.headD 0) :: pairUp as bs.tail

/-- What enters the shim registers with an instruction begun as `a`: its inputs, the registers that the two cores reach, and their outputs. -/
def shimsOf (a : Exec) (ins : Bytes) (lead head : Engine) (bus : List (BitVec 128 × BitVec 128)) : List Shim :=
  bus.map (fun w => { clock := lead.clock, word := Store.get (Store.get a.ln.istore [] a.slot) 0 a.en.pc, loads := ins, grant := a.wait,
                      poll := a.en.queue, core := head, give := w.2, lead := w.1 })

/-- An instruction as the trailing core takes it: on the registers that it has reached on everything before it, and on the same inputs. The
registers of a dispatch since then are inputs of both cores (03 R62). -/
def Exec.trailing (a : Exec) : Exec :=
  let p := a.ln.pair a.slot
  if a.en = p.lead then { a with en := p.head } else a

/-- Whether an engine is a safe pair of cores: it is no half, and not split into halves (03 R62, R89). -/
def State.paired (s : State) (e : EngineId) : Bool :=
  !e.half && !(match (s.lane e.lane).container with
    | some c => isSplit c e.slot
    | none => false)

/-- The trailing core of an unsplit engine two clocks behind an instruction, begun as `a`, of the leading core, with what both put on the bus
(03 R62, R63, R89). -/
def lockstep (s : State) (e : EngineId) (a : Exec) (ins : Bytes) (lead head : Engine) (bus : List (BitVec 128 × BitVec 128)) : State :=
  if !s.paired e then s
  else
    let p := (s.lane e.lane).pair e.slot
    let p := { p with shims := p.shims ++ shimsOf a ins lead head bus, head := head, lead := lead }.advance lead.clock
    let s := s.modLane e.lane (fun ln => { ln with pairs := Store.insert ln.pairs e.slot p })
    if p.bitwise || p.signature then comparatorFault s e p.bitwise p.signature else s

/-! ## An instruction -/

/-- One instruction of an engine: it acts only while the engine executes; a sequence fault discards every other effect (05 R162,
R163); a task that ends lets its engine walk on. Both cores of a safe engine execute it. -/
def serzel (s : State) (e : EngineId) (f : Exec → Exec) : State :=
  if s.executes e then
    let a := Exec.start s e
    let x := f a
    let y := f a.trailing
    let code := if x.seq ≠ 0 then x.seq else if x.runsOut then 37 else 0
    if code ≠ 0 then s.modLane e.lane (fun ln => ln.stopSeq e.slot code)
    else
      let s' := lockstep (s.modLane e.lane (fun _ => x.close)) e a x.ins x.core y.core (pairUp x.shown y.shown)
      if x.ends then endTask s' e.lane e.slot else s'
  else s

end Sys2Proof.Machine
end

