-- ==== Sys2Proof/Machine/SerzelOps.lean ====
section
/-! DEFINITION. What the Serzel instructions do to an instruction in progress (chapter 05), family by family. -/

namespace Sys2Proof.Machine

open Sys2Proof

/-! ## Bit logic (05 R139 to R141) -/

/-- BA as a function of BA and the operand bit. -/
def bitLogic (b : BitAddr) (f : Bool → Bool → Bool) (x : Exec) : Exec :=
  let x := (x.access b.area).clocks 1
  let r := x.loadBit b
  r.2.mapEn (fun en => { en with ba := f en.ba r.1 })

/-- A store of a function of BA to the operand bit. -/
def bitStore (b : BitAddr) (f : Bool → Bool) (x : Exec) : Exec :=
  let x := (x.access b.area).clocks 1
  x.storeBit b (f x.en.ba)

/-- S and RST: a store of a constant when BA is 1; the wait for the slot is taken in either case. -/
def bitStoreIf (b : BitAddr) (v : Bool) (x : Exec) : Exec :=
  let x := (x.access b.area).clocks 1
  if x.en.ba then x.storeBit b v else x

/-- An open bracket: (BA, operator) is pushed and BA takes the operand; a ninth entry is sequence fault 33. -/
def bracketOpen (b : BitAddr) (op : BrOp) (x : Exec) : Exec :=
  if 8 ≤ x.en.brackets.length then x.seqFault 33
  else
    let ba := x.en.ba
    bitLogic b (fun _ a => a) (x.mapEn (fun en => { en with brackets := (ba, op) :: en.brackets }))

/-- An operator of the bracket stack applied. -/
def BrOp.apply : BrOp → Bool → Bool → Bool
  | .and, a, b => a && b
  | .or, a, b => a || b
  | .xor, a, b => Bool.xor a b

/-- The close bracket: BA := v op BA; an empty stack is sequence fault 33. -/
def bracketClose (x : Exec) : Exec :=
  match x.en.brackets with
  | [] => x.seqFault 33
  | (v, op) :: rest => (x.clocks 1).mapEn (fun en => { en with ba := op.apply v en.ba, brackets := rest })

/-- An edge detector on the pair of bits at 2 × pair of a byte of S (05 R141); the write-back obeys the fence. -/
def edge (rising : Bool) (ofs pair : Nat) (x : Exec) : Exec :=
  let x := (x.access .s).clocks 2
  let byte := (x.readByte .s ofs).toNat
  let x := x.fetch .s ofs 1
  let prev := bitOf byte (2 * pair)
  let valid := bitOf byte (2 * pair + 1)
  let ba := x.en.ba
  let e := if !valid then false else if rising then ba && !prev else prev && !ba
  let new := setBit (setBit byte (2 * pair) ba) (2 * pair + 1) true
  let x := x.mapEn (fun en => { en with ba := e })
  let f := x.storeFault .s ofs 1
  if f = 0 then x.put .s ofs [BitVec.ofNat 8 new] else x.raise f

/-! ## Word load and store (05 R142) -/

/-- Load of n bytes, zero- or sign-extended; a faulting load writes zero. -/
def loadWord (n : Nat) (sgn : Bool) (w : WordAddr) (r : Acc) (x : Exec) : Exec :=
  let x := (x.access w.area).clocks 1
  let v := x.loadVal w.area (x.ea w) n
  let bits := if sgn then BitVec.ofInt 64 (signedOf (8 * n) v.1) else BitVec.ofNat 64 v.1
  v.2.mapEn (fun en => en.setAcc r bits)

/-- Store of the low n bytes of a register. -/
def storeWord (n : Nat) (w : WordAddr) (r : Acc) (x : Exec) : Exec :=
  let x := (x.access w.area).clocks 1
  x.storeVal w.area (x.ea w) (leBytes n (x.en.acc r).toNat)

/-! ## Integer, logic and compare (05 R143 to R146) -/

/-- Low w bits of the destination accumulator. -/
def Exec.dst (x : Exec) (w : Wid) (d : Acc) : Nat := (x.en.acc d).toNat % 2 ^ w.bits

/-- An INT function of the signed operands a, o and b, o being the other accumulator. -/
def intOp (w : Wid) (d : Acc) (s : Src) (clk : Nat) (f : Int → Int → Int → Alu) (x : Exec) : Exec :=
  let n := w.bits
  let r := (x.clocks clk).src s
  let sg := fun v => signedOf n v
  r.2.deliver n true d (f (sg (x.dst w d)) (sg (x.dst w d.other)) (sg r.1))

/-- A UINT function of the unsigned operands a, o and b. -/
def uintOp (w : Wid) (d : Acc) (s : Src) (clk : Nat) (f : Nat → Nat → Nat → Alu) (x : Exec) : Exec :=
  let n := w.bits
  let r := (x.clocks clk).src s
  r.2.deliver n false d (f (x.dst w d) (x.dst w d.other) (r.1 % 2 ^ n))

/-- A LOGIC function of a and of the whole source. -/
def logicOp (w : Wid) (d : Acc) (s : Src) (f : Nat → Nat → Alu) (x : Exec) : Exec :=
  let r := (x.clocks 1).src s
  r.2.deliver w.bits false d (f (x.dst w d) r.1)

/-- A bitwise result with C and V clear. -/
def aluBits (w v : Nat) : Alu := { r := v % 2 ^ w, c := false, v := false, f := 0 }

/-- A compare of w-bit values, signed or unsigned. -/
def compareOp (sgn : Bool) (k : Cmp) (w : Wid) (d : Acc) (s : Src) (x : Exec) : Exec :=
  let n := w.bits
  let r := (x.clocks 1).src s
  let v := fun m => if sgn then signedOf n m else ((m % 2 ^ n : Nat) : Int)
  r.2.mapEn (fun en => { en with ba := k.holds (v (x.dst w d)) (v r.1) })

/-! ## REAL and conversions (05 R147 to R150) -/

/-- A REAL function of D and S. -/
def realOp (w : RWid) (d : Acc) (s : RSrc) (clk : Nat) (f : FFmt → Nat → Nat → FRes) (x : Exec) : Exec :=
  let r := (x.clocks clk).rsrc s
  r.2.deliverReal w d (f (realFmt w) (realLow w (x.en.acc d).toNat) (realLow w r.1))

/-- A REAL comparison. -/
def compareReal (k : Cmp) (w : RWid) (d : Acc) (s : RSrc) (x : Exec) : Exec :=
  let r := (x.clocks 1).rsrc s
  r.2.mapEn (fun en => { en with ba := k.holdsReal ((realFmt w).cmp (realLow w (x.en.acc d).toNat) (realLow w r.1)) })

/-- An integer of w bits to a REAL format. -/
def intToReal (f : FFmt) (sgn : Bool) (w : Wid) (d : Acc) (s : Src) (x : Exec) : Exec :=
  let r := (x.clocks 2).src s
  let i : Int := if sgn then signedOf w.bits r.1 else ((r.1 % 2 ^ w.bits : Nat) : Int)
  r.2.deliverConv f d ⟨f.ofInt i, 0⟩

/-- A REAL format to an integer of w bits. -/
def realToInt (f : FFmt) (rne sgn : Bool) (w : Wid) (d : Acc) (s : ConvSrc) (x : Exec) : Exec :=
  let r := (x.clocks 2).csrc s
  let lo : Int := if sgn then minS w.bits else 0
  let hi : Int := if sgn then 2 ^ (w.bits - 1) - 1 else 2 ^ w.bits - 1
  let v := f.toInt rne lo hi (r.1 % 2 ^ f.width)
  r.2.deliverInt w.bits sgn d v.1 v.2

/-- One REAL format to the other. -/
def realToReal (src dst : FFmt) (d : Acc) (s : ConvSrc) (x : Exec) : Exec :=
  let r := (x.clocks 2).csrc s
  r.2.deliverConv dst d (src.convert dst (r.1 % 2 ^ src.width))

/-- Narrowing with saturation; fault 3 out of range. -/
def narrowOp (sgn : Bool) (w : Wid) (d : Acc) (s : Src) (x : Exec) : Exec :=
  let r := (x.clocks 2).src s
  let i : Int := if sgn then signedOf 64 r.1 else (r.1 : Int)
  let lo : Int := if sgn then minS w.bits else 0
  let hi : Int := if sgn then 2 ^ (w.bits - 1) - 1 else 2 ^ w.bits - 1
  r.2.deliverInt w.bits sgn d (clampInt lo hi i) (if lo ≤ i ∧ i ≤ hi then 0 else 3)

/-! ## Moves and index registers (05 R151, R152) -/

/-- MOV. -/
def movOp (w : Wid) (d : Acc) (s : Src) (x : Exec) : Exec :=
  let r := (x.clocks 1).src s
  r.2.mapEn (fun en => en.setAcc d (BitVec.ofNat 64 (r.1 % 2 ^ w.bits)))

/-- W2BA. -/
def w2baOp (w : Wid) (s : Src) (x : Exec) : Exec :=
  let r := (x.clocks 1).src s
  r.2.mapEn (fun en => { en with ba := decide (r.1 % 2 ^ w.bits ≠ 0) })

/-- An index register changed in one clock. -/
def indexOp (n : Fin 4) (f : Engine → BitVec 32) (x : Exec) : Exec := (x.clocks 1).mapEn (fun en => en.setX n (f en))

/-! ## Check-value units and publication (05 R159, R160) -/

/-- Whether a lane unit is assigned to the engine of the instruction. -/
def Exec.ownsUnit (x : Exec) (u : Fin 2) : Bool :=
  match x.con with
  | some c => decide (((c.lcv.get x.l).getD u.val none) = some x.slot)
  | none => false

/-- A lane unit. -/
def Lane.lcv (ln : Lane) (u : Fin 2) : Option CrcUnit := if u = 0 then ln.lcv0 else ln.lcv1

/-- Write of a lane unit. -/
def Lane.setLcv (ln : Lane) (u : Fin 2) (v : CrcUnit) : Lane :=
  if u = 0 then { ln with lcv0 := some v } else { ln with lcv1 := some v }

/-- The unit of an instruction when it is assigned to its engine and initialised in the current activation: the owner noted is
the clock at which the activation began. -/
def Exec.unit (x : Exec) (u : Fin 2) : Option CrcUnit :=
  match x.ln.lcv u with
  | some v => if x.ownsUnit u && decide (v.owner = some x.en.began) then some v else none
  | none => none

/-- CRCI. -/
def crcInit (u : Fin 2) (poly : Nat) (x : Exec) : Exec :=
  let x := x.clocks 1
  if x.ownsUnit u then ({ x with ln := x.ln.setLcv u (CrcUnit.init poly (some x.en.began)) }.give (busWord 3 (8 * u.val) poly)) else x.raise 19

/-- A feed of n bytes. -/
def crcFeedOp (u : Fin 2) (n : Nat) (r : Acc) (x : Exec) : Exec :=
  let x := x.clocks n
  match x.unit u with
  | some v => { x with ln := x.ln.setLcv u (v.feed n (x.en.acc r).toNat) }.give (busWord 3 (8 * u.val + n) (x.en.acc r).toNat)
  | none => x.raise 19

/-- CRCR. -/
def crcRead (u : Fin 2) (r : Acc) (x : Exec) : Exec :=
  let x := x.clocks 1
  match x.unit u with
  | some v => x.mapEn (fun en => en.setAcc r (BitVec.ofNat 64 v.result))
  | none => (x.mapEn (fun en => en.setAcc r 0)).raise 19

/-- PUB of an item: kind 0 ring flow, 1 and 2 telegram contexts of the ECN ports. -/
def publishOp (kind id : Nat) (x : Exec) : Exec :=
  let x := x.clocks 2
  let ok := match x.task with
    | some t => t.pubs.any (fun p => decide (p.kind = kind) && decide (p.id = id))
    | none => false
  if !ok then x.raise 19
  else if x.ln.pubs.contains (kind, id) then x.give (busWord 4 kind id)
  else { x with ln := { x.ln with pubs := x.ln.pubs ++ [(kind, id)] } }.give (busWord 4 kind id)

/-! ## Control flow (05 R153 to R155) -/

/-- The routine that holds an instruction: first index and length; without one the whole instruction store. -/
def Exec.routine (x : Exec) : Nat × Nat :=
  match x.con with
  | some c =>
    match c.programs.find? (fun p => decide (p.slot = x.slot) && (decide (p.lanes = 0) || decide (p.lanes = x.l.num + 1))) with
    | some p => (p.routines.find? (fun r => decide (r.1 ≤ x.en.pc) && decide (x.en.pc < r.1 + r.2))).getD (0, x.codeSize)
    | none => (0, x.codeSize)
  | none => (0, x.codeSize)

/-- Innermost loop body that the current routine has open. -/
def Exec.body (x : Exec) : Option LoopFrame :=
  match x.en.loops with
  | f :: _ => if f.depth = x.en.calls.length then some f else none
  | [] => none

/-- A taken jump: the target lies in the routine and in the innermost loop body, or just past that body; else sequence fault
36. TGT = 0 is an undefined encoding. -/
def jumpTo (tgt : Nat) (x : Exec) : Exec :=
  if tgt = 0 then x.seqFault 32
  else
    let pc := x.en.pc + tgt
    let r := x.routine
    let ok := match x.body with
      | some f => (decide (pc < r.1 + r.2) && decide (pc ≤ f.past)) || decide (pc = f.past)
      | none => decide (pc < r.1 + r.2)
    if ok then { x.clocks 2 with pc := pc } else x.seqFault 36

/-- A jump taken or not. -/
def jumpIf (take : Bool) (tgt : Nat) (x : Exec) : Exec :=
  if tgt = 0 then x.seqFault 32 else if take then jumpTo tgt x else x.clocks 1

/-- A call: PC + 1 pushed; a ninth nested call is sequence fault 34. -/
def callTo (tgt : Nat) (x : Exec) : Exec :=
  if 8 ≤ x.en.calls.length then x.seqFault 34
  else
    let back := x.en.pc + 1
    let x := (x.clocks 4).mapEn (fun en => { en with calls := back :: en.calls })
    { x with pc := tgt }

/-- A call taken or not. -/
def callIf (take : Bool) (tgt : Nat) (x : Exec) : Exec := if take then callTo tgt x else x.clocks 1

/-- RET: inside a loop body of its own routine it is sequence fault 35; at depth 0 it ends the task, which with a bracket open is
sequence fault 33, the lower code where both hold (05 R155, R162). -/
def retOp (x : Exec) : Exec :=
  let open_ := x.en.calls.isEmpty && !x.en.brackets.isEmpty
  if x.body.isSome || open_ then (if x.body.isSome then x.seqFault 35 else x).seqFault (if open_ then 33 else 35)
  else
    let x := x.clocks 3
    match x.en.calls with
    | back :: rest => { x.mapEn (fun en => { en with calls := rest }) with pc := back }
    | [] => { x with ends := true }

/-- LOOP (05 R154): LEN = 0 is an undefined encoding; a fifth loop, or an index register in use by an enclosing loop, is
sequence fault 35. -/
def loopOp (n : Fin 4) (len max : Nat) (x : Exec) : Exec :=
  if len = 0 then x.seqFault 32
  else if 4 ≤ x.en.loops.length ∨ x.en.loops.any (fun f => decide (f.xn = n)) then x.seqFault 35
  else
    let i := Nat.min (x.en.xreg n).toNat max
    let first := x.en.pc + 1
    let x := (x.clocks 2).mapEn (fun en => en.setX n 0)
    if i = 0 then { x with pc := first + len }
    else (x.clocks 2).mapEn (fun en =>
      { en with loops := { first := first, past := first + len, iters := i, iter := 0, xn := n, depth := en.calls.length } :: en.loops })

/-! ## Timers and counters (05 R156 to R158) -/

/-- A timer instance (05 Table 05-8). -/
structure TimerInst where
  tStart : Nat
  et     : Nat
  inPrev : Bool
  q      : Bool
  run    : Bool
  deriving DecidableEq, Repr

/-- A timer instance read from its 16 bytes. -/
def timerOf (bs : Bytes) : TimerInst :=
  let f := ((bs.drop 12).headD 0).toNat
  { tStart := ofLe (bs.take 8), et := ofLe ((bs.drop 8).take 4), inPrev := bitOf f 0, q := bitOf f 1, run := bitOf f 2 }

/-- The 16 bytes of a timer instance. -/
def TimerInst.bytes (t : TimerInst) : Bytes :=
  leBytes 8 t.tStart ++ leBytes 4 t.et ++
    leBytes 4 ((if t.inPrev then 1 else 0) + (if t.q then 2 else 0) + (if t.run then 4 else 0))

/-- Kinds of timer. -/
inductive TimerKind where
  | ton | tof | tp
  deriving DecidableEq, Repr

/-- A running timer takes its elapsed time; at the preset it stops with q := v. -/
def TimerInst.elapse (t : TimerInst) (d pt : Nat) (v : Bool) : TimerInst :=
  if t.run then (if d = pt then { t with et := d, q := v, run := false } else { t with et := d }) else t

/-- One call of a timer (05 R157). -/
def TimerInst.call (t : TimerInst) (k : TimerKind) (input : Bool) (now pt : Nat) : TimerInst :=
  let d := Nat.min ((now + 2 ^ 64 - t.tStart % 2 ^ 64) % 2 ^ 64) pt
  let t' := match k with
    | .ton =>
      if !input then { t with run := false, q := false, et := 0 }
      else if !t.inPrev then { t with tStart := now, run := true, q := false }.elapse 0 pt true
      else t.elapse d pt true
    | .tof =>
      if input then { t with run := false, q := true, et := 0 }
      else if t.inPrev then { t with tStart := now, run := true }.elapse 0 pt false
      else t.elapse d pt false
    | .tp =>
      if !t.run && input && !t.inPrev then { t with tStart := now, run := true, q := true }.elapse 0 pt false
      else if t.run then t.elapse d pt false
      else if !input then { t with et := 0 } else t
  { t' with inPrev := input }

/-- A timer instruction: an odd INST is an undefined encoding; time in ms for TONM and under V2 Serzel semantics. -/
def timerOp (k : TimerKind) (ms wall : Bool) (inst : Nat) (x : Exec) : Exec :=
  if inst % 2 = 1 then x.seqFault 32
  else
    let x := (x.access .s).clocks 6
    let us := if wall then x.en.tw else x.en.tr
    let now := if ms || x.v2 then us / 1000 else us
    let raw := x.en.wa.toNat % 2 ^ 32
    let pt := Nat.min raw (2 ^ 31)
    let t := (timerOf (x.readBytes .s (8 * inst) 16)).call k x.en.ba now pt
    let x := x.fetch .s (8 * inst) 16
    let x := (x.mapEn (fun en => { en with ba := t.q, wb := BitVec.ofNat 64 t.et })).raise (if raw > 2 ^ 31 then 6 else 0)
    let f := x.storeFault .s (8 * inst) 16
    if f = 0 then x.put .s (8 * inst) t.bytes else x.raise f

/-- A counter instance: value and previous inputs (05 Table 05-8). -/
structure CounterInst where
  cv : Int
  cu : Bool
  cd : Bool
  deriving DecidableEq, Repr

/-- A counter instance read from its 8 bytes. -/
def counterOf (bs : Bytes) : CounterInst :=
  let f := ((bs.drop 4).headD 0).toNat
  { cv := signedOf 32 (ofLe (bs.take 4)), cu := bitOf f 0, cd := bitOf f 1 }

/-- The 8 bytes of a counter instance. -/
def CounterInst.bytes (k : CounterInst) : Bytes :=
  leBytes 4 (wrapTo 32 k.cv) ++ leBytes 4 ((if k.cu then 1 else 0) + (if k.cd then 2 else 0))

/-- A counter stepped up or down within INTEGER32. -/
def countUp (cv : Int) : Int := if cv < 2147483647 then cv + 1 else cv

/-- One step down. -/
def countDown (cv : Int) : Int := if -2147483648 < cv then cv - 1 else cv

/-- CTU. -/
def CounterInst.ctu (k : CounterInst) (cu r : Bool) : CounterInst :=
  { k with cv := if r then 0 else if cu && !k.cu then countUp k.cv else k.cv, cu := cu }

/-- CTD. -/
def CounterInst.ctd (k : CounterInst) (cd ld : Bool) (pv : Int) : CounterInst :=
  { k with cv := if ld then pv else if cd && !k.cd then countDown k.cv else k.cv, cd := cd }

/-- CTUD. -/
def CounterInst.ctud (k : CounterInst) (cu cd r ld : Bool) (pv : Int) : CounterInst :=
  let up := cu && !k.cu
  let dn := cd && !k.cd
  { cv := if r then 0 else if ld then pv else if up && !dn then countUp k.cv else if dn && !up then countDown k.cv else k.cv
    cu := cu, cd := cd }

/-- A counter instruction: `f` gives the instance, BA and, for CTUD, C from the instance, BA, WB and pv. -/
def counterOp (inst : Nat) (f : CounterInst → Bool → Nat → Int → CounterInst × Bool × Option Bool) (x : Exec) : Exec :=
  let x := (x.access .s).clocks 3
  let pv := signedOf 32 x.en.wa.toNat
  let r := f (counterOf (x.readBytes .s (8 * inst) 8)) x.en.ba x.en.wb.toNat pv
  let x := x.fetch .s (8 * inst) 8
  let x := x.mapEn (fun en => { en with ba := r.2.1, wb := BitVec.ofInt 64 r.1.cv, c := r.2.2.getD en.c })
  let g := x.storeFault .s (8 * inst) 8
  if g = 0 then x.put .s (8 * inst) r.1.bytes else x.raise g

end Sys2Proof.Machine
end

