-- ==== Sys2Proof/Machine/Dovetail.lean ====
section
/-! DEFINITION. The Dovetail vote: submissions, the two voters, the outcomes and the release, with what the release brings to
the lanes, the transmit contexts, the CAN queues and the glue-up; engine faults and the limp timer (01 R20 to R26, 03 R64,
R82 to R92, 09 R251, R254, 11 R304, R310). -/

namespace Sys2Proof.Machine

open Sys2Proof

/-! ## Submission (03 R82) -/

/-- Bytes of a polynomial's check value (11 R320, Table 11-6). -/
def crcBytes : Nat → Nat
  | 0 => 1
  | 1 => 2
  | 4 => 8
  | _ => 4

/-- The check-value unit attached to an item: kind 0 ring flow, 1 and 2 ECN contexts (11 R320). -/
def attached (c : Container) (kind id : Nat) : Option CvuAttach :=
  c.cvus.find? (fun u => decide (u.kind = kind) && decide (u.id = id))

/-- Bytes that an attached unit appends. -/
def attachedLen (c : Container) (kind id : Nat) : Nat :=
  match attached c kind id with
  | some u => crcBytes u.poly
  | none => 0

/-- Data part of a produced flow (09 R251, 11 R320). -/
def flowData (c : Container) (v2 : Bool) (f : Flow) : Nat :=
  if f.safe then safeData v2 f else f.aux - attachedLen c 0 f.id

/-- Index of a flow's first transmit slot (09 Table 09-3), 65535 without one. Which entry's index the lanes put under the safety code of a flow
that leaves by several the manual does not say: the first one's (DESIGN CHOICE, log 84). -/
def slotIndex (c : Container) (id : Nat) : Nat :=
  (c.cut.findIdx? (fun e => decide (e.w1 % 16 = 6) && decide (e.w1 / 16 % 4096 = id))).getD 65535

/-- Bytes that a published flow takes in the submission. -/
def flowBytes (c : Container) (v2 : Bool) (f : Flow) : Nat := flowData c v2 f + (if f.safe then envLen v2 else 0)

/-- Data of one produced flow as it stands at V_k, with its envelope formed (09 R251, R252). -/
def Lane.flowOut (ln : Lane) (c : Container) (v2 : Bool) (f : Flow) : Bytes :=
  let data := ln.load (Area.ofCode f.area) 0 f.ofs (flowData c v2 f)
  if f.safe then
    let seq := ln.rget (0x4400 + f.id) 6
    let stamp := ln.agreedC % 4294967296
    data ++ leBytes 4 seq ++ (if v2 then [] else leBytes 4 stamp) ++
      leBytes 4 (safetyCode v2 f.id c.nodeId c.ring.identity (slotIndex c f.id) f.aux data seq stamp)
  else data

/-- Produced flows that a lane published in the cycle, in container order. -/
def pubFlows (c : Container) (pubs : List (Nat × Nat)) : List Flow :=
  c.flows.filter (fun f => decide (f.role = 1) && pubs.contains (0, f.id))

/-- Transmit telegram contexts that a lane published in the cycle, in container order. -/
def pubTels (c : Container) (pubs : List (Nat × Nat)) : List Telegram :=
  c.telegrams.filter (fun t => decide (t.role = 1) && pubs.contains (t.port + 1, t.ctx))

/-- Whether an engine has not finished its work at V_k, an instant of node time (01 R20). -/
def Lane.overrun (ln : Lane) (vK : Nat) : Bool :=
  !ln.executing || ln.engines.any (fun p => decide (p.2.phase = .running) || decide (p.2.phase = .waiting) || decide (vK < 2 * p.2.clock))

/-- The lane at V_k: safety sequences of the published flows advanced, unfinished engines stopped (09 R251, 01 R20). -/
def Lane.atVote (ln : Lane) (c : Container) (vK : Nat) : Lane :=
  let late := ln.overrun vK
  let ln := (pubFlows c ln.pubs).foldl (fun ln f =>
    if f.safe then ln.rset (0x4400 + f.id) 6 ((ln.rget (0x4400 + f.id) 6 + 1) % 4294967296) else ln) ln
  { ln with incomplete := ln.incomplete || late
            engines := if late then ln.engines.map (fun p => (p.1, { p.2 with phase := .stopped })) else ln.engines }

/-- A lane's submission (03 Table 03-5) in B_out bytes; where fewer items were published, zeros fill it up at the end, on which the manual
is silent: DESIGN CHOICE, log 82. -/
def Lane.submission (ln : Lane) (c : Container) (v2 : Bool) : Submission :=
  let flags := (if ln.incomplete then 0 else 1) + (if ln.status = .shadow then 2 else 0)
  let out := (pubFlows c ln.pubs).flatMap (fun f => ln.flowOut c v2 f) ++
    (pubTels c ln.pubs).flatMap (fun t => ln.load (Area.ofCode t.area) 0 t.ofs t.dLen)
  let data := fun (fl : Nat) => padTo c.bOut
    (leBytes 8 ln.agreedK ++ leBytes 4 (ln.imageCrc c) ++ leBytes 1 fl ++ leBytes 3 0 ++ ln.load .q 0 0 c.qExt ++ out)
  { data := data flags, sigma := crc64 (data (flags % 2)) }

/-- A submission that reaches the voters. -/
def takeSubmission (s : State) (l : LaneId) (x : Submission) (pubs : List (Nat × Nat)) : State :=
  { s with vote := { s.vote with subs := s.vote.subs.set l (some x), pubsV := s.vote.pubsV.set l pubs } }

/-- No submission of a lane. -/
def State.noSubmission (s : State) (l : LaneId) : State :=
  { s with vote := { s.vote with subs := s.vote.subs.set l none, pubsV := s.vote.pubsV.set l [] } }

/-- One lane at V_k in its own counter: an active or shadow lane submits, an excluded one does not (01 R21, 02 R40). -/
def submit (c : Container) (vK : Nat) (s : State) (l : LaneId) : State :=
  let s := advanceTo s (s.laneAt l vK)
  let v2 := s.v2ring
  if (s.lane l).status = .active ∨ (s.lane l).status = .shadow then
    let s := (s.modLane l (fun ln => ln.atVote c vK)).noSubmission l
    let x := (s.lane l).submission c v2
    carry s (7 * l.num) (entriesOf 0 c.bOut) (.submission l (s.vote.kV.getD 0) x (s.lane l).pubs) id
      (fun s => takeSubmission s l x (s.lane l).pubs)
  else s.noSubmission l

/-- The vote of the cycle in progress (01 R21, 03 R82, R84): once in a cycle, at V_k. -/
def voteDue (s : State) : State :=
  match s.config with
  | none => s
  | some c =>
    if s.inRun && decide (s.vote.k.isSome) && decide (s.vote.kV ≠ s.vote.k) then
      let vK := s.vote.cK + c.vOff
      if s.badAt 4 vK then cutFault s
      else
        let s := exchangeMonitors s
        let s := { s with vote := { s.vote with
          voting := true, modeV := s.mode, partsV := s.actives, kV := s.vote.k, cV := s.vote.cK, changeV := (s.lane s.lead).afterChange } }
        (s.laneOrder vK).foldl (submit c vK) s
    else s

/-- VOTE, once at its instant (02 R39). -/
def vote (s : State) : State := once s .vote voteDue

/-! ## The voters (03 R84, R85) -/

/-- Flags byte of a submission. -/
def subFlags (d : Bytes) : Nat := ((d.drop 12).headD 0).toNat

/-- Whether the voters remove a participating lane's submission: absent, not B_out bytes long, incomplete or flagged shadow. -/
def removed (bOut : Nat) : Option Submission → Bool
  | none => true
  | some x => decide (x.data.length ≠ bOut) || !bitOf (subFlags x.data) 0 || bitOf (subFlags x.data) 1

/-- Bytewise majority per bit of three submissions. -/
def majority3 : Bytes → Bytes → Bytes → Bytes
  | a :: as, b :: bs, c :: cs => ((a &&& b) ||| (b &&& c) ||| (a &&& c)) :: majority3 as bs cs
  | _, _, _ => []

/-- Verdict of the voters: Vb, Db, Ds and Σ*. -/
structure Verdicts where
  vb   : Bytes
  db   : List LaneId
  ds   : List LaneId
  star : Option Nat
  deriving DecidableEq, Repr

/-- The bitwise voter: Vb and Db. With fewer than two submissions left no bit is decided. -/
def bitwiseVoter (parts gone : List LaneId) (rest : List (LaneId × Bytes)) : Bytes × List LaneId :=
  match rest with
  | [a, b, c] =>
    let vb := majority3 a.2 b.2 c.2
    (vb, gone ++ (rest.filter (fun p => decide (p.2 ≠ vb))).map (fun p => p.1))
  | [a, b] => (a.2, if a.2 = b.2 then gone else parts)
  | _ => ([], parts)

/-- The signature voter: Σ* and Ds. -/
def signatureVoter (parts gone : List LaneId) (rest : List (LaneId × Nat)) : Option Nat × List LaneId :=
  match majorityOf (rest.map (fun p => p.2)) with
  | some v => (some v, gone ++ (rest.filter (fun p => decide (p.2 ≠ v))).map (fun p => p.1))
  | none => (none, parts)

/-- Both voters on the submissions of the participating lanes. -/
def judge (bOut : Nat) (parts : List LaneId) (sub : LaneId → Option Submission) : Verdicts :=
  let gone := parts.filter (fun l => removed bOut (sub l))
  let rest := parts.filterMap (fun l => if removed bOut (sub l) then none else (sub l).map (fun x => (l, x)))
  let b := bitwiseVoter parts gone (rest.map (fun p => (p.1, p.2.data)))
  let g := signatureVoter parts gone (rest.map (fun p => (p.1, p.2.sigma)))
  { vb := b.1, db := b.2, ds := g.2, star := g.1 }

/-- Whether two sets of lanes are equal. -/
def sameLanes (a b : List LaneId) : Bool := LaneId.all.all (fun l => decide (a.contains l = b.contains l))

/-- Whether the voters agree: Db = Ds and, with a Σ*, Σb = Σ* (03 R85). -/
def Verdicts.agree (v : Verdicts) : Bool :=
  sameLanes v.db v.ds && (match v.star with
    | some x => decide (crc64 v.vb = x)
    | none => true)

/-- Exclusion cause of the one lane in Db: 3 when its submission was present and incomplete, else 4 (03 Table 03-6). -/
def minorityCause : Option Submission → Nat
  | some x => if bitOf (subFlags x.data) 0 then 4 else 3
  | none => 4

/-! ## The release (01 R22, R24, 09 R254, 11 R304, R310) -/

/-- A transmit context after a release: its data when the release published the item, else marked unpublished. -/
def TxCtx.release (x : TxCtx) (d : Option Bytes) (k : Nat) : TxCtx :=
  match d with
  | some b => { x with data := b, fresh := true, k := k }
  | none => { x with fresh := false, k := k }

/-- Transmit contexts of the flows after a release: the published data lie one after the other behind the Q extent. -/
def releaseFlows (c : Container) (v2 : Bool) (pubs : List (Nat × Nat)) (k : Nat) (tx : Store TxCtx) (out : Bytes) : Store TxCtx × Bytes :=
  (c.flows.filter (fun f => decide (f.role = 1))).foldl (fun acc f =>
    let n := flowBytes c v2 f
    let old := Store.get acc.1 TxCtx.blank f.id
    if pubs.contains (0, f.id) then (Store.insert acc.1 f.id (old.release (some (acc.2.take n)) k), acc.2.drop n)
    else (Store.insert acc.1 f.id (old.release none k), acc.2)) (tx, out)

/-- Transmit telegram contexts of both ports after a release. -/
def releaseTels (c : Container) (pubs : List (Nat × Nat)) (k : Nat) (s : State) (out : Bytes) : State :=
  ((c.telegrams.filter (fun t => decide (t.role = 1))).foldl (fun (acc : State × Bytes) t =>
    let old := Store.get (acc.1.ecn t.port).tx TxCtx.blank t.ctx
    let pub := pubs.contains (t.port + 1, t.ctx)
    let new := old.release (if pub then some (acc.2.take t.dLen) else none) k
    (acc.1.modEcn t.port (fun e => { e with tx := Store.insert e.tx t.ctx new }), if pub then acc.2.drop t.dLen else acc.2)) (s, out)).1

/-- CAN controller of a number. -/
def canOf (n : Nat) : CanCtl := if n = 0 then .c0 else .c1

/-- CAN transmit objects due at the release of cycle k, queued while the controller is Operational; a frame that has not won
arbitration is replaced and counted (11 R310). -/
def releaseCan (c : Container) (k : Nat) (vb : Bytes) (s : State) : State :=
  (c.canTx.filter (fun o => decide (k % Nat.max 1 o.m = o.p))).foldl (fun s o =>
    let ctl := canOf o.ctl
    let x := s.can ctl
    if x.nmt = .operational ∧ s.canUp ctl then
      let f : CFrame := { ident := o.ident, ext := o.ext, fd := o.fd, data := padTo o.len ((vb.drop (16 + o.qOfs)).take o.len) }
      let s := if (Store.find? x.tx o.obj).isSome then jbump s (canIndex ctl) 12 else s
      s.modCan ctl (fun x => { x with tx := Store.insert x.tx o.obj f })
    else s) s

/-- Values of the process image windows at a release (17 R439, R440). -/
def Lane.windowVals (ln : Lane) (c : Container) (m : Store Nat) : Store Nat :=
  c.windows.foldl (fun m w => (List.range w.vars.length).foldl (fun m i =>
    match windowSym c w.w (i + 1) with
    | some (y, _) => Store.insert m (regKey (0x6000 + w.w) (i + 1)) (ln.symVal c y)
    | none => m) m) m

/-- A lane's copies at a release: registers, windows and forces as they stand, the released image, and the glue-up release. -/
def Lane.atRelease (ln : Lane) (c : Container) (l : LaneId) (k now : Nat) (vb : Bytes) (limp : Option Nat) (change : Bool) : Lane :=
  let ln := { ln with released := vb, rel := ln.windowVals c ln.reg, relSeen := true, forcesRel := ln.forces }
  ln.glueRelease l k now (decide (k % Nat.max 1 c.pGlue = 0) || change) limp

/-- Blocks that a donor wrote in the cycle after they were sent are due again (03 Table 03-8 step 4). -/
def resendBlocks (s : State) (donor : LaneId) : State :=
  match s.vote.reint with
  | some l =>
    if (s.lane l).status = .transferring then
      let due := (s.lane donor).glue.kept.foldl (fun due p =>
        let b := transferBlock p.1
        if due.contains b || due.contains (b + resend) then due else addAsc (b + resend) due) s.vote.blocksDue
      { s with vote := { s.vote with blocksDue := due } }
    else s
  | none => s

/-- The shadow submission judged against Vb and Σ* (03 R84, R94, R95). -/
def judgeShadow (s : State) (v : Verdicts) : State :=
  match s.vote.reint with
  | some l =>
    if (s.lane l).status = .shadow then
      match s.vote.subs.get l with
      | some x =>
        let flags := subFlags x.data
        let clear := x.data.take 12 ++ [BitVec.ofNat 8 (setBit flags 1 false)] ++ x.data.drop 13
        if clear = v.vb ∧ some x.sigma = v.star then
          { s with vote := { s.vote with shadowOk := Nat.min 16 (s.vote.shadowOk + 1) } }
        else abandonReint s l 5 15
      | none => abandonReint s l 5 15
    else s
  | none => s

/-- Vote bound t_vote in ns, rounded up (03 R83). -/
def tVote (c : Container) : Nat := 3000 + ceilDiv (5 * c.bOut) 4

/-- A lane takes the image released in cycle `k`: an active one with its glue-up, one in shadow execution the image alone (01 R22, 14 R370). -/
def takeImage (s : State) (l : LaneId) (k : Nat) (vb : Bytes) (limp : Option Nat) (change : Bool) : State :=
  match s.config with
  | some c =>
    let now := s.time.now
    stampRegions (s.modLane l (fun ln => if ln.status = .active then ln.atRelease c l k now vb limp change
      else if ln.status = .shadow then { ln with released := vb } else ln))
  | none => s

/-- The released image on its way to one lane (15 Table 15-2, 7l + 1). -/
def sendImage (k : Nat) (vb : Bytes) (limp : Option Nat) (change : Bool) (s : State) (l : LaneId) : State :=
  carry s (7 * l.num + 1) (entriesOf 1 vb.length) (.image l k vb limp change) id (fun s => takeImage s l k vb limp change)

/-- The release of Vb in cycle k: copies in the lanes, transmit contexts, CAN queues, glue-up, latency (01 R22, R24). -/
def release (s : State) (c : Container) (k : Nat) (v : Verdicts) : State :=
  let src := (s.vote.partsV.find? (fun l => !v.db.contains l)).getD s.lead
  let pubs := s.vote.pubsV.get src
  let out := v.vb.drop (16 + c.qExt)
  let s := resendBlocks s src
  let r := releaseFlows c s.v2ring pubs k s.ring.tx out
  let s := { s with ring := { s.ring with tx := r.1 } }
  let s := releaseTels c pubs k s r.2
  let s := releaseCan c k v.vb s
  let s := (LaneId.all.filter s.runs).foldl (sendImage k v.vb s.vote.limpNs s.vote.changeV) s
  { s with vote := { s.vote with released := v.vb, relK := some k, forcesRel := s.forces } }

/-- DOVETAIL_VOTE (03 R84 to R86, Table 03-6): the voters judge within t_vote of the V_k at which the lanes submitted; nothing is released
while power domain 8 is off or the fabric's clock stands (15 Table 15-3). Every lane in Db is counted in 3030, whatever the outcome, on which the
manual is silent: DESIGN CHOICE, log 82. `defect`: a fault of one voter makes its verdict differ from that of the other, a voter disagreement. -/
def dovetailVote (s : State) (defect : Bool) : State :=
  match s.config, s.vote.kV with
  | some c, some k =>
    if s.inRun && s.vote.voting && bitOf s.power.domains 7 && s.domainRuns 3 then
      let vK := s.vote.cV + c.vOff
      let s := advanceTo s (vK + tVote c)
      let s := { s with vote := { s.vote with voting := false } }
      let parts := s.vote.partsV
      let v := judge c.bOut parts (fun l => if s.active l then s.vote.subs.get l else none)
      let s := v.db.foldl (fun s l => s.modLane l (fun ln => ln.rbump 0x3030 1)) s
      if defect || !v.agree then enterSafe s 4
      else if v.db.isEmpty ∨ (s.vote.modeV = .run2oo3 ∧ v.db.length = 1) then
        let s := release s c k v
        let lat := s.time.now - vK
        let s := monitorTake (jset s 0x3030 4 lat) 3 0 (lat : Int)
        let s := judgeShadow s v
        v.db.foldl (fun s l => if s.active l then exclude s l (minorityCause (s.vote.subs.get l)) else s) s
      else if s.vote.modeV = .run2oo3 then enterSafe s 3
      else enterSafe s 1
    else s
  | _, _ => s

/-- Whether the image of cycle k has been released, or cycle k lies before the first voted one (01 R21). -/
def State.released (s : State) (k : Nat) : Bool :=
  decide (s.vote.relK = some k) || (s.vote.relK.isNone && s.vote.agreedLast.isNone && decide (s.vote.k ≠ some k))

/-- RELEASE_DEADLINE (01 R21): a release that has not happened by O_k puts the device in the safe state with cause 6. -/
def releaseDeadline (s : State) : State :=
  if s.inRun && decide (s.vote.k.isSome) then
    let o := s.applyNext
    let s := advanceTo s o.1
    if s.released o.2 then s else enterSafe s 6
  else s

/-! ## Engine faults and the limp timer -/

/-- A disturbance of an engine as its comparators meet it: with `bitwise` the trailing core's next output differs from the leading core's in a
bit. Whether the signature comparator reports is the operand's: the mixing function is open, and a comparator itself may be disturbed. -/
def Pair.disturbed (p : Pair) (bitwise signature : Bool) : Pair :=
  let w := busWord 0 p.lead.pc 0
  let q := p.compare { clock := p.lead.clock, word := 0, loads := [], grant := 0, poll := [], core := p.head, lead := w
                       give := if bitwise then w ^^^ 1 else w }
  { q with signature := signature }

/-- ENGINE_FAULT (03 R64 to R66): a disturbance of a core, a shim register or a comparator that the comparators report. A split engine has
no comparison (03 R89). -/
def engineFault (s : State) (e : EngineId) (bitwise signature : Bool) : State :=
  let ln := s.lane e.lane
  if (bitwise || signature) && s.paired e && !ln.hold && (s.inRun || s.vote.reint = some e.lane) then
    let p := (s.lane e.lane).pair e.slot
    let s := s.modLane e.lane (fun ln => { ln with pairs := Store.insert ln.pairs e.slot (p.disturbed bitwise signature) })
    comparatorFault s e bitwise signature
  else s

/-- LIMP_TIMER_EXPIRY (03 R91): node time moves on to the instant at which the limp timer reaches zero. -/
def limpTimerExpiry (s : State) : State :=
  match s.vote.limpNs with
  | some r => if s.mode = .run2oo2 then enterSafe (advanceTo s (s.time.now + r)) 2 else s
  | none => s

end Sys2Proof.Machine
end

