-- ==== Sys2Proof/Machine/Time.lean ====
section
/-! DEFINITION. Lane time, trigger compares, the time-source node, PPS_IN and PPS_OUT (02 R29 to R47, R55 to R61). -/

namespace Sys2Proof.Machine

open Sys2Proof

/-! ## Lane time counters (02 R43 to R47) -/

/-- Entry 4008 of a lane: its offset at the last mark. -/
def Lane.showTime (ln : Lane) (offset : Int) : Lane := ln.rset 0x4008 1 (wrapTo 32 offset)

/-- A lane counter once the deviation of its crystal over the interval of `d` ns since the last mark is known: the counter and the crystal's
count take it for the whole interval. -/
def LaneTime.settle (x : LaneTime) (d : Nat) (dev : Int) : LaneTime :=
  let c : Int := d * (dev - x.drift)
  { x with fine := ((x.fine : Int) + c).toNat, crystal := ((x.crystal : Int) + c).toNat, drift := dev }

/-- A lane counter after a mark of node time `node` that carries the rate correction `rate`: set in a step by the first one, else its
offset is to be slewed away and its rate correction becomes the deviation that successive marks show (02 R43, R44). The manual fixes no
steering law beyond the slew limit: DESIGN CHOICE, log 76. -/
def LaneTime.mark (x : LaneTime) (node : Nat) (rate dev : Int) : LaneTime :=
  match x.lastMark with
  | none =>
    { x with fine := 1000000000 * node, rate := -dev, drift := dev, slew := 0, marks := 1, lastMark := some node
             window := [{ node := node, crystal := x.crystal, rate := rate }] }
  | some last =>
    let x := x.settle (node - last) dev
    { x with rate := -dev, slew := (1000000000 * node : Nat) - (x.fine : Int), marks := x.marks + 1, lastMark := some node
             window := { node := node, crystal := x.crystal, rate := rate } :: x.window }

/-- Instant of the next time mark to a lane (02 R43). -/
def State.nextMark (s : State) (l : LaneId) : Nat :=
  let sent := (s.crossing (7 * l.num + 1)).held.filterMap (fun h => match h.1 with
    | .traffic (.timeMark _ _ _) t => some t
    | _ => none)
  gridFrom (Nat.max s.time.now (((s.lane l).time.lastMark.toList ++ sent).foldl (fun m t => Nat.max m (t + 1)) 0)) 0 125000

/-- Offset of a lane counter from a mark of node time `node`, before it steers. -/
def LaneTime.offsetAt (x : LaneTime) (node : Nat) (dev : Int) : Int :=
  match x.lastMark with
  | none => 0
  | some last => ((x.settle (node - last) dev).now : Int) - node

/-- Rate correction in total that the time base applies (02 R43, 10 R282). -/
def State.rateNow (s : State) : Int := s.time.rc + s.time.slew

/-- A lane takes a mark of node time `node`; `dev` is the deviation in ppb of its crystal from node time since the last mark. A locked lane
whose offset exceeds 100 ns in magnitude reports a lane clock fault (02 R43, R45). -/
def takeMark (s : State) (l : LaneId) (node : Nat) (dev : Int) : State :=
  if (s.lane l).hold then s
  else
    let x := (s.lane l).time
    let offset := x.offsetAt node dev
    let s := s.modLane l (fun ln => Lane.showTime { ln with time := ln.time.mark node s.rateNow dev } offset)
    if x.locked && decide (100 < offset.natAbs) then report s l 10 else s

/-- A mark on its way to a lane through its crossing; to a lane whose crossing is closed none is offered, and the lane waits for fresh ones
(15 R408, TC-8: the manual does not say that the junction keeps stale marks; DESIGN CHOICE, log 68). -/
def sendMark (s : State) (l : LaneId) (dev : Int) : State :=
  let x := 7 * l.num + 1
  if (s.crossing x).open_ then
    carry s x 1 (.traffic (.timeMark l dev true) s.time.now) id (fun t => takeMark t l s.time.now dev)
  else s

/-- TIME_MARK (02 R43): the junction sends a lane the node time and the rate correction of the time base, while the time base runs (15 Table
15-3). A mark that does not arrive valid is not taken, and the lane misses it (02 R44, R45). -/
def timeMark (s : State) (l : LaneId) (dev : Int) (valid : Bool) : State :=
  if (s.lane l).hold || !s.domainRuns 4 then s
  else
    let s := advanceTo s (s.nextMark l)
    if valid then sendMark s l dev
    else advanceTo s (s.time.now + 1)

/-- MISSED_TIME_MARKS (02 R45): four successive marks missed by a locked lane. -/
def missedTimeMarks (s : State) (l : LaneId) : State :=
  match (s.lane l).time.lastMark with
  | some m =>
    if (s.lane l).time.locked && !(s.lane l).hold then
      let s := advanceTo s (m + 500000)
      report (s.modLane l (fun ln => { ln with time := { ln.time with lastMark := some (m + 500000) } })) l 10
    else s
  | none => s

/-- Span of node time over a window after removing the rate corrections carried, and span of the crystal, in 10⁻⁹ ns (02 R46). Marks are
newest first. -/
def spans : List Mark → Int × Int
  | a :: b :: ms =>
    let r := spans (b :: ms)
    let d : Int := (a.node : Int) - b.node
    (r.1 + d * (1000000000 - a.rate), r.2 + ((a.crystal : Int) - b.crystal))
  | _ => (0, 0)

/-- Rate deviation of a window in ppb (02 R46). -/
def rateDeviation (w : List Mark) : Int :=
  let x := spans w
  if x.2 = 0 then 0 else (x.1 - x.2) * 1000000000 / x.2

/-- A lane's rate report reaches the junction: the first one since the last judgement counts (02 R46, R47). -/
def takeRate (s : State) (l : LaneId) : State :=
  let now := s.time.now
  s.modLane l (fun ln => { ln with time := { ln.time with reported := ln.time.reported.orElse (fun _ => some now) } })

/-- RATE_WINDOW_CHECK (02 R46): over a window of 16 marks. -/
def rateWindowCheck (s : State) (l : LaneId) : State :=
  let x := (s.lane l).time
  if 17 ≤ x.window.length ∧ !(s.lane l).hold then
    let dev := rateDeviation (x.window.take 17)
    let s := s.modLane l (fun ln => { (ln.rset 0x4009 1 (wrapTo 32 dev)) with time := { ln.time with window := ln.time.window.take 1 } })
    if 200000 < dev.natAbs then raiseEvent s (7 * l.num + 3) 2 (.fault l 11) (fun s => takeRate s l) else s
  else s

/-- Lanes in service with a rate report, and when they made it. -/
def State.reports (s : State) : List (LaneId × Nat) :=
  LaneId.all.filterMap (fun l => if (s.lane l).hold then none else (s.lane l).time.reported.map (fun t => (l, t)))

/-- DISCREPANCY_JUDGEMENT (02 R47): 4 ms after the first report. -/
def discrepancyJudgement (s : State) : State :=
  match s.reports with
  | [] => s
  | r :: rs =>
    let first := rs.foldl (fun a b => if b.2 < a.2 then b else a) r
    let s := advanceTo s (first.2 + 4000000)
    if ((r :: rs).filter (fun x => decide (x.2 ≤ first.2 + 4000000))).length = 1 then exclude s first.1 11
    else junctionTimeFault s

/-! ## Trigger compares (02 R34 to R39) -/

/-- A trigger's id taken by the junction into its next batch. -/
def takeTrigger (s : State) (id : Nat) : State := { s with batchIn := { s.batchIn with triggers := s.batchIn.triggers ++ [id] } }

/-- A user event trigger enters the batch of the first cycle start at or after its instant (02 R41), through crossing 22 (15 R400). -/
def raiseTrigger (s : State) (id : Nat) : State := carry s 22 1 (.trigger id) (fun s => s) (fun s => takeTrigger s id)

/-- Distance from now to the first instant at which a 32-bit target fires (02 R34, R35). -/
def waitFor (now target : Nat) : Nat :=
  let d := signedOf 32 (wrapTo 32 ((now : Int) - target))
  if 0 ≤ d then 0 else d.natAbs

/-- Whether a dictionary client may arm a trigger id (02 R38, 09 R244). -/
def triggerOpen (s : State) (id : Nat) : Bool :=
  match s.config with
  | some c => decide (id < 4096) && c.triggersOpen.contains id
  | none => false

/-- The state with a direct compare replaced. -/
def setDc (s : State) (n : Nat) (x : Compare) : State := { s with time := { s.time with dc := s.time.dc.set n x } }

/-- The state with an epoch compare replaced. -/
def setEc (s : State) (n : Nat) (x : Compare) : State := { s with time := { s.time with ec := s.time.ec.set n x } }

/-- A direct compare armed with its stored target (02 R37); its target crosses to the time base (15 Table 15-2, 23). -/
def armDc (s : State) (n id : Nat) : State :=
  let x : Compare := { sec := 0, ns := jget s (0x4010 + n) 1, id := id, close := true, state := 1 }
  carry s 23 1 (.compare false n x) (fun s => s) (fun s => setDc s n x)

/-- An epoch compare armed with its stored target (02 R37), which crosses likewise. -/
def armEc (s : State) (n id : Nat) : State :=
  let x : Compare := { sec := jget s (0x4018 + n) 1 % 281474976710656, ns := jget s (0x4018 + n) 2, id := id, close := false, state := 1 }
  carry s 23 1 (.compare true n x) (fun s => s) (fun s => setEc s n x)

/-- A rate correction and a slew rate in the time base (10 R282). -/
def takeCorrection (s : State) (rc slew : Int) : State := { s with time := { s.time with rc := rc, slew := slew } }

/-- A rate and an offset correction on their way to the time base (15 Table 15-2, 23). -/
def sendCorrection (s : State) (rc slew : Int) : State := carry s 23 1 (.correction rc slew) id (fun s => takeCorrection s rc slew)

/-- DIRECT_COMPARE_FIRE (02 R34, R38). -/
def directCompareDue (s : State) (n : Nat) : State :=
  match s.time.dc[n]? with
  | some x =>
    if x.state = 1 then
      let s := advanceTo s (s.time.now + waitFor s.time.now x.ns)
      raiseTrigger (setDc s n { x with state := 2 }) x.id
    else s
  | none => s

/-- EPOCH_COMPARE_ARMING (02 R37): at the first instant at which SEC is at least the target's less 1. -/
def epochCompareArming (s : State) (n : Fin 4) : State :=
  match s.time.ec[n.val]? with
  | some x =>
    if x.state = 1 ∧ !x.close then
      let s := advanceTo s ((x.sec - 1) * 1000000000)
      setEc s n { x with close := true }
    else s
  | none => s

/-- Whether PPS_OUT is second-aligned, which takes EC3 (02 R60). -/
def State.ppsSecond (s : State) : Bool := decide (jget s 0x4020 1 = 1)

/-- A pulse started on PPS_OUT; one that is due while the output is high restarts the width (02 R60). In reset and unpowered the output
stays at high impedance. -/
def startPulse (s : State) : State :=
  if s.time.ppsOut = .hiZ then s
  else { s with time := { s.time with ppsOut := .high (s.time.now + jget s 0x4020 2), ppsStart := some s.time.now } }

/-- Next second-aligned instant, after the last pulse start, in the timescale of 4020.04. -/
def State.nextSecond (s : State) : Nat :=
  let shift := if jget s 0x4020 4 = 1 then (s.time.tai % 1000000000).toNat else 0
  gridFrom (Nat.max s.time.now (s.time.ppsStart.elim 0 (fun t => t + 1))) (1000000000 - shift) 1000000000

/-- EPOCH_COMPARE_FIRE (02 R34, R37, R60): a user event trigger, or for EC3 under a second-aligned PPS_OUT a pulse. A target in
the past fires at once. -/
def epochCompareDue (s : State) (n : Nat) : State :=
  if n = 3 ∧ s.ppsSecond then startPulse (advanceTo s s.nextSecond)
  else match s.time.ec[n]? with
  | some x =>
    if x.state = 1 ∧ x.close then
      let s := advanceTo s (x.sec * 1000000000 + x.ns)
      raiseTrigger (setEc s n { x with state := 2 }) x.id
    else s
  | none => s

/-- USER_EVENT_TRIGGER (02 R41): an entry of action 9 fires. -/
def userEventDue (s : State) (i : Nat) : State := atEntry s i 9 (fun s e => raiseTrigger s (CutEntry.tgt e))

/-- PPS_OUT (02 R60) of an entry of action 10: the entry fires, and with the cutting list as source it starts a pulse. -/
def ppsEntryDue (s : State) (i : Nat) : State :=
  atEntry s i 10 (fun s _ => if jget s 0x4020 1 = 2 then startPulse s else s)

/-- PPS_OUT (02 R60) at a second-aligned instant. -/
def ppsSecondDue (s : State) : State := if s.ppsSecond then startPulse (advanceTo s s.nextSecond) else s

/-- PPS_OUT_PULSE_END (02 R60). -/
def ppsOutPulseEnd (s : State) : State :=
  match s.time.ppsOut with
  | .high t =>
    let s := advanceTo s t
    { s with time := { s.time with ppsOut := .low } }
  | _ => s

/-- A PPS_OUT source chosen (02 R60): off drives the output low; second-aligned takes EC3. A pulse in progress at a change to another source
runs to its end, on which the manual is silent: DESIGN CHOICE, log 77. -/
def choosePps (s : State) (src : Nat) : State :=
  let s := jset s 0x4020 1 src
  let s := if src = 0 ∧ s.time.ppsOut ≠ .hiZ then { s with time := { s.time with ppsOut := .low } } else s
  if src = 1 then setEc s 3 Compare.idle else s

/-! ## The time-source node (02 R55 to R61) -/

/-- Whether the schedule in force names this node as a coldstart node (10 R268). -/
def State.coldstartNode (s : State) : Bool :=
  match s.config with
  | some c => c.ring.syncs.any (fun x => decide (x.node = s.pins.node) && x.delay.isSome)
  | none => false

/-- Whether this node acts as the time-source node (02 R55). -/
def State.timeSource (s : State) : Bool := jbool s 0x4003 1 && s.coldstartNode

/-- Values that a type 8 record holds: TAI correction, UTC offset, leap indicator (14 Table 14-4). -/
def State.taiValues (s : State) : Bytes :=
  leBytes 8 (wrapTo 64 s.time.tai) ++ leBytes 2 (jget s 0x4002 1) ++ leBytes 1 (jget s 0x4002 2)

/-- Type 8: a change of TAI correction, UTC offset or leap indicator, old and new values. -/
def recordTai (s : State) (old : Bytes) : State := record s 0 8 (old ++ s.taiValues)

/-- The TAI correction set; a change by more than 1 µs is recorded with both values (02 R58). -/
def setTai (s : State) (v : Int) : State :=
  let old := s.taiValues
  let far := decide (1000 < (v - s.time.tai).natAbs)
  let s := { s with time := { s.time with tai := v } }
  let s := jset s 0x4001 0 (wrapTo 64 v)
  if far then recordTai s old else s

/-- Mean of the samples in whole ns, rounded towards −∞: the manual states no rounding (DESIGN CHOICE, log 77). -/
def meanOf (xs : List Int) : Int := xs.foldl (fun a b => a + b) 0 / (Nat.max 1 xs.length : Nat)

/-- A sample of the reference: the correction is the mean of the last 16, valid once 16 have been taken (02 R58). A time-source
node locked to its reference is no longer uncertain of its time (02 R33). The UTC offset counts as valid from the first valid correction
on, and stays so when the correction is invalidated: DESIGN CHOICE, log 77. A node that has heard a time source of lower node id keeps
that one's correction (R55). -/
def takeSample (s : State) (v : Int) : State :=
  let xs := (v :: s.time.samples).take 16
  let s := { s with time := { s.time with samples := xs } }
  if xs.length = 16 then
    let s := if s.time.sourceSeen.any (fun n => decide (n < s.pins.node)) then s else setTai s (meanOf xs)
    { s with time := { s.time with taiValid := true, utcValid := true, refLocked := true, lostAt := none, uncertain := false,
                                   refPps := decide (jget s 0x4003 2 = 1) || decide (jget s 0x4003 2 = 2) } }
  else s

/-- Whether PPS_IN gives the phase of the reference: sources 1 and 2 at the time-source node (02 R57, R59). -/
def State.ppsReference (s : State) : Bool := s.timeSource && (decide (jget s 0x4003 2 = 1) || decide (jget s 0x4003 2 = 2))

/-- The reference lost (02 R56, R58): its samples begin anew, and its correction is kept for 60 s. -/
def loseReference (s : State) : State :=
  { s with time := { s.time with samples := [], lostAt := if s.time.refLocked then some s.time.now else s.time.lostAt
                                 refLocked := false } }

/-- `n` more expected edges missing or without a value; the third in succession loses the reference where PPS_IN gives its phase, and the
next edge is a first edge again (02 R56, R58). -/
def edgesMissed (s : State) (n : Nat) : State :=
  if 3 ≤ s.time.ppsMiss + n then
    let s := if s.ppsReference then loseReference s else s
    { s with time := { s.time with ppsDue := none, ppsMiss := 0 } }
  else { s with time := { s.time with ppsMiss := s.time.ppsMiss + n } }

/-- Whether PPS_IN is stamped (02 R58). -/
def State.stampsPps (s : State) : Bool := jbool s 0x4021 1 || s.ppsReference

/-- The expected edges that have passed at node time `t` without an accepted edge: each counts in 4021.03, and the next second is expected
(02 R56). -/
def passMissing (s : State) (t : Nat) : State :=
  match s.time.ppsDue with
  | some due =>
    if due + 1000000 < t then
      let n := (t - due - 1000001) / 1000000000 + 1
      edgesMissed { (jadd s 0x4021 3 n) with time := { s.time with ppsDue := some (due + 1000000000 * n) } } n
    else s
  | none => s

/-- Whether an edge at `t` lies within 1 ms of the expected second; a first edge always counts (02 R56). -/
def State.edgeAccepted (s : State) (t : Nat) : Bool :=
  s.time.ppsDue.all (fun d => decide (d ≤ t + 1000000) && decide (t ≤ d + 1000000))

/-- A PTP port. -/
def State.ptp (s : State) : EcnPort → PtpPort
  | .e0 => s.ptp0
  | .e1 => s.ptp1

/-- The state with one PTP port changed. -/
def State.modPtp (s : State) (p : EcnPort) (f : PtpPort → PtpPort) : State :=
  match p with
  | .e0 => { s with ptp0 := f s.ptp0 }
  | .e1 => { s with ptp1 := f s.ptp1 }

/-- Index of a port's PTP entries. -/
def ptpIndex (p : EcnPort) : Nat := 0x4180 + p.num

/-- The monitor port named in 4003.03. -/
def State.refPort (s : State) : EcnPort := if jget s 0x4003 3 = 1 then .e1 else .e0

/-- TAI at a node time as a monitor port measures it (02 R54): the exported time less offsetFromMaster, if the port is in
monitor mode and follows a master. -/
def State.portTai (s : State) (p : EcnPort) (t : Int) : Option Int :=
  if jget s (ptpIndex p) 1 = 2 ∧ (s.ptp p).master.isSome then
    some (t + s.time.tai - signedOf 64 (jget s (ptpIndex p) 11))
  else none

/-- TAI second of an accepted edge at `t`, by reference source (02 R57, R58). With source 1 there is none while the monitor port follows no
master: such an edge gives no sample and counts as missing, as one without a value does with source 2 (DESIGN CHOICE, log 77). -/
def edgeSecond (s : State) (t : Nat) : Option Int :=
  if jget s 0x4003 2 = 1 then (s.portTai s.refPort t).map (fun x => (x + 500000000) / 1000000000)
  else if jget s 0x4003 2 = 2 then s.time.taiSecond.map (fun p => (p.1 : Int))
  else none

/-- An accepted edge at `t` (02 R56, R58, R59). -/
def acceptEdge (s : State) (t : Nat) : State :=
  let s := jset s 0x4021 2 (ofLe (timeBytes t))
  let v := edgeSecond s t
  let s := { s with time := { s.time with ppsDue := some (t + 1000000000), taiSecond := none } }
  if s.ppsReference then
    match v with
    | some sec => takeSample { s with time := { s.time with ppsMiss := 0 } } (sec * 1000000000 - t)
    | none => edgesMissed s 1
  else { s with time := { s.time with ppsMiss := 0 } }

/-- PPS_IN_EDGE (02 R56, R58, R59): a rejected edge is counted and moves no expectation. -/
def ppsInEdge (s : State) (t : Nat) : State :=
  if s.stampsPps then
    let s := passMissing (advanceTo s t) t
    if s.edgeAccepted t then acceptEdge s t else jbump s 0x4021 3
  else s

/-- PPS_IN_EDGE_MISSING (02 R56): 1 ms after the expected second. -/
def ppsInEdgeMissing (s : State) : State :=
  match s.time.ppsDue with
  | some due => if s.stampsPps then passMissing (advanceTo s (due + 1000001)) (due + 1000001) else s
  | none => s

/-- A TAI second written to 4004.00 (02 R58). A value that none has consumed is replaced, and no discard is counted for it: DESIGN CHOICE,
log 77. -/
def writeTaiSecond (s : State) (v : Nat) : State :=
  { s with time := { s.time with taiSecond := some (v % 281474976710656, s.time.now) } }

/-- TAI_SECOND_DISCARD (02 R58): 2 s after it was written. -/
def taiSecondDiscard (s : State) : State :=
  match s.time.taiSecond with
  | some p =>
    let s := jbump (advanceTo s (p.2 + 2000000000)) 0x4021 3
    { s with time := { s.time with taiSecond := none } }
  | none => s

/-- CORRECTION_INVALIDATED (02 R58): 60 s after the reference was lost. -/
def correctionInvalidated (s : State) : State :=
  match s.time.lostAt with
  | some t =>
    let s := advanceTo s (t + 60000000000)
    { s with time := { s.time with taiValid := false, lostAt := none } }
  | none => s

/-- LEAP_SECOND_APPLIED (02 R61, 4002.02): at the end of the UTC day, which is one second later or earlier by the old offset when
a second is inserted or deleted. -/
def leapSecondApplied (s : State) : State :=
  let ind := jget s 0x4002 2
  if ind = 1 ∨ ind = 2 then
    let off := signedOf 16 (jget s 0x4002 1)
    let day : Int := 86400000000000
    let utc := s.taiNow - off * 1000000000
    let shift : Int := if ind = 1 then 1000000000 else -1000000000
    let s := advanceTo s ((s.time.now : Int) + (day - utc % day) + shift).toNat
    let old := s.taiValues
    let s := jset (jset s 0x4002 1 (wrapTo 16 (off + (if ind = 1 then 1 else -1)))) 0x4002 2 0
    recordTai s old
  else s

/-- Status byte 4000.02 (02 Table 02-2). -/
def State.timeStatus (s : State) : Nat :=
  (if s.time.synced then 1 else 0) + (if s.time.uncertain then 2 else 0) + (if s.time.taiValid then 4 else 0) +
  (if s.time.utcValid then 8 else 0) + (if s.time.refLocked then 16 else 0) +
  (if jbool s 0x4003 1 && !s.coldstartNode then 32 else 0)

/-- Lane clock status 4009.04. -/
def State.laneClocks (s : State) : Nat :=
  (LaneId.all.foldl (fun n l => n + (if (s.lane l).time.locked then 2 ^ l.num else 0) +
    (if (s.lane l).time.reported.isSome then 2 ^ (3 + l.num) else 0)) 0) + (if s.time.jtf then 64 else 0)

/-- A free-running clock of the time base: 4 ns by the 250 MHz clock, with rate correction and slew (02 R29, 10 R282, R283). The
time base stands still while its domain has no power (16 Table 16-2, domain 7). -/
def timeClock (s : State) : State :=
  if s.booted then
    let total : Int := (s.time.frac : Int) + 4 * (1000000000 + s.time.rc + s.time.slew)
    let ns := (total / 1000000000).toNat
    let s := advanceTo s (s.time.now + ns)
    { s with time := { s.time with frac := (total % 1000000000).toNat } }
  else s

/-- A lane counter when node time is set in a step by `d` ns. -/
def LaneTime.step (x : LaneTime) (d : Int) : LaneTime :=
  { x with fine := ((x.fine : Int) + 1000000000 * d).toNat
           lastMark := x.lastMark.map (fun m => ((m : Int) + d).toNat)
           window := x.window.map (fun m => { m with node := ((m.node : Int) + d).toNat }) }

/-- A node time moved by a step of `d` ns. -/
def shifted (d : Int) (t : Nat) : Nat := ((t : Int) + d).toNat

/-- The instants of a ring port moved with a step of node time. -/
def RingPortState.shift (d : Int) (x : RingPortState) : RingPortState :=
  { x with
    wrapAt := shifted d x.wrapAt, lastHeard := shifted d x.lastHeard, lastSent := shifted d x.lastSent, busyFrom := shifted d x.busyFrom
    busyTo := shifted d x.busyTo, upAt := x.upAt.map (shifted d), ownNotice := x.ownNotice.map (shifted d)
    peerNotice := x.peerNotice.map (shifted d), notices := x.notices.map (fun q => (shifted d q.1, q.2)) }

/-- Node time set in a step by `d` ns; lane counters, the instants of the ring ports and those of start-up follow, and what fired before the
step binds nothing after it (02 R32, 10 R274, 16 R430). In RUN a step is a violation that raises the fault of 01 R12. -/
def stepTime (s : State) (d : Int) : State :=
  if s.inRun then junctionTimeFault s
  else { s with time := { s.time with now := shifted d s.time.now, early := [] }
                power := { s.power with upNs := s.sinceVin, vinGood := s.power.vinGood.map (fun _ => shifted d s.time.now)
                                        stepAt := shifted d s.power.stepAt, bootAt := shifted d s.power.bootAt }
                ring := { s.ring with east := s.ring.east.shift d, west := s.ring.west.shift d, since := shifted d s.ring.since, fired := []
                                      windows := [], rx := s.ring.rx.map (fun q => (q.1, { q.2 with opened := none })) }
                lanes := s.lanes.map (fun ln => { ln with time := ln.time.step d, sampledAt := none, fired := []
                                                          recog := { ln.recog with blockAt := none, evalAt := none, pubAt := none } }) }

end Sys2Proof.Machine
end

