-- ==== Sys2Proof/Machine/Ptp.lean ====
section
/-! DEFINITION. IEEE 1588 on the ECN ports: export mode, monitor mode and the monitor port as a reference (02 R49, R52 to R54,
R57). -/

namespace Sys2Proof.Machine

open Sys2Proof

/-- Latency and asymmetry corrections of an ECN port: subindex 1 L_in, 2 L_out, 3 A (02 R49, Table 02-2). -/
def ecnCorrection (s : State) (p : EcnPort) (sub : Nat) : Int := signedOf 32 (jget s (0x4042 + p.num) sub)

/-- A PTP setting of a port. -/
def ptpGet (s : State) (p : EcnPort) (sub : Nat) : Nat := jget s (ptpIndex p) sub

/-- Corrected arrival time in the exported timescale: node time + TAI correction (02 R49, R53). -/
def ptpArrival (s : State) (p : EcnPort) (t : Nat) : Int := (t : Int) - ecnCorrection s p 1 + s.time.tai

/-! ## The wire of an ECN port (11 R304, R305) -/

/-- Wire time in ns of a frame with preamble and gap at a link state code. -/
def ecnWire (speed len : Nat) : Nat := (len + 20) * 8 * (if speed = 1 then 100 else if speed = 2 then 10 else 1)

/-- A frame of order `cls` put in line at a port, with its start: behind the frame on the wire and those that wait with its order or a lower
one, before the others that wait (R305). -/
def Ecn.enqueue (x : Ecn) (now cls len : Nat) : Ecn × Nat :=
  let d := ecnWire x.speed len
  let live := x.queue.filter (fun q => decide (now < q.2.1))
  let ahead := live.filter (fun q => decide (q.1 ≤ now) || decide (q.2.2 ≤ cls))
  let behind := live.filter (fun q => decide (now < q.1) && decide (cls < q.2.2))
  let start := ahead.foldl (fun m q => Nat.max m q.2.1) now
  ({ x with queue := ahead ++ [(start, start + d, cls)] ++ behind.map (fun q => (q.1 + d, q.2.1 + d, q.2.2))
            lastEnd := behind.foldl (fun m q => Nat.max m (q.2.1 + d)) (start + d) }, start)

/-- A frame of `len` bytes handed to an ECN port through crossing 31; one that carries an IPv4 datagram advances the identification (R304). -/
def ecnSend (s : State) (p cls len : Nat) (ip : Bool) (w : Wire) : State :=
  let x := ((s.ecn p).enqueue s.time.now cls len).1
  transmit (s.modEcn p (fun _ => { x with ident := if ip then (x.ident + 1) % 65536 else x.ident })) 31 (entriesOf 31 len) w

/-! ## Time-stamps -/

/-- Corrected departure time, in the exported timescale, of an event message handed to the port now (02 R49, R53): it waits for a frame on the
wire alone (11 R305). -/
def ptpDeparture (s : State) (p : EcnPort) : Int :=
  (((s.ecn p.num).enqueue s.time.now 0 64).2 : Int) + ecnCorrection s p 2 + s.time.tai

/-- Delays of a port's incoming and outgoing frames by its mean delay (02 R49). -/
def ptpIn (s : State) (p : EcnPort) (mean : Int) : Int := mean + ecnCorrection s p 3

/-- Delay of a port's outgoing frames by its mean delay (02 R49). -/
def ptpOut (s : State) (p : EcnPort) (mean : Int) : Int := mean - ecnCorrection s p 3

/-- Clock identity of a port: its MAC address, widened to an EUI-64 as IEEE 1588-2019 does (PRESUMED, log 78). -/
def ptpIdentity (p : EcnPort) : Nat :=
  let mac := (Config.macAddress (p.num = 1)).toNat
  mac / 16777216 * 1099511627776 + 0xFFFE * 16777216 + mac % 16777216

/-- Whether a message is an event message, which is time-stamped. -/
def ptpEvent : PtpKind → Bool
  | .sync _ _ | .delayReq _ | .pdelayReq _ | .pdelayResp _ _ _ => true
  | _ => false

/-- Bytes of a PTP message by its kind, as IEEE 1588-2019 gives them (PRESUMED, log 78). -/
def ptpBytes : PtpKind → Nat
  | .sync _ _ | .followUp _ _ | .delayReq _ => 44
  | .announce _ => 64
  | _ => 54

/-- Bytes of the frame of a PTP message: over UDP/IPv4 (transport 1) or directly over Ethernet. -/
def ptpFrameLen (s : State) (p : EcnPort) (n : Nat) : Nat := Nat.max 64 (14 + (if ptpGet s p 4 = 1 then 28 else 0) + n + 4)

/-- A message that the port sends: an event message goes before telegrams (11 R305). In one-step operation over UDP/IPv4 an event message has a
UDP checksum of zero (02 R52). -/
def ptpSend (s : State) (p : EcnPort) (k : PtpKind) : State :=
  ecnSend s p.num (if ptpEvent k then 0 else 2) (ptpFrameLen s p (ptpBytes k)) (decide (ptpGet s p 4 = 1))
    (.ptp p { kind := k, domain := ptpGet s p 5, transport := ptpGet s p 4, source := ptpIdentity p,
                   zeroSum := ptpEvent k && decide (ptpGet s p 2 = 1) && decide (ptpGet s p 4 = 1) })

/-- Port state shown in 4180.0D (IEEE 1588-2019: 1 initializing, 4 listening, 6 master, 7 passive, 9 slave). -/
def ptpState (s : State) (p : EcnPort) (n : Nat) : State := jset s (ptpIndex p) 13 n

/-- A mode written to 4180.01 (02 R53, R54): an export port is a master, a monitor port listens for one. -/
def choosePtpMode (s : State) (p : EcnPort) (mode : Nat) : State :=
  let s := jset s (ptpIndex p) 1 mode
  let s := s.modPtp p (fun _ => PtpPort.blank)
  ptpState s p (if mode = 1 then 6 else if mode = 2 then 4 else 1)

/-- offsetFromMaster of a sync received at t2 and sent at t1, by the delay of incoming frames (02 R49, R54). -/
def ptpOffset (s : State) (p : EcnPort) (t1 t2 mean : Int) : Int := t2 - t1 - ptpIn s p mean

/-- offsetFromMaster of a request sent at t3 and received by the master at t4, by the delay of outgoing frames (02 R49, R54). -/
def ptpOffsetOut (s : State) (p : EcnPort) (t3 t4 mean : Int) : Int := t3 + ptpOut s p mean - t4

/-- A sample for the reference from the monitor port alone, once in each second of the master (02 R57, R58). -/
def ptpReference (s : State) (p : EcnPort) : State :=
  if s.timeSource && decide (jget s 0x4003 2 = 3) && decide (s.refPort = p) then
    match s.portTai p s.time.now with
    | some x =>
      if s.time.ptpSecond = some (x / 1000000000) then s
      else takeSample { s with time := { s.time with ptpSecond := some (x / 1000000000) } } (x - s.time.now)
    | none => s
  else s

/-- Results of a measurement published in 4180 (02 R54). -/
def ptpPublish (s : State) (p : EcnPort) (offset delay : Int) : State :=
  ptpReference (jset (jset s (ptpIndex p) 11 (wrapTo 64 offset)) (ptpIndex p) 12 (wrapTo 64 delay)) p

/-- After a sync: the request of the delay mechanism, and with the peer mechanism the offset by the last delay (02 R54). -/
def ptpSynced (s : State) (p : EcnPort) (t1 t2 : Int) : State :=
  let s := s.modPtp p (fun x => { x with t1 := some t1, t2 := some t2, syncT := none, seq := (x.seq + 1) % 65536 })
  let n := (s.ptp p).seq
  let s := s.modPtp p (fun x => { x with reqT := some (n, ptpDeparture s p), respT := none })
  if ptpGet s p 3 = 1 then ptpSend s p (.delayReq n)
  else
    let delay := signedOf 64 (ptpGet s p 12)
    ptpPublish (ptpSend s p (.pdelayReq n)) p (ptpOffset s p t1 t2 delay) delay

/-- Answers that a port gives to a peer's delay request (02 R52, R53). In one-step operation the answer carries the turnaround
time. -/
def ptpAnswerPeer (s : State) (p : EcnPort) (n : Nat) (arrival : Int) : State :=
  if ptpGet s p 2 = 1 then ptpSend s p (.pdelayResp n false (ptpDeparture s p - arrival))
  else ptpSend (ptpSend s p (.pdelayResp n true arrival)) p (.pdelayRespFollowUp n (ptpDeparture s p))

/-- clockClass and timeSource that an export port announces (02 R53). -/
def ptpQuality (s : State) (p : EcnPort) : Nat × Nat :=
  if s.time.taiValid then (ptpGet s p 10, if s.time.refPps then 0x20 else 0x40) else (248, 0xA0)

/-- Dataset that an export port announces (02 R53). Accuracy and variance have no entry: unknown and not computed, as IEEE 1588-2019
codes them (PRESUMED, log 78). -/
def ptpDataset (s : State) (p : EcnPort) : PtpDataset :=
  { priority1 := ptpGet s p 8, clockClass := (ptpQuality s p).1, accuracy := 0xFE, variance := 0xFFFF, priority2 := ptpGet s p 9
    identity := ptpIdentity p }

/-- Whether the first of two lists of ranks that differ ranks lower. -/
def ranksBefore : List Nat → List Nat → Bool
  | a :: as, b :: bs => decide (a < b) || (decide (a = b) && ranksBefore as bs)
  | _, _ => false

/-- Ranks of a dataset in the order in which the best master clock algorithm of IEEE 1588-2019 compares them (02 R53). -/
def ptpRanks (d : PtpDataset) : List Nat :=
  [d.priority1, d.clockClass, d.accuracy, d.variance, d.priority2, d.identity]

/-- The best master clock decision (02 R53): whether dataset `d` is better than `e`. -/
def ptpBetter (d e : PtpDataset) : Bool := ranksBefore (ptpRanks d) (ptpRanks e)

/-- An export port back in MASTER (02 R53). -/
def ptpResume (s : State) (p : EcnPort) : State :=
  ptpState (s.modPtp p (fun x => { x with master := none, data := none })) p 6

/-- An announce message at an export port (02 R53): a better master puts the port in PASSIVE, and the followed master that is better no
longer puts it back in MASTER. The recorder has no type for this event: type 25, DESIGN CHOICE, log 27. -/
def ptpHeard (s : State) (p : EcnPort) (source : Nat) (d : PtpDataset) : State :=
  let better := ptpBetter d (ptpDataset s p)
  if ptpGet s p 13 = 6 ∧ better then
    let s := s.modPtp p (fun x => { x with master := some source, data := some d })
    record (ptpState s p 7) 6 25 (leBytes 1 p.num ++ leBytes 1 7)
  else if ptpGet s p 13 = 7 ∧ (s.ptp p).master = some source ∧ !better then ptpResume s p
  else s

/-- An announce message at a monitor port (02 R54): it follows the best master that it hears. -/
def ptpFollow (s : State) (p : EcnPort) (source : Nat) (d : PtpDataset) : State :=
  let x := s.ptp p
  if x.master = some source then s.modPtp p (fun x => { x with data := some d })
  else if x.data.all (fun e => ptpBetter d e) then
    ptpState (s.modPtp p (fun x => { PtpPort.blank with seq := x.seq, sampleAt := x.sampleAt, master := some source, data := some d })) p 9
  else s

/-- A message at an export port (02 R53). -/
def ptpExport (s : State) (p : EcnPort) (m : PtpMsg) (t : Nat) : State :=
  match m.kind with
  | .announce d => ptpHeard s p m.source d
  | .delayReq n => if ptpGet s p 13 = 6 ∧ ptpGet s p 3 = 1 then ptpSend s p (.delayResp n (ptpArrival s p t)) else s
  | .pdelayReq n => if ptpGet s p 3 = 2 then ptpAnswerPeer s p n (ptpArrival s p t) else s
  | _ => s

/-- meanPathDelay of the peer mechanism, once the exchange of a request is complete (02 R52, R54). -/
def peerDelay (s : State) (p : EcnPort) (delay : Int) : State :=
  jset (s.modPtp p (fun x => { x with reqT := none, respT := none })) (ptpIndex p) 12 (wrapTo 64 delay)

/-- A message at a monitor port (02 R54): a peer's answer of one step carries its turnaround time, one of two steps is followed up (R52). -/
def ptpMonitor (s : State) (p : EcnPort) (m : PtpMsg) (t : Nat) : State :=
  let x := s.ptp p
  let mine := decide (x.master = some m.source)
  match m.kind with
  | .announce d => ptpFollow s p m.source d
  | .sync n origin =>
    if mine then
      match origin with
      | some o => ptpSynced s p o (ptpArrival s p t)
      | none => s.modPtp p (fun x => { x with syncT := some (n, ptpArrival s p t) })
    else s
  | .followUp n origin =>
    match x.syncT with
    | some (k, a) => if mine && decide (k = n) then ptpSynced s p origin a else s
    | none => s
  | .delayResp n receive =>
    match x.t1, x.t2, x.reqT with
    | some t1, some t2, some (k, t3) =>
      if mine && decide (k = n) && decide (ptpGet s p 3 = 1) then
        let delay := ((t2 - t1) + (receive - t3)) / 2
        ptpPublish (s.modPtp p (fun x => { x with reqT := none })) p
          ((ptpOffset s p t1 t2 delay + ptpOffsetOut s p t3 receive delay) / 2) delay
      else s
    | _, _, _ => s
  | .pdelayReq n => if ptpGet s p 3 = 2 then ptpAnswerPeer s p n (ptpArrival s p t) else s
  | .pdelayResp n twoStep v =>
    match x.reqT with
    | some (k, t1) =>
      if k = n ∧ ptpGet s p 3 = 2 then
        if twoStep then s.modPtp p (fun x => { x with respT := some (v, ptpArrival s p t) })
        else peerDelay s p ((ptpArrival s p t - t1 - v) / 2)
      else s
    | none => s
  | .pdelayRespFollowUp n origin =>
    match x.reqT, x.respT with
    | some (k, t1), some (t2, t4) =>
      if k = n then peerDelay s p (((t4 - t1) - (origin - t2)) / 2) else s
    | _, _ => s
  | _ => s

/-- Whether a message is one that the device does not support (02 R52). -/
def ptpUnsupported (m : PtpMsg) : Bool :=
  decide (m.kind = .unsupported) || decide (127 < m.domain) || (decide (m.transport ≠ 1) && decide (m.transport ≠ 2))

/-- Index of an ECN port's entries. -/
def ecnIndex (p : Nat) : Nat := 0x4100 + p

/-- Whether a port is in service: enabled, on, the device booted (11 R300, 16 R417). -/
def State.ecnUp (s : State) (p : Nat) : Bool := s.booted && (s.ecn p).on && jbool s (ecnIndex p) 1

/-- A frame discarded and counted (11 R301). -/
def ecnDiscard (s : State) (p : Nat) : State := jbump s (ecnIndex p) 10

/-- Whether PTP runs on a port: an ECN port in service, not in shedding stage 2 (16 R417), with a PTP mode. -/
def State.ptpOn (s : State) (p : EcnPort) : Bool := s.ecnUp p.num && decide (ptpGet s p 1 ≠ 0)

/-- PTP_MESSAGE (02 R52 to R54) with raw time-stamp `t`. Messages of another domain or transport are not for this port; with the mode off no
consumer claims the frame (11 R301). -/
def ptpMessage (s : State) (p : EcnPort) (m : PtpMsg) (t : Nat) : State :=
  if s.ecnUp p.num then
    let s := jbump (advanceTo s t) (ecnIndex p.num) 9
    if ptpGet s p 1 = 0 then ecnDiscard s p.num
    else if ptpUnsupported m then jbump s (ptpIndex p) 14
    else if m.domain ≠ ptpGet s p 5 ∨ m.transport ≠ ptpGet s p 4 then s
    else if ptpGet s p 1 = 1 then ptpExport s p m t
    else ptpMonitor s p m t
  else s

/-- Interval 2^n s in ns, n an INTEGER8. -/
def logInterval (v : Nat) : Nat :=
  let n := signedOf 8 v
  if 0 ≤ n then 1000000000 * 2 ^ n.toNat else 1000000000 / 2 ^ n.natAbs

/-- PTP_SYNC_INTERVAL (02 R53): a master sends its sync, with a follow-up in two-step operation, or its announce message. -/
def ptpSyncInterval (s : State) (p : EcnPort) (announce : Bool) : State :=
  if s.ptpOn p && decide (ptpGet s p 1 = 1) && decide (ptpGet s p 13 = 6) then
    if announce then
      let s := advanceTo s ((s.ptp p).announceAt.elim 0 (fun t => t + logInterval (ptpGet s p 7)))
      let s := s.modPtp p (fun x => { x with announceAt := some s.time.now })
      ecnSend s p.num 2 (ptpFrameLen s p 64) (decide (ptpGet s p 4 = 1)) (.ptpAnnounce p (ptpDataset s p) (ptpQuality s p).2 (signedOf 16 (jget s 0x4002 1)) s.time.utcValid)
    else
      let s := advanceTo s ((s.ptp p).syncAt.elim 0 (fun t => t + logInterval (ptpGet s p 6)))
      let s := s.modPtp p (fun x => { x with syncAt := some s.time.now, seq := (x.seq + 1) % 65536 })
      let n := (s.ptp p).seq
      if ptpGet s p 2 = 1 then ptpSend s p (.sync n (some (ptpDeparture s p)))
      else ptpSend (ptpSend s p (.sync n none)) p (.followUp n (ptpDeparture s p))
  else s

/-- PTP_MONITOR_SAMPLE (02 R54, 14 Table 14-4 type 9): once per second, at a node that is not the time source. -/
def ptpMonitorSample (s : State) (p : EcnPort) : State :=
  if s.ptpOn p && decide (ptpGet s p 1 = 2) && !s.timeSource then
    let s := advanceTo s ((s.ptp p).sampleAt.elim 0 (fun t => t + 1000000000))
    let s := s.modPtp p (fun x => { x with sampleAt := some s.time.now })
    record s 6 9 (leBytes 1 p.num ++ leBytes 8 (ptpGet s p 11) ++ leBytes 8 (ptpGet s p 12))
  else s

/-- FOREIGN_MASTER_DISAPPEARS (02 R53). A monitor port then listens for a master again, and a reference of source 3 at that port is lost:
the manual names no loss rule for source 3 (DESIGN CHOICE, log 77). -/
def foreignMasterDisappears (s : State) (p : EcnPort) : State :=
  if s.ptpOn p then
    if ptpGet s p 1 = 1 then
      if ptpGet s p 13 = 7 then ptpResume s p else s
    else if (s.ptp p).master.isSome then
      let s := ptpState (s.modPtp p (fun x => { PtpPort.blank with seq := x.seq, sampleAt := x.sampleAt })) p 4
      if s.timeSource ∧ jget s 0x4003 2 = 3 ∧ s.refPort = p then loseReference s else s
    else s
  else s

end Sys2Proof.Machine
end

