-- ==== Sys2Proof/Machine/Ring.lean ====
section
/-! DEFINITION. The Nirkan ring's ports and frames: building and checking frames, sending, forwarding and stripping, ticks,
breaks, wraps and their notices, leave frames and bypass outputs (09 R238 to R250, R260 to R264, 10 R287 to R292, R295, R296,
16 R419). -/

namespace Sys2Proof.Machine

open Sys2Proof

/-! ## Ports -/

/-- A ring port. -/
def State.port (s : State) : RingPort → RingPortState
  | .east => s.ring.east
  | .west => s.ring.west

/-- The state with one ring port changed. -/
def State.modPort (s : State) (p : RingPort) (f : RingPortState → RingPortState) : State :=
  match p with
  | .east => { s with ring := { s.ring with east := f s.ring.east } }
  | .west => { s with ring := { s.ring with west := f s.ring.west } }

/-- The state with the ring controller changed. -/
def State.modRing (s : State) (f : Ring → Ring) : State := { s with ring := f s.ring }

/-- Index of a port's counters: 4210 east, 4211 west (09 R267). -/
def portIndex (p : RingPort) : Nat := 0x4210 + p.num

/-- Factor of wire times at behaviour level V2 ring (09 Table 09-8, 10 Table 10-4). -/
def State.slow (s : State) : Nat := if s.v2ring then 10 else 1

/-- Time on the wire, gap included, of a frame with p payload bytes (09 R250). -/
def State.tWire (s : State) (p : Nat) : Nat := s.slow * ((Nat.max (42 + p) 64 + 20) * 8)

/-- Time on the wire, gap included, of a frame; a tick takes that of a frame without payload at either level (09 R263, Table 09-8). -/
def State.spanOf (s : State) (f : RFrame) : Nat := s.tWire (if f.kind = 3 then 0 else f.len)

/-- From the time-stamp point of a frame to its end. -/
def State.tFrame (s : State) (p : Nat) : Nat := s.slow * (Nat.max (42 + p) 64 * 8)

/-- Hop latency (09 R260, Table 09-8). -/
def State.hopNs (s : State) : Nat := if s.v2ring then 8000 else 1200

/-- Node count of the ring schedule. -/
def State.nodes (s : State) : Nat :=
  match s.config with
  | some c => c.ring.order.length
  | none => 0

/-- Ring schedule identity that the configuration in force carries (09 R240). -/
def State.ringIdent (s : State) : Nat :=
  match s.config with
  | some c => c.ring.identity
  | none => 0

/-- A correction of a ring port in effect: 1 L_in, 2 L_out, 3 A (02 R49, R50). -/
def State.latency (s : State) (p : RingPort) (sub : Nat) : Int := Store.get s.ring.lat 0 (4 * p.num + sub)

/-- The corrections of the ring ports taken over at a round start (02 R50). -/
def latchLatency (s : State) : State :=
  let one := fun (m : Store Int) (q : Nat × Nat) => Store.put m 0 (4 * q.1 + q.2) (signedOf 32 (jget s (0x4040 + q.1) q.2))
  s.modRing (fun r => { r with lat := [(0, 1), (0, 2), (0, 3), (1, 1), (1, 2), (1, 3)].foldl one r.lat })

/-! ## Frames (09 R246, R247) -/

/-- A frame of this node (09 Tables 09-3, 09-8). -/
def ringFrame (s : State) (kind flags cli flow seq send : Nat) (payload : Bytes) : RFrame :=
  let body := if s.v2ring then padTo (Nat.max 30 payload.length) payload else payload
  { etype := 0x88B5, dst := 0x035953000000 + (if s.v2ring then 7 else kind)
    src := 0x025953000000 + s.pins.node, fcsOk := true, ver := if s.v2ring then 2 else 3,
    kind := kind, flags := flags, sender := s.pins.node, hop := 0, round := s.roundAt (if send = 0 then s.time.now else send),
    cli := cli, flow := flow, seq := seq, send := send % 4294967296, len := body.length, res := 0, reserved := 0,
    payload := body }

/-- A frame with a foreign EtherType or destination (09 R246). -/
def frameForeign (v2 : Bool) (f : RFrame) : Bool :=
  decide (f.etype ≠ 0x88B5) || decide (f.dst ≠ 0x035953000000 + (if v2 then 7 else f.kind))

/-- A frame with a fault in its header (09 R247). -/
def frameInvalid (v2 : Bool) (f : RFrame) : Bool :=
  decide (f.ver ≠ if v2 then 2 else 3) || decide (6 < f.kind) || decide (1440 < f.len) || decide (f.payload.length < f.len) ||
  decide (31 < f.flags) || (!v2 && decide (f.reserved ≠ 0))

/-! ## Sending (09 R260, R262, 10 R288) -/

/-- A frame put on a port's wire at an instant. -/
def startFrame (s : State) (p : RingPort) (f : RFrame) (start : Nat) : State :=
  (s.modPort p (fun x => { x with lastSent := Nat.max x.lastSent (start + s.spanOf f) })).emit (.ring p f)

/-- A frame for a port's wire at an instant; one of this node comes from the fabric through crossing 24, where it waits while the clock of the
port stands (15 R405). -/
def putOnWire (s : State) (p : RingPort) (f : RFrame) (start : Nat) : State :=
  if f.sender = s.pins.node then
    carry s 24 (entriesOf 24 (24 + f.len)) (.wire (.ring p f)) (fun s => s) (fun s => startFrame s p f start)
  else startFrame s p f start

/-- Flags with WRAPPED set. -/
def wrappedFlag (n : Nat) : Nat := Nat.lor n 8

/-- A frame that leaves through a port, or through the other port when this one is wrapped; a node with both ports wrapped
reaches no other (10 R288). -/
def sendVia (s : State) (p : RingPort) (f : RFrame) (start : Nat) : State :=
  if !(s.port p).wrapped then putOnWire s p f start
  else if !(s.port p.other).wrapped then putOnWire s p.other { f with flags := wrappedFlag f.flags } start
  else s

/-- Port through which a frame for `p` leaves. -/
def State.egress (s : State) (p : RingPort) : RingPort := if (s.port p).wrapped then p.other else p

/-- Whether a time-triggered frame that would start now meets another on the wire of its port (09 R262). -/
def State.contends (s : State) (p : RingPort) (start len : Nat) : Bool :=
  let x := s.port (s.egress p)
  decide (start < x.busyTo) && decide (x.busyFrom < start + s.tWire len)

/-- The span that a time-triggered frame occupies at its port. -/
def occupy (s : State) (p : RingPort) (start len : Nat) : State :=
  s.modPort (s.egress p) (fun x => { x with busyFrom := start, busyTo := start + s.tWire len })

/-! ## Reception (09 R246, R247, R260, R261) -/

/-- Port through which a frame received at a port travels on. -/
def onward (p : RingPort) : RingPort := p.other

/-- Whether a node strips a frame: its own, in the primary direction, or in the secondary one while the port through which it
would leave is wrapped (09 R261). -/
def strips (s : State) (p : RingPort) (f : RFrame) : Bool :=
  decide (f.sender = s.pins.node) && (decide (p = .west) || s.ring.west.wrapped)

/-- Break detection time (10 R287, Table 10-4). -/
def State.breakNs (s : State) : Nat := s.slow * 24000

/-- Time of a wrap's completion after detection (10 R288). -/
def State.wrapNs (s : State) : Nat := s.slow * 4000

/-- A frame heard at a port: break detection starts again, and a wrapped port's link counts as carrying frames from the first one
after a gap (10 R287, R292). -/
def hear (s : State) (p : RingPort) (len t : Nat) : State :=
  let s := jbump (advanceTo s t) (portIndex p) 1
  s.modPort p (fun x => { x with
    lastHeard := Nat.max x.lastHeard (t + s.tFrame len)
    upAt := if x.wrapped && decide (x.link ≠ 0) then
              (if x.upAt.isNone || decide (x.lastHeard + s.breakNs < t) then some t else x.upAt) else none })

/-- Residence deviation of a forwarder, in ns, within its ± 8 ns (09 R260): a free value. -/
def State.residence (s : State) : Int := ((s.freeVal % 17 : Nat) : Int) - 8

/-- Whether a port is between the detection of its break and the completed wrap at an instant (10 R288). -/
def State.wrapping (s : State) (q : RingPort) (t : Nat) : Bool :=
  (s.port q).wrapped && decide (t < (s.port q).wrapAt + s.wrapNs)

/-- A frame that arrives for a port in that span: discarded and counted (10 R288). -/
def lostAtWrap (s : State) (q : RingPort) : State :=
  (jbump s 0x4234 (q.num + 1)).modPort q (fun x => { x with lost := x.lost + 1 })

/-- What a received frame that overruns its crossing counts: its FCS check fails, since it is cut short (15 R403, 09 R256). -/
def frameCut (p : RingPort) (s : State) : State := jbump s (portIndex p) 2

/-- A frame forwarded by cut-through (09 R260): hop count, RES and FCS; it crosses from the receive clock of its port to the time base (15 Table
15-2). It is lost to a frame of this node on the wire (R262), or counted when it arrives for a port that is being wrapped. -/
def forwardFrame (s : State) (p : RingPort) (f : RFrame) (t : Nat) : State :=
  let q := onward p
  let start := t + s.hopNs
  if s.wrapping q t then lostAtWrap s q
  else if s.contends q start f.len then jbump s (portIndex (s.egress q)) 8
  else
    let d := s.residence
    let f := { f with hop := f.hop + 1, res := if s.v2ring then f.res else clampInt (-32768) 32767 (f.res + d) }
    carry s.drew (25 + p.num) (entriesOf 25 (24 + f.len)) (.wire (.ring (s.egress q) f)) (frameCut p)
      (fun s => sendVia (occupy s q start f.len) q f start)

/-- Outcome of a frame's arrival: the state, and whether it may be accepted. -/
structure Arrival where
  state : State
  valid : Bool
  deriving DecidableEq, Repr

/-- Whether a port's receiver works: the controller takes part, and the clock recovered from the line runs. -/
def State.hears (s : State) (p : RingPort) : Bool := decide (s.ring.state ≠ .off) && s.sourceRuns (27 + p.num)

/-- Whether a frame names a sender in the range of node identities (00 R5). -/
def senderNamed (f : RFrame) : Bool := decide (1 ≤ f.sender) && decide (f.sender ≤ 64)

/-- What the node does with an arrival once the frame's entries have crossed to the fabric; `c` is its command (15 R403, R405). -/
def Arrival.take (a : Arrival) (p : RingPort) (n : Nat) (c : Instr) (f : State → State) : State :=
  if a.valid then carry a.state (27 + p.num) (entriesOf 27 (24 + n)) (.traffic c a.state.time.now) (frameCut p) f else a.state

/-- Whether a node discards a frame because its hop count would exceed twice the node count of the ring schedule (09 R261). -/
def State.hopLimit (s : State) (f : RFrame) : Bool := decide (2 * s.nodes < f.hop + 1)

/-- Arrival of a time-triggered frame, kinds 0 to 2: counted, checked, stripped or forwarded; a frame whose header is sound is cut through
whatever its FCS. A node whose ring controller is OFF takes no part, and one with a sender that is no node identity is not accepted (09 R246,
R247, R256, R260, R261, 00 R5). -/
def arrive (s : State) (p : RingPort) (f : RFrame) (t : Nat) : Arrival :=
  if !s.hears p then ⟨s, false⟩
  else
    let s := hear s p f.len t
    let s := if f.fcsOk then s else jbump s (portIndex p) 2
    if frameForeign s.v2ring f || frameInvalid s.v2ring f then ⟨if f.fcsOk then jbump s (portIndex p) 6 else s, false⟩
    else if strips s p f then ⟨s, false⟩
    else if s.hopLimit f then ⟨jbump s (portIndex p) 7, false⟩
    else ⟨forwardFrame s p f t, f.fcsOk && senderNamed f⟩

/-- Arrival of a frame that is not cut through, kinds 3 to 6: counted and checked. A tick has no hop to count. -/
def arriveLocal (s : State) (p : RingPort) (f : RFrame) (kind : Nat) : Arrival :=
  if !s.hears p then ⟨s, false⟩
  else
    let s := hear s p f.len s.time.now
    if !f.fcsOk then ⟨jbump s (portIndex p) 2, false⟩
    else if frameForeign s.v2ring f || frameInvalid s.v2ring f || decide (f.kind ≠ kind) then ⟨jbump s (portIndex p) 6, false⟩
    else if kind ≠ 3 ∧ f.sender ≠ s.pins.node ∧ s.hopLimit f then ⟨jbump s (portIndex p) 7, false⟩
    else ⟨s, senderNamed f⟩

/-! ## Neighbours and ticks (09 R263, 10 R296) -/

/-- Place of a node in ring order. -/
def ringPlace (c : Container) (node : Nat) : Option Nat := c.ring.order.findIdx? (fun n => decide (n = node))

/-- Node `d` places east of a node, or west for a negative `d`. -/
def ringStep (c : Container) (node : Nat) (d : Int) : Nat :=
  match ringPlace c node with
  | some i => c.ring.order.getD (((i : Int) + d) % (Nat.max 1 c.ring.order.length : Nat)).toNat 0
  | none => 0

/-- The neighbour that the schedule gives a port, and the node beyond it. -/
def State.neighbours (s : State) (p : RingPort) : Nat × Nat :=
  match s.config with
  | some c => match p with
    | .east => (ringStep c s.pins.node 1, ringStep c s.pins.node 2)
    | .west => (ringStep c s.pins.node (-1), ringStep c s.pins.node (-2))
  | none => (0, 0)

/-- Body of a wrap notice (09 Table 09-5). -/
def noticeBody (s : State) (p : RingPort) (cause lost : Nat) : Bytes :=
  leBytes 4 s.ringIdent ++ leBytes 1 s.pins.node ++ leBytes 1 p.num ++ leBytes 1 cause ++ leBytes 1 0 ++ timeBytes s.time.now ++
    leBytes 2 (s.roundAt s.time.now) ++ leBytes 4 lost

/-- A tick taken: its sender shows whether the neighbour is bypassed (10 R296). -/
def takeTick (s : State) (p : RingPort) (f : RFrame) : State :=
  let s := jbump s (portIndex p) 3
  let s := s.modPort p (fun x => { x with neighbour := f.sender })
  let n := s.neighbours p
  let gone := decide (f.sender = n.2) && decide (n.1 ≠ n.2)
  let s := if gone && !jbool s 0x4237 (2 + p.num) then record s 5 16 (noticeBody s p 0 0) else s
  jset s 0x4237 (2 + p.num) (if gone then 1 else 0)

/-- TICK (09 R263). -/
def tick (s : State) (p : RingPort) (f : RFrame) : State :=
  (arriveLocal s p f 3).take p f.len (.tick p f) (fun s => takeTick s p f)

/-- Start of the next own slot after now, if any (09 R263). -/
def State.nextOwnSlot (s : State) : Option Nat :=
  match s.config with
  | some c => (c.cut.filter (fun e => decide (CutEntry.act e = 6) || decide (CutEntry.act e = 12))).foldl (fun m e =>
      let t := gridFrom s.time.now e.w0 (s.period e)
      match m with
      | some x => some (Nat.min x t)
      | none => some t) none
  | none => none

/-- Time without transmission after which a port sends a tick (09 R263, Table 09-8). -/
def State.idleNs (s : State) : Nat := if s.v2ring then 40000 else 8000

/-- Whether a forwarded frame waits in its fixed delay for a port (09 R260, R263). -/
def State.awaiting (s : State) (p : RingPort) : Bool :=
  decide (s.time.now < (s.port p).busyFrom) && decide ((s.port p).busyFrom ≤ s.time.now + s.hopNs)

/-- TICK_TRANSMIT (09 R263): a port that has been idle sends a tick if no forwarded frame waits and the tick and its gap end before the
port's next own slot. -/
def tickTransmit (s : State) (p : RingPort) : State :=
  if s.ring.state = .off then s
  else
    let s := advanceTo s ((s.port p).lastSent + s.idleNs)
    let fits := !s.awaiting p && (decide (s.egress .east ≠ p) || s.nextOwnSlot.all (fun t => decide (s.time.now + s.tWire 0 ≤ t)))
    if fits then putOnWire s p (ringFrame s 3 0 65535 65535 0 0 []) s.time.now else s

/-! ## Best-effort queues (09 R264) -/

/-- A best-effort frame put at the end of a port's queue of 16; a full queue discards and counts it. -/
def queueBest (s : State) (p : RingPort) (f : RFrame) : State :=
  if (s.port p).queue.length < 16 then s.modPort p (fun x => { x with queue := x.queue ++ [f] })
  else jbump s 0x4220 (3 + p.num)

/-- Subheader and body of a best-effort payload (09 R249). -/
def bestPayload (dest service : Nat) (body : Bytes) : Bytes :=
  leBytes 1 dest ++ leBytes 1 service ++ leBytes 2 body.length ++ leBytes 4 0 ++ body

/-- A best-effort frame of this node. -/
def bestFrame (s : State) (dest service : Nat) (body : Bytes) : RFrame :=
  ringFrame s 6 0 65535 65535 0 0 (bestPayload dest service body)

/-- Destination, service and body of a best-effort payload. -/
def bestDest (f : RFrame) : Nat := (f.payload.headD 0).toNat
/-- Service of a best-effort payload. -/
def bestService (f : RFrame) : Nat := ((f.payload.drop 1).headD 0).toNat
/-- Body of a best-effort payload. -/
def bestBody (f : RFrame) : Bytes := (f.payload.drop 8).take (ofLe ((f.payload.drop 2).take 2))

/-- A best-effort frame that is not for this node alone travels on, store-and-forward, until its sender strips it. -/
def passBest (s : State) (p : RingPort) (f : RFrame) : State :=
  if strips s p f ∨ f.sender = s.pins.node then s
  else if s.wrapping (onward p) s.time.now then lostAtWrap s (onward p)
  else queueBest s (onward p) { f with hop := f.hop + 1 }

/-- Arrival of a best-effort frame: the state after forwarding, and whether this node consumes it. A service other than the
expected one is not this command's. -/
def arriveBest (s : State) (p : RingPort) (f : RFrame) (service : Nat) : Arrival :=
  let a := arriveLocal s p f 6
  if !a.valid then a
  else if bestService f = 0 ∨ 3 < bestService f ∨ bestService f ≠ service then ⟨jbump a.state (portIndex p) 6, false⟩
  else
    let d := bestDest f
    let mine := decide (f.sender ≠ s.pins.node) && (decide (d = 0) || decide (d = s.pins.node))
    ⟨if d = s.pins.node then a.state else passBest a.state p f, mine⟩

/-! ## IPv4 over best effort (09 R249, 17 R443) -/

/-- Ones'-complement sum of 16-bit words, most significant byte first. -/
def wordSum : Bytes → Nat
  | a :: b :: rest => let n := 256 * a.toNat + b.toNat + wordSum rest; n % 65536 + n / 65536
  | [a] => 256 * a.toNat
  | [] => 0

/-- A UDP datagram in an IPv4 packet. PRESUMED (log 86): the layouts of RFC 791 and RFC 768, without options or fragments, with
identification and type of service 0, time to live 64, and no UDP checksum. -/
def udpPacket (src dst srcPort dstPort : Nat) (d : Bytes) : Bytes :=
  let head := fun (sum : Nat) => leBytes 1 0x45 ++ leBytes 1 0 ++ beBytes 2 (28 + d.length) ++ leBytes 4 0 ++ leBytes 1 64 ++ leBytes 1 17 ++
    beBytes 2 sum ++ beBytes 4 src ++ beBytes 4 dst
  head (65535 - wordSum (head 0)) ++ beBytes 2 srcPort ++ beBytes 2 dstPort ++ beBytes 2 (8 + d.length) ++ leBytes 2 0 ++ d

/-- What an IPv4 packet with a UDP datagram carries: source, destination, both ports, data. -/
structure Datagram where
  src : Nat
  dst : Nat
  srcPort : Nat
  dstPort : Nat
  data : Bytes
  deriving DecidableEq, Repr

/-- The datagram of a packet; none where it is no whole UDP datagram over IPv4 with a right header sum. -/
def readPacket (b : Bytes) : Option Datagram :=
  let at_ := fun (n : Nat) => ((b.drop n).headD 0).toNat
  let word := fun (n k : Nat) => ofBe ((b.drop n).take k)
  let h := 4 * (at_ 0 % 16)
  if at_ 0 / 16 ≠ 4 ∨ h < 20 ∨ b.length < h + 8 ∨ word 2 2 ≠ b.length ∨ word 6 2 % 16384 ≠ 0 ∨ at_ 9 ≠ 17 ∨ wordSum (b.take h) ≠ 65535 ∨
      word (h + 4) 2 ≠ b.length - h then none
  else some { src := word 12 4, dst := word 16 4, srcPort := word h 2, dstPort := word (h + 2) 2, data := b.drop (h + 8) }

/-- Node to which a frame for an address goes. DESIGN CHOICE (log 86): the last byte of an address of the channel's default block names the
node (4220.01); any other address goes to every node, and the packet's address tells which of them takes it. -/
def nodeOfIp (ip : Nat) : Nat := if ip / 256 = 0x0A5953 ∧ 1 ≤ ip % 256 ∧ ip % 256 ≤ 64 then ip % 256 else 0

/-- A dictionary response on the ring: a service 1 frame in the queue of the secondary direction; in stage 1 the node originates none
(09 R249, R264, 16 R416). -/
def sendOverRing (s : State) (ip port : Nat) (d : Bytes) : State :=
  if 1 ≤ s.power.stage then s
  else queueBest s .west (bestFrame s (nodeOfIp ip) 1 (udpPacket (jget s 0x4220 1) ip s.dict.port port d))

/-- The datagram that a service 1 frame brings to this node's address (09 R249). -/
def takePacket (s : State) (f : RFrame) : Option Datagram :=
  (readPacket (bestBody f)).filter (fun d => decide (d.dst = jget s 0x4220 1))

/-! ## Breaks and wraps (10 R287 to R292) -/

/-- Start of the round `n` rounds after the one in progress. -/
def State.roundStart (s : State) (n : Nat) : Nat := (s.time.now / s.tRound + n) * s.tRound

/-- A wrap notice of this node made ready for the first secondary best-effort window from an instant on (10 R290). -/
def queueNotice (s : State) (p : RingPort) (cause from_ : Nat) : State :=
  let f := ringFrame s 4 0 65535 65535 0 (s.time.now + 64) (noticeBody s p cause 0)
  s.modPort .west (fun x => { x with notices := x.notices ++ [(from_, f)] })

/-- The last known break shown in 4235.01. -/
def showBreak (s : State) (node port : Nat) (restored : Bool) : State :=
  jset s 0x4235 1 (node + 256 * port + (if restored then 512 else 0))

/-- A port wraps (10 R287, R288, R290): traffic for it is turned, the break is known, the notice is sent in the next round. -/
def wrapPort (s : State) (p : RingPort) (cause : Nat) : State :=
  let s := s.modPort p (fun x => { x with wrapped := true, wrapAt := s.time.now, lost := 0, upAt := none, ownNotice := none,
                                          peerNotice := none })
  let s := jbump (jset s 0x4232 (p.num + 1) 1) 0x4233 (p.num + 1)
  let s := showBreak (s.modRing (fun r => { r with breakKnown := some (s.pins.node, p.num) })) s.pins.node p.num false
  let s := record s 5 16 (noticeBody s p cause 0)
  queueNotice s p cause (s.roundStart 1)

/-- Port that a wrap notice names. -/
def noticePort (f : RFrame) : RingPort := if ((f.payload.drop 5).headD 0).toNat = 0 then .east else .west

/-- Cause of a wrap notice. -/
def noticeCause (f : RFrame) : Nat := ((f.payload.drop 6).headD 0).toNat

/-- Whether a frame is this node's own notice of a port's restored link. -/
def State.ownRestoration (s : State) (p : RingPort) (f : RFrame) : Bool :=
  decide (f.sender = s.pins.node) && decide (noticePort f = p) && decide (noticeCause f = 3)

/-- A break detected: an intact port wraps; a wrapped port stays wrapped and its pending unwrap is cancelled, with the notice of it that has not
been sent yet (10 R292). -/
def breakAt (s : State) (p : RingPort) (cause : Nat) : State :=
  if s.ring.state = .off then s
  else if (s.port p).wrapped then
    (s.modPort p (fun x => { x with upAt := none, ownNotice := none, peerNotice := none })).modPort .west
      (fun x => { x with notices := x.notices.filter (fun q => !s.ownRestoration p q.2) })
  else wrapPort s p cause

/-- BREAK_DETECTED (10 R287): the detection time after the end of the last frame. -/
def breakDetected (s : State) (p : RingPort) : State :=
  if s.ring.state = .off then s else breakAt (advanceTo s ((s.port p).lastHeard + s.breakNs)) p 1

/-- RING_LINK_LOSS (10 R287). -/
def ringLinkLoss (s : State) (p : RingPort) : State :=
  breakAt (jset (s.modPort p (fun x => { x with link := 0 })) 0x4202 (p.num + 1) 0) p 2

/-- RING_LINK_UP (10 R292, 09 R241): the level's only speed. -/
def ringLinkUp (s : State) (p : RingPort) : State :=
  if s.booted then
    let code := if s.v2ring then 2 else 1
    jset (s.modPort p (fun x => { x with link := code, upAt := none })) 0x4202 (p.num + 1) code
  else s

/-- LINK_RESTORED (10 R292): a wrapped port's link has carried frames for one full round; a cause 3 notice is made ready. -/
def linkRestored (s : State) (p : RingPort) : State :=
  let x := s.port p
  match x.upAt with
  | some t =>
    if s.ring.state ≠ .off ∧ x.wrapped ∧ x.link ≠ 0 ∧ x.ownNotice.isNone ∧ !s.ring.west.notices.any (fun q => s.ownRestoration p q.2) then
      let s := advanceTo s (t + s.tRound)
      queueNotice s p 3 s.time.now
    else s
  | none => s

/-- UNWRAP (10 R292): the start of the second round after the later of the own notice and the other end's, or 4 rounds. -/
def unwrap (s : State) (p : RingPort) : State :=
  let x := s.port p
  match x.ownNotice with
  | some a =>
    if s.ring.state ≠ .off ∧ x.wrapped then
      let b := Nat.min (x.peerNotice.getD (a + 4 * s.tRound)) (a + 4 * s.tRound)
      let s := advanceTo s ((Nat.max a b / s.tRound + 2) * s.tRound)
      let s := s.modPort p (fun x => { x with wrapped := false, upAt := none, ownNotice := none, peerNotice := none })
      let s := showBreak (jset s 0x4232 (p.num + 1) 0) s.pins.node p.num true
      let s := if s.ring.breakKnown = some (s.pins.node, p.num) then s.modRing (fun r => { r with breakKnown := none }) else s
      record s 5 16 (noticeBody s p 3 x.lost)
    else s
  | none => s

/-- Node at the other end of a port's link: the neighbour, or the node beyond it when it is known to be bypassed (10 R296). -/
def State.farEnd (s : State) (p : RingPort) : Nat :=
  if jbool s 0x4237 (2 + p.num) then (s.neighbours p).2 else (s.neighbours p).1

/-- A wrap notice taken (10 R290 to R292): recorded and forwarded at the head of the queue; the first notice of a break tells where it
is, and a restoration notice of the other end of a wrapped link is noted. One that names no node is not taken (00 R5). -/
def takeNotice (s : State) (p : RingPort) (f : RFrame) : State :=
  let node := ((f.payload.drop 4).headD 0).toNat
  if decide (f.sender ≠ s.pins.node) && decide (ofLe (f.payload.take 4) = s.ringIdent) && decide (1 ≤ node) && decide (node ≤ 64) then
    let port := ((f.payload.drop 5).headD 0).toNat
    let cause := noticeCause f
    let mended := bitOf (jget s 0x4235 1) 9
    let s := record s 5 16 (f.payload.take 24)
    let s := showBreak s node port (cause = 3)
    let s := if cause = 3 then
        let mine := if port = 0 then RingPort.west else RingPort.east
        if (s.port mine).wrapped && decide (s.farEnd mine = node) then
          s.modPort mine (fun x => { x with peerNotice := x.peerNotice.orElse (fun _ => some s.time.now) })
        else s
      else if s.ring.breakKnown.isNone ∨ mended then s.modRing (fun r => { r with breakKnown := some (node, port) })
      else s
    if s.wrapping (onward p) s.time.now then lostAtWrap s (onward p)
    else s.modPort (onward p) (fun x => { x with notices := x.notices ++ [(0, { f with hop := f.hop + 1 })] })
  else s

/-- WRAP_NOTICE (10 R291). -/
def wrapNotice (s : State) (p : RingPort) (f : RFrame) : State :=
  (arriveLocal s p f 4).take p f.len (.wrapNotice p f) (fun s => takeNotice s p f)

/-! ## Best-effort windows (09 R264, 10 R290) -/

/-- A window in progress: the state, the instant reached and the end. -/
structure BestWindow where
  state : State
  at_   : Nat
  stop  : Nat
  full  : Bool
  deriving DecidableEq, Repr

/-- When a frame of `len` payload bytes may start in a window: not before what is on the wire of the port it leaves by has ended, gap included,
nor against a time-triggered frame (09 R262). -/
def BestWindow.start (w : BestWindow) (p : RingPort) (len : Nat) : Nat :=
  let x := w.state.port (w.state.egress p)
  let a := Nat.max w.at_ x.lastSent
  if a < x.busyTo ∧ x.busyFrom < a + w.state.tWire len then Nat.max a x.busyTo else a

/-- One frame sent in a window, with the number of the round in which its time-stamp point leaves (09 Table 09-3), if it and its gap end before
the window; otherwise it and those behind it wait. -/
def BestWindow.send (w : BestWindow) (p : RingPort) (f : RFrame) : BestWindow :=
  let a := w.start p f.len
  let n := w.state.tWire f.len
  let f := if f.sender = w.state.pins.node then { f with round := w.state.roundAt (a + 64) } else f
  if w.full || decide (w.stop < a + n) then { w with full := true }
  else { w with state := sendVia w.state p f a, at_ := a + n }

/-- Notices due, with the scheduled send time, and the number of frames lost filled in for a break of this node (09 Table 09-3, 10 R288);
what is not sent stays. -/
def sendNotices (w : BestWindow) (p : RingPort) : BestWindow :=
  let due := (w.state.port p).notices
  let w := { w with state := w.state.modPort p (fun x => { x with notices := [] }) }
  due.foldl (fun w q =>
    let own := decide (q.2.sender = w.state.pins.node)
    let port := noticePort q.2
    let a := w.start p q.2.len
    let f := if own then { q.2 with send := (a + 64) % 4294967296
                                    payload := q.2.payload.take 20 ++ leBytes 4 (w.state.port port).lost } else q.2
    let w' := if q.1 ≤ w.at_ then w.send p f else { w with full := w.full }
    if q.1 ≤ w.at_ ∧ !w'.full then
      if own ∧ noticeCause q.2 = 3 then { w' with state := w'.state.modPort port (fun x => { x with ownNotice := some a }) } else w'
    else { w' with state := w'.state.modPort p (fun x => { x with notices := x.notices ++ [q] }) }) w

/-- Answers to time queries, each with the node time of its time-stamp point (09 R249, 02 R49). -/
def sendAnswers (w : BestWindow) (p : RingPort) : BestWindow :=
  let due := (w.state.port p).answers
  let w := { w with state := w.state.modPort p (fun x => { x with answers := [] }) }
  due.foldl (fun w f =>
    let at_ := ((w.start p f.len : Int) + 64 + w.state.latency (w.state.egress p) 2).toNat
    let f' := { f with payload := f.payload.take 12 ++ timeBytes at_ ++ f.payload.drop 22 }
    let w' := w.send p f'
    if w'.full then { w' with state := w'.state.modPort p (fun x => { x with answers := x.answers ++ [f] }) }
    else { w' with state := jbump w'.state 0x4220 2 }) w

/-- Queued frames; in stage 1 this node's own service 1 frames are shed (16 R416). -/
def sendQueue (w : BestWindow) (p : RingPort) : BestWindow :=
  let due := (w.state.port p).queue.filter (fun f => !(decide (1 ≤ w.state.power.stage) && decide (f.sender = w.state.pins.node) &&
    decide (bestService f = 1)))
  let w := { w with state := w.state.modPort p (fun x => { x with queue := [] }) }
  due.foldl (fun w f =>
    let w' := w.send p f
    if w'.full then { w' with state := w'.state.modPort p (fun x => { x with queue := x.queue ++ [f] }) }
    else { w' with state := jbump w'.state 0x4220 2 }) w

/-- BEST_EFFORT_WINDOW (09 R264): the port of the window's direction sends notices, answers and queued frames that fit. -/
def bestWindowDue (s : State) (p : RingPort) (i : Nat) : State :=
  if s.ring.state = .off then s
  else atEntry s i 11 (fun s e =>
    if (if CutEntry.dir e then RingPort.west else RingPort.east) ≠ p then s
    else
      let w : BestWindow := { state := s, at_ := s.time.now, stop := s.time.now + CutEntry.lenNs e, full := false }
      (sendQueue (sendAnswers (sendNotices w p) p) p).state)

/-! ## Leaving and bypass (10 R295, 16 R419) -/

/-- BYP_E and BYP_W together (10 R295). -/
def setBypass (s : State) (on : Bool) : State :=
  jset (s.modRing (fun r => { r with bypass := on })) 0x4237 1 (if on then 3 else 0)

/-- Whether the node sends in its own slots (10 Table 10-1). -/
def State.transmits (s : State) : Bool := decide (s.ring.state = .active) || decide (s.ring.state = .alone)

/-- Byte 6 of this node's sync frames: L of its partition key, 0 when there is none; a coldstart node in ACTIVE or ALONE names
itself (10 R277, R293). -/
def ownNamed (s : State) : Nat :=
  if s.coldstartNode && s.transmits then s.pins.node else if s.ring.key.l = 255 then 0 else s.ring.key.l

/-- Whether a ring state makes no time correction (10 Table 10-1). -/
def RingState.uncorrected (st : RingState) : Bool := decide (st = .off) || decide (st = .listen) || decide (st = .coldstart)

/-- The ring controller enters a state: code and L shown, and no slew in a state without time correction (10 Table 10-1, R282, R299). -/
def ringState (s : State) (st : RingState) : State :=
  let s := jset (s.modRing (fun r => { r with state := st, since := s.time.now })) 0x4230 1 st.code
  let s := jset s 0x4230 6 (ownNamed s)
  if st.uncorrected then sendCorrection s s.time.rc 0 else s

/-- When the leave frame for a port may start: in place of the next tick of the port by which it leaves, which has been idle by then (16 R419,
09 R263, 10 R288). The controller's own slots do not count, since it enters OFF. -/
def State.leaveStart (s : State) (p : RingPort) : Nat := Nat.max s.time.now ((s.port (s.egress p)).lastSent + s.idleNs)

/-- The leave frame for a port: one for a wrapped port is turned (10 R288). -/
def leaveBy (s : State) (p : RingPort) (reason : Nat) : State :=
  let t := s.leaveStart p
  sendVia s p (ringFrame s 5 (if s.mode = .safe then 16 else 0) 65535 65535 0 (t + 64)
    (leBytes 4 s.ringIdent ++ leBytes 1 reason ++ leBytes 3 0)) t

/-- The leave frame for both ports, then OFF; the bypass outputs follow 50 µs after both frames' ends, or with OFF where no port is left to send
any (16 R419, 10 R295). A controller that is OFF sends none. DEDUCED (log 29): OFF is entered with the cause, up to 25 µs before the frames. -/
def sendLeave (s : State) (reason : Nat) : State :=
  if s.ring.state = .off then s
  else
    let east := leaveBy s .east reason
    let both := leaveBy east .west reason
    let s := if (s.port .east).wrapped && (s.port .west).wrapped then setBypass both false
      else both.modRing (fun r => { r with leaveAt := some (Nat.max (s.leaveStart .east) (east.leaveStart .west) + 64 * s.slow + s.tFrame 8) })
    let s := ringState s .off
    { s with time := { s.time with synced := false } }

/-- BYPASS_RELEASE (10 R295). -/
def bypassRelease (s : State) : State :=
  match s.ring.leaveAt with
  | some t =>
    let s := setBypass (advanceTo s (t + 50000)) false
    s.modRing (fun r => { r with leaveAt := none })
  | none => s

/-- A leave frame taken (16 R419): counted, its sender noted, forwarded in its direction until its hop count reaches the node count less
one, and lost to a port that is being wrapped (10 R288). -/
def takeLeave (s : State) (p : RingPort) (f : RFrame) : State :=
  if f.sender ≠ s.pins.node then
    let s := jbump s 0x2107 1
    let s := jset s 0x2107 2 (f.sender + 256 * (((f.payload.drop 4).headD 0).toNat % 8))
    if s.wrapping (onward p) s.time.now then lostAtWrap s (onward p)
    else if f.hop + 1 < s.nodes then sendVia s (onward p) { f with hop := f.hop + 1 } (s.time.now + s.hopNs) else s
  else s

/-- LEAVE_FRAME (16 R419). -/
def leaveFrame (s : State) (p : RingPort) (f : RFrame) : State :=
  (arriveLocal s p f 5).take p f.len (.leaveFrame p f) (fun s => takeLeave s p f)

end Sys2Proof.Machine
end

