-- ==== Sys2Proof/Machine/RingData.lean ====
section
/-! DEFINITION. Flows on the ring: slot deadlines, transmit slots, receive windows and data frames (09 R253 to R259). -/

namespace Sys2Proof.Machine

open Sys2Proof

/-- Index of a flow's entries. -/
def flowIndex (id : Nat) : Nat := 0x4400 + id

/-- Transmit context of a flow. -/
def State.txOf (s : State) (id : Nat) : TxCtx := Store.get s.ring.tx TxCtx.blank id

/-- The state with a transmit context changed. -/
def State.modTx (s : State) (id : Nat) (f : TxCtx → TxCtx) : State :=
  s.modRing (fun r => { r with tx := Store.insert r.tx id (f (Store.get r.tx TxCtx.blank id)) })

/-- Receive context of a flow. -/
def State.rxOf (s : State) (id : Nat) : RxCtx := Store.get s.ring.rx RxCtx.blank id

/-- The state with a receive context changed. -/
def State.modRx (s : State) (id : Nat) (f : RxCtx → RxCtx) : State :=
  s.modRing (fun r => { r with rx := Store.insert r.rx id (f (Store.get r.rx RxCtx.blank id)) })

/-- A transmit context at the deadline of the slot of entry `i`: the slot locks the data of the latest release if that release published
them and no slot has taken them; one publication fills at most one slot. Buffers that other slots have locked stay (09 R254). -/
def TxCtx.lock (i : Nat) (x : TxCtx) : TxCtx :=
  if x.fresh then { x with locked := Store.insert x.locked i { data := x.data, k := x.k }, fresh := false }
  else { x with locked := Store.erase x.locked i }

/-- A transmit context with the buffer of a slot unlocked. -/
def TxCtx.unlock (i : Nat) (x : TxCtx) : TxCtx := { x with locked := Store.erase x.locked i }

/-- SLOT_DEADLINE (09 R254): 4 µs before the start of the slot. -/
def slotDeadline (s : State) (i : Nat) : State :=
  match s.cut i with
  | some e =>
    if CutEntry.act e = 6 then
      let s := advanceTo s (s.firing i e 4000 - 4000)
      s.modTx (CutEntry.tgt e) (TxCtx.lock i)
    else s
  | none => s

/-- Check value of an attached unit over a payload, in its byte order (11 R320). -/
def cvuValue (u : CvuAttach) (payload : Bytes) : Bytes :=
  let v := crcOf u.poly (payload.drop u.start)
  if u.msb then beBytes (crcBytes u.poly) v else leBytes (crcBytes u.poly) v

/-- Unit attached to an item under the configuration in force: kind 0 ring flow, 1 and 2 telegram contexts. -/
def unitOf (s : State) (kind id : Nat) : Option CvuAttach := s.config.bind (fun c => attached c kind id)

/-- A payload with the check value of an attached unit appended (11 R320). -/
def withCvu (s : State) (kind id : Nat) (payload : Bytes) : Bytes :=
  match unitOf s kind id with
  | some u => payload ++ cvuValue u payload
  | none => payload

/-- A payload without the check value of an attached unit, none when the value is wrong (11 R320). -/
def stripCvu (s : State) (kind id : Nat) (payload : Bytes) : Option Bytes :=
  match unitOf s kind id with
  | some u =>
    let data := payload.take (payload.length - crcBytes u.poly)
    if cvuValue u data = payload.drop (payload.length - crcBytes u.poly) then some data else none
  | none => some payload

/-- A failed check value counted at its unit (11 R320, 4A0n.0B). -/
def cvuFailed (s : State) (kind id : Nat) : State :=
  match unitOf s kind id with
  | some u => jbump s (0x4A00 + u.unit) 11
  | none => s

/-- A flow frame sent: the header sequence rises by 1 and is saved at least once in 32 768 frames (09 R254, R259). -/
def sendFlow (s : State) (i : Nat) (e : CutEntry) (payload : Bytes) : State :=
  let id := CutEntry.tgt e
  let seq := ((s.txOf id).seq + 1) % 4294967296
  let flags := (if bitOf e.w2 5 then 1 else 0) + (if bitOf e.w2 6 then 4 else 0) + (if s.mode = .safe then 16 else 0)
  let f := ringFrame s 0 flags i id seq (s.time.now + 64) payload
  let s := s.modTx id (fun x => { x with seq := seq })
  let s := jset s (flowIndex id) 5 seq
  let s := if seq % 32768 = 0 then s.modRing (fun r => { r with saved := Store.insert r.saved id seq }) else s
  sendVia (occupy s .east s.time.now f.len) .east f s.time.now

/-- A slot in which nothing is sent (09 R254). -/
def emptySlot (s : State) (id : Nat) : State := jbump s (flowIndex id) 17

/-- RING_TRANSMIT_SLOT (09 R254, R255, R262): the locked buffer; in the safe state a header only; else nothing. A slot frame that
meets a forwarded frame on the wire is lost as an empty slot, and so is one for which no port is left. -/
def ringSlotDue (s : State) (i : Nat) : State :=
  atEntry s i 6 (fun s e =>
    let id := CutEntry.tgt e
    let payload := if s.mode = .safe then some [] else (Store.find? (s.txOf id).locked i).map (fun b => withCvu s 0 id b.data)
    match payload with
    | some d =>
      if !s.transmits || ((s.port .east).wrapped && (s.port .west).wrapped) then emptySlot s id
      else if s.contends .east s.time.now (if s.v2ring then Nat.max 30 d.length else d.length) then emptySlot (jbump s (portIndex (s.egress .east)) 8) id
      else sendFlow s i e d
    | none => emptySlot s id)

/-- FRAME_LEFT_PORT (09 R254): the slot's buffer is unlocked. -/
def frameLeftPort (s : State) (i : Nat) : State :=
  match s.cut i with
  | some e => if CutEntry.act e = 6 then s.modTx (CutEntry.tgt e) (TxCtx.unlock i) else s
  | none => s

/-- A window of a flow that closes: counted, with a miss when no frame was accepted in it. Its frame waits for the batch, and replaces one
that waits already (09 R257, R258). -/
def closeWindow (s : State) (id : Nat) : State :=
  let x := s.rxOf id
  match x.opened with
  | some w =>
    let s := advanceTo s w.2
    let s := if x.held.isSome then s else jbump s (flowIndex id) 7
    let s := if x.held.isSome && x.frame.isSome then jbump s (flowIndex id) 18 else s
    s.modRx id (fun x => { x with opened := none, taken := false, held := none, west := none, windows := x.windows + 1
                                  frame := if x.held.isSome then x.held else x.frame
                                  after := if x.held.isSome then 0 else x.after + 1 })
  | none => s

/-- A receive window opens at its entry; one of the flow that is still open has ended (09 R256). -/
def windowDue (s : State) (i : Nat) : State :=
  atEntry s i 7 (fun s e =>
    let id := CutEntry.tgt e
    (closeWindow s id).modRx id (fun x => { x with opened := some (s.time.now, s.time.now + CutEntry.lenNs e) }))

/-- RING_RECEIVE_WINDOW (09 R256 to R258) at the end of a window: LEN after it opened. -/
def rxWindowEnds (s : State) (i : Nat) : State :=
    match s.cut i with
    | some e => if CutEntry.act e = 7 then closeWindow s (CutEntry.tgt e) else s
    | none => s

/-- Corrected arrival time at a ring port (02 R49). -/
def arrivalAt (s : State) (p : RingPort) (t : Nat) : Nat := ((t : Int) - s.latency p 1).toNat

/-- Whether a sequence follows the last accepted one; the first frame since OFF passes (09 R256 check 6). -/
def seqFollows (last : Option Nat) (seq : Nat) : Bool :=
  match last with
  | none => true
  | some l =>
    let d := (seq + 4294967296 - l) % 4294967296
    decide (1 ≤ d) && decide (d < 2147483648)

/-- The consumed flow of an id. -/
def consumedFlow (s : State) (id : Nat) : Option Flow :=
  match s.config with
  | some c => c.flows.find? (fun f => decide (f.id = id) && decide (f.role = 2))
  | none => none

/-- A receive context as a copy at a port with corrected arrival time `t` finds it: a copy at the east port precedes the one accepted at the
west port with the same time-stamp (09 R256). -/
def RxCtx.before (x : RxCtx) (p : RingPort) (t : Nat) : RxCtx :=
  match p, x.west with
  | .east, some (u, q) => if u = t then { x with taken := false, held := none, seq := q, west := none } else x
  | _, _ => x

/-- Checks 3 to 7 of R256 on a data frame with corrected arrival time `t`. A diverged node's windows deliver nothing (10 R285). A
header-only SAFESTATE frame has payload length 0, at V2 ring the minimum payload of zero data (09 R255, Table 09-8). -/
def acceptData (s : State) (p : RingPort) (f : RFrame) (t : Nat) : State :=
  match consumedFlow s f.flow with
  | none => s
  | some c =>
    let old := s.rxOf f.flow
    let x := old.before p t
    let len := if s.v2ring then Nat.max 30 c.aux else c.aux
    let bare := (decide (f.len = 0) || (s.v2ring && decide (f.len = 30))) && bitOf f.flags 4
    let fits := decide (f.kind = 0) && decide (f.sender = c.producer) && (s.v2ring || decide (f.cli = c.srcCli)) &&
      (decide (f.len = len) || bare)
    let inWindow := x.opened.any (fun w => decide (w.1 ≤ t) && decide (t < w.2))
    if !fits || !inWindow then jbump s (flowIndex f.flow) 15
    else if x.taken || !seqFollows x.seq f.seq then jbump s (flowIndex f.flow) 16
    else if jbool s 0x4231 8 then s
    else
      let s := if old.taken && !x.taken then jbump s (flowIndex f.flow) 16 else s
      let x := { x with taken := true, seq := some f.seq, west := if p = .west then some (t, x.seq) else none }
      match if bare then some [] else stripCvu s 0 f.flow (f.payload.take c.aux) with
    | none => jbump (cvuFailed s 0 f.flow) (flowIndex f.flow) 15
    | some data =>
      let start := match x.opened with
        | some w => w.1
        | none => t
      let s := monitorTake (jset s (flowIndex f.flow) 5 f.seq) 4 f.flow ((t : Int) - start)
      s.modRx f.flow (fun _ => if bitOf f.flags 4 then x else { x with held := some { f with payload := data, len := c.aux } })

/-- DATA_FRAME (09 R256, R257, R260, R261). -/
def dataFrame (s : State) (p : RingPort) (f : RFrame) (t : Nat) : State :=
  (arrive s p f t).take p f.len (.dataFrame p f t) (fun s => acceptData s p f (arrivalAt s p t))

/-- Header sequences before the first frame after a start: 65 536 on from the last value sent, or from the value saved when the
junction no longer holds it (09 R259). -/
def advanceHeaders (s : State) (held : Bool) : State :=
  match s.config with
  | some c => (c.flows.filter (fun f => decide (f.role = 1))).foldl (fun s f =>
      let base := if held then (s.txOf f.id).seq else Store.get s.ring.saved 0 f.id
      let seq := (base + 65536) % 4294967296
      let s := s.modTx f.id (fun x => { TxCtx.blank with seq := seq, data := x.data })
      jset (s.modRing (fun r => { r with saved := Store.insert r.saved f.id seq })) (flowIndex f.id) 5 seq) s
  | none => s

/-- Header sequences saved at the power-fail warning (09 R259). -/
def saveHeaders (s : State) : State :=
  s.modRing (fun r => { r with saved := r.tx.foldl (fun m p => Store.insert m p.1 p.2.seq) r.saved })

end Sys2Proof.Machine
end

