-- ==== Sys2Proof/Machine/RingSync.lean ====
section
/-! DEFINITION. The ring controller's start-up states, sync and coldstart frames, adoption of a time, synchronisation at the end
of each round, and time announcements (10 R268 to R286, R293, R294, 09 R249, 02 R55). -/

namespace Sys2Proof.Machine

open Sys2Proof

/-! ## Roles (10 R268) -/

/-- The sync node of an id in the schedule in force. -/
def syncNode (s : State) (node : Nat) : Option SyncNode :=
  match s.config with
  | some c => c.ring.syncs.find? (fun x => decide (x.node = node))
  | none => none

/-- Coldstart delay of a node in µs. -/
def coldDelay (s : State) (node : Nat) : Option Nat := (syncNode s node).bind (fun x => x.delay)

/-! ## Path delay and deviation (10 R274, R279, R280) -/

/-- The value nearest to `ref` whose low 32 bits are `low`. -/
def nearest32 (ref : Int) (low : Nat) : Int := ref - signedOf 32 (wrapTo 32 (ref - (low : Int)))

/-- Declared mean delay of link k in half ns: the sum of its bounds. -/
def linkSum (c : Container) (k : Nat) : Nat :=
  let l := c.ring.links.getD k (0, 0)
  l.1 + l.2

/-- Links of a path as indices: `n` links eastward from place i. -/
def linksEast (size i n : Nat) : List Nat := (List.range n).map (fun j => (i + j) % Nat.max 1 size)

/-- Links of a path as indices: `n` links westward from place i. -/
def linksWest (size i n : Nat) : List Nat := (List.range n).map (fun j => (i + size - 1 - j) % Nat.max 1 size)

/-- Distance eastward between two places. -/
def eastOf (size i j : Nat) : Nat := (j + size - i) % Nat.max 1 size

/-- Places between which a known break lies: the node whose east port is broken and the one whose west port is. -/
def breakEnds (c : Container) (b : Nat × Nat) : Option (Nat × Nat) :=
  let n := c.ring.order.length
  (ringPlace c b.1).map (fun i => if b.2 = 0 then (i, (i + 1) % Nat.max 1 n) else ((i + n - 1) % Nat.max 1 n, i))

/-- Links that a frame of `sender` has crossed when it reaches this node at a port (10 R280); none when it is wrapped at a
break that the node does not know. -/
def pathLinks (s : State) (c : Container) (sender : Nat) (wrapped : Bool) (p : RingPort) : Option (List Nat) :=
  let n := c.ring.order.length
  match ringPlace c sender, ringPlace c s.pins.node with
  | some i, some r =>
    if !wrapped then
      some (match p with
        | .west => linksEast n i (eastOf n i r)
        | .east => linksWest n i (eastOf n r i))
    else
      match s.ring.breakKnown.bind (breakEnds c) with
      | some (e, w) =>
        some (match p with
          | .east => linksEast n i (eastOf n i e) ++ linksWest n e (eastOf n r e)
          | .west => linksEast n i (eastOf n i e) ++ linksWest n e (n - 1) ++ linksEast n w (eastOf n w r))
      | none => none
  | _, _ => none

/-- Forwarders of the path of a frame of `sender` to this node at a port, in order: the nodes between its links (10 R280). -/
def pathNodes (s : State) (c : Container) (sender : Nat) (wrapped : Bool) (p : RingPort) : List Nat :=
  let size := Nat.max 1 c.ring.order.length
  let east := fun i n => (List.range n).map (fun j => c.ring.order.getD ((i + j + 1) % size) 0)
  let west := fun i n => (List.range n).map (fun j => c.ring.order.getD ((i + size * n - j - 1) % size) 0)
  match ringPlace c sender, ringPlace c s.pins.node with
  | some i, some r =>
    if !wrapped then
      (match p with
        | .west => east i (eastOf size i r)
        | .east => west i (eastOf size r i)).dropLast
    else
      match s.ring.breakKnown.bind (breakEnds c) with
      | some (e, w) =>
        (match p with
          | .east => east i (eastOf size i e) ++ west e (eastOf size r e)
          | .west => east i (eastOf size i e) ++ west e (size - 1) ++ east w (eastOf size w r)).dropLast
      | none => []
  | _, _ => []

/-- Relay delays, in ns, of the `n` forwarders missing among the nodes of a path (10 R280): those of the nodes fitted with relays, a
neighbour known to be bypassed (R296) before the others and these in the order of the path, since the manual tells a node of no other
bypassed node (DEDUCED, log 31). -/
def missingRelays (s : State) (c : Container) (path : List Nat) (n : Nat) : Nat :=
  let known := fun x => (jbool s 0x4237 2 && decide (x = (s.neighbours .east).1)) || (jbool s 0x4237 3 && decide (x = (s.neighbours .west).1))
  let delays := (path.filter known ++ path.filter (fun x => !known x)).filterMap (fun x =>
    (c.ring.relays.find? (fun r => decide (r.1 = x))).map (fun r => r.2))
  (delays.take n).foldl (fun a b => a + b) 0

/-- Path delay of a frame (10 R280). -/
def pathDelay (s : State) (f : RFrame) (p : RingPort) : Option Int :=
  match s.config with
  | some c =>
    (pathLinks s c f.sender (bitOf f.flags 3) p).map (fun ls =>
      let links := (ls.map (linkSum c)).foldl (fun a b => a + b) 0 / 2
      let miss := ls.length - 1 - f.hop
      let res : Int := if s.v2ring then 0 else f.res
      Int.ofNat links + s.latency p 3 + Int.ofNat (f.hop * s.hopNs) + res +
        Int.ofNat (missingRelays s c (pathNodes s c f.sender (bitOf f.flags 3) p) miss))
  | none => none

/-- Deviation of an accepted frame with corrected arrival time `t` (10 R279). -/
def deviation (s : State) (f : RFrame) (p : RingPort) (t : Nat) : Option Int :=
  (pathDelay s f p).map (fun d => (t : Int) - (nearest32 t f.send + d))

/-! ## Payloads (09 Table 09-5) -/

/-- Identity in the payload of a control frame. -/
def frameIdent (f : RFrame) : Nat := ofLe (f.payload.take 4)

/-- Byte n of a payload. -/
def payloadByte (f : RFrame) (n : Nat) : Nat := ((f.payload.drop n).headD 0).toNat

/-- Payload of a sync frame. -/
def syncPayload (s : State) : Bytes :=
  leBytes 4 s.ringIdent ++ leBytes 1 s.ring.state.code ++
  leBytes 1 ((if s.coldstartNode then 1 else 0) + (if s.timeSource then 2 else 0) + (if s.time.taiValid then 4 else 0)) ++
  leBytes 1 (ownNamed s) ++ leBytes 1 s.ring.prev.length ++ leBytes 4 (wrapTo 32 s.time.rc) ++ leBytes 4 (jget s 0x4231 3)

/-- Payload of a coldstart frame. -/
def coldPayload (s : State) : Bytes :=
  leBytes 4 s.ringIdent ++ leBytes 2 ((coldDelay s s.pins.node).getD 0) ++ leBytes 1 s.ring.attempts ++ leBytes 1 0 ++
  timeBytes (s.time.now / s.tRound * s.tRound) ++ leBytes 2 0

/-! ## Entering states (10 Table 10-2) -/

/-- Type 17: sync loss, divergence or coldstart contest: state and offset (14 Table 14-4). -/
def recordSync (s : State) (off : Int) : State := record s 5 17 (leBytes 1 s.ring.state.code ++ leBytes 4 (wrapTo 32 off))

/-- Entry into ACTIVE: synchronised, time certain (10 R274); sync loss is judged on the rounds in ACTIVE (R284). -/
def enterActive (s : State) : State :=
  let s := (ringState s .active).modRing (fun r => { r with bigOff := 0, follow := none })
  { s with time := { s.time with synced := true, uncertain := false } }

/-- Entry into LISTEN (10 R271, R295): both bypass outputs asserted; the corrections of the ports apply. -/
def enterListen (s : State) : State :=
  let s := latchLatency (setBypass (ringState (s.modRing (fun r => { r with key := ⟨255, 255⟩ })) .listen) true)
  let s := s.modRing (fun r => { r with
    adopted := false, adopting := none, query := none, attempts := 0, confirmed := false, follow := none,
    seen := [], prev := [], foreign := none, foreignPrev := none, bigOff := 0, silent := 0 })
  { s with time := { s.time with synced := false } }

/-- OFF left for LISTEN (10 R271): the first data frame of each flow passes the sequence check (09 R256). -/
def leaveOff (s : State) : State :=
  enterListen (s.modRing (fun r => { r with rx := r.rx.map (fun q => (q.1, { q.2 with seq := none })) }))

/-- A node in PASSIVE found diverged: once it has entered RUN, with an offset above 10 ms; it does not slew (10 R285). -/
def judgeDiverged (s : State) (off : Int) : State :=
  if s.hasRun && decide (10000000 < off.natAbs) && !jbool s 0x4231 8 then
    sendCorrection (recordSync (jset s 0x4231 8 1) off) s.time.rc 0
  else s

/-- Entry into PASSIVE (10 R284, R285, R294): `follow` is L of the partition whose frames are the reference from here on. -/
def enterPassive (s : State) (off : Int) (follow : Option Nat) : State :=
  let s := (ringState s .passive).modRing (fun r => { r with follow := follow, adopting := none, query := none })
  let s := { s with time := { s.time with synced := false } }
  judgeDiverged (recordSync s off) off

/-- A time query to the sender of the frame being adopted (10 R274). -/
def sendQuery (s : State) (node : Nat) : State :=
  let id := (s.ring.queryNo + 1) % 65536
  let s := s.modRing (fun r => { r with query := some (id, node, s.time.now), queryNo := id })
  queueBest s .west (bestFrame s node 3 (leBytes 1 1 ++ leBytes 1 0 ++ leBytes 2 id ++ leBytes 12 0))

/-- Node time set so that the time-stamp point of the adopted frame reads S_full + d_path; the rate correction is the sender's
(10 R274). -/
def adoptTime (s : State) (a : Adopt) (full : Int) : State :=
  let t := arrivalAt s a.port a.at_
  let d := (pathDelay s a.frame a.port).getD 0
  let s := stepTime s (full + d - t)
  let s := if a.frame.kind = 1 then
      { s with time := { s.time with rc := signedOf 32 (ofLe ((a.frame.payload.drop 8).take 4)) } } else s
  s.modRing (fun r => { r with
    adopted := true, adopting := none, query := none, follow := none, since := s.time.now, lastEnd := s.time.now })

/-- A sync or coldstart frame as the round's record of it: a deviation is formed once the node has a time of the ring. -/
def seenOf (s : State) (f : RFrame) (t : Nat) (dev : Option Int) : SyncSeen :=
  { node := f.sender, sync := decide (f.kind = 1), dev := dev, ofs := t % s.tRound, cstart := bitOf f.flags 1,
    named := if f.kind = 1 then payloadByte f 6 else 0 }

/-- L that a frame gives its partition: byte 6 of a sync frame, the sender of a coldstart frame (10 R293). -/
def frameL (f : RFrame) : Nat := if f.kind = 1 then payloadByte f 6 else f.sender

/-- Entry into INTEGRATE on a frame (10 R274, R275): a coldstart frame tells the full time, a sync frame needs a query. The frame counts as
accepted in the round in which it came (R276). A node that has entered RUN never enters INTEGRATE: it goes to PASSIVE, with the frame's ring as
its reference (DEDUCED, log 79). -/
def integrate (s : State) (a : Adopt) : State :=
  if s.hasRun then enterPassive s 0 (some (frameL a.frame))
  else
    let s := (ringState s .integrate).modRing (fun r => { r with
      adopted := false, adopting := some a, seen := [seenOf s a.frame (arrivalAt s a.port a.at_) none], prev := [], lastEnd := s.time.now })
    if a.frame.kind = 2 then adoptTime s a (nearest32 (ofTimeBytes ((a.frame.payload.drop 8).take 10) : Nat) a.frame.send)
    else sendQuery s a.frame.sender

/-! ## Sync slots and windows -/

/-- A frame of this node sent in its sync slot: lost to a forwarded frame on the wire (09 R262), or sent where no port is left to none. -/
def sendSync (s : State) (f : RFrame) : State × Bool :=
  if (s.port .east).wrapped && (s.port .west).wrapped then (s, false)
  else if s.contends .east s.time.now f.len then (jbump s (portIndex (s.egress .east)) 8, false)
  else (sendVia (occupy s .east s.time.now f.len) .east f s.time.now, true)

/-- SYNC_SLOT (10 R269, R272, R277): a coldstart frame while claiming, a sync frame in ACTIVE and ALONE, whose SYNC flag is the entry's (09 Table
09-1). -/
def syncDue (s : State) (i : Nat) : State :=
  atEntry s i 12 (fun s e =>
    let flags := (if CutEntry.sync e then 1 else 0) + (if CutEntry.cstart e then 2 else 0)
    if s.ring.state = .coldstart then
      if CutEntry.cstart e && decide (s.ring.since ≤ s.time.now) then
        let s := s.modRing (fun r => { r with attempts := r.attempts + 1 })
        let s := jset s 0x4230 8 s.ring.attempts
        (sendSync s (ringFrame s 2 3 i 65535 0 (s.time.now + 64) (coldPayload s))).1
      else s
    else if s.transmits then
      let f := ringFrame s 1 (flags + (if s.mode = .safe then 16 else 0)) i 65535 0 (s.time.now + 64) (syncPayload s)
      let own := seenOf s f s.time.now (some 0)
      let r := sendSync s f
      if r.2 then r.1.modRing (fun x => { x with seen := x.seen.filter (fun y => decide (y.node ≠ own.node)) ++ [own] }) else r.1
    else s)

/-- A sync receive window opens at its entry, with the SYNC bit that has deviations measured (10 R278, 09 Table 09-1). -/
def syncWindowDue (s : State) (i : Nat) : State :=
  atEntry s i 13 (fun s e => s.modRing (fun r =>
    { r with windows := Store.insert r.windows (CutEntry.tgt e) (s.time.now, s.time.now + CutEntry.lenNs e, CutEntry.sync e) }))

/-- A sync receive window ends: LEN after it opened (10 R278). -/
def syncWindowEnds (s : State) (i : Nat) : State :=
  match s.cut i with
  | some e =>
    if CutEntry.act e = 13 then
      match Store.find? s.ring.windows (CutEntry.tgt e) with
      | some w => (advanceTo s w.2.1).modRing (fun r => { r with windows := Store.erase r.windows (CutEntry.tgt e) })
      | none => s
    else s
  | none => s

/-- Whether a frame lies in the open window of its sender. A node that has not yet adopted a time has no windows to hold it to, and a node
that slews towards another partition takes that partition's frames whenever they come, and no others (10 R294; DEDUCED, logs 31 and 79). -/
def inSyncWindow (s : State) (f : RFrame) (t : Nat) : Bool :=
  match s.ring.follow with
  | some l => decide (frameL f = l)
  | none =>
    (decide (s.ring.state = .integrate) && !s.ring.adopted) ||
    (match Store.find? s.ring.windows f.sender with
      | some w => decide (w.1 ≤ t) && decide (t < w.2.1)
      | none => false)

/-- A sync or coldstart frame accepted in its window: at most one from a sender in a round (10 R278). A deviation is measured in a window with
SYNC, and once the node has a time (09 Table 09-1, 10 R279). -/
def acceptSync (s : State) (p : RingPort) (f : RFrame) (t : Nat) : State :=
  if s.ring.seen.any (fun x => decide (x.node = f.sender)) then s
  else
    let window := Store.find? s.ring.windows f.sender
    let s := monitorTake s 4 (0x400 + f.sender) ((t : Int) - (window.elim t (fun w => w.1)))
    let measured := window.all (fun w => w.2.2) && !(decide (s.ring.state = .integrate) && !s.ring.adopted)
    let dev := if measured then deviation s f p t else none
    let x := seenOf s f t dev
    let s := s.modRing (fun r => { r with seen := r.seen ++ [x] })
    if s.ring.state = .coldstart ∧ x.named = s.pins.node then s.modRing (fun r => { r with confirmed := true }) else s

/-- Whether a sync or coldstart frame is another node's, a node with the role of its sender in the schedule (10 R268, R269, 00 R5). -/
def senderOk (s : State) (f : RFrame) : Bool :=
  decide (1 ≤ f.sender) && decide (f.sender ≤ 64) && decide (f.sender ≠ s.pins.node) &&
  (if f.kind = 2 then (coldDelay s f.sender).isSome else (syncNode s f.sender).isSome)

/-- Whether an arrived frame is a sync or coldstart frame of a kind that concerns this node (10 R271, R278). -/
def State.concerns (s : State) (f : RFrame) (kind : Nat) : Bool :=
  decide (f.kind = kind) && bitOf f.flags 0 && decide (frameIdent f = s.ringIdent) && senderOk s f

/-- The higher-ranking of two keys (10 R293). -/
def PartKey.above (a b : PartKey) : Bool := decide (a.l < b.l) || (decide (a.l = b.l) && decide (a.m < b.m))

/-- A foreign sync frame counted by port, with the lowest byte 6 and the lowest sender of the round's foreign frames (10 R294). -/
def foreignSync (s : State) (p : RingPort) (f : RFrame) : State :=
  let s := jbump s 0x4236 (p.num + 1)
  let k : PartKey := ⟨if payloadByte f 6 = 0 then 255 else payloadByte f 6, f.sender⟩
  s.modRing (fun r => { r with foreign := match r.foreign with
    | some x => some ⟨Nat.min k.l x.l, Nat.min k.m x.m⟩
    | none => some k })

/-- Whether a node in INTEGRATE adopts a time from a frame: it has none yet, and a merging node takes the other partition's (10 R271, R294). -/
def State.adopts (s : State) (f : RFrame) : Bool :=
  decide (s.ring.state = .integrate) && !s.ring.adopted && s.ring.adopting.isNone && s.ring.follow.all (fun l => decide (frameL f = l))

/-- Whether a node judges a sync frame foreign at corrected arrival time `t`: outside every window of its sender, or with another L than its own.
A node in INTEGRATE has windows once it has a time, and an L from the end of its first round on (10 R293, R294; DEDUCED, log 79). -/
def State.foreign (s : State) (f : RFrame) (t : Nat) : Bool :=
  let outside := !(Store.find? s.ring.windows f.sender).any (fun w => decide (w.1 ≤ t) && decide (t < w.2.1))
  let other := decide (payloadByte f 6 ≠ ownNamed s)
  match s.ring.state with
  | .active | .alone | .passive => outside || other
  | .integrate => s.ring.adopted && (outside || (decide (s.ring.key.m ≠ 255) && other))
  | _ => false

/-- A sync frame taken (10 R271, R276 to R279, R294). -/
def takeSync (s : State) (p : RingPort) (f : RFrame) (t : Nat) : State :=
  let t' := arrivalAt s p t
  if !s.concerns f 1 then s
  else match s.ring.state with
  | .listen => integrate s { frame := f, at_ := t, port := p }
  | .coldstart =>
    if payloadByte f 6 ≠ s.pins.node ∧ (coldDelay s (payloadByte f 6)).isSome then integrate s { frame := f, at_ := t, port := p }
    else if inSyncWindow s f t' then acceptSync s p f t' else s
  | .off => s
  | _ =>
    if s.adopts f then integrate s { frame := f, at_ := t, port := p }
    else
    let s := if s.foreign f t' then foreignSync s p f else s
    if inSyncWindow s f t' then acceptSync s p f t' else s

/-- SYNC_FRAME (10 R278). -/
def syncFrame (s : State) (p : RingPort) (f : RFrame) (t : Nat) : State :=
  (arrive s p f t).take p f.len (.syncFrame p f t) (fun s => takeSync s p f t)

/-- Whether this node loses the contest with a coldstart frame of another node that arrives at `t` (10 Table 10-3). The frames cross when both
have attempt count 1 and the other's comes in the round that this node claims first, in which its own frame of count 1 has its slot
(DEDUCED, log 79). -/
def contestLost (s : State) (f : RFrame) (t : Nat) : Bool :=
  if payloadByte f 6 = 1 ∧ s.ring.since ≤ t ∧ t < s.ring.since + s.tRound then decide (f.sender < s.pins.node)
  else decide (ofLe ((f.payload.drop 4).take 2) < (coldDelay s s.pins.node).getD 0)

/-- A coldstart frame taken (10 R271, R273). -/
def takeColdstart (s : State) (p : RingPort) (f : RFrame) (t : Nat) : State :=
  let t' := arrivalAt s p t
  if !s.concerns f 2 then s
  else match s.ring.state with
  | .listen => integrate s { frame := f, at_ := t, port := p }
  | .coldstart =>
    let s := recordSync s 0
    if contestLost s f t' then integrate (jbump s 0x4230 7) { frame := f, at_ := t, port := p } else s
  | .off => s
  | _ =>
    if s.adopts f then integrate s { frame := f, at_ := t, port := p }
    else if inSyncWindow s f t' then acceptSync s p f t' else s

/-- COLDSTART_FRAME (10 R273). -/
def coldstartFrame (s : State) (p : RingPort) (f : RFrame) (t : Nat) : State :=
  (arrive s p f t).take p f.len (.coldstartFrame p f t) (fun s => takeColdstart s p f t)

/-- LISTEN_TIMEOUT (10 R272): a coldstart node claims the next round start. -/
def listenTimeout (s : State) : State :=
  match coldDelay s s.pins.node with
  | some d =>
    if s.ring.state = .listen then
      let s := advanceTo s (s.ring.since + 2 * s.tRound + 1000 * d)
      let s := (ringState s .coldstart).modRing (fun r => { r with attempts := 0, confirmed := false })
      let next := s.roundStart 1
      s.modRing (fun r => { r with since := next, lastEnd := next })
    else s
  | none => s

/-! ## Queries (09 R249, 10 R274) -/

/-- A time query taken (09 R249): answered in every state but OFF, in the next secondary best-effort window. -/
def takeQuery (s : State) (f : RFrame) : State :=
  if ((bestBody f).headD 0).toNat = 1 ∧ bestDest f = s.pins.node then
    let body := leBytes 1 2 ++ leBytes 1 0 ++ ((bestBody f).drop 2).take 2 ++ leBytes 12 0
    s.modPort .west (fun x => { x with answers := x.answers ++ [bestFrame s f.sender 3 body] })
  else s

/-- TIME_QUERY (09 R249). -/
def timeQuery (s : State) (p : RingPort) (f : RFrame) : State :=
  (arriveBest s p f 3).take p f.len (.timeQuery p f) (fun s => takeQuery s f)

/-- A time answer taken (10 R274): the full time of the frame adopted is the value nearest to the answered time, counted back to the
frame's arrival on the node's own time base. -/
def takeAnswer (s : State) (p : RingPort) (f : RFrame) (t : Nat) : State :=
  let b := bestBody f
  match s.ring.query, s.ring.adopting with
  | some (id, _, _), some ad =>
    if decide ((b.headD 0).toNat = 2) && decide (ofLe ((b.drop 2).take 2) = id) && decide (s.ring.state = .integrate) &&
        !s.hasRun then
      let here : Int := (arrivalAt s p t : Int)
      let there : Int := (ofTimeBytes ((b.drop 4).take 10) : Nat)
      adoptTime s ad (nearest32 (there - (here - arrivalAt s ad.port ad.at_)) ad.frame.send)
    else s
  | _, _ => s

/-- TIME_ANSWER (10 R274). -/
def timeAnswer (s : State) (p : RingPort) (f : RFrame) (t : Nat) : State :=
  (arriveBest s p f 3).take p f.len (.timeAnswer p f t) (fun s => takeAnswer s p f t)

/-- TIME_QUERY_TIMEOUT (10 R274): a new query 1 s after the last. -/
def timeQueryTimeout (s : State) : State :=
  match s.ring.query with
  | some (_, node, sent) =>
    if s.ring.state = .integrate then sendQuery (advanceTo s (sent + 1000000000)) node else s
  | none => s

/-! ## The end of a round (10 R276, R281 to R285, R293, R294) -/

/-- Values discarded at each end (10 R281). -/
def ftaDiscard (n : Nat) : Nat := if 8 ≤ n then 2 else if 3 ≤ n then 1 else 0

/-- Fault-tolerant average (10 R281), toward zero. -/
def ftAverage (d : List Int) : Int :=
  let n := d.length
  if n = 0 then 0
  else
    let k := ftaDiscard n
    let mid := ((sortAsc d).drop k).take (n - 2 * k)
    Int.tdiv (mid.foldl (fun a b => a + b) 0) ((n - 2 * k : Nat) : Int)

/-- Slew applied between two arrivals in successive rounds, ns (10 R283). -/
def slewBetween (t : Nat) (before now : Int) (o0 o1 : Nat) : Int :=
  (before * ((t - o0 : Nat) : Int) + now * (o1 : Int)) / 1000000000

/-- Fault-tolerant average with `k` values discarded at each end, 0 when none is left (10 R283: the kd of the offset; DESIGN CHOICE, log 79). -/
def ftAverageBy (k : Nat) (d : List Int) : Int :=
  let n := d.length - 2 * k
  if n = 0 then 0 else Int.tdiv ((((sortAsc d).drop k).take n).foldl (fun a b => a + b) 0) (n : Int)

/-- ρ of every sender accepted in both rounds, the own frame 0 (10 R283). -/
def rates (s : State) : List Int :=
  s.ring.seen.filterMap (fun x =>
    if x.node = s.pins.node then some 0
    else match s.ring.prev.find? (fun y => decide (y.node = x.node)), x.dev with
      | some y, some d1 => match y.dev with
        | some d0 => some ((d1 - d0 + slewBetween s.tRound s.time.slewPrev s.time.slew y.ofs x.ofs) * 1000000000 / (s.tRound : Int))
        | none => none
      | _, _ => none)

/-- A full valid round (10 R276). -/
def validRound (s : State) : Bool :=
  let other := fun (x : SyncSeen) => decide (x.node ≠ s.pins.node)
  (s.ring.prev.filter other).all (fun y => s.ring.seen.any (fun x => decide (x.node = y.node))) &&
  (s.ring.seen.filter other).any (fun x => x.cstart || (coldDelay s x.named).isSome)

/-- Partition key at the end of a round (10 R293). -/
def partitionKey (s : State) : PartKey :=
  let least := fun (xs : List Nat) => xs.foldl Nat.min 255
  { l := if s.coldstartNode && s.transmits then s.pins.node
         else least ((s.ring.seen.filter (fun x => x.cstart)).map (fun x => x.node))
    m := least (s.ring.seen.map (fun x => x.node)) }

/-- Slew rate for an offset correction, limited to ± 200 ppm (10 R282). -/
def slewRate (t : Nat) (c : Int) : Int := clampInt (-200000) 200000 (c * 1000000000 / (Nat.max 1 t : Nat))

/-- Whether a sync frame of another node was accepted in the round that ends (10 R271, R284). -/
def State.heardSync (s : State) : Bool := s.ring.seen.any (fun x => decide (x.node ≠ s.pins.node) && x.sync)

/-- Round results applied to the time base: offset as a step in INTEGRATE at the end of a full valid round, else as a slew for the next
round (10 R276, R282, R283); a diverged node and one in ALONE that hears no other make no correction, and a node that has entered RUN makes no
step (R275). A step moves the deviations of the round with it. A slew lasts one round, and rates cross to the time base (15 Table 15-2). -/
def correctTime (s : State) (off : Int) (rhos : List Int) (valid : Bool) : State :=
  let k := ftaDiscard (s.ring.seen.filterMap (fun x => x.dev)).length
  let rc := if rhos.isEmpty then s.time.rc
            else clampInt (-150000) 150000 (s.time.rc - Int.tdiv (ftAverageBy k rhos) 2)
  let s := { s with time := { s.time with slewPrev := s.time.slew, slew := 0 } }
  let slewed := sendCorrection s rc (slewRate s.tRound (-off))
  if jbool s 0x4231 8 then s
  else match s.ring.state with
  | .integrate =>
    if valid && s.ring.adopted && !s.hasRun then
      let s := (stepTime s (-off)).modRing (fun r => { r with seen := r.seen.map (fun x => { x with dev := x.dev.map (fun d => d - off) }) })
      sendCorrection s rc 0
    else s
  | .active => slewed
  | .passive => slewed
  | .alone => if s.heardSync then slewed else s
  | _ => s

/-- Whether foreign frames of a higher-ranking key came in two successive rounds: each round's byte 6 with the lowest foreign sender of both
(10 R294). -/
def mergeDue (s : State) : Bool :=
  match s.ring.foreign, s.ring.foreignPrev with
  | some a, some b =>
    let m := Nat.min a.m b.m
    PartKey.above ⟨a.l, m⟩ s.ring.key && PartKey.above ⟨b.l, m⟩ s.ring.key
  | _, _ => false

/-- L of the partition whose frames outrank this node's own (10 R294). -/
def mergeL (s : State) : Option Nat := s.ring.foreign.map (fun k => if k.l = 255 then 0 else k.l)

/-- State changes at the end of a round (10 Table 10-2), the higher row first. A node whose controller integrates as it enters RUN goes on in
PASSIVE (R275, R285). -/
def roundState (s : State) (off : Int) (valid full : Bool) : State :=
  let cold := s.coldstartNode
  match s.ring.state with
  | .coldstart =>
    if s.ring.confirmed then enterActive s
    else if 16 ≤ s.ring.attempts then ringState s .alone else s
  | .integrate =>
    if s.hasRun then enterPassive s off none
    else if !full then s
    else if !valid then enterListen s
    else if s.ring.adopted then enterActive s else s
  | .active =>
    if mergeDue s then enterPassive s off (mergeL s)
    else if 2 ≤ s.ring.bigOff ∨ (!cold ∧ 16 ≤ s.ring.silent) then enterPassive (jbump s 0x4231 6) off none else s
  | .alone =>
    if s.heardSync then enterActive s
    else if mergeDue s then enterPassive s off (mergeL s) else s
  | .passive =>
    let s := if s.ring.follow.isSome && !s.ring.seen.any (fun x => decide (x.node ≠ s.pins.node)) then
        s.modRing (fun r => { r with follow := none }) else s
    let s := judgeDiverged s off
    if jbool s 0x4231 8 then s
    else if full && valid && decide (off.natAbs ≤ 500) then enterActive s
    else if full && valid && !s.hasRun then
      (ringState s .integrate).modRing (fun r => { r with adopted := false, adopting := none, query := none })
    else s
  | _ => s

/-- The offset and the rate of a round with their effects, in the states that compute them (10 R281 to R285); a diverged node is judged first. -/
def roundOffset (s : State) (off : Int) (valid : Bool) : State :=
  let s := jset (jset s 0x4231 3 (wrapTo 32 (-off))) 0x4231 5 (Nat.max (jget s 0x4231 5) off.natAbs)
  let s := if s.ring.state = .passive then judgeDiverged s off else s
  let s := correctTime s off (rates s) valid
  let s := jset s 0x4231 4 (wrapTo 32 s.time.rc)
  monitorTake (monitorTake s 5 0 (-off)) 5 1 s.time.rc

/-- L of the partition key shown (10 R293, R299). -/
def showL (s : State) : State := jset s 0x4230 6 (ownNamed s)

/-- ROUND_END (10 R281 to R285, R293): OFF and LISTEN accept nothing and correct nothing, and COLDSTART computes no offset. -/
def roundEnd (s : State) : State :=
  let last := s.ring.lastEnd
  let s := advanceTo s (gridFrom (Nat.max s.time.now (last + 1)) 0 s.tRound)
  if s.ring.state = .off ∨ s.ring.state = .listen then
    let s := s.modRing (fun r => { r with lastEnd := s.time.now, seen := [], prev := [], key := ⟨255, 255⟩ })
    latchLatency (showL (jset (jset (jset s 0x4231 1 0) 0x4231 2 0) 0x4231 3 0))
  else
    let devs := if s.ring.state = .coldstart then [] else s.ring.seen.filterMap (fun x => x.dev)
    let off := ftAverage devs
    let full := decide (s.ring.since + s.tRound ≤ s.time.now)
    let valid := validRound s
    let heard := s.heardSync
    let key := partitionKey s
    let s := jset (jset s 0x4231 1 s.ring.seen.length) 0x4231 2 (ftaDiscard devs.length)
    let s := if s.ring.state = .coldstart then jset s 0x4231 3 0 else roundOffset s off (valid && full)
    let s := s.modRing (fun r => { r with key := key, bigOff := if 1000 < off.natAbs then r.bigOff + 1 else 0,
                                          silent := if heard then 0 else r.silent + 1 })
    let s := showL (roundState s off valid full)
    latchLatency (s.modRing (fun r => { r with lastEnd := s.time.now, foreignPrev := r.foreign, foreign := none, prev := r.seen, seen := [] }))

/-! ## Time announcements (02 R55, R58, 09 R249) -/

/-- TIME_ANNOUNCEMENT (02 R58, 09 R249): once per second the time-source node sends its correction and UTC offset to every
node. -/
def timeAnnouncement (s : State) : State :=
  if s.timeSource && decide (s.ring.state ≠ .off) && (s.time.taiValid || s.time.announcedAt.isSome) then
    let s := advanceTo s (s.time.announcedAt.elim 0 (fun t => t + 1000000000))
    let s := { s with time := { s.time with announcedAt := some s.time.now } }
    let flags := (if s.time.taiValid then 1 else 0) + (if s.time.utcValid then 2 else 0) + (if s.time.refPps then 4 else 0)
    queueBest s .west (bestFrame s 0 2 (leBytes 8 (wrapTo 64 s.time.tai) ++ leBytes 2 (jget s 0x4002 1) ++
      leBytes 1 (jget s 0x4002 2) ++ leBytes 1 flags ++ leBytes 4 0))
  else s

/-- Values of an announcement taken (02 R31, R55); a change of offset or leap indicator, or of the correction by more than
1 µs, is recorded. -/
def takeAnnouncement (s : State) (node : Nat) (b : Bytes) : State :=
  let tai := signedOf 64 (ofLe (b.take 8))
  let utc := ofLe ((b.drop 8).take 2)
  let leap := ((b.drop 10).headD 0).toNat
  let flags := ((b.drop 11).headD 0).toNat
  let old := s.taiValues
  let changed := decide (utc ≠ jget s 0x4002 1) || decide (leap ≠ jget s 0x4002 2) || decide (1000 < (tai - s.time.tai).natAbs)
  let s := jset (jset (jset s 0x4001 0 (wrapTo 64 tai)) 0x4002 1 utc) 0x4002 2 leap
  let s := { s with time := { s.time with tai := tai, taiValid := bitOf flags 0, utcValid := bitOf flags 1, refPps := bitOf flags 2,
                                          sourceSeen := some node } }
  if changed then recordTai s old else s

/-- Node whose correction and offset this node keeps: of the time sources known to it, itself included, the one with the lowest id (02 R55). -/
def State.sourceKept (s : State) : Option Nat :=
  if s.timeSource then some (s.time.sourceSeen.elim s.pins.node (fun n => Nat.min n s.pins.node)) else s.time.sourceSeen

/-- An announcement judged (02 R55): a second time-source node is a conflict; the lower node id prevails. -/
def judgeAnnouncement (s : State) (f : RFrame) : State :=
  match s.sourceKept with
  | some n =>
    if n = f.sender then takeAnnouncement s f.sender (bestBody f)
    else
      let s := record s 5 10 (leBytes 1 f.sender)
      if f.sender < n then takeAnnouncement s f.sender (bestBody f) else s
  | none => takeAnnouncement s f.sender (bestBody f)

/-- TIME_ANNOUNCEMENT_RECEIVED (02 R55). -/
def timeAnnouncementReceived (s : State) (p : RingPort) (f : RFrame) : State :=
  (arriveBest s p f 2).take p f.len (.timeAnnouncementReceived p f) (fun s => judgeAnnouncement s f)

end Sys2Proof.Machine
end

