-- ==== Sys2Proof/Machine/Ecn.lean ====
section
/-! DEFINITION. The ECN ports and their telegram contexts (11 R300 to R308). -/

namespace Sys2Proof.Machine

open Sys2Proof

/-! ## Sending (11 R302 to R305) -/

/-- TELEGRAM_DEADLINE (11 R304): 4 µs before the entry fires, the buffer of the latest publishing release is locked. -/
def telegramDeadline (s : State) (i : Nat) : State :=
  match s.cut i with
  | some e =>
    if CutEntry.act e = 8 then
      let s := advanceTo s (s.firing i e 4000 - 4000)
      let ctx := CutEntry.tgt e % 256
      s.modEcn (CutEntry.tgt e / 256 % 2) (fun x => { x with tx := Store.insert x.tx ctx (TxCtx.lock i (Store.get x.tx TxCtx.blank ctx)) })
    else s
  | none => s

/-- Bytes of a value in an insertion's order (11 Table 11-2). -/
def insertBytes (x : Insertion) (n v : Nat) : Bytes := if x.msb then beBytes n (v % 256 ^ n) else leBytes n v

/-- What an insertion puts in the header: sequence, cycle index, send time or length (11 Table 11-2). -/
def insertionValue (x : Insertion) (seq k sendAt len : Nat) : Bytes :=
  match x.kind with
  | 1 => insertBytes x 2 seq
  | 2 => insertBytes x 4 seq
  | 3 => insertBytes x 4 k
  | 4 => insertBytes x 4 sendAt
  | 5 => insertBytes x 2 len
  | _ => []

/-- Header bytes with the insertions made (11 R303). -/
def headerOf (t : Telegram) (seq k sendAt len : Nat) : Bytes :=
  t.inserts.foldl (fun h x =>
    let b := insertionValue x seq k sendAt len
    h.take x.ofs ++ b ++ h.drop (x.ofs + b.length)) t.header

/-- Address whose MAC a datagram needs: the destination, or the gateway outside the subnet (11 R301). -/
def nextHop (s : State) (p dst : Nat) : Nat :=
  let mask := jget s (ecnIndex p) 4
  if Nat.land dst mask = Nat.land (jget s (ecnIndex p) 3) mask then dst else jget s (ecnIndex p) 5

/-- MAC address for an IPv4 destination: multicast, broadcast, or resolved by ARP (11 R301). -/
def macOf (s : State) (p ip : Nat) : Option Nat :=
  if ip / 268435456 = 14 then some (0x01005E000000 + ip % 8388608)
  else if ip = 4294967295 ∨ ip = Nat.lor (jget s (ecnIndex p) 3) (4294967295 - jget s (ecnIndex p) 4) then some 0xFFFFFFFFFFFF
  else (Store.find? (s.ecn p).arp (nextHop s p ip)).map (fun x => x.1)

/-- MAC address for a telegram: explicit, or that of its destination (11 Table 11-1). -/
def macFor (s : State) (p : Nat) (t : Telegram) : Option Nat := if t.mac ≠ 0 then some t.mac else macOf s p t.dstIp

/-- Bytes of an Ethernet frame that carries a UDP payload. -/
def ecnFrameLen (tagged : Bool) (n : Nat) : Nat := Nat.max 64 (14 + (if tagged then 4 else 0) + 28 + n + 4)

/-- Port of a number. -/
def ecnPort (n : Nat) : EcnPort := if n = 0 then .e0 else .e1

/-- The state with a transmit telegram context changed. -/
def modTelTx (s : State) (p ctx : Nat) (f : TxCtx → TxCtx) : State :=
  s.modEcn p (fun x => { x with tx := Store.insert x.tx ctx (f (Store.get x.tx TxCtx.blank ctx)) })

/-- A question of the port for the MAC address of an IPv4 address. -/
def askArp (s : State) (p ip : Nat) : State := ecnSend s p 2 64 false (.arp (ecnPort p) ip false)

/-- A telegram on its way (11 R303 to R305): sequence counted and saved at least once in 32 768, identification advanced, the frame
in line behind the one on the wire, PTP event messages and the telegrams before it. -/
def sendTelegram (s : State) (p : Nat) (t : Telegram) (mac : Nat) (b : TxBuffer) : State :=
  let x := Store.get (s.ecn p).tx TxCtx.blank t.ctx
  let seq := (x.seq + 1) % 4294967296
  let len := t.header.length + b.data.length + (match unitOf s (p + 1) t.ctx with
    | some u => crcBytes u.poly
    | none => 0)
  let payload := withCvu s (p + 1) t.ctx (headerOf t seq b.k (s.time.now % 4294967296) len ++ b.data)
  let f : EFrame := { fcsOk := true, mac := mac, tags := if t.tagged then 1 else 0, vid := t.vid, pcp := t.pcp, etype := 0x0800,
                      ipVer := 4, tos := t.tos, ttl := t.ttl, ident := (s.ecn p).ident, df := true, hdrCk := true, frag := false,
                      proto := 17, srcIp := jget s (ecnIndex p) 3, dstIp := t.dstIp, udpCk := true, srcPort := t.srcPort,
                      dstPort := t.dstPort, payload := payload }
  let s := modTelTx s p t.ctx (fun x => { x with seq := seq })
  let s := s.modEcn p (fun x => { x with saved := if seq % 32768 = 0 then Store.insert x.saved t.ctx seq else x.saved })
  ecnSend s p 1 (ecnFrameLen t.tagged len) true (.ecn (ecnPort p) f)

/-- A telegram due (11 R301, R305, 16 R417): lost when the link is down or the port switched off, when its destination is not resolved, or when 8 wait. -/
def offerTelegram (s : State) (p : Nat) (t : Telegram) (b : TxBuffer) : State :=
  let e := s.ecn p
  if e.speed = 0 ∨ !e.on then jbump s (ecnIndex p) 12
  else match macFor s p t with
  | none => askArp s p (nextHop s p t.dstIp)
  | some mac =>
    if 8 ≤ (e.queue.filter (fun q => decide (s.time.now < q.1) && decide (q.2.2 = 1))).length then jbump s (ecnIndex p) 11
    else sendTelegram s p t mac b

/-- A UDP datagram of the device's own from a port (11 R301, R304, 17 R443); while the address of its next hop is not resolved it waits for the
answer to an ARP request. PRESUMED (log 86): no tag, time to live 64, type of service 0. -/
def sendDatagram (s : State) (p ip srcPort dstPort : Nat) (d : Bytes) : State :=
  let f : EFrame := { fcsOk := true, mac := (macOf s p ip).getD 0, tags := 0, vid := 0, pcp := 0, etype := 0x0800, ipVer := 4, tos := 0,
                      ttl := 64, ident := (s.ecn p).ident, df := true, hdrCk := true, frag := false, proto := 17
                      srcIp := jget s (ecnIndex p) 3, dstIp := ip, udpCk := true, srcPort := srcPort, dstPort := dstPort, payload := d }
  match macOf s p ip with
  | some _ => ecnSend s p 2 (ecnFrameLen false d.length) true (.ecn (ecnPort p) f)
  | none => askArp (s.modEcn p (fun x => { x with awaiting := x.awaiting ++ [(nextHop s p ip, f)] })) p (nextHop s p ip)

/-- The datagrams that waited for an address sent, once it is resolved. -/
def sendAwaiting (s : State) (p ip mac : Nat) : State :=
  let due := (s.ecn p).awaiting.filter (fun q => decide (q.1 = ip))
  let s := s.modEcn p (fun x => { x with awaiting := x.awaiting.filter (fun q => decide (q.1 ≠ ip)) })
  due.foldl (fun s q => ecnSend s p 2 (ecnFrameLen false q.2.payload.length) true
    (.ecn (ecnPort p) { q.2 with mac := mac, ident := (s.ecn p).ident })) s

/-- An ECN transmit entry fires (11 R304): the telegram of the locked buffer, in RUN; else an empty transmission. -/
def ecnDue (s : State) (i : Nat) : State :=
  atEntry s i 8 (fun s e =>
    let p := CutEntry.tgt e / 256 % 2
    let ctx := CutEntry.tgt e % 256
    if !s.booted || !jbool s (ecnIndex p) 1 then s
    else
      match s.config.bind (fun c => c.telegrams.find? (fun t => decide (t.port = p) && decide (t.ctx = ctx) && decide (t.role = 1))),
            Store.find? (Store.get (s.ecn p).tx TxCtx.blank ctx).locked i with
      | some t, some b => modTelTx (if s.inRun then offerTelegram s p t b else jbump s (telBase p + 14) ctx) p ctx (TxCtx.unlock i)
      | _, _ => jbump s (telBase p + 14) ctx)

/-- Telegram sequences before the first telegram after a start (11 R303, 09 R259). -/
def advanceTelegrams (s : State) (held : Bool) : State :=
  match s.config with
  | some c => (c.telegrams.filter (fun t => decide (t.role = 1))).foldl (fun s t =>
      let base := if held then (Store.get (s.ecn t.port).tx TxCtx.blank t.ctx).seq else Store.get (s.ecn t.port).saved 0 t.ctx
      let seq := (base + 65536) % 4294967296
      let s := modTelTx s t.port t.ctx (fun x => { TxCtx.blank with seq := seq, data := x.data })
      s.modEcn t.port (fun x => { x with saved := Store.insert x.saved t.ctx seq })) s
  | none => s

/-- Telegram sequences saved at the power-fail warning (11 R303, 09 R259). -/
def saveTelegrams (s : State) : State :=
  let one := fun (x : Ecn) => { x with saved := x.tx.foldl (fun m q => Store.insert m q.1 q.2.seq) x.saved }
  { s with ecn0 := one s.ecn0, ecn1 := one s.ecn1 }

/-! ## Receiving (11 R306, R307) -/

/-- Checks 1 to 5 of R306, at most one tag, and at most 1 522 bytes (R300). -/
def portChecks (f : EFrame) : Bool :=
  f.fcsOk && decide (f.tags ≤ 1) && decide (ecnFrameLen (f.tags = 1) f.payload.length ≤ 1522) && decide (f.etype = 0x0800) && decide (f.ipVer = 4) && f.hdrCk && !f.frag &&
  decide (f.proto = 17) && f.udpCk

/-- Check 6 of R306. -/
def matchesContext (s : State) (p : Nat) (t : Telegram) (f : EFrame) : Bool :=
  (if t.tagged then decide (f.tags = 1) && decide (f.vid = t.vid) else decide (f.tags = 0) || decide (f.vid = 0)) &&
  decide (f.dstIp = if t.dstIp = 0 then jget s (ecnIndex p) 3 else t.dstIp) &&
  (decide (t.srcIp = 0) || decide (f.srcIp = t.srcIp)) && decide (f.dstPort = t.dstPort) &&
  (decide (t.srcPort = 0) || decide (f.srcPort = t.srcPort))

/-- Bytes that an insertion kind takes. -/
def insertionSize (kind : Nat) : Nat := if kind = 1 ∨ kind = 5 then 2 else if kind = 0 then 0 else 4

/-- Whether a header byte lies in an insertion. -/
def inInsertion (t : Telegram) (n : Nat) : Bool :=
  t.inserts.any (fun x => decide (x.ofs ≤ n) && decide (n < x.ofs + insertionSize x.kind))

/-- Whether header bytes equal the template outside its insertions (check 8). -/
def headerMatches (t : Telegram) (h : Bytes) : Bool :=
  (List.range t.header.length).all (fun n => inInsertion t n || decide (h[n]? = t.header[n]?))

/-- Sequences that a received header carries, one for each sequence insertion of its template. -/
def receivedSeqs (t : Telegram) (h : Bytes) : List Nat :=
  (t.inserts.filter (fun x => decide (x.kind = 1) || decide (x.kind = 2))).map (fun x =>
    let b := (h.drop x.ofs).take (insertionSize x.kind)
    if x.msb then ofBe b else ofLe b)

/-- Whether a sequence insertion equals that of the last accepted telegram (11 R306 check 8). -/
def repeated (now last : List Nat) : Bool := (now.zip last).any (fun p => decide (p.1 = p.2))

/-- Checks 7 to 9 and delivery of a telegram that its context takes (11 R306, R307). -/
def takeTelegramFrame (s : State) (p : Nat) (t : Telegram) (f : EFrame) : State :=
  let bad := jbump s (telBase p + 14) t.ctx
  let x := Store.get (s.ecn p).rx { data := none, seq := [] } t.ctx
  let h := f.payload.take t.header.length
  let extra := match unitOf s (p + 1) t.ctx with
    | some u => crcBytes u.poly
    | none => 0
  let seqs := receivedSeqs t h
  if f.payload.length ≠ t.header.length + t.dLen + extra then bad
  else if !headerMatches t h || repeated seqs x.seq then bad
  else match stripCvu s (p + 1) t.ctx f.payload with
  | none => cvuFailed bad (p + 1) t.ctx
  | some d =>
    let s := if x.data.isSome then jbump s (telBase p + 13) t.ctx else s
    s.modEcn p (fun e => { e with rx := Store.insert e.rx t.ctx { data := some d, seq := seqs } })

/-- The lowest-numbered receive context of a port that a frame matches (11 R306). -/
def contextFor (s : State) (p : Nat) (f : EFrame) : Option Telegram :=
  let all := s.config.elim [] (fun c => c.telegrams.filter (fun t => decide (t.port = p) && decide (t.role = 2)))
  (all.filter (fun t => matchesContext s p t f)).foldl (fun (m : Option Telegram) t => match m with
    | some u => if t.ctx < u.ctx then some t else some u
    | none => some t) none

/-- Whether PTP claims a UDP datagram before every other consumer: its ports are 319 and 320 (11 R301, IEEE 1588-2019; PRESUMED, log 78). -/
def ptpClaims (s : State) (p dstPort : Nat) : Bool := s.ptpOn (ecnPort p) && (decide (dstPort = 319) || decide (dstPort = 320))

/-- TELEGRAM_RECEIVED (11 R301, R306): the lowest-numbered matching context takes the frame. A datagram to the dictionary port
is DICTIONARY_DATAGRAM's, and one that PTP claims is PTP_MESSAGE's (DESIGN CHOICE, log 86). -/
def telegramReceived (s : State) (port : EcnPort) (f : EFrame) : State :=
  let p := port.num
  if s.ecnUp p then
    let s := jbump s (ecnIndex p) 9
    if !portChecks f then ecnDiscard s p
    else
      if ptpClaims s p f.dstPort then s
      else match contextFor s p f with
      | some t => takeTelegramFrame s p t f
      | none => if f.dstIp = jget s (ecnIndex p) 3 ∧ f.dstPort = s.dict.port then s else ecnDiscard s p
  else s

/-! ## ARP, ICMP and links (11 R300, R301) -/

/-- ARP_REQUEST (11 R301): answered for the port's own address. -/
def arpRequest (s : State) (port : EcnPort) (target src : Nat) : State :=
  let p := port.num
  if s.ecnUp p then
    let s := jbump s (ecnIndex p) 9
    if target = jget s (ecnIndex p) 3 ∧ target ≠ 0 then ecnSend s p 2 64 false (.arp port src true) else ecnDiscard s p
  else s

/-- ARP_REPLY (11 R301): the address resolved, and what waited for it sent. -/
def arpReply (s : State) (port : EcnPort) (ip mac : Nat) : State :=
  let p := port.num
  if s.ecnUp p then
    let s := (jbump s (ecnIndex p) 9).modEcn p (fun x => { x with arp := Store.insert x.arp ip (mac, s.time.now) })
    sendAwaiting s p ip mac
  else s

/-- ARP_ENTRY_EXPIRY (11 R301): 300 s after it was resolved. -/
def arpEntryExpiry (s : State) (port : EcnPort) (ip : Nat) : State :=
  let p := port.num
  match Store.find? (s.ecn p).arp ip with
  | some x => (advanceTo s (x.2 + 300000000000)).modEcn p (fun e => { e with arp := Store.erase e.arp ip })
  | none => s

/-- ICMP_ECHO_REQUEST (11 R301, 16 R416): at most 10 answers in a second, and none in stage 1. -/
def icmpEchoRequest (s : State) (port : EcnPort) (src dst : Nat) : State :=
  let p := port.num
  if s.ecnUp p then
    let s := jbump s (ecnIndex p) 9
    let recent := (s.ecn p).icmp.filter (fun t => decide (s.time.now < t + 1000000000))
    if dst = jget s (ecnIndex p) 3 ∧ dst ≠ 0 ∧ recent.length < 10 ∧ s.power.stage < 1 then
      ecnSend (s.modEcn p (fun x => { x with icmp := s.time.now :: recent })) p 2 64 true (.icmp port src)
    else ecnDiscard s p
  else s

/-- ECN_LINK_CHANGE (11 R300): a link in half duplex is down. -/
def ecnLinkChange (s : State) (port : EcnPort) (speed : Nat) (full : Bool) : State :=
  let p := port.num
  if s.booted then
    let code := if !full then 0 else if speed = 10 then 1 else if speed = 100 then 2 else if speed = 1000 then 3 else 0
    jset (s.modEcn p (fun x => { x with speed := code })) (ecnIndex p) 6 code
  else s

/-- PHY_RESET_RELEASE (11 R300): 10 ms after the junction has booted. -/
def phyResetRelease (s : State) : State :=
  if s.power.phyReset && s.booted then
    let s := advanceTo s (s.power.bootAt + 10000000)
    { s with power := { s.power with phyReset := false } }
  else s

end Sys2Proof.Machine
end

