-- ==== Sys2Proof/Machine/Can.lean ====
section
/-! DEFINITION. The CAN controllers: receive and transmit objects, NMT, heartbeats and the error states (11 R309 to R312). -/

namespace Sys2Proof.Machine

open Sys2Proof

/-- CANopen node id of a controller. -/
def canNode (s : State) (c : CanCtl) : Nat := jget s (canIndex c) 2

/-- The boot-up message or a heartbeat. -/
def sendHeartbeat (s : State) (c : CanCtl) (code : Nat) : State :=
  transmit s 33 2 (.can c { ident := 0x700 + canNode s c, data := leBytes 1 code })

/-- A controller's communication started anew: boot-up message and Pre-operational, or Stopped in the safe state (11 Table
11-3). -/
def canBoot (s : State) (c : CanCtl) : State :=
  let s := s.modCan c (fun x => { x with nmt := .preOp, rx := [], tx := [], hbAt := s.time.now })
  let s := if s.canUp c then sendHeartbeat s c 0 else s
  if s.mode = .safe then s.modCan c (fun x => { x with nmt := .stopped }) else s

/-- Entry into RUN on CAN: a self-starting controller enters Operational (11 Table 11-3, 4800.07). -/
def canRun (s : State) (c : CanCtl) : State :=
  if jbool s (canIndex c) 7 then s.modCan c (fun x => { x with nmt := .operational }) else s

/-- The lowest-numbered receive object whose identifier, of 11 or 29 bits as the frame's, matches under its mask (11 R309, R310). -/
def matchRx (cfg : Container) (c : CanCtl) (f : CFrame) : Option CanRx :=
  (cfg.canRx.filter (fun r => decide (r.ctl = c.num) && decide (r.ext = f.ext) &&
    decide (Nat.land r.ident r.mask = Nat.land f.ident r.mask))).foldl
    (fun (m : Option CanRx) r => match m with
      | some b => if r.obj < b.obj then some r else some b
      | none => some r) none

/-- CAN_FRAME_RECEIVED (11 R310): matched only in Operational. -/
def canFrameReceived (s : State) (c : CanCtl) (f : CFrame) : State :=
  if s.canUp c && decide ((s.can c).nmt = .operational) then
    match s.config.bind (fun k => matchRx k c f) with
    | some r =>
      let s := if (Store.find? (s.can c).rx r.obj).isSome then jbump s (canIndex c) 13 else s
      s.modCan c (fun x => { x with rx := Store.insert x.rx r.obj (padTo r.len f.data) })
    | none => s
  else s

/-- CAN_ARBITRATION_WON (11 R310): the object's frame is sent and can no longer be replaced. -/
def canArbitrationWon (s : State) (c : CanCtl) (obj : Fin 32) : State :=
  match Store.find? (s.can c).tx obj.val with
  | some f => if s.canUp c then transmit (s.modCan c (fun x => { x with tx := Store.erase x.tx obj.val })) 33 2 (.can c f) else s
  | none => s

/-! ## NMT (11 R311, Table 11-3) -/

/-- Whether an NMT command reaches a controller: node 0 addresses every node. -/
def nmtFor (s : State) (c : CanCtl) (node : Nat) : Bool :=
  s.canUp c && (decide (node = 0) || decide (node = canNode s c)) && decide ((s.can c).nmt ≠ .bootUp)

/-- A controller moved to an NMT state; in the safe state it stays Stopped. -/
def nmtTo (s : State) (c : CanCtl) (node : Nat) (n : Nmt) : State :=
  if nmtFor s c node && decide (s.mode ≠ .safe) then s.modCan c (fun x => { x with nmt := n }) else s

/-- NMT_START. -/
def nmtStart (s : State) (c : CanCtl) (node : Nat) : State := nmtTo s c node .operational
/-- NMT_STOP. -/
def nmtStop (s : State) (c : CanCtl) (node : Nat) : State := nmtTo s c node .stopped
/-- NMT_ENTER_PRE_OPERATIONAL. -/
def nmtPreOp (s : State) (c : CanCtl) (node : Nat) : State := nmtTo s c node .preOp

/-- A controller restarted after eight bus-offs, or by reset communication (11 R309). -/
def canRestart (s : State) (c : CanCtl) : State := jset (s.modCan c (fun x => { x with err := 0, busOffs := [] })) (canIndex c) 10 0

/-- SDO channels of a controller (11 R313). -/
def sdoOf (c : CanCtl) (ch : Nat) : Bool := decide (ch / 4 = c.num)

/-- An SDO channel's transfer gone, with its capture and the request of it that waits for the tick (11 R313). -/
def dropSdo (s : State) (ch : Nat) : State :=
  let waits := s.dict.arrived.filter (fun q => decide (q.sender.client = 16 + ch))
  { s with dict := { s.dict with
      sdo := Store.erase s.dict.sdo ch, captures := Store.erase s.dict.captures (16 + ch)
      arrived := s.dict.arrived.filter (fun q => decide (q.sender.client ≠ 16 + ch))
      inFlight := waits.foldl (fun l q => l.erase (q.sender.client, q.sender.txn)) s.dict.inFlight } }

/-- Reset communication: the controller's communication state is reset: its SDO transfers, with the requests that wait for the tick, and the
monitoring of heartbeats on it (11 R309, R311). -/
def canReset (s : State) (c : CanCtl) : State :=
  let s := ((List.range 8).filter (sdoOf c)).foldl dropSdo (canRestart s c)
  canBoot { s with hbAt := s.hbAt.filter (fun p => decide (consumerCtl s p.1 ≠ c))
                   hbExpired := s.hbExpired.filter (fun n => decide (consumerCtl s n ≠ c)) } c

/-- Whether a reset command reaches a controller; reset communication also ends the state after eight bus-offs (11 R309). -/
def resetFor (s : State) (c : CanCtl) (node : Nat) : Bool :=
  s.booted && jbool s (canIndex c) 1 && decide ((s.can c).err ≠ 2) && (decide (node = 0) || decide (node = canNode s c))

/-- NMT_RESET_COMMUNICATION. -/
def nmtResetComm (s : State) (c : CanCtl) (node : Nat) : State := if resetFor s c node then canReset s c else s

/-- NMT_RESET_NODE: handled as reset communication and counted. -/
def nmtResetNode (s : State) (c : CanCtl) (node : Nat) : State :=
  if resetFor s c node then canReset (jbump s (canIndex c) 15) c else s

/-! ## Heartbeats (11 R311, R312) -/

/-- A heartbeat at a consumer entry: `hbAt` holds the time after it, 0 after an expiry. One that comes before the batch is closed comes before
the expiry is judged. -/
def hearBeat (s : State) (c : CanCtl) (node n : Nat) : State :=
  let x := consumer s n
  if x.1 ≠ 0 ∧ x.2.1 = node ∧ x.2.2 = c.num then
    let back := decide (Store.find? s.hbAt n = some 0)
    let s := { s with hbAt := Store.insert s.hbAt n (s.time.now + 1), hbExpired := s.hbExpired.filter (fun m => decide (m ≠ n)) }
    if back then emcyOne s c 0 0 0 else s
  else s

/-- HEARTBEAT_RECEIVED (11 R312). -/
def heartbeatReceived (s : State) (c : CanCtl) (node : Nat) : State :=
  if s.canUp c then (List.range 32).foldl (fun s n => hearBeat s c node n) s else s

/-- HEARTBEAT_CONSUMER_EXPIRY (11 R312): judged when the junction closes the first batch at or after the expiry; the station concerned drops.
Without a configuration in force no batch is closed. -/
def heartbeatExpiry (s : State) (n : Fin 32) : State :=
  match Store.find? s.hbAt n.val, s.config with
  | some t, some c =>
    let x := consumer s n.val
    if t ≠ 0 ∧ x.1 ≠ 0 then
      expireConsumer (advanceTo s (gridFrom (Nat.max s.time.now (t - 1 + x.1)) c.phi (Nat.max 1 c.tBase))) n.val
    else s
  | _, _ => s

/-- HEARTBEAT_PRODUCER (11 R311): every 1017 ms. -/
def heartbeatProducer (s : State) (c : CanCtl) : State :=
  let ms := jget s 0x1017 0
  if s.canUp c && decide (ms ≠ 0) && decide ((s.can c).nmt ≠ .bootUp) then
    let s := advanceTo s ((s.can c).hbAt + ms * 1000000)
    let s := s.modCan c (fun x => { x with hbAt := s.time.now })
    sendHeartbeat s c (s.can c).nmt.code
  else s

/-! ## Error states (11 R309) -/

/-- BUS_OFF (11 R309): the eighth within 60 s keeps the controller off. The transmit error counter has passed 255. -/
def busOff (s : State) (c : CanCtl) : State :=
  if s.canUp c then
    let recent := s.time.now :: (s.can c).busOffs.filter (fun t => decide (s.time.now < t + 60000000000))
    let s := jbump s (canIndex c) 11
    let s := jset s (canIndex c) 10 (jget s (canIndex c) 10 / 256 * 256 + 255)
    s.modCan c (fun x => { x with err := if 8 ≤ recent.length then 3 else 2, busOffs := recent })
  else s

/-- BUS_OFF_RECOVERY (11 R309): not from the state after eight bus-offs. -/
def busOffRecovery (s : State) (c : CanCtl) : State :=
  if (s.can c).err = 2 then
    let s := jset (s.modCan c (fun x => { x with err := 0 })) (canIndex c) 10 0
    emcyOne s c 0x8140 0 0
  else s

/-- CONTROLLER_ERROR_PASSIVE (11 R309, Table 11-4): error-passive above 127 in either counter (ISO 11898-1). -/
def errorPassive (s : State) (c : CanCtl) (tec rec_ : Nat) : State :=
  if s.canUp c then
    let s := jset s (canIndex c) 10 (Nat.min 255 tec + 256 * Nat.min 255 rec_)
    let passive := decide (127 < tec) || decide (127 < rec_)
    let was := decide ((s.can c).err = 1)
    let s := s.modCan c (fun x => { x with err := if passive then 1 else 0 })
    if passive && !was then emcyOne s c 0x8120 0 0 else if was && !passive then emcyOne s c 0 0 0 else s
  else s

end Sys2Proof.Machine
end

