-- ==== Sys2Proof/Machine/Fire.lean ====
section
/-! DEFINITION. What fires together at one edge, in the order of R39: the entries of the time base in ascending index, the direct and
epoch compares after them, and what comes before the batch that a cycle start closes (01 R16, 02 R36 to R41). -/

namespace Sys2Proof.Machine

open Sys2Proof

/-! ## Entries of the time base -/

/-- What an entry of the time base does at its firing (02 R40, 09 Table 09-2). -/
def fireEntry (s : State) (i : Nat) : State :=
  match s.cut i with
  | some e =>
    match CutEntry.act e with
    | 6 => ringSlotDue s i
    | 7 => windowDue s i
    | 8 => ecnDue s i
    | 9 => userEventDue s i
    | 10 => ppsEntryDue s i
    | 11 => bestWindowDue s (if CutEntry.dir e then .west else .east) i
    | 12 => syncDue s i
    | 13 => syncWindowDue s i
    | _ => s
  | none => s

/-- Whether entry `i` is due at the instant `t` of node time and has not fired at it. -/
def State.dueEntry (s : State) (t i : Nat) : Bool :=
  match s.cut i with
  | some e => decide (6 ≤ CutEntry.act e) && decide (CutEntry.act e ≤ 13) && s.firesAt e t && decide (Store.get s.ring.fired 0 i ≤ t)
  | none => false

/-- Entry `i` fires at `t` in its turn, ahead of its command, if it is due. -/
def fireInTurn (t : Nat) (s : State) (i : Nat) : State := if s.dueEntry t i then markEarly (fireEntry s i) (.entry i) else s

/-- Entries of the cutting list in force. -/
def State.cutLength (s : State) : Nat :=
  match s.config with
  | some c => c.cut.length
  | none => 0

/-- The entries below index `n` that are due at `t` fire (02 R39). -/
def fireBelow (s : State) (t n : Nat) : State := (List.range n).foldl (fireInTurn t) s

/-! ## Compares (02 R37 to R39) -/

/-- Whether a direct compare is due now. -/
def State.dueDc (s : State) (n : Nat) : Bool :=
  match s.time.dc[n]? with
  | some x => decide (x.state = 1) && decide (waitFor s.time.now x.ns = 0)
  | none => false

/-- Whether an epoch compare is due now. EC3 of a second-aligned PPS_OUT raises no trigger. -/
def State.dueEc (s : State) (n : Nat) : Bool :=
  match s.time.ec[n]? with
  | some x => decide (x.state = 1) && x.close && decide (x.sec * 1000000000 + x.ns ≤ s.time.now) && !(decide (n = 3) && s.ppsSecond)
  | none => false

/-- The direct compares below `n` that are due fire. -/
def fireDirect (s : State) (n : Nat) : State :=
  (List.range n).foldl (fun s i => if s.dueDc i then markEarly (directCompareDue s i) (.direct i) else s) s

/-- The epoch compares below `n` that are due fire. -/
def fireEpoch (s : State) (n : Nat) : State :=
  (List.range n).foldl (fun s i => if s.dueEc i then markEarly (epochCompareDue s i) (.epoch i) else s) s

/-- Instant at which a direct compare is due. -/
def State.dcAt (s : State) (n : Nat) : Option Nat :=
  match s.time.dc[n]? with
  | some x => if x.state = 1 then some (s.time.now + waitFor s.time.now x.ns) else none
  | none => none

/-- Instant at which an epoch compare is due: of EC3 under a second-aligned PPS_OUT the next second. -/
def State.ecAt (s : State) (n : Nat) : Option Nat :=
  if n = 3 ∧ s.ppsSecond then some s.nextSecond
  else match s.time.ec[n]? with
  | some x => if x.state = 1 ∧ x.close then some (Nat.max s.time.now (x.sec * 1000000000 + x.ns)) else none
  | none => none

/-! ## The cycle start (01 R16, 02 R39, R41) -/

/-- Receive windows that have ended by now are closed, so that their frames wait for the batch and no others do (01 R16). -/
def closeWindows (s : State) : State :=
  (s.ring.rx.map Prod.fst).foldl (fun s id =>
    if (s.rxOf id).opened.any (fun w => decide (w.2 ≤ s.time.now)) then closeWindow s id else s) s

/-- Index of the cycle-start entry that fires at `t`. -/
def State.cycleEntry (s : State) (t : Nat) : Nat :=
  match s.config with
  | some c => (c.cut.findIdx? (fun e => decide (CutEntry.act e = 1) && s.firesAt e t)).getD 0
  | none => 0

/-- User event entries due at `t` fire, whatever their index: their triggers belong to the batch of that instant (02 R41). -/
def fireEvents (s : State) (t : Nat) : State :=
  (List.range s.cutLength).foldl (fun s i =>
    if (s.cut i).any (fun e => decide (CutEntry.act e = 9)) then fireInTurn t s i else s) s

/-- What comes before the batch of the cycle start at `t` is closed: entries of lower index and every trigger due at that instant, and the
receive windows that have ended. -/
def beforeBatch (s : State) (t : Nat) : State :=
  closeWindows (fireEpoch (fireDirect (fireEvents (fireBelow s t (s.cycleEntry t)) t) 8) 4)

/-- The next cycle start in RUN (01 R16, R17, 03 R91, R94). A limp timer at zero at C_k is judged before a rejoin. -/
def cycleDue (s : State) : State :=
  match s.config, s.vote.k with
  | some c, some k0 =>
    if s.inRun then
      let cK := nextC s c
      let k := k0 + (cK - s.vote.cK) / Nat.max 1 c.tBase
      let s := advanceTo s cK
      if s.badAt 1 cK then cutFault s
      else
        let s := if s.vote.limpNs = some 0 then enterSafe s 2 else s
        let s := rejoinStep (transferStep (beforeBatch s cK) k)
        if s.inRun then startCycle s c k cK false else s
    else s
  | _, _ => s

end Sys2Proof.Machine
end

