-- ==== Sys2Proof/Machine/Apply.lean ====
section
/-! DEFINITION. The output apply: at O_k in each lane's counter its section takes the released image, after everything else that is due
at that instant (01 R15, R21, R23, 02 R39, R40, 07 R199, R206, R210 to R214). -/

namespace Sys2Proof.Machine

open Sys2Proof

/-- The vote of the cycle in progress where it is due at `t` and has not been taken. -/
def voteBefore (s : State) (t : Nat) : State :=
  match s.config with
  | some c => if s.inRun && decide (s.vote.k.isSome) && decide (s.vote.cK + c.vOff = t) && decide (s.vote.kV ≠ s.vote.k) then
      markEarly (voteDue s) .vote else s
  | none => s

/-- The cycle start where it is due at `t` and has not been taken. -/
def cycleBefore (s : State) (t : Nat) : State :=
  match s.config with
  | some c => if s.inRun && decide (s.vote.k.isSome) && decide (s.vote.cK < t) && decide (nextC s c = t) then
      markEarly (cycleDue s) .cycle else s
  | none => s

/-- A sample of one lane that is due at the lane time of an output apply is taken before any section applies (01 R15). -/
def sampleBefore (t : Nat) (s : State) (l : LaneId) : State :=
  let s := advanceTo s (s.laneAt l t)
  if s.runs l && decide (s.sampleAt l = t) then markEarly (sampleDue s l) (.sample l) else s

/-- One lane at O_k in its own counter. -/
def applyAt (c : Container) (t : Nat) (s : State) (l : LaneId) : State :=
  switching (advanceTo s (s.laneAt l t)) (fun s => applyLane c s l)

/-- OUTPUT_APPLY (01 R21, R23, 03 R87): at O_k each section sets its elements from its lane's copy of the released image, last of all
that is due then. A release that has not happened by O_k puts the device in the safe state with cause 6. -/
def outputApply (s : State) : State :=
  match s.config with
  | some c =>
    let o := s.applyNext
    if s.inRun && decide (s.vote.k.isSome) then
      let s := advanceTo s o.1
      if s.badAt 5 o.1 then cutFault s
      else
        let ok := s.released o.2
        let s := voteBefore (cycleBefore s o.1) o.1
        let s := { s with vote := { s.vote with oAt := o.1 } }
        if !ok then enterSafe s 6
        else if s.inRun && decide (s.vote.relK = some o.2) then
          let s := (s.laneOrder o.1).foldl (sampleBefore o.1) s
          let s := switching s (fun s => if s.field.operating then (List.range 16).foldl lockChan s else s)
          let s := (s.laneOrder o.1).foldl (applyAt c o.1) s
          if s.field.operating then
            let s := planTests s c o.2
            (List.range 16).foldl (fun s ch => planPulse s c o.2 ch) s
          else s
        else s
    else s
  | none => s

end Sys2Proof.Machine
end

