-- ==== Sys2Proof/Machine/Code.lean ====
section
/-! DEFINITION. What the Gauge reads from the code of a container: control flow, faults that a path can raise, worst-case
times, and the bytes that instructions store to and load from (05 R161 to R164, 12 R327, R338, 04 R127). -/

namespace Sys2Proof.Machine

open Sys2Proof

/-! ## Findings -/

/-- A failing condition of admission: reason code (12 Table 12-2), item kind and id (Table 12-3), computed value, bound and
topology. -/
structure Finding where
  code : Nat
  kind : Nat
  id   : Nat
  value : Int
  bound : Int
  topo : Nat
  deriving DecidableEq, Repr

/-- A finding without a topology (9010.08 reads 16#FFFF). -/
def finding (code kind id : Nat) (value bound : Int) : Finding :=
  { code := code, kind := kind, id := id, value := value, bound := bound, topo := 65535 }

/-- One finding when the condition holds. -/
def foundIf (b : Bool) (f : Finding) : List Finding := if b then [f] else []

/-- Lower reason code, then lower item id (12 R325). -/
def Finding.before (a b : Finding) : Bool := decide (a.code < b.code) || (decide (a.code = b.code) && decide (a.id < b.id))

/-- The finding that a check reports (12 R325). -/
def firstFinding (fs : List Finding) : Option Finding :=
  fs.foldl (fun m f => match m with
    | some g => if f.before g then some f else some g
    | none => some f) none

/-! ## The code of an engine -/

/-- The program of an engine or half in a lane. -/
def programOf (c : Container) (l : LaneId) (slot : Nat) : Program :=
  (c.programs.find? (fun p => decide (p.slot = slot) && (decide (p.lanes = 0) || decide (p.lanes = l.num + 1)))).getD
    { lanes := 0, slot := slot, words := [], routines := [] }

/-- Id of an engine or half: 256 × lane + 2n + h (12 Table 12-3). -/
def engineItem (l : LaneId) (slot : Nat) : Nat := 256 * l.num + slot

/-- An engine or half by lane and place. -/
def engineAt (l : LaneId) (slot : Nat) : EngineId :=
  { lane := l, num := ⟨slot / 2 % 16, Nat.mod_lt _ (by decide)⟩, half := decide (slot % 2 = 1) }

/-- Instructions that an instruction store holds (04 Table 04-1). -/
def storeWords (c : Container) (slot : Nat) : Nat := if isSplit c slot then 32768 else 65536

/-- Bytes of a local store (04 Table 04-1). -/
def localSize (c : Container) (slot : Nat) : Nat := if isSplit c slot then 32768 else 65536

/-- Wait that the Gauge counts for a store access (05 R161). -/
def gaugeWait (c : Container) (slot : Nat) : Nat := if isSplit c slot then 32 else 16

/-- An instruction word; the store past the code holds zero words. -/
def progWord (p : Program) (i : Nat) : Nat :=
  match p.words[i]? with
  | some w => w.toNat
  | none => 0

/-- The routine that holds an instruction: first index and length. -/
def progRoutine (p : Program) (i : Nat) : Nat × Nat :=
  (p.routines.find? (fun r => decide (r.1 ≤ i) && decide (i < r.1 + r.2))).getD (0, p.words.length)

/-- Control flow of an instruction word (05 R153 to R155). -/
inductive Ctl where
  | next | jump (t : Nat) | branch (t : Nat) | call (g : Nat) (cond : Bool) | ret | loop (n : Fin 4) (len max : Nat)
  deriving DecidableEq, Repr

/-- Control flow by opcode. -/
def ctlOf (w : Nat) : Ctl :=
  match field w 26 6 with
  | 0x30 => .jump (field w 0 16)
  | 0x31 => .branch (field w 0 16)
  | 0x32 => .branch (field w 0 16)
  | 0x33 => .call (field w 0 16) false
  | 0x34 => .call (field w 0 16) true
  | 0x35 => .call (field w 0 16) true
  | 0x36 => .ret
  | 0x37 => .loop (fieldFin w 24 2) (field w 14 10) (field w 0 14)
  | _ => .next

/-- Base clocks of an instruction without a branch (05 Tables 05-2, 05-4, 05-6, 05-9). -/
def baseClocks (w : Nat) : Nat :=
  let op := field w 26 6
  let fn := field w 22 4
  if op = 0x10 ∨ op = 0x11 then 2
  else if op = 0x24 ∨ op = 0x25 then (if fn = 7 then 3 else if fn = 8 ∨ fn = 9 then 34 else 1)
  else if op = 0x29 then
    (if fn ≤ 1 ∨ fn = 7 ∨ fn = 8 then 3 else if fn = 2 then 4 else if fn = 3 then 20 else if fn = 4 then 24 else 1)
  else if op = 0x2B then 2
  else if op = 0x2E then (if fn = 2 then 2 else if fn = 3 then 4 else 1)
  else if op = 0x2F then 2
  else if 0x38 ≤ op ∧ op ≤ 0x3B then 6
  else if 0x3C ≤ op ∧ op ≤ 0x3E then 3
  else 1

/-- Whether an instruction accesses the lane data store (05 Table 05-2): an operand in I, Q, M, D or S, or always. -/
def touchesStore (w : Nat) : Bool :=
  let op := field w 26 6
  if op = 0x10 ∨ op = 0x11 then true
  else if op ≤ 0x0F ∨ (0x18 ≤ op ∧ op ≤ 0x22) then decide (field w 23 3 ≤ 4)
  else decide (0x38 ≤ op ∧ op ≤ 0x3E)

/-- Clocks that the Gauge counts for an instruction without a branch. -/
def gaugeClocks (wait w : Nat) : Nat := baseClocks w + (if touchesStore w then wait else 0)

/-- `longest` of 12 R327 over the region of `len` instructions from `first`; `fuel` bounds the nesting of calls and loops. -/
def longest (p : Program) (wait : Nat) : Nat → Nat → Nat → Nat
  | 0, _, _ => 0
  | fuel + 1, first, len =>
    let step := fun (m : Store Nat) (k : Nat) =>
      let i := first + (len - 1 - k)
      let w := progWord p i
      let past := fun j => if first ≤ j ∧ j < first + len then Store.get m 0 j else 0
      let cost := match ctlOf w with
        | .next => gaugeClocks wait w + past (i + 1)
        | .jump t => 2 + past (i + t)
        | .branch t => 2 + Nat.max (past (i + 1)) (past (i + t))
        | .call g _ =>
          let r := progRoutine p g
          4 + longest p wait fuel g (r.1 + r.2 - g) + past (i + 1)
        | .ret => 3
        | .loop _ n mx => 2 + mx * (2 + longest p wait fuel (i + 1) n) + past (i + 1 + n)
      Store.insert m i cost
    Store.get ((List.range len).foldl step []) 0 first

/-- wcet(x): worst-case time of a task in engine clocks, dispatch not included (12 R327). The call stack is 8 deep and the loop
stack 4 deep. -/
def wcet (c : Container) (l : LaneId) (t : Task) : Nat :=
  let slot := t.ctx / 16
  let p := programOf c l slot
  let r := progRoutine p t.entry
  longest p (gaugeWait c slot) 16 t.entry (r.1 + r.2 - t.entry)

/-! ## Paths (05 R164) -/

/-- Place on a path: instruction, bracket depth, return addresses and open loops (`iters` holds MAX). -/
structure PathAt where
  pc : Nat
  brackets : Nat
  calls : List Nat
  loops : List LoopFrame
  deriving DecidableEq, Repr

/-- The places at which execution goes on when it reaches an instruction: at the end of a loop body, its first instruction again
or past it. -/
def settlePath : Nat → PathAt → List PathAt
  | 0, p => [p]
  | fuel + 1, p =>
    match p.loops with
    | f :: rest =>
      if f.depth = p.calls.length ∧ p.pc = f.past then
        (if 2 ≤ f.iters then [{ p with pc := f.first }] else []) ++ settlePath fuel { p with loops := rest }
      else [p]
    | [] => [p]

/-- What the Gauge follows: the code, its engine, the size of its store, the task and the units assigned to the engine. -/
structure PathCode where
  prog : Program
  eng  : EngineId
  size : Nat
  task : Task
  units : List (Option Nat)
  deriving DecidableEq, Repr

/-- The places that follow once loop bodies that end there have settled (05 R154); sequence fault 37 where one lies past the end
of the store. -/
def PathCode.goOn (k : PathCode) (p : PathAt) (pc : Nat) : List Nat × List PathAt :=
  let places := settlePath 5 { p with pc := pc }
  (if places.any (fun q => decide (k.size ≤ q.pc)) then [37] else [], places.filter (fun q => decide (q.pc < k.size)))

/-- Whether the place lies in a loop body of its own routine. -/
def PathAt.body (p : PathAt) : Option LoopFrame :=
  match p.loops with
  | f :: _ => if f.depth = p.calls.length then some f else none
  | [] => none

/-- A taken jump on a path: fault 36 outside the routine or the innermost loop body (05 R153). -/
def PathCode.jump (k : PathCode) (p : PathAt) (t : Nat) : List Nat × List PathAt :=
  let pc := p.pc + t
  let r := progRoutine k.prog p.pc
  let ok := match p.body with
    | some f => (decide (pc < r.1 + r.2) && decide (pc ≤ f.past)) || decide (pc = f.past)
    | none => decide (pc < r.1 + r.2)
  if ok then k.goOn p pc else ([36], [])

/-- Both of two continuations. -/
def both (a b : List Nat × List PathAt) : List Nat × List PathAt := (a.1 ++ b.1, a.2 ++ b.2)

/-- Bracket depth after an instruction; none where it overflows or underflows (05 R140). -/
def bracketsAfter (w d : Nat) : Option Nat :=
  let op := field w 26 6
  if 0x0D ≤ op ∧ op ≤ 0x0F then (if 8 ≤ d then none else some (d + 1))
  else if op = 0x12 ∧ field w 22 4 = 1 then (if d = 0 then none else some (d - 1))
  else some d

/-- Fault 19 where a CRC unit is not assigned to the engine or a PUB item not to the task (05 R164). -/
def PathCode.unassigned (k : PathCode) (w : Nat) : Bool :=
  let op := field w 26 6
  if op = 0x2E then decide (k.units.getD (field w 21 1) none ≠ some k.eng.slot)
  else if op = 0x2F then !k.task.pubs.any (fun x => decide (x.kind = field w 24 2) && decide (x.id = field w 0 10))
  else false

/-- One instruction on a path: the fault codes it can raise and the places that follow (05 R162 to R164). -/
def PathCode.step (k : PathCode) (p : PathAt) : List Nat × List PathAt :=
  let w := progWord k.prog p.pc
  if (decodeWord k.eng w).isNone then ([32], [])
  else match ctlOf w with
    | .next =>
      match bracketsAfter w p.brackets with
      | none => ([33], [])
      | some d => both (if k.unassigned w then [19] else [], []) (k.goOn { p with brackets := d } (p.pc + 1))
    | .jump t => k.jump p t
    | .branch t => both (k.jump p t) (k.goOn p (p.pc + 1))
    | .call g cond =>
      let taken := if 8 ≤ p.calls.length then ([34], []) else k.goOn { p with calls := (p.pc + 1) :: p.calls } g
      if cond then both taken (k.goOn p (p.pc + 1)) else taken
    | .ret =>
      if p.body.isSome then ([if p.calls.isEmpty && decide (p.brackets ≠ 0) then 33 else 35], [])
      else match p.calls with
        | back :: rest => k.goOn { p with calls := rest } back
        | [] => if p.brackets = 0 then ([], []) else ([33], [])
    | .loop n len mx =>
      let past := p.pc + 1 + len
      let r := progRoutine k.prog p.pc
      let outer := match p.body with
        | some f => f.past
        | none => r.1 + r.2
      if 4 ≤ p.loops.length ∨ p.loops.any (fun f => decide (f.xn = n)) ∨ outer < past then ([35], [])
      else
        let f : LoopFrame := { first := p.pc + 1, past := past, iters := mx, iter := 0, xn := n, depth := p.calls.length }
        both (k.goOn p past) (if mx = 0 then ([], []) else k.goOn { p with loops := f :: p.loops } (p.pc + 1))

/-- Every place that a path from the task's entry reaches, and the faults met (instruction, code). The fuel counts the places
taken from the list. -/
def PathCode.explore (k : PathCode) : Nat → List PathAt → List PathAt → List (Nat × Nat) → List PathAt × List (Nat × Nat)
  | 0, _, seen, faults => (seen, faults)
  | _ + 1, [], seen, faults => (seen, faults)
  | fuel + 1, p :: todo, seen, faults =>
    if seen.contains p then k.explore fuel todo seen faults
    else
      let r := k.step p
      k.explore fuel (r.2 ++ todo) (p :: seen) (r.1.map (fun f => (p.pc, f)) ++ faults)

/-- The code of a task as the Gauge follows it. -/
def pathCode (c : Container) (l : LaneId) (t : Task) : PathCode :=
  let slot := t.ctx / 16
  { prog := programOf c l slot, eng := engineAt l slot, size := storeWords c slot, task := t, units := c.lcv.get l }

/-- More places than any code has: 16 bits of instruction, 4 of brackets, 8 return addresses and 4 loops of at most 21 bits each,
every place leading to at most 8 others. -/
def placeBound : Nat := 2 ^ 300

/-- Places reached and faults met from a task's entry: every one, since the fuel is past the number of places that exist. -/
def pathsOf (c : Container) (l : LaneId) (t : Task) : List PathAt × List (Nat × Nat) :=
  (pathCode c l t).explore placeBound [{ pc := t.entry, brackets := 0, calls := [], loops := [] }] [] []

/-- Instructions that a task can reach: index and word. -/
def reachable (c : Container) (l : LaneId) (t : Task) : List (Nat × Nat) :=
  let p := programOf c l (t.ctx / 16)
  ((pathsOf c l t).1.map (fun x => x.pc)).dedup.map (fun i => (i, progWord p i))

/-! ## Operands -/

/-- A run of bytes in an area (code of 04 Table 04-2). -/
structure Span where
  area : Nat
  lo   : Nat
  len  : Nat
  deriving DecidableEq, Repr

/-- Whether two spans share a byte. -/
def Span.meets (a b : Span) : Bool :=
  decide (a.area = b.area) && decide (0 < a.len) && decide (0 < b.len) && decide (a.lo < b.lo + b.len) && decide (b.lo < a.lo + a.len)

/-- Whether one span lies in another. -/
def Span.within (a b : Span) : Bool := decide (a.area = b.area) && decide (b.lo ≤ a.lo) && decide (a.lo + a.len ≤ b.lo + b.len)

/-- Bytes of a word access by opcode. -/
def wordBytes (op : Nat) : Nat :=
  if op = 0x18 ∨ op = 0x1C ∨ op = 0x1F then 1
  else if op = 0x19 ∨ op = 0x1D ∨ op = 0x20 then 2
  else if op = 0x1A ∨ op = 0x1E ∨ op = 0x21 then 4
  else 8

/-- Direct store operand of an instruction (12 R338). -/
def storeSpan (w : Nat) : Option Span :=
  let op := field w 26 6
  if (0x09 ≤ op ∧ op ≤ 0x0C) ∨ op = 0x10 ∨ op = 0x11 then some { area := field w 23 3, lo := field w 3 20, len := 1 }
  else if 0x1F ≤ op ∧ op ≤ 0x22 then
    (if field w 21 2 = 0 then some { area := field w 23 3, lo := field w 0 20, len := wordBytes op } else none)
  else if 0x38 ≤ op ∧ op ≤ 0x3B then some { area := 4, lo := 8 * field w 0 17, len := 16 }
  else if 0x3C ≤ op ∧ op ≤ 0x3E then some { area := 4, lo := 8 * field w 0 17, len := 8 }
  else none

/-- What a load reads: its operand, or with an index register every byte from OFS to the end of the area (04 R127). -/
def loadSpan (w : Nat) : Option Span :=
  let op := field w 26 6
  let a := field w 23 3
  if (0x01 ≤ op ∧ op ≤ 0x08) ∨ (0x0D ≤ op ∧ op ≤ 0x0F) then some { area := a, lo := field w 3 20, len := 1 }
  else if 0x18 ≤ op ∧ op ≤ 0x1E then
    let lo := field w 0 20
    some { area := a, lo := lo, len := if field w 21 2 = 0 then wordBytes op else areaSize (Area.ofCode a) - lo }
  else none

/-- Fence windows of a task with its L partition (04 R122). -/
def fencesOf (t : Task) : List Span :=
  { area := 5, lo := 0, len := t.lLen } :: t.fences.map (fun f => { area := f.area, lo := f.base, len := f.len })

/-- Direct store operands of a task: instruction and bytes. -/
def storesOf (c : Container) (l : LaneId) (t : Task) : List (Nat × Span) :=
  (reachable c l t).filterMap (fun x => (storeSpan x.2).map (fun a => (x.1, a)))

/-- Write set of a task: direct store operands and fence windows (12 R338). -/
def writeSet (c : Container) (l : LaneId) (t : Task) : List Span := (storesOf c l t).map (fun x => x.2) ++ fencesOf t

/-- What a task reads for 04 R127. -/
def readSet (c : Container) (l : LaneId) (t : Task) : List Span := (reachable c l t).filterMap (fun x => loadSpan x.2)

/-- Bytes of a symbol in its area. -/
def symSpan (y : Symbol) : Span := { area := y.area, lo := y.ofs, len := y.size }

/-- Whether every byte of a span belongs to some symbol of the list; `fuel` bounds the symbols passed. -/
def named (ys : List Symbol) (a : Span) : Nat → Nat → Bool
  | 0, _ => false
  | fuel + 1, x =>
    if a.lo + a.len ≤ x then true
    else
      let past := ys.foldl (fun m y => if y.area = a.area ∧ y.ofs ≤ x then Nat.max m (y.ofs + y.size) else m) 0
      if x < past then named ys a fuel past else false

/-- Symbols that hold a byte of a span; 0 stands for a byte without a name (12 Table 12-3). -/
def symbolsIn (c : Container) (l : LaneId) (a : Span) : List Nat :=
  let ys := c.symbols.filter (fun y => decide (y.area = a.area) && (decide (y.single = 0) || decide (y.single = l.num + 1)))
  (if named ys a (ys.length + 1) a.lo then [] else [0]) ++
    (ys.filter (fun y => Span.meets (symSpan y) a)).map (fun y => y.id)

/-- Bytes that two spans share. -/
def Span.common (a b : Span) : Span :=
  let lo := Nat.max a.lo b.lo
  { area := a.area, lo := lo, len := Nat.min (a.lo + a.len) (b.lo + b.len) - lo }

end Sys2Proof.Machine
end

