-- ==== Sys2Proof/Machine/GaugeForm.lean ====
section
/-! DEFINITION. The Gauge's form checks and check 1: capacities and form (12 R325, R326, Table 12-2). -/

namespace Sys2Proof.Machine

open Sys2Proof

/-- What admission takes from the device: variant, behaviour level (2000.04), split permission, and for a delta its base (12 R323). -/
structure GaugeEnv where
  variantC : Bool
  level : Nat
  esc6  : Bool
  base  : Option Container
  deriving DecidableEq, Repr

/-- Whether the V2 ring level is in force. -/
def GaugeEnv.v2ring (g : GaugeEnv) : Bool := bitOf g.level 0

/-- A parameter of a container, at the default of its table without one. -/
def paramOf (c : Container) (index sub : Nat) : Nat :=
  match c.params.find? (fun p => decide (p.1 = regKey index sub)) with
  | some p => p.2
  | none => tableDefault (regKey index sub)

/-- Cluster-cycle length in ns (09 R242). -/
def tCc (c : Container) : Nat := c.ring.tRound * c.ring.nR

/-- Cutting-list entries with their indices, empty ones left out. -/
def cutEntries (c : Container) : List (Nat × CutEntry) :=
  (c.cut.zipIdx.map (fun p => (p.2, p.1))).filter (fun p => decide (CutEntry.act p.2 ≠ 0))

/-- Firings of an entry in a cluster cycle (09 R244). -/
def firings (c : Container) (e : CutEntry) : List Nat :=
  let p := 2 ^ CutEntry.rep e * c.ring.tRound
  if p = 0 then [] else (List.range (tCc c / p)).map (fun i => e.w0 + i * p)

/-- Entries of an action. -/
def cutOf (c : Container) (act : Nat) : List (Nat × CutEntry) :=
  (cutEntries c).filter (fun p => decide (CutEntry.act p.2 = act))

/-! ## Form -/

/-- Whether the sampled fields hold the 16-bit status and the 8-bit element fault map of every DO channel (07 R203). -/
def doFieldsHeld (c : Container) : Bool :=
  (List.range 16).all (fun n => c.fields.any (fun f => decide (f.src = .doStatus n) && decide (f.kind = .bit 16)) &&
    c.fields.any (fun f => decide (f.src = .doMap n) && decide (f.kind = .bit 8)))

/-- Whether every count field declares a band of 1 to 255 counts (07 R197). -/
def countBandsOk (c : Container) : Bool :=
  c.fields.all (fun f => match f.src with
    | .diCount _ => decide (1 ≤ f.band) && decide (f.band ≤ 255)
    | _ => true)

/-- Whether a transmit slot of the ring schedule is that of an entry. -/
def slotEntry (x : RingSlot) (e : CutEntry) : Bool :=
  decide (x.flow = CutEntry.tgt e) && decide (x.offset = e.w0) && decide (x.rep = CutEntry.rep e) && decide (x.aux = CutEntry.aux e)

/-- Whether a container says twice the same of what a cutting-list entry carries (09 Table 09-1): AUX and SAFE of a slot or window are
the length and the envelope of its flow, the transmit slots are the node's own in the ring schedule, AUX of a converter start is the index
of the field that it fills, and that field names the entry.
A container holds each value once; that these records repeat it and that a difference is no container is a DESIGN CHOICE (log 84). -/
def entriesAgree (c : Container) : Bool :=
  (cutEntries c).all (fun p =>
    let e := p.2
    let tgt := CutEntry.tgt e
    match CutEntry.act e with
    | 3 => (match c.fields[CutEntry.aux e]? with
        | some f => decide (f.src = .conv tgt p.1)
        | none => false)
    | 6 => (c.flows.filter (fun f => decide (f.id = tgt) && decide (f.role = 1))).all (fun f =>
        decide (f.aux = CutEntry.aux e) && decide (f.safe = CutEntry.safe e))
    | 7 => (c.flows.filter (fun f => decide (f.id = tgt) && decide (f.role = 2))).all (fun f =>
        decide (f.aux = CutEntry.aux e) && decide (f.safe = CutEntry.safe e))
    | _ => true) &&
  (c.ring.order.isEmpty ||
    ((cutOf c 6).all (fun p => c.ring.slots.any (fun x => decide (x.node = c.nodeId) && slotEntry x p.2)) &&
     (c.ring.slots.filter (fun x => decide (x.node = c.nodeId))).all (fun x => (cutOf c 6).any (fun p => slotEntry x p.2)))) &&
  c.fields.all (fun f => match f.src with
    | .conv n i => (cutOf c 3).any (fun p => decide (p.1 = i) && decide (CutEntry.tgt p.2 = n))
    | _ => true)

/-- Form checks: structure, revision, variant and level, ring schedule identity (codes 1 to 4); the fields of every DO channel belong to
the structure of a container for a device with a field die (07 R203). DESIGN CHOICE (log 5): 09 R240 gives the schedule under the digest no layout of
bytes, so a schedule carries its digest as a number, which is not computed from it. -/
def formFindings (g : GaugeEnv) (c : Container) : List Finding :=
  foundIf (!c.formOk || !(g.variantC || doFieldsHeld c) || !countBandsOk c || !entriesAgree c) (finding 1 0 0 0 0) ++
  foundIf (decide (c.revision ≠ 1)) (finding 2 0 0 c.revision 1) ++
  foundIf (decide (c.variantC ≠ g.variantC) || decide (c.level ≠ g.level)) (finding 3 0 0 0 0) ++
  foundIf (decide (c.ringIdent ≠ c.ring.digest % 4294967296) || decide (c.ring.identity ≠ c.ringIdent))
    (finding 4 0 0 c.ringIdent (c.ring.digest % 4294967296 : Nat))

/-! ## Capacities (01 R10, Table 01-2; 00 R2) -/

/-- A unit count above its capacity: row of Table 01-2. -/
def tooMany (row n cap : Nat) : List Finding := foundIf (decide (cap < n)) (finding 101 1 row n cap)

/-- Digital inputs that a sampled field names. -/
def fieldDi (f : Field) : Option Nat :=
  match f.src with
  | .diState n | .diWire n | .diIndet n | .diCount n => some n
  | _ => none

/-- Digital outputs that a sampled field names. -/
def fieldDo (f : Field) : Option Nat :=
  match f.src with
  | .doStatus n | .doMap n => some n
  | _ => none

/-- Analog inputs that a sampled field names. -/
def fieldAi (f : Field) : Option Nat :=
  match f.src with
  | .ai n | .aiStatus n => some n
  | .conv n _ => if n < 8 then some n else none
  | _ => none

/-- Line-analog inputs that a sampled field names. -/
def fieldLa (f : Field) : Option Nat :=
  match f.src with
  | .la n | .laStatus n => some n
  | .conv n _ => if n < 8 then none else some (n - 8)
  | _ => none

/-- Digital inputs whose pulses a sampled field counts. -/
def fieldCount (f : Field) : Option Nat :=
  match f.src with
  | .diCount n => some n
  | _ => none

/-- Whether a sampled field is a recognition result. -/
def fieldRecog (f : Field) : Bool :=
  match f.src with
  | .recog _ => true
  | _ => false

/-- One more than the highest number of a list: the units that it needs. -/
def unitsNeeded (ns : List Nat) : Nat := ns.foldl (fun m n => Nat.max m (n + 1)) 0

/-- Parameters of a range of indices. -/
def paramsIn (c : Container) (lo hi : Nat) : Nat :=
  (c.params.filter (fun p => decide (lo ≤ p.1 / 256) && decide (p.1 / 256 ≤ hi))).length

/-- Units of the field die that a container refers to (00 R2), by row of Table 01-2: inputs, outputs with HEALTH, analog inputs,
line-analog inputs and supply-system definitions. -/
def fieldDieUnits (c : Container) : List (Nat × Nat) :=
  let starts := cutOf c 3
  [(14, (c.fields.filterMap fieldDi).length + c.pulse.length + paramsIn c 0x5000 0x50FF),
   (15, (c.fields.filterMap fieldDo).length + c.doMap.length + c.healthMap.length + paramsIn c 0x5100 0x51FF +
     (c.fields.filter (fun f => decide (f.src = .fieldDie))).length),
   (16, (c.fields.filterMap fieldAi).length + paramsIn c 0x5200 0x52FF +
     (starts.filter (fun p => decide (CutEntry.tgt p.2 < 8))).length),
   (17, (c.fields.filterMap fieldLa).length + paramsIn c 0x5300 0x5302 +
     (starts.filter (fun p => decide (8 ≤ CutEntry.tgt p.2))).length),
   (18, (c.fields.filter fieldRecog).length + paramsIn c 0x5303 0x53FF)]

/-- First byte past a sampled field in I. -/
def Field.past (f : Field) : Nat :=
  match f.kind with
  | .bit n => f.iOfs + (f.iBit + n + 7) / 8
  | _ => f.iOfs + f.size

/-- First byte past the field of I that a substitute fills. -/
def Subst.past (x : Subst) : Nat := if x.bits = 0 then x.iOfs + x.len else x.iOfs + (x.bit + x.bits + 7) / 8

/-- Bytes of the lane data store that regions of a container reach in an area. -/
def areaNeeded (c : Container) (a : Nat) : Nat :=
  let i := if a = 0 then
      (c.fields.map Field.past) ++ ((c.flows.flatMap (fun f => f.substs)).map Subst.past) ++
      ((c.telegrams.flatMap (fun t => t.substs)).map Subst.past) ++ ((c.stations.flatMap (fun x => x.substs)).map Subst.past) ++ ((c.flows.filter (fun f => decide (f.role = 2))).map (fun f => f.iOfs + f.dataLen)) ++
      ((c.telegrams.filter (fun t => decide (t.role = 2))).map (fun t => t.iOfs + t.dLen)) ++ (c.canRx.map (fun r => r.iOfs + r.len)) ++
      (c.groups.map (fun x => x.errOfs + 8))
    else []
  let q := if a = 1 then c.canTx.map (fun r => r.qOfs + r.len) ++ c.doMap.map (fun p => p.2.1 + 1) ++ c.healthMap.map (fun p => p.1 + 1) ++
      [c.qExt] else []
  let out := ((c.flows.filter (fun f => decide (f.role = 1) && decide (f.area = a))).map (fun f => f.ofs + f.dataLen)) ++
    ((c.telegrams.filter (fun t => decide (t.role = 1) && decide (t.area = a))).map (fun t => t.ofs + t.dLen))
  (i ++ q ++ out).foldl Nat.max 0

/-- Safe engines that a container names anywhere: tasks, order lists, programs, symbols in L, splits, check-value units. -/
def enginesNamed (c : Container) : List Nat :=
  (c.tasks.map (fun t => t.ctx / 32)) ++ (c.orders.map (fun o => o.slot / 2)) ++ (c.programs.map (fun p => p.slot / 2)) ++
  ((c.symbols.filter (fun y => decide (y.area = 5))).map (fun y => y.slot / 2)) ++ (LaneId.all.flatMap (fun l => c.splits.get l)) ++
  (LaneId.all.flatMap (fun l => (c.lcv.get l).filterMap (fun x => x.map (fun slot => slot / 2))))

/-- Ring nodes that a container names (00 Table 00-3): 1 to 64. -/
def nodesNamed (c : Container) : List Nat :=
  c.nodeId :: c.ring.order ++ c.ring.slots.map (fun x => x.node) ++ c.ring.syncs.map (fun x => x.node) ++ c.ring.relays.map (fun x => x.1) ++
  c.flows.map (fun f => f.producer) ++ (c.stations.filter (fun x => decide (32 ≤ x.no))).map (fun x => x.node)

/-- Flow of an event source. -/
def EventSrc.flowOf : EventSrc → Option Nat
  | .flow id => some id
  | _ => none

/-- Flows that a container names. -/
def flowsNamed (c : Container) : List Nat :=
  c.flows.map (fun f => f.id) ++ c.ring.slots.map (fun x => x.flow) ++ c.stations.flatMap (fun x => x.flows) ++ c.groups.flatMap (fun x => x.flows) ++
  c.tasks.flatMap (fun t => (match t.kind with
    | .event _ _ src => src.filterMap EventSrc.flowOf
    | _ => []) ++ (t.pubs.filter (fun x => decide (x.kind = 0))).map (fun x => x.id))

/-- Lane numbers that a container names: 0 every lane, else 1 to 3. -/
def lanesNamed (c : Container) : List Nat :=
  c.tasks.map (fun t => t.scope) ++ c.orders.map (fun o => o.lanes) ++ c.programs.map (fun p => p.lanes) ++ c.links.map (fun k => k.lanes) ++
  c.symbols.map (fun y => y.single)

/-- Supply-system definitions that parameters give, counted from 0 (08 Table 08-4). -/
def definitionsNamed (c : Container) : List Nat :=
  (c.params.filter (fun p => decide (0x5311 ≤ p.1 / 256) && decide (p.1 / 256 ≤ 0x53FF))).map (fun p => p.1 / 256 - 0x5311)

/-- Capacities of Table 01-2, names outside the ranges of 00 Table 00-3, relay delays above 50 ns (10 R296), and the field-die units of a device
without a field die (code 101; DESIGN CHOICE, log 82: this code for the names and the delays too). -/
def capacityFindings (g : GaugeEnv) (c : Container) : List Finding :=
  tooMany 1 (unitsNeeded (enginesNamed c)) 16 ++
  tooMany 1 (unitsNeeded (lanesNamed c)) 4 ++
  tooMany 5 (unitsNeeded (c.tasks.map (fun t => t.ctx))) 512 ++
  ((List.range 5).flatMap (fun a => tooMany 6 (areaNeeded c a) (areaSize (Area.ofCode a)))) ++
  tooMany 7 c.cut.length 16384 ++
  tooMany 7 (unitsNeeded (c.flows.map (fun f => f.srcCli))) 16384 ++
  tooMany 8 c.ring.order.length 64 ++
  foundIf (decide (c.ring.order.length = 1) || !decide c.ring.order.Nodup || (nodesNamed c).any (fun n => decide (n = 0) || decide (64 < n)))
    (finding 101 1 8 c.ring.order.length 64) ++
  foundIf (c.ring.relays.any (fun x => decide (50 < x.2))) (finding 101 1 8 (c.ring.relays.foldl (fun (m : Nat) x => Nat.max m x.2) 0 : Nat) 50) ++
  tooMany 8 (unitsNeeded (flowsNamed c)) 1024 ++
  tooMany 9 c.ring.syncs.length 16 ++
  tooMany 9 (c.ring.syncs.filter (fun x => x.delay.isSome)).length 4 ++
  tooMany 10 (unitsNeeded (c.telegrams.map (fun t => t.ctx) ++
    c.tasks.flatMap (fun t => (t.pubs.filter (fun x => decide (x.kind ≠ 0))).map (fun x => x.id)))) 256 ++
  tooMany 10 (unitsNeeded (c.telegrams.map (fun t => t.port))) 2 ++
  tooMany 11 (unitsNeeded (c.canRx.map (fun r => r.ctl) ++ c.canTx.map (fun r => r.ctl))) 2 ++
  tooMany 11 (unitsNeeded (c.canRx.map (fun r => r.obj))) 64 ++
  tooMany 11 (unitsNeeded (c.canTx.map (fun r => r.obj))) 32 ++
  tooMany 12 (unitsNeeded (c.stations.map (fun x => x.no) ++ c.groups.flatMap (fun x => x.stations))) 64 ++
  tooMany 13 (unitsNeeded (c.cvus.map (fun x => x.unit))) 8 ++
  tooMany 13 (LaneId.all.foldl (fun m l => Nat.max m (c.lcv.get l).length) 0) 2 ++
  tooMany 14 (unitsNeeded (c.fields.filterMap fieldDi)) 32 ++
  tooMany 14 (unitsNeeded (c.pulse ++ c.fields.filterMap fieldCount)) 8 ++
  tooMany 15 (unitsNeeded (c.fields.filterMap fieldDo)) 16 ++
  tooMany 15 (unitsNeeded (c.doMap.map (fun p => p.1))) 16 ++
  tooMany 16 (unitsNeeded (c.fields.filterMap fieldAi)) 8 ++
  tooMany 17 (unitsNeeded (c.fields.filterMap fieldLa)) 4 ++
  tooMany 18 (unitsNeeded (definitionsNamed c)) 8 ++
  (if g.variantC then (fieldDieUnits c).flatMap (fun p => tooMany p.1 p.2 0) else [])

/-- Routines of a program by their words; code without a list of routines is one. -/
def Program.bodies (p : Program) : List (List (BitVec 32)) :=
  (if p.routines.isEmpty then [(0, p.words.length)] else p.routines).map (fun r => (p.words.drop r.1).take r.2)

/-- Instructions of a program that a base does not hold: those of the routines that no routine of the base equals (06 R169). -/
def Program.addedTo (p base : Program) : Nat :=
  (((Program.bodies p).filter (fun b => !(Program.bodies base).contains b)).map List.length).foldl (· + ·) 0

/-- Instruction stores and local stores, for a delta the base's code and partitions with those that it adds (codes 102, 103;
06 R169). -/
def storeFindings (g : GaugeEnv) (c : Container) : List Finding :=
  LaneId.all.flatMap (fun l => (List.range 32).flatMap (fun slot =>
    let parts := fun (x : Container) => (tasksOf x l).filter (fun t => decide (t.ctx / 16 = slot))
    let old := match g.base with
      | some b => ((parts b).filter (fun t => !(parts c).any (fun u => decide (u.id = t.id) && decide (u.lBase = t.lBase) &&
          decide (u.lLen = t.lLen)))).foldl (fun n t => n + t.lLen) 0
      | none => 0
    let n := match g.base with
      | some b => (programOf b l slot).words.length + Program.addedTo (programOf c l slot) (programOf b l slot)
      | none => (programOf c l slot).words.length
    let sum := (parts c).foldl (fun n t => n + t.lLen) old
    let far := (parts c).foldl (fun n t => Nat.max n (t.lBase + t.lLen)) sum
    foundIf (decide (storeWords c slot < n)) (finding 102 2 (engineItem l slot) n (storeWords c slot)) ++
    foundIf (decide (localSize c slot < far)) (finding 103 2 (engineItem l slot) far (localSize c slot))))

/-- First byte past the last bit variable of a symbol: of a structure, in its last element (04 R104). -/
def symLastBit (y : Symbol) : Nat :=
  if y.bool then y.ofs + y.size
  else y.members.foldl (fun m x => if x.2.2.isSome then Nat.max m (y.ofs + (y.elems - 1) * y.elemSize + x.1 + 1) else m) 0

/-- Symbols outside their areas, and bit variables above the lower MiB of D (code 104; 04 R104). -/
def symbolFindings (c : Container) : List Finding :=
  c.symbols.flatMap (fun y =>
    let size := if y.area = 5 then localSize c y.slot else areaSize (Area.ofCode y.area)
    let bits := y.bool || y.members.any (fun m => m.2.2.isSome)
    foundIf (decide (5 < y.area) || decide (size < y.ofs + y.size) || (bits && decide (y.area = 3) && decide (1048576 < symLastBit y)))
      (finding 104 4 y.id 0 0))

/-! ## The graph of order lists and links (04 R124, 12 R326) -/

/-- An entry of an order list: engine or half, place, what it is. -/
structure Node where
  slot : Nat
  pos  : Nat
  entry : OrderEntry
  deriving DecidableEq, Repr

/-- Key of an entry in a store. -/
def Node.key (n : Node) : Nat := 65536 * n.slot + n.pos

/-- Entries of every order list of a lane. -/
def nodesOf (c : Container) (l : LaneId) : List Node :=
  (List.range 32).flatMap (fun slot => (orderOf c l slot).zipIdx.map (fun p => { slot := slot, pos := p.2, entry := p.1 }))

/-- Poll point of an event task. -/
def pollOf (t : Task) : Option Nat :=
  match t.kind with
  | .event _ p _ => some p
  | _ => none

/-- The entry at which a task stands: its own, or its poll point (04 R124). -/
def nodeOf (c : Container) (l : LaneId) (ctx : Nat) : Option Node :=
  match taskAt c l ctx with
  | some t =>
    let e := match pollOf t with
      | some p => OrderEntry.poll p
      | none => OrderEntry.task ctx
    (nodesOf c l).find? (fun n => decide (n.slot = ctx / 16) && decide (n.entry = e))
  | none => none

/-- Links of a lane. -/
def linksOf (c : Container) (l : LaneId) : List Link :=
  c.links.filter (fun k => decide (k.lanes = 0) || decide (k.lanes = l.num + 1))

/-- Links whose reader stands at an entry, with the entry of the writer. -/
def writersOf (c : Container) (l : LaneId) (n : Node) : List (Nat × Node) :=
  (linksOf c l).filterMap (fun k =>
    if nodeOf c l k.reader = some n then (nodeOf c l k.writer).map (fun w => (k.writer, w)) else none)

/-- Entries that an entry waits for: the one before it and the linked writers. -/
def waitsFor (c : Container) (l : LaneId) (n : Node) : List Nat :=
  (if n.pos = 0 then [] else [Node.key { n with pos := n.pos - 1 }]) ++ (writersOf c l n).map (fun p => p.2.key)

/-- Entries in an order in which every entry follows those that it waits for; entries of a cycle are left out. -/
def topoOrder (ns : List (Node × List Nat)) : Nat → List Node → List Node
  | 0, done => done
  | fuel + 1, done =>
    match ns.find? (fun p => !done.contains p.1 && p.2.all (fun k => done.any (fun d => decide (d.key = k)))) with
    | some p => topoOrder ns fuel (done ++ [p.1])
    | none => done

/-- The entries of a lane in topological order. -/
def orderedNodes (c : Container) (l : LaneId) : List Node :=
  let ns := (nodesOf c l).map (fun n => (n, waitsFor c l n))
  topoOrder ns ns.length []

/-- Cross-engine bytes, links and cycles (code 105). -/
def linkFindings (c : Container) : List Finding :=
  LaneId.all.flatMap (fun l =>
    let n := crossBytes c l
    let k := (linksOf c l).length
    let ordered := orderedNodes c l
    foundIf (decide (16384 < n)) (finding 105 2 (engineItem l 0) n 16384) ++
    foundIf (decide (256 < k)) (finding 105 2 (engineItem l 0) k 256) ++
    ((nodesOf c l).filter (fun x => !ordered.contains x)).map (fun x => finding 105 2 (engineItem l x.slot) 0 0))

/-! ## Cycle and phases (01 R11, R13) -/

/-- Base cycles that the device knows, ns (00 Table 00-4). -/
def baseCycles : List Nat := [250000, 500000, 1000000, 2000000, 4000000, 8000000, 16000000]

/-- An offset outside its limits, charged to the lowest entry of its action. -/
def offsetFindings (c : Container) (act : Nat) (v lo hi : Int) : List Finding :=
  if lo ≤ v ∧ v ≤ hi then []
  else match cutOf c act with
    | p :: _ => [finding 107 6 p.1 v (if v < lo then lo else hi)]
    | [] => [finding 107 0 0 v (if v < lo then lo else hi)]

/-- Entries of an action fire at every instant `at` modulo T_base of the cluster cycle, once each. -/
def spacingFindings (c : Container) (act : Nat) (at_ : Int) : List Finding :=
  let t := Nat.max 1 c.tBase
  let want := wrapTo 64 (at_ % t)
  let bad := (cutOf c act).filter (fun p => (firings c p.2).any (fun x => decide (x % t ≠ want)))
  let all := (cutOf c act).flatMap (fun p => (firings c p.2).map (fun x => (x, p.1)))
  let twice := all.filter (fun x => all.any (fun y => decide (y.1 = x.1) && decide (y.2 < x.2)))
  bad.map (fun p => finding 107 6 p.1 p.2.w0 want) ++ twice.map (fun x => finding 107 6 x.2 x.1 x.1) ++
    foundIf (bad.isEmpty && twice.isEmpty && decide (all.length ≠ tCc c / t)) (finding 107 0 0 all.length (tCc c / t : Nat))

/-- T_base, φ, the cluster cycle, the cycle-start entries and the offsets of Table 01-3 (code 107). -/
def phaseFindings (c : Container) : List Finding :=
  let t := c.tBase
  let base := !baseCycles.contains t || decide (t ≤ c.phi) || !baseCycles.contains c.ring.tRound ||
    !([1, 2, 4, 8, 16, 32, 64] : List Nat).contains c.ring.nR || decide (tCc c % Nat.max 1 t ≠ 0)
  if base then [finding 107 0 0 (tCc c) t]
  else
    spacingFindings c 1 c.phi ++ spacingFindings c 2 (c.phi + c.sOff) ++ spacingFindings c 4 (c.phi + c.vOff : Nat) ++
    spacingFindings c 5 (c.phi + c.vOff + c.oOff : Nat) ++
    offsetFindings c 2 c.sOff (-(t / 2 : Nat)) (-10000) ++
    offsetFindings c 4 c.vOff (tMx c + 10000 : Nat) ((t : Int) - 20000) ++
    offsetFindings c 5 c.oOff 40000 t

/-! ## Tasks (04 R120, R127) -/

/-- Place of a task in the order list of its engine in a lane. -/
def placeOf (c : Container) (l : LaneId) (t : Task) : Option Nat := (nodeOf c l t.ctx).map (fun n => n.pos)

/-- Whether a task breaks R120 in a lane. DESIGN CHOICE (log 82): code 108 also stands for what no task can run with: no place in an order
list, an order entry of another engine or an empty context, a b half of an unsplit engine, more than eight fence windows (04 R122), no
event source or more than four (04 R114). -/
def taskBroken (c : Container) (l : LaneId) (t : Task) : Bool :=
  let named := (nodesOf c l).filter (fun n => decide (n.entry = .task t.ctx))
  let kind := match t.kind with
    | .cyclic m p => !([1, 2, 4, 8, 16, 32, 64, 128, 256, 512, 1024] : List Nat).contains m || decide (m ≤ p)
    | .event us _ src => decide (1000 * us < c.tBase) || decide (60000000 < us) || !named.isEmpty || src.isEmpty || decide (4 < src.length)
    | .error => (tasksOf c l).any (fun u => decide (u.ctx ≠ t.ctx) && decide (u.group = t.group) && decide (u.kind = .error))
  kind || decide (1 < named.length) || named.any (fun n => decide (n.slot ≠ t.ctx / 16)) || (placeOf c l t).isNone ||
    (decide (t.ctx / 16 % 2 = 1) && !isSplit c (t.ctx / 16)) || decide (8 < t.fences.length)

/-- Order lists and task parameters (code 108); an order list may name only contexts that hold a task (log 82). -/
def taskFindings (c : Container) : List Finding :=
  (c.tasks.filter (fun t =>
    LaneId.all.any (fun l => (tasksOf c l).contains t && taskBroken c l t) ||
    (decide (t.scope = 0) && LaneId.all.any (fun l => decide (placeOf c l t ≠ placeOf c .a t) || !(tasksOf c l).contains t)))).map
      (fun t => finding 108 3 t.ctx 0 0) ++
  LaneId.all.flatMap (fun l => (nodesOf c l).flatMap (fun n => match n.entry with
    | .task x => foundIf ((taskAt c l x).isNone) (finding 108 3 x 0 0)
    | .poll _ => []))

/-- Blocks of 64 bytes of the local store that a partition touches. -/
def partBlocks (t : Task) : List Nat :=
  if t.lLen = 0 then [] else (List.range ((t.lBase + t.lLen - 1) / 64 + 1 - t.lBase / 64)).map (fun i => t.lBase / 64 + i)

/-- Single-lane groups that write Q, publish, write what a voted task reads, or share a block of a local store with a voted task
(code 109; 04 R127). -/
def singleLaneFindings (c : Container) : List Finding :=
  LaneId.all.flatMap (fun l =>
    let voted := (tasksOf c l).filter (fun t => decide (t.scope = 0))
    let reads := voted.flatMap (fun t => readSet c l t)
    ((tasksOf c l).filter (fun t => decide (t.scope ≠ 0))).flatMap (fun t =>
      let ws := (writeSet c l t).filter (fun a => decide (a.area ≠ 5))
      let bad := (ws.filter (fun a => decide (a.area = 1) && decide (0 < a.len))) ++
        ws.flatMap (fun a => (reads.filter (fun b => decide (b.area ≠ 5) && a.meets b)).map (fun b => a.common b))
      let shared := voted.filter (fun u => decide (u.ctx / 16 = t.ctx / 16) && (partBlocks u).any (fun b => (partBlocks t).contains b))
      (bad.flatMap (symbolsIn c l)).map (fun y => finding 109 4 y 0 0) ++
      foundIf (!t.pubs.isEmpty) (finding 109 4 0 0 0) ++
      shared.map (fun _ => finding 109 4 (((c.symbols.filter (fun y => decide (y.area = 5) && decide (y.slot = t.ctx / 16) &&
        decide (t.lBase ≤ y.ofs) && decide (y.ofs < t.lBase + t.lLen))).map (fun y => y.id)).foldl Nat.min
          (if c.symbols.any (fun y => decide (y.area = 5) && decide (y.slot = t.ctx / 16) && decide (t.lBase ≤ y.ofs) &&
            decide (y.ofs < t.lBase + t.lLen)) then 4294967295 else 0)) 0 0)))

/-! ## Telegrams, check-value units, definitions, converter starts -/

/-- Check value bytes attached to an item (11 R302, R317). -/
def cvuBytes (c : Container) (kind id : Nat) : Nat :=
  match c.cvus.find? (fun x => decide (x.kind = kind) && decide (x.id = id)) with
  | some x => [1, 2, 4, 4, 8].getD x.poly 0
  | none => 0

/-- Bytes of an insertion (11 Table 11-2). -/
def insertionLen (k : Nat) : Nat := if k = 1 ∨ k = 5 then 2 else if 2 ≤ k ∧ k ≤ 4 then 4 else 0

/-- UDP payload of a telegram (11 R302). -/
def payloadOf (c : Container) (t : Telegram) : Nat := t.header.length + t.dLen + cvuBytes c (t.port + 1) t.ctx

/-- Telegram payloads and insertions (code 110; 11 R302, R303). -/
def telegramFindings (c : Container) : List Finding :=
  c.telegrams.flatMap (fun t =>
    let n := payloadOf c t
    let ins := t.inserts.filter (fun x => decide (x.kind ≠ 0))
    let meet := ins.zipIdx.any (fun a => ins.zipIdx.any (fun b => decide (a.2 < b.2) &&
      decide (a.1.ofs < b.1.ofs + insertionLen b.1.kind) && decide (b.1.ofs < a.1.ofs + insertionLen a.1.kind)))
    let far := ins.any (fun x => decide (t.header.length < x.ofs + insertionLen x.kind) || decide (5 < x.kind))
    foundIf (decide (1472 < n) || meet || far || decide (64 < t.header.length) || decide (4 < t.inserts.length))
      (finding 110 8 (256 * t.port + t.ctx) n 1472))

/-- Whether the item of a unit is a SAFE flow, and its data length, to which the check value that AUX counts does not belong. -/
def cvuItem (c : Container) (x : CvuAttach) : Option (Bool × Nat) :=
  if x.kind = 0 then (c.flows.find? (fun f => decide (f.id = x.id))).map (fun f => (f.safe, f.dataLen - [1, 2, 4, 4, 8].getD x.poly 0))
  else (c.telegrams.find? (fun t => decide (t.port + 1 = x.kind) && decide (t.ctx = x.id))).map (fun t => (false, t.header.length + t.dLen))

/-- Check-value units in mode 1 (code 111; 11 R320). A container that gives a unit's client entries parameters means it for clients too (DESIGN CHOICE,
log 82). -/
def cvuFindings (c : Container) : List Finding :=
  c.cvus.flatMap (fun x =>
    let bad := match cvuItem c x with
      | some (safe, n) => safe || decide (n < x.start)
      | none => true
    let twice := c.cvus.any (fun y => decide (y.unit < x.unit) && decide (y.kind = x.kind) && decide (y.id = x.id)) ||
      decide (1 < (c.cvus.filter (fun y => decide (y.unit = x.unit))).length)
    let claimed := c.params.any (fun p => decide (p.1 / 256 = 0x4A00 + x.unit))
    foundIf (bad || twice || claimed || decide (4 < x.poly)) (finding 111 9 x.unit 0 0))

/-- A supply-system definition: kind, U_lo, U_hi, f_lo, f_hi. -/
structure SysDef where
  kind : Nat
  uLo  : Nat
  uHi  : Nat
  fLo  : Nat
  fHi  : Nat
  deriving DecidableEq, Repr

/-- Definition d of a container (08 Table 08-4). -/
def sysDef (c : Container) (d : Nat) : SysDef :=
  let i := 0x5310 + d
  { kind := paramOf c i 1, uLo := paramOf c i 2, uHi := paramOf c i 3, fLo := paramOf c i 4, fHi := paramOf c i 5 }

/-- Definitions that break R229 (code 112). -/
def definitionFindings (c : Container) : List Finding :=
  (List.range 8).flatMap (fun i =>
    let d := i + 1
    let x := sysDef c d
    let freq := if x.kind = 1 then decide (x.fLo = 0) && decide (x.fHi ≤ 1000)
      else decide (1000 ≤ x.fLo) && decide (x.fLo < x.fHi) && decide (x.fHi ≤ 10000)
    let band := decide (paramOf c 0x5310 3 ≤ x.uLo) && decide (x.uLo < x.uHi) && decide (x.uHi ≤ 32767)
    let clash := (List.range 8).any (fun j =>
      let y := sysDef c (j + 1)
      decide (j ≠ i) && decide (y.kind = x.kind) && decide (x.uLo ≤ y.uHi) && decide (y.uLo ≤ x.uHi) && decide (x.fLo ≤ y.fHi) &&
        decide (y.fLo ≤ x.fHi))
    foundIf (decide (x.kind ≠ 0) && (!freq || !band || clash || decide (2 < x.kind))) (finding 112 10 d 0 0))

/-- Distance from an instant to the next instant of another firing, in the cluster cycle; a whole cycle to itself. -/
def gapTo (c : Container) (a b : Nat) : Nat :=
  let t := Nat.max 1 (tCc c)
  let d := (b + t - a % t) % t
  if d = 0 then t else d

/-- Converter starts too close, converter starts before a sample, sample instants at a publication (code 113; 08 R225, R233). -/
def converterFindings (c : Container) : List Finding :=
  let samples := (cutOf c 2).flatMap (fun p => (firings c p.2).map (fun x => (x, p.1)))
  let starts := (cutOf c 3).flatMap (fun p => (firings c p.2).map (fun x => (x, p.1, CutEntry.tgt p.2)))
  let close := starts.flatMap (fun b =>
    if 8 ≤ b.2.2 then []
    else
      let near := fun (a : Nat) => decide (gapTo c a b.1 < 5000)
      foundIf (samples.any (fun a => near a.1) ||
          starts.any (fun a => decide (a.2.2 = b.2.2) && decide (a.2.1 ≠ b.2.1 ∨ a.1 ≠ b.1) && (near a.1 || decide (a.1 = b.1))))
        (finding 113 6 b.2.1 b.1 5000))
  let before := starts.flatMap (fun b =>
    foundIf (samples.any (fun a => decide (gapTo c b.1 a.1 < 5000) || decide (a.1 = b.1))) (finding 113 6 b.2.1 b.1 5000))
  let shared := (List.range 12).flatMap (fun n =>
    let own := c.fields.filterMap (fun f => match f.src with
      | .conv i e => if i = n then some e else none
      | _ => none)
    if 8 < own.length then [finding 113 6 (own.foldl Nat.min 16383) own.length 8] else [])
  let instants := samples.filter (fun a =>
    let d := (((a.1 : Int) - 1000000) % 4000000).toNat
    let period := Nat.gcd (Nat.max 1 (tCc c)) 4000000
    let r := d % period
    decide (r < 100) || decide (period - 100 < r))
  close ++ before ++ shared ++ instants.map (fun a => finding 113 6 a.2 a.1 100)

/-! ## Code (05 R164), transition (06 R169), chains -/

/-- Id of an instruction (12 Table 12-3). -/
def instrItem (l : LaneId) (t : Task) (i : Nat) : Nat := 65536 * engineItem l (t.ctx / 16) + i

/-- Instructions that break R164 (code 114). DESIGN CHOICE (log 88): of an instruction that can raise different codes on different paths the value is
the lowest sequence code, and 19 only where there is none. -/
def codeFindings (c : Container) : List Finding :=
  LaneId.all.flatMap (fun l => (tasksOf c l).flatMap (fun t =>
    let fs := (pathsOf c l t).2
    fs.map (fun f => finding 114 5 (instrItem l t f.1)
      (((fs.filter (fun h => decide (h.1 = f.1) && (decide (32 ≤ h.2) || fs.all (fun h' => decide (h'.1 ≠ f.1) || decide (h'.2 < 32))))).map
        (fun h => h.2)).foldl Nat.min 37 : Nat) 0)))

/-- Timer calls of a lane: instruction id, instance, opcode and WALL. -/
def timerCalls (c : Container) (l : LaneId) : List (Nat × Nat × Nat) :=
  (tasksOf c l).flatMap (fun t => (reachable c l t).filterMap (fun x =>
    let op := field x.2 26 6
    if 0x38 ≤ op ∧ op ≤ 0x3B then some (instrItem l t x.1, field x.2 0 17, 2 * op + field x.2 25 1) else none))

/-- Timer instances called with differing opcodes or WALL values (code 117). -/
def timerFindings (c : Container) : List Finding :=
  LaneId.all.flatMap (fun l =>
    let calls := timerCalls c l
    calls.flatMap (fun x =>
      let lowest := calls.foldl (fun (m : Nat × Nat × Nat) y => if y.2.1 = x.2.1 ∧ y.1 < m.1 then y else m) x
      foundIf (decide (lowest.2.2 ≠ x.2.2)) (finding 117 5 x.1 x.2.1 0)))

/-- Bytes that activation relocates (06 R169, R177): task partitions whose place changes, and symbols that carry their state to another
place, those inside such a partition counted with it. -/
def relocated (base c : Container) (l : LaneId) : Nat :=
  let parts := (tasksOf c l).filter (fun t => (tasksOf base l).any (fun b => decide (b.id = t.id) &&
    (decide (b.ctx / 16 ≠ t.ctx / 16) || decide (b.lBase ≠ t.lBase))))
  let syms := c.symbols.filter (fun y => (decide (y.single = 0) || decide (y.single = l.num + 1)) &&
    base.symbols.any (fun b => carries b y &&
      (decide (b.area ≠ y.area) || (decide (y.area = 5) && decide (b.slot ≠ y.slot)) || decide (b.ofs ≠ y.ofs) || decide (b.bit ≠ y.bit))) &&
    !(decide (y.area = 5) && parts.any (fun t => decide (t.ctx / 16 = y.slot) && decide (t.lBase ≤ y.ofs) &&
      decide (y.ofs + y.size ≤ t.lBase + t.lLen))))
  (syms.map (fun y => y.size)).foldl (· + ·) 0 + (parts.map (fun t => t.lLen)).foldl (· + ·) 0

/-- Relocation and cross-engine copy of a delta (code 115; 06 R169). -/
def deltaFindings (g : GaugeEnv) (c : Container) : List Finding :=
  match g.base with
  | none => []
  | some b => LaneId.all.flatMap (fun l =>
      let n := relocated b c l + crossBytes c l
      foundIf (decide (8 * tMx c < n)) (finding 115 0 0 n (8 * tMx c : Nat)))

/-- Whether a chain source exists (12 R326). -/
def sourceExists (c : Container) : ChainSrc → Bool
  | .di n => decide (n < 32) && !c.variantC
  | .analog n => decide (n < 12) && !c.variantC
  | .conv e => (cutOf c 3).any (fun p => decide (p.1 = e))
  | .recog d => decide (1 ≤ d) && decide (d ≤ 8) && decide ((sysDef c d).kind ≠ 0)
  | .flow id => c.flows.any (fun f => decide (f.id = id) && decide (f.role = 2))
  | .telegram p x => c.telegrams.any (fun t => decide (t.port = p) && decide (t.ctx = x) && decide (t.role = 2))
  | .can k o => c.canRx.any (fun r => decide (r.ctl = k) && decide (r.obj = o))

/-- Whether a chain sink exists. -/
def sinkExists (c : Container) : ChainSink → Bool
  | .dout n => decide (n < 16) && !c.variantC
  | .flow id => c.flows.any (fun f => decide (f.id = id) && decide (f.role = 1))
  | .telegram p x => c.telegrams.any (fun t => decide (t.port = p) && decide (t.ctx = x) && decide (t.role = 1))
  | .can k o => c.canTx.any (fun r => decide (r.ctl = k) && decide (r.obj = o))

/-- Whether a context holds a voted task. -/
def votedTask (c : Container) (ctx : Nat) : Bool := c.tasks.any (fun t => decide (t.ctx = ctx) && decide (t.scope = 0))

/-- Whether a flow is consumed and has a receive window (12 R337). -/
def inputFlow (c : Container) (id : Nat) : Bool :=
  c.flows.any (fun f => decide (f.id = id) && decide (f.role = 2)) && (cutOf c 7).any (fun p => decide (CutEntry.tgt p.2 = id))

/-- Chains and safety functions that name unknown, non-voted or unsuitable items (code 116; 12 R326, R337). -/
def declarationFindings (c : Container) : List Finding :=
  c.chains.flatMap (fun x => foundIf (x.stages.isEmpty || decide (8 < x.stages.length) || x.stages.any (fun t => !votedTask c t) ||
    !sourceExists c x.src || !sinkExists c x.sink || decide (x.no = 0) || decide (255 < x.no)) (finding 116 11 x.no 0 0)) ++
  c.safety.flatMap (fun f => foundIf (f.tasks.any (fun t => !votedTask c t) || f.flows.any (fun i => !inputFlow c i) ||
    f.outputs.any (fun n => decide (16 ≤ n) || c.variantC) ||
    f.telegrams.any (fun t => !c.telegrams.any (fun x => decide (256 * x.port + x.ctx = t) && decide (x.role = 2))) ||
    f.stations.any (fun n => !c.stations.any (fun x => decide (x.no = n))) || decide (f.no = 0) || decide (255 < f.no))
      (finding 116 12 f.no 0 0))

/-- Check 1 (12 R326). -/
def check1 (g : GaugeEnv) (c : Container) : List Finding :=
  capacityFindings g c ++ storeFindings g c ++ symbolFindings c ++ linkFindings c ++
  foundIf (decide (29600 < c.bOut)) (finding 106 0 0 c.bOut 29600) ++
  phaseFindings c ++ taskFindings c ++ singleLaneFindings c ++ telegramFindings c ++ cvuFindings c ++ definitionFindings c ++
  converterFindings c ++ codeFindings c ++ deltaFindings g c ++ declarationFindings c ++ timerFindings c

end Sys2Proof.Machine
end

