-- ==== Sys2Proof/Machine/GaugeWay.lean ====
section
/-! DEFINITION. The topologies of the ring that the Gauge examines, and a frame's way through each (12 R333, 09 R260, R261, 10 R288, R296). -/

namespace Sys2Proof.Machine

open Sys2Proof

/-! ## Topologies (12 R333) -/

/-- A topology of the ring: the break of the link east of a position, or the position of a bypassed node. -/
structure Topology where
  brk : Option Nat
  byp : Option Nat
  deriving DecidableEq, Repr

/-- The intact ring. -/
def Topology.intact : Topology := { brk := none, byp := none }

/-- Code of 9010.08; positions count from 1. -/
def Topology.code (t : Topology) : Nat :=
  match t.brk, t.byp with
  | some x, _ => x + 1
  | none, some b => 256 + b + 1
  | none, none => 0

/-- Position of a node in ring order. -/
def posOf (c : Container) (node : Nat) : Option Nat := c.ring.order.findIdx? (fun n => decide (n = node))

/-- Every topology that check 4 examines. -/
def topologies (c : Container) : List Topology :=
  let n := c.ring.order.length
  Topology.intact :: (List.range n).map (fun x => { brk := some x, byp := none }) ++
    (c.ring.relays.filterMap (fun r => posOf c r.1)).map (fun b => { brk := none, byp := some b })

/-- Bounds of an instant. -/
structure Bounds where
  lo : Nat
  hi : Nat
  deriving DecidableEq, Repr

/-- A frame at a port: the position that sends it there, whether its direction is primary, and how long after the first preamble bit
left the sender its preamble starts. -/
structure Egress where
  pos : Nat
  east : Bool
  delay : Bounds
  deriving DecidableEq, Repr

/-- Delay of the link east of a position. -/
def linkDelay (c : Container) (x : Nat) : Bounds :=
  match c.ring.links[x]? with
  | some d => { lo := d.1, hi := d.2 }
  | none => { lo := 0, hi := 0 }

/-- Latency of a node that forwards or turns a frame; a bypassed node passes it with its relay delay (12 R333, 09 Table 09-8). -/
def nodeLatency (v2 : Bool) (c : Container) (t : Topology) (x : Nat) : Bounds :=
  if t.byp = some x then
    { lo := 0, hi := match c.ring.relays.find? (fun r => decide (posOf c r.1 = some x)) with
      | some r => r.2
      | none => 0 }
  else if v2 then { lo := 7960, hi := 8040 } else { lo := 1192, hi := 1208 }

/-- Sum of bounds. -/
def Bounds.add (a b : Bounds) : Bounds := { lo := a.lo + b.lo, hi := a.hi + b.hi }

/-- Way of a frame from port to port until it is stripped (09 R260, R261, 10 R288): `fuel` bounds the ports; `out` is the port that
sends it now. The arrivals and the egress ports are collected in order. -/
def route (v2 : Bool) (c : Container) (t : Topology) (s : Nat) :
    Nat → Egress → List (Nat × Bounds) → List Egress → List (Nat × Bounds) × List Egress
  | 0, _, arr, eg => (arr.reverse, eg.reverse)
  | fuel + 1, out, arr, eg =>
    let n := Nat.max 1 c.ring.order.length
    let link := if out.east then out.pos else (out.pos + n - 1) % n
    let to_ := if out.east then (out.pos + 1) % n else (out.pos + n - 1) % n
    let at_ := out.delay.add (linkDelay c link)
    let eg' := if t.byp = some out.pos then eg else out :: eg
    let arr' := if t.byp = some to_ then arr else (to_, at_) :: arr
    let wrapEast := decide (t.brk = some to_)
    let wrapWest := decide (t.brk = some ((to_ + n - 1) % n))
    let stripped := decide (to_ = s) && (out.east || wrapWest)
    if stripped then (arr.reverse, eg'.reverse)
    else
      let dir := if out.east then !wrapEast else wrapWest
      route v2 c t s fuel { pos := to_, east := dir, delay := at_.add (nodeLatency v2 c t to_) } arr' eg'

/-- Arrivals and ports of a frame of the node at a position: its own first port is the west port when its east link is broken. -/
def wayOf (v2 : Bool) (c : Container) (t : Topology) (s : Nat) : List (Nat × Bounds) × List Egress :=
  if t.byp = some s then ([], [])
  else route v2 c t s (2 * c.ring.order.length + 2) { pos := s, east := decide (t.brk ≠ some s), delay := { lo := 0, hi := 0 } } [] []

/-- First arrival at a receiver, after the first preamble bit: the time-stamp point lies 64 ns later. -/
def gaugeArrival (v2 : Bool) (c : Container) (t : Topology) (s r : Nat) : Option Bounds :=
  ((wayOf v2 c t s).1.find? (fun p => decide (p.1 = r))).map (fun p => p.2.add { lo := 64, hi := 64 })

/-- Distance from `a` to `y` in a period, at most half of it either way. -/
def swing (t : Nat) (a y : Int) : Int :=
  let n : Int := (Nat.max 1 t : Nat)
  let d := (y - a) % n
  if 2 * d ≤ n then d else d - n

end Sys2Proof.Machine
end

