-- ==== Sys2Proof/Machine/GaugeTime.lean ====
section
/-! DEFINITION. The Gauge's checks 2, 3, 5, 6, 7 and 8: execution windows, chains and ages, glue-up, reaction times, the
single-writer rule, split permission (12 R328 to R331, R335 to R339, 13 R346, R347). -/

namespace Sys2Proof.Machine

open Sys2Proof

/-! ## Check 2: execution windows (12 R328) -/

/-- Worst-case times of a lane's tasks by context. -/
def wcets (c : Container) (l : LaneId) : Store Nat := (tasksOf c l).foldl (fun m t => Store.insert m t.ctx (wcet c l t)) []

/-- Largest period multiplier declared (04 R113). -/
def mMax (c : Container) : Nat :=
  c.tasks.foldl (fun n t => match t.kind with
    | .cyclic m _ => Nat.max n m
    | _ => n) 1

/-- due(x, c): a cyclic task by m and p, an event or error task always. -/
def dueIn (t : Task) (cyc : Nat) : Bool :=
  match t.kind with
  | .cyclic m p => decide (cyc % Nat.max 1 m = p)
  | _ => true

/-- Cost of an entry in a cycle. -/
def entryCost (c : Container) (l : LaneId) (w : Store Nat) (cyc : Nat) (n : Node) : Nat :=
  match n.entry with
  | .poll id => (tasksOf c l).foldl (fun s t =>
      if t.ctx / 16 = n.slot ∧ pollOf t = some id then s + 12 + Store.get w 0 t.ctx else s) 4
  | .task x =>
    match taskAt c l x with
    | some t => if dueIn t cyc then 12 + Store.get w 0 x else 0
    | none => 0

/-- Finish times of a lane's entries in a cycle, by key, in topological order. -/
def finishTimes (c : Container) (l : LaneId) (w : Store Nat) (order : List Node) (cyc : Nat) : Store Nat :=
  order.foldl (fun fin n =>
    let prev := if n.pos = 0 then 0 else Store.get fin 0 (Node.key { n with pos := n.pos - 1 })
    let st := (writersOf c l n).foldl (fun m p =>
      if (match taskAt c l p.1 with
          | some t => dueIn t cyc
          | none => false) then Nat.max m (Store.get fin 0 p.2.key) else m) prev
    Store.insert fin n.key (st + entryCost c l w cyc n)) []

/-- Finish of an engine's last entry. -/
def lastFinish (c : Container) (l : LaneId) (fin : Store Nat) (slot : Nat) : Nat :=
  match (orderOf c l slot).length with
  | 0 => 0
  | n + 1 => Store.get fin 0 (65536 * slot + n)

/-- Execution window in clocks, rounded down. -/
def window (c : Container) : Nat := (c.vOff - tMx c) / 2

/-- Finish of every engine or half in every cycle of the hyperperiod: slot and clocks. -/
def finishes (c : Container) (l : LaneId) : List (Nat × Nat) :=
  let w := wcets c l
  let order := orderedNodes c l
  (List.range (mMax c)).flatMap (fun cyc =>
    let fin := finishTimes c l w order cyc
    (List.range 32).map (fun slot => (slot, lastFinish c l fin slot)))

/-- Heaviest finish of an engine or half. -/
def heaviest (c : Container) (l : LaneId) (slot : Nat) : Nat :=
  (finishes c l).foldl (fun m p => if p.1 = slot then Nat.max m p.2 else m) 0

/-- Check 2 (code 201). -/
def check2 (c : Container) : List Finding :=
  LaneId.all.flatMap (fun l => ((finishes c l).filter (fun p => decide (window c < p.2))).map
    (fun p => finding 201 2 (engineItem l p.1) p.2 (window c)))

/-! ## Check 3: chains and ages (12 R329 to R331) -/

/-- Vote to release: r := V_off + t_vote, O_off := O_k − C_k. -/
def relOff (c : Container) : Nat := c.vOff + tVote c

/-- O_off. -/
def applyOff (c : Container) : Nat := c.vOff + c.oOff

/-- Filter time of an input, ns (07 R195). -/
def diFilterNs (c : Container) (n : Nat) : Nat := [0, 50000, 200000, 1000000, 3000000].getD (paramOf c 0x5001 (n + 1)) 0

/-- Recognition window W_d in ns (08 R229, Table 12-1). -/
def recogWindow (c : Container) (d : Nat) : Nat :=
  let x := sysDef c d
  if x.kind = 1 then 8000000 else ceilDiv (ceilDiv 600000000000 (Nat.max 1 (x.fLo + x.fHi))) 20000 * 20000

/-- First instant at or after `x` of the grid `phi + n × t`. -/
def gridUp (x phi : Int) (t : Nat) : Int := phi + ((x - phi + (Nat.max 1 t : Nat) - 1) / (Nat.max 1 t : Nat)) * (Nat.max 1 t : Nat)

/-- Last instant at or before `x` of the grid `phi + n × t`. -/
def gridDown (x phi : Int) (t : Nat) : Int := phi + ((x - phi) / (Nat.max 1 t : Nat)) * (Nat.max 1 t : Nat)

/-- Firings of a ring slot in a cluster cycle. -/
def slotFirings (c : Container) (x : RingSlot) : List Nat :=
  let p := 2 ^ x.rep * c.ring.tRound
  if p = 0 then [] else (List.range (tCc c / p)).map (fun i => x.offset + i * p)

/-- Slot starts of a flow in the cluster cycle. -/
def flowStarts (c : Container) (id : Nat) : List Nat :=
  (c.ring.slots.filter (fun x => decide (x.flow = id))).flatMap (slotFirings c)

/-- Slot starts of a flow in the cluster cycle, each with its frame's arrival at this node in the intact ring. -/
def flowArrivals (c : Container) (id : Nat) : List (Nat × Nat) :=
  (c.ring.slots.filter (fun x => decide (x.flow = id))).flatMap (fun x => match posOf c x.node, posOf c c.nodeId with
    | some s, some r => (gaugeArrival (bitOf c.level 0) c .intact s r).elim [] (fun b => (slotFirings c x).map (fun t => (t, t + b.lo)))
    | _, _ => [])

/-- Receive windows of a flow in a cluster cycle: start and length. -/
def windowsOf (c : Container) (id : Nat) : List (Nat × Nat) :=
  ((cutOf c 7).filter (fun p => decide (CutEntry.tgt p.2 = id))).flatMap (fun p => (firings c p.2).map (fun x => (x, CutEntry.lenNs p.2)))

/-- Time from a frame's arrival to the end of the receive window for its firing: the one whose middle lies nearest to the arrival (DESIGN CHOICE, log
18). -/
def windowEnd (c : Container) (id at_ : Nat) : Option Int :=
  ((windowsOf c id).foldl (fun (m : Option (Int × Nat)) w =>
    let d := swing (tCc c) at_ (w.1 + w.2 / 2 : Nat)
    match m with
    | some x => if d.natAbs < x.1.natAbs then some (d, w.2 - w.2 / 2) else some x
    | none => some (d, w.2 - w.2 / 2)) none).map (fun x => x.1 + x.2)

/-- Least distance from `x` to an instant of a list that repeats every cluster cycle, strictly after `x`. -/
def nextAfter (c : Container) (x : Nat) (ys : List Nat) : Option Nat :=
  let t := Nat.max 1 (tCc c)
  ys.foldl (fun m y =>
    let d := (y + t - x % t) % t
    let d := if d = 0 then t else d
    match m with
    | some k => some (Nat.min k d)
    | none => some d) none

/-- For each firing of a slot of a consumed flow: its start, and C_rx of the receive window for it (12 R331). -/
def arrivalCycles (c : Container) (id : Nat) : List (Nat × Int) :=
  (flowArrivals c id).filterMap (fun x => (windowEnd c id x.2).map (fun d => (x.1, gridUp (x.2 + d) c.phi c.tBase)))

/-- Worst-case age of a consumed flow (12 R331). -/
def worstAge (c : Container) (f : Flow) : Nat :=
  (arrivalCycles c f.id).foldl (fun m p =>
    Nat.max m (p.2 - gridDown ((p.1 : Int) - 4000 - f.prodRel) f.prodPhi f.prodBase).toNat) 0

/-- Term of a received flow: max over the slots of C_rx − slot start. -/
def flowSource (c : Container) (id : Nat) : Nat :=
  (arrivalCycles c id).foldl (fun m p => Nat.max m (p.2 - (p.1 : Int)).toNat) 0

/-- Producer cycle starts of a cluster cycle. -/
def cycleStarts (c : Container) : List Nat :=
  (List.range (tCc c / Nat.max 1 c.tBase)).map (fun i => c.phi + i * c.tBase)

/-- Longest time from a cycle start to the first instant of a list whose deadline, 4 µs before it, lies at or after the release. -/
def sinkWait (c : Container) (ys : List Nat) : Nat :=
  (cycleStarts c).foldl (fun m x =>
    match nextAfter c (x + relOff c + 4000 - 1) ys with
    | some d => Nat.max m (relOff c + 4000 - 1 + d)
    | none => m) 0

/-- ns per byte at a declared minimum speed (11 Table 11-9: 1 10 Mbit/s, 2 100 Mbit/s, 3 1000 Mbit/s). -/
def byteNs (speed : Nat) : Nat := if speed = 1 then 800 else if speed = 2 then 80 else 8

/-- Declared minimum speed of a port. -/
def minSpeedOf (c : Container) (p : Nat) : Nat := c.minSpeed.getD p 3

/-- Frame of a telegram in bytes. -/
def telFrame (c : Container) (t : Telegram) : Nat := Nat.max 64 (14 + (if t.tagged then 4 else 0) + 28 + payloadOf c t + 4)

/-- t_src of Table 12-1. -/
def sourceTerm (c : Container) : ChainSrc → Nat
  | .di n => diFilterNs c n + 2 * c.tBase
  | .analog _ => 2 * c.tBase
  | .conv e =>
    match c.cut[e]? with
    | some x => 2 * c.tBase + 2 ^ CutEntry.rep x * c.ring.tRound
    | none => 2 * c.tBase
  | .recog d => recogWindow c d + 9000000 + 2 * c.tBase
  | .flow id => flowSource c id
  | .telegram _ _ => c.tBase
  | .can _ _ => c.tBase

/-- t_sink of Table 12-1. -/
def sinkTerm (c : Container) : ChainSink → Nat
  | .dout _ => applyOff c + 100000
  | .flow id => sinkWait c (flowStarts c id)
  | .telegram p x =>
    let fires := ((cutOf c 8).filter (fun q => decide (CutEntry.tgt q.2 = 256 * p + x))).flatMap (fun q => firings c q.2)
    let len := match c.telegrams.find? (fun t => decide (t.port = p) && decide (t.ctx = x)) with
      | some t => telFrame c t
      | none => 0
    let ptp := if paramOf c (0x4180 + p) 1 = 0 then 0 else 110
    sinkWait c fires + byteNs (minSpeedOf c p) * (1542 + ptp + len + 20)
  | .can _ _ => relOff c

/-- Minimum inter-arrival of an event task in cycles (04 R115). -/
def aMin (c : Container) (tIa : Nat) : Nat := ceilDiv (1000 * tIa) (Nat.max 1 c.tBase)

/-- Period of a task for chains and reaction times: m, a_min or one cycle. -/
def periodOf (c : Container) (t : Task) : Nat :=
  match t.kind with
  | .cyclic m _ => m * c.tBase
  | .event ia _ _ => aMin c ia * c.tBase
  | .error => c.tBase

/-- t_stage of a task. -/
def stageTerm (c : Container) (ctx : Nat) : Nat :=
  match taskAt c .a ctx with
  | some t => periodOf c t - c.tBase
  | none => 0

/-- t_xfer between two stages. -/
def transferTerm (c : Container) (a b : Nat) : Nat :=
  let later := match nodeOf c .a a, nodeOf c .a b with
    | some x, some y => decide (x.slot = y.slot) && (decide (x.pos < y.pos) || (decide (x.pos = y.pos) && decide (a < b)))
    | _, _ => false
  if later || (linksOf c .a).any (fun k => decide (k.writer = a) && decide (k.reader = b)) then 0 else c.tBase

/-- Latency L of a chain (12 R329). -/
def chainLatency (c : Container) (x : Chain) : Nat :=
  sourceTerm c x.src + ((x.stages.map (stageTerm c)).foldl (· + ·) 0) +
    (((x.stages.zip x.stages.tail).map (fun p => transferTerm c p.1 p.2)).foldl (· + ·) 0) + sinkTerm c x.sink

/-- Check 3: chains above their bounds (code 301), SAFE flows whose D_max is below the worst-case age (code 302). -/
def check3 (v2 : Bool) (c : Container) : List Finding :=
  c.chains.flatMap (fun x => foundIf (decide (x.bound < chainLatency c x)) (finding 301 11 x.no (chainLatency c x) x.bound)) ++
  c.flows.flatMap (fun f =>
    foundIf (decide (f.role = 2) && f.safe && !v2 && (decide (f.dMaxUs = 0) || decide (1000000 < f.dMaxUs) ||
        decide (1000 * f.dMaxUs < worstAge c f)))
      (finding 302 7 f.id (worstAge c f) (1000 * f.dMaxUs : Nat)))

/-! ## Check 5: glue-up (12 R335, R336) -/

/-- Blocks of M, D and S that a span touches: area code and block number. -/
def spanBlocks (a : Span) : List (Nat × Nat) :=
  if a.len = 0 ∨ a.area < 2 ∨ 4 < a.area then []
  else (List.range ((a.lo + a.len - 1) / 64 + 1 - a.lo / 64)).map (fun i => (a.area, a.lo / 64 + i))

/-- Whether a task may run in one of the `n` cycles from `start`. -/
def runsIn (t : Task) (start n : Nat) : Bool :=
  match t.kind with
  | .cyclic m p => decide ((p + Nat.max 1 m - start % Nat.max 1 m) % Nat.max 1 m < n)
  | _ => true

/-- D(n): dirty bound in bytes, over every lane and starting cycle. -/
def dirtyBound (c : Container) (n : Nat) : Nat :=
  LaneId.all.foldl (fun best l =>
    let ts := (tasksOf c l).map (fun t => (t, (writeSet c l t).flatMap spanBlocks))
    (List.range (mMax c)).foldl (fun best start =>
      let due := ts.filter (fun p => runsIn p.1 start n)
      let blocks := (due.flatMap (fun p => p.2)).dedup.length
      let parts := (due.map (fun p => ceilDiv p.1.lLen 64 * 64)).foldl (· + ·) 0
      Nat.max best (64 * blocks + parts + 20480)) best) 0

/-- t_c(n) in ns from D(n), rounded up. -/
def commitTime (d : Nat) : Nat := 10000 + ceilDiv (5 * d) 4

/-- E of the wear test. -/
def wear (c : Container) (d : Nat) : Nat :=
  ceilDiv (ceilDiv 1262304000000000000 (Nat.max 1 (c.pGlue * c.tBase)) * d) 100663296 + 8

/-- Check 5 (codes 501 to 503). -/
def check5 (c : Container) : List Finding :=
  let d := dirtyBound c c.pGlue
  let e := dirtyBound c (2 * c.pGlue)
  foundIf (decide (c.pGlue = 0) || decide (1000 < c.pGlue) || decide (c.pGlue * c.tBase < commitTime d + 40000))
    (finding 501 0 0 (commitTime d) ((c.pGlue * c.tBase : Nat) - 40000)) ++
  foundIf (decide (1500000 < commitTime e)) (finding 502 0 0 (commitTime e) 1500000) ++
  foundIf (decide (500000000000 < wear c d)) (finding 503 0 0 (wear c d) 500000000000)

/-! ## Check 6: reaction times (12 R337, 13 R346, R347) -/

/-- T_p of a safety function. -/
def functionPeriod (c : Container) (f : SafetyFn) : Nat :=
  f.tasks.foldl (fun m x => match taskAt c .a x with
    | some t => Nat.max m (periodOf c t)
    | none => m) 0

/-- FRT of a safety function: the vote-only figure when a task lies on a split engine. -/
def reactionTime (c : Container) (f : SafetyFn) : Nat :=
  (if f.tasks.any (fun x => isSplit c (x / 16)) then 3 else 2) * functionPeriod c f + tVote c + 100000

/-- Longest interval between successive receive windows of a flow. -/
def windowGap (c : Container) (id : Nat) : Nat :=
  let ws := ((cutOf c 7).filter (fun p => decide (CutEntry.tgt p.2 = id))).flatMap (fun p => firings c p.2)
  ws.foldl (fun m x => match nextAfter c x ws with
    | some d => Nat.max m d
    | none => m) 0

/-- Loss times of a function's inputs. -/
def lossTimes (c : Container) (f : SafetyFn) : List Nat :=
  f.flows.map (fun i => match c.flows.find? (fun x => decide (x.id = i)) with
    | some x => x.aMax * windowGap c i
    | none => 0) ++
  f.telegrams.map (fun i => match c.telegrams.find? (fun x => decide (256 * x.port + x.ctx = i)) with
    | some x => x.aMax * c.tBase
    | none => 0) ++
  f.stations.map (fun i => match c.stations.find? (fun x => decide (x.no = i)) with
    | some x => x.nDrop * c.tBase
    | none => 0)

/-- Check 6 (codes 601, 602). -/
def check6 (c : Container) : List Finding :=
  c.safety.flatMap (fun f =>
    let frt := reactionTime c f + f.tLoad
    let loss := (lossTimes c f).foldl Nat.max 0 + functionPeriod c f + applyOff c + 100000 + f.tLoad
    foundIf (decide (f.tPst < frt)) (finding 601 12 f.no frt f.tPst) ++
    foundIf (!(lossTimes c f).isEmpty && decide (f.tPst < loss)) (finding 602 12 f.no loss f.tPst))

/-! ## Check 7: the single-writer rule (12 R338) -/

/-- Pairs of a list, each once. -/
def pairs {α : Type} : List α → List (α × α)
  | [] => []
  | x :: xs => xs.map (fun y => (x, y)) ++ pairs xs

/-- Whether a variable is externally written: declared so, or listed as writable in a process image window (04 R121, 17 R440). -/
def externallyWritten (c : Container) (y : Symbol) : Bool :=
  y.external || c.windows.any (fun w => w.vars.contains (y.id, true))

/-- Whether a task's write set holds a byte of a variable: in L the place counts within the engine's store (12 R338). -/
def writesSymbol (t : Task) (ws : List Span) (y : Symbol) : Bool :=
  ws.any (fun a => if a.area = 5 then decide (t.ctx / 16 = y.slot) && Span.meets { a with lo := t.lBase + a.lo } (symSpan y)
    else a.meets (symSpan y))

/-- Check 7 (codes 701 to 704). -/
def check7 (c : Container) : List Finding :=
  LaneId.all.flatMap (fun l =>
    let ts := (tasksOf c l).map (fun t => (t, (writeSet c l t).filter (fun a => decide (1 ≤ a.area) && decide (a.area ≤ 4))))
    let two := (pairs ts).flatMap (fun p => p.1.2.flatMap (fun a => (p.2.2.filter (fun b => a.meets b)).flatMap (fun b =>
      symbolsIn c l (a.common b))))
    let ext := c.symbols.filter (fun y => externallyWritten c y && (decide (y.single = 0) || decide (y.single = l.num + 1)) &&
      (tasksOf c l).any (fun t => writesSymbol t (writeSet c l t) y))
    let parts := (pairs (tasksOf c l)).filter (fun p => decide (0 < p.1.lLen) && decide (0 < p.2.lLen) && decide (p.1.ctx / 16 = p.2.ctx / 16) && decide (p.1.lBase < p.2.lBase + p.2.lLen) &&
      decide (p.2.lBase < p.1.lBase + p.1.lLen))
    let outside := (tasksOf c l).flatMap (fun t => ((storesOf c l t).filter (fun x => !(fencesOf t).any (fun a => x.2.within a))).map
      (fun x => instrItem l t x.1))
    two.map (fun y => finding 701 4 y 0 0) ++ ext.map (fun y => finding 702 4 y.id 0 0) ++
    parts.map (fun p => finding 703 3 (Nat.min p.1.ctx p.2.ctx) 0 0) ++ outside.map (fun i => finding 704 5 i 0 0))

/-! ## Check 8: split permission (12 R339) -/

/-- Check 8 (codes 801, 802). -/
def check8 (g : GaugeEnv) (c : Container) : List Finding :=
  LaneId.all.flatMap (fun l => foundIf' l) ++
  (List.range 16).flatMap (fun n => foundIf
    (LaneId.all.any (fun l => decide ((c.splits.get l).contains n ≠ (c.splits.a).contains n))) (finding 802 2 (engineItem .a (2 * n)) 0 0))
where
  /-- Splits of a lane while ESC6 reads 0. -/
  foundIf' (l : LaneId) : List Finding :=
    if g.esc6 then [] else (c.splits.get l).map (fun n => finding 801 2 (engineItem l (2 * n)) 0 0)

end Sys2Proof.Machine
end

