-- ==== Sys2Proof/Machine/GaugeRing.lean ====
section
/-! DEFINITION. The Gauge's check 4: the cutting list and the ring in every topology (12 R333, R334, 09 R245, R264, R265, 10 R268,
R269, R290, R296, 11 R305). -/

namespace Sys2Proof.Machine

open Sys2Proof

/-! ## Entries (09 R245) -/

/-- Whether TGT lies in the range of its action (09 Table 09-2). -/
def tgtOk (c : Container) (act tgt : Nat) : Bool :=
  if act = 0 ∨ act = 1 ∨ act = 2 ∨ act = 4 ∨ act = 5 ∨ act = 10 ∨ act = 11 then decide (tgt = 0)
  else if act = 3 then decide (tgt ≤ 11)
  else if act = 6 ∨ act = 7 then decide (tgt ≤ 1023)
  else if act = 8 then decide (tgt ≤ 511)
  else if act = 9 then true
  else if act = 12 then decide (tgt = c.nodeId)
  else decide (1 ≤ tgt) && decide (tgt ≤ 64)

/-- Entries of the list with their indices. DESIGN CHOICE (log 84): a slot whose four words are zero is unused and holds no entry. -/
def listedEntries (c : Container) : List (Nat × CutEntry) :=
  (c.cut.zipIdx.map (fun p => (p.2, p.1))).filter (fun p =>
    decide (p.2.w0 ≠ 0) || decide (p.2.w1 ≠ 0) || decide (p.2.w2 ≠ 0) || decide (p.2.w3 ≠ 0))

/-- Entries that break R245 (code 401). -/
def encodingFindings (c : Container) : List Finding :=
  (listedEntries c).flatMap (fun p =>
    let e := p.2
    let a := CutEntry.act e
    let len := e.w1 / 65536 % 65536
    let bad := decide (14 ≤ a) || decide (e.w2 / 256 % 256 ≠ 0) || decide (e.w3 / 65536 % 65536 ≠ 0) ||
      decide (e.w3 % 65536 ≠ cutCheck e p.1) || decide (Nat.log2 c.ring.nR < CutEntry.rep e) ||
      decide (2 ^ CutEntry.rep e * c.ring.tRound ≤ e.w0) || !tgtOk c a (CutEntry.tgt e) ||
      (([6, 7, 11, 12, 13] : List Nat).contains a && decide (len = 0))
    foundIf bad (finding 401 6 p.1 0 0))

/-! ## Slots (09 R265) -/

/-- Largest number of nodes that a frame between two sync nodes passes in any topology. -/
def mostForwarders (v2 : Bool) (c : Container) : Nat :=
  let ps := c.ring.syncs.filterMap (fun x => posOf c x.node)
  (topologies c).foldl (fun m t => ps.foldl (fun m s => ps.foldl (fun m r =>
    if s = r then m else Nat.max m (((wayOf v2 c t s).1.findIdx? (fun p => decide (p.1 = r))).getD 0)) m) m) 0

/-- Guaranteed precision Π in ns (09 R265, 10 Table 10-4). -/
def precision (v2 : Bool) (c : Container) : Nat := if v2 then 500 + 40 * mostForwarders v2 c else 200

/-- Smallest guard between slots (09 R265, 10 Table 10-4). -/
def minGuard (v2 : Bool) (c : Container) : Nat := 2 * precision v2 c + (if v2 then 1000 else 100)

/-- t_wire (09 R250, Table 09-8). -/
def wireNs (v2 : Bool) (p : Nat) : Nat := (Nat.max (42 + p) 64 + 20) * 8 * (if v2 then 10 else 1)

/-- Transmit and sync slots too short for their frame and guard (code 402). -/
def slotFindings (v2 : Bool) (c : Container) : List Finding :=
  let g := minGuard v2 c
  (cutOf c 6 ++ cutOf c 12).flatMap (fun p =>
    let need := wireNs v2 (CutEntry.aux p.2) + g
    foundIf (decide (CutEntry.lenNs p.2 < need)) (finding 402 6 p.1 need (CutEntry.lenNs p.2)))

/-! ## Occupancy (12 R334) -/

/-- A time-triggered frame of the ring: sender's position and node, flow (none: sync), start, wire time. -/
structure RingTx where
  pos   : Nat
  node  : Nat
  flow  : Option Nat
  start : Nat
  wire  : Nat
  deriving DecidableEq, Repr

/-- Every time-triggered frame of a cluster cycle. -/
def ringTxs (v2 : Bool) (c : Container) : List RingTx :=
  c.ring.slots.flatMap (fun x => match posOf c x.node with
    | some p => (slotFirings c x).map (fun t => { pos := p, node := x.node, flow := some x.flow, start := t, wire := wireNs v2 x.aux })
    | none => []) ++
  c.ring.syncs.flatMap (fun x => match posOf c x.node with
    | some p => (List.range c.ring.nR).map (fun i =>
        { pos := p, node := x.node, flow := none, start := x.offset + i * c.ring.tRound, wire := wireNs v2 16 })
    | none => [])

/-- The node's own entry for a frame: its slot, or the window in which it receives the frame. -/
def entryFor (c : Container) (x : RingTx) : Option Nat :=
  let own := decide (x.node = c.nodeId)
  let act := match x.flow with
    | some _ => if own then 6 else 7
    | none => if own then 12 else 13
  let tgt := match x.flow with
    | some f => f
    | none => x.node
  match (cutOf c act).find? (fun p => decide (CutEntry.tgt p.2 = tgt) && (!own || (firings c p.2).contains x.start)) with
  | some p => some p.1
  | none => none

/-- An occupancy interval at a port; `lo` may lie before the cluster cycle. -/
structure Occupied where
  pos  : Nat
  east : Bool
  lo   : Int
  hi   : Int
  tx   : RingTx
  deriving DecidableEq, Repr

/-- Occupancy intervals of a topology. -/
def occupied (v2 : Bool) (c : Container) (t : Topology) : List Occupied :=
  let pi := precision v2 c
  (ringTxs v2 c).flatMap (fun x => (wayOf v2 c t x.pos).2.map (fun e =>
    { pos := e.pos, east := e.east, lo := (x.start + e.delay.lo : Nat) - (pi : Int), hi := (x.start + e.delay.hi + x.wire + pi : Nat), tx := x }))

/-- Whether two intervals that repeat every cluster cycle meet. -/
def meetsModulo (t : Nat) (aLo aHi bLo bHi : Int) : Bool :=
  let n : Int := (Nat.max 1 t : Nat)
  let d := (bLo - aLo) % n
  decide (d < aHi - aLo) || decide (n - d < bHi - bLo)

/-- Overlapping frames at a port (code 403), charged to the entry of the frame that starts later. -/
def overlapFindings (v2 : Bool) (c : Container) : List Finding :=
  (topologies c).flatMap (fun t => (pairs (occupied v2 c t)).flatMap (fun p =>
    if p.1.pos = p.2.pos ∧ p.1.east = p.2.east ∧ p.1.tx ≠ p.2.tx ∧ meetsModulo (tCc c) p.1.lo p.1.hi p.2.lo p.2.hi then
      let late := if p.1.lo ≤ p.2.lo then p.2 else p.1
      let early := if p.1.lo ≤ p.2.lo then p.1 else p.2
      match entryFor c late.tx with
      | some i => [{ code := 403, kind := 6, id := i, value := early.hi, bound := late.lo, topo := t.code }]
      | none => [{ code := 403, kind := 0, id := 0, value := early.hi, bound := late.lo, topo := t.code }]
    else []))

/-! ## Windows (09 R265) -/

/-- The frame that a window firing awaits, with its arrival in the intact ring after the window's start: the one of the flow or sender whose arrival
lies nearest to the middle of the window (DESIGN CHOICE, log 18). -/
def awaited (v2 : Bool) (c : Container) (txs : List RingTx) (r act tgt w len : Nat) : Option (RingTx × Bounds × Int) :=
  let mine := txs.filter (fun x => if act = 7 then decide (x.flow = some tgt) else decide (x.flow = none) && decide (x.node = tgt))
  (mine.filterMap (fun x => (gaugeArrival v2 c .intact x.pos r).map (fun b => (x, b)))).foldl (fun m p =>
    let d := swing (tCc c) (w + len / 2 : Nat) (p.1.start + p.2.lo : Nat) + (len / 2 : Nat)
    match m with
    | none => some (p.1, p.2, d)
    | some y => if (d - (len / 2 : Nat)).natAbs < (y.2.2 - (len / 2 : Nat)).natAbs then some (p.1, p.2, d) else some y) none

/-- A window firing that does not contain an arrival in some topology (code 404). -/
def windowFindings (v2 : Bool) (c : Container) : List Finding :=
  match posOf c c.nodeId with
  | none => []
  | some r =>
    let pi := precision v2 c
    let txs := ringTxs v2 c
    let ts := topologies c
    (cutOf c 7 ++ cutOf c 13).flatMap (fun p =>
      let len := CutEntry.lenNs p.2
      (firings c p.2).flatMap (fun w =>
        match awaited v2 c txs r (CutEntry.act p.2) (CutEntry.tgt p.2) w len with
        | none => [finding 404 6 p.1 0 len]
        | some x =>
          ts.flatMap (fun t => match gaugeArrival v2 c t x.1.pos r with
            | none => []
            | some b =>
              let lo : Int := x.2.2 + b.lo - x.2.1.lo - pi
              let hi : Int := x.2.2 + b.hi - x.2.1.lo + pi
              foundIf (decide (lo < 0) || decide ((len : Int) < hi))
                { code := 404, kind := 6, id := p.1, value := if lo < 0 then lo else hi, bound := if lo < 0 then 0 else (len : Int), topo := t.code })))

/-! ## Producers, best effort, ECN entries, roles -/

/-- Produced flows whose T_base, φ or release bound differ from the schedule (code 405; 12 R331). -/
def producerFindings (c : Container) : List Finding :=
  (c.flows.filter (fun f => decide (f.role = 1))).flatMap (fun f =>
    foundIf (decide (f.prodBase ≠ c.tBase)) (finding 405 7 f.id c.tBase f.prodBase) ++
    foundIf (decide (f.prodPhi ≠ c.phi)) (finding 405 7 f.id c.phi f.prodPhi) ++
    foundIf (decide (f.prodRel < relOff c)) (finding 405 7 f.id (relOff c) f.prodRel))

/-- Best-effort windows met by time-triggered frames of their direction, and rounds without a secondary window of 1 µs (code 406;
09 R264, 10 R290). -/
def bestFindings (v2 : Bool) (c : Container) : List Finding :=
  let ws := cutOf c 11
  let met := (topologies c).flatMap (fun t => (occupied v2 c t).flatMap (fun o => ws.flatMap (fun p =>
    let len := CutEntry.lenNs p.2
    foundIf (decide (o.east = !CutEntry.dir p.2) && (firings c p.2).any (fun w => meetsModulo (tCc c) w (w + len : Nat) o.lo o.hi))
      { code := 406, kind := 6, id := p.1, value := o.hi, bound := p.2.w0, topo := t.code })))
  let rounds := (List.range c.ring.nR).filter (fun i => !ws.any (fun p => CutEntry.dir p.2 && decide (1000 ≤ CutEntry.lenNs p.2) &&
    (firings c p.2).any (fun w => decide (w / Nat.max 1 c.ring.tRound = i))))
  met ++ rounds.map (fun _ => finding 406 0 0 0 1000)

/-- ECN entries of one port closer together than the wire time of the earlier telegram (code 407; 11 R305). -/
def ecnFindings (c : Container) : List Finding :=
  let all := (cutOf c 8).flatMap (fun p => (firings c p.2).map (fun t => (t, p.1, CutEntry.tgt p.2)))
  all.flatMap (fun a => all.flatMap (fun b =>
    if a.2.2 / 256 = b.2.2 / 256 ∧ (a.1 ≠ b.1 ∨ a.2.1 < b.2.1) then
      let d := if a.1 = b.1 then 0 else gapTo c a.1 b.1
      let need := match c.telegrams.find? (fun t => decide (256 * t.port + t.ctx = a.2.2)) with
        | some t => byteNs (minSpeedOf c t.port) * (telFrame c t + 20)
        | none => 0
      foundIf (decide (d < need)) (finding 407 6 b.2.1 d need)
    else []))

/-- Sync and coldstart roles, the own sync slot and the windows for the others (code 408; 10 R268, R269). -/
def roleFindings (c : Container) : List Finding :=
  let ys := c.ring.syncs
  let n := c.ring.order.length
  let delays := ys.filterMap (fun x => x.delay)
  foundIf (decide (16 < ys.length) || decide (4 < delays.length) || decide (ys.length < Nat.min 3 n))
    (finding 408 13 c.nodeId ys.length (Nat.min 3 n : Nat)) ++
  ys.flatMap (fun x =>
    let bad := (match x.delay with
        | some d => decide (d = 0) || decide (65535 < d) || ys.any (fun y => decide (y.node ≠ x.node) && decide (y.delay = some d))
        | none => false) ||
      !c.ring.order.contains x.node || decide (1 < (ys.filter (fun y => decide (y.node = x.node))).length)
    let slot := if x.node = c.nodeId then
        decide ((cutOf c 12).length ≠ 1) || (cutOf c 12).all (fun p => decide (CutEntry.rep p.2 ≠ 0) || decide (p.2.w0 ≠ x.offset) || decide (CutEntry.cstart p.2 ≠ x.delay.isSome))
      else (cutOf c 13).all (fun p => decide (CutEntry.tgt p.2 ≠ x.node) || !bitOf p.2.w2 5)
    foundIf (bad || slot) (finding 408 13 x.node 0 0)) ++
  foundIf (!(cutOf c 12).isEmpty && !ys.any (fun x => decide (x.node = c.nodeId))) (finding 408 13 c.nodeId 0 0)

/-- Check 4 (12 R334). A container without a ring schedule has no ring to examine. -/
def check4 (v2 : Bool) (c : Container) : List Finding :=
  encodingFindings c ++
  (if c.ring.order.isEmpty then []
   else slotFindings v2 c ++ overlapFindings v2 c ++ windowFindings v2 c ++ producerFindings c ++ bestFindings v2 c ++ roleFindings c) ++
  ecnFindings c

/-! ## The verdict (12 R325) -/

/-- Checks of a full container, a delta's merged configuration or a stored container, in order: the first failing check reports. -/
def gaugeChecks (g : GaugeEnv) (c : Container) : Option Finding :=
  (firstFinding (formFindings g c)).orElse (fun _ =>
  (firstFinding (check1 g c)).orElse (fun _ =>
  (firstFinding (check2 c)).orElse (fun _ =>
  (firstFinding (check3 g.v2ring c)).orElse (fun _ =>
  (firstFinding (check4 g.v2ring c)).orElse (fun _ =>
  (firstFinding (check5 c)).orElse (fun _ =>
  (firstFinding (check6 c)).orElse (fun _ =>
  (firstFinding (check7 c)).orElse (fun _ => firstFinding (check8 g c)))))))))

/-- Checks that Table 12-4 lists for an entry, on the configuration with the new value (12 R341). -/
def entryChecks (g : GaugeEnv) (c : Container) (index : Nat) (sub : Nat) : Option Finding :=
  if 0x3200 ≤ index ∧ index ≤ 0x33FF then
    (firstFinding (check2 c)).orElse (fun _ => (firstFinding (check3 g.v2ring c)).orElse (fun _ =>
      (firstFinding (check5 c)).orElse (fun _ => firstFinding (check6 c))))
  else if index = 0x5001 then (firstFinding (check3 g.v2ring c)).orElse (fun _ => firstFinding (check6 c))
  else if 0x5310 ≤ index ∧ index ≤ 0x5318 then (firstFinding (check1 g c)).orElse (fun _ => firstFinding (check3 g.v2ring c))
  else if 0x4400 ≤ index ∧ index ≤ 0x47FF ∧ sub = 10 then firstFinding (check3 g.v2ring c)
  else firstFinding (check6 c)

/-- Smallest guard in the schedule (4201.03): slot length less wire time. -/
def slotGuard (v2 : Bool) (c : Container) : Nat :=
  match (cutOf c 6 ++ cutOf c 12).map (fun p => CutEntry.lenNs p.2 - wireNs v2 (CutEntry.aux p.2)) with
  | [] => 0
  | x :: xs => xs.foldl Nat.min x

end Sys2Proof.Machine
end

