-- ==== Sys2Proof/Machine/Sha.lean ====
section
/-! DEFINITION. SHA-256 (FIPS 180-4), for the password digest and the key identities (13 R359, R361). -/

namespace Sys2Proof.Machine

open Sys2Proof

/-! ## Constants

FIPS 180-4 takes its constants from roots of the first primes; here they are computed so. -/

/-- The first 64 primes: those below 312. -/
def shaPrimes : List Nat := (List.range 312).filter (fun p => decide (1 < p) && (List.range p).all (fun d => decide (d < 2) || decide (p % d ≠ 0)))

/-- The largest number below 2 to the `bits` whose power `e` is at most `n`. -/
def rootBelow (e n : Nat) : Nat → Nat → Nat
  | 0, acc => acc
  | bits + 1, acc => rootBelow e n bits (if (acc + 2 ^ bits) ^ e ≤ n then acc + 2 ^ bits else acc)

/-- First 32 bits of the fractional part of the root of degree `e` of a prime. -/
def rootFraction (e p : Nat) : BitVec 32 := BitVec.ofNat 32 (rootBelow e (p * 2 ^ (32 * e)) 40 0)

/-- The round constants: of the cube roots of the primes. -/
def shaK : List (BitVec 32) := shaPrimes.map (rootFraction 3)

/-- The eight working words. -/
structure ShaState where
  a : BitVec 32
  b : BitVec 32
  c : BitVec 32
  d : BitVec 32
  e : BitVec 32
  f : BitVec 32
  g : BitVec 32
  h : BitVec 32
  deriving DecidableEq, Repr

/-- Eight words as the working words, in order. -/
def ShaState.of (ws : List (BitVec 32)) : ShaState :=
  let w := fun i => ws.getD i 0
  ⟨w 0, w 1, w 2, w 3, w 4, w 5, w 6, w 7⟩

/-- Initial hash value: of the square roots of the first eight primes. -/
def ShaState.init : ShaState := ShaState.of ((shaPrimes.take 8).map (rootFraction 2))

/-- Word-wise sum. -/
def ShaState.add (x y : ShaState) : ShaState :=
  ⟨x.a + y.a, x.b + y.b, x.c + y.c, x.d + y.d, x.e + y.e, x.f + y.f, x.g + y.g, x.h + y.h⟩

/-- One round with constant `k` and message word `w`. -/
def ShaState.round (x : ShaState) (k w : BitVec 32) : ShaState :=
  let s1 := x.e.rotateRight 6 ^^^ x.e.rotateRight 11 ^^^ x.e.rotateRight 25
  let ch := (x.e &&& x.f) ^^^ (~~~x.e &&& x.g)
  let t1 := x.h + s1 + ch + k + w
  let s0 := x.a.rotateRight 2 ^^^ x.a.rotateRight 13 ^^^ x.a.rotateRight 22
  let maj := (x.a &&& x.b) ^^^ (x.a &&& x.c) ^^^ (x.b &&& x.c)
  ⟨t1 + (s0 + maj), x.a, x.b, x.c, x.d + t1, x.e, x.f, x.g⟩

/-- Next message word from the last 16, oldest first. -/
def shaNext (ws : List (BitVec 32)) : BitVec 32 :=
  let w15 := ws.getD 1 0
  let w2 := ws.getD 14 0
  ws.getD 0 0 + (w15.rotateRight 7 ^^^ w15.rotateRight 18 ^^^ (w15 >>> 3)) + ws.getD 9 0 +
    (w2.rotateRight 17 ^^^ w2.rotateRight 19 ^^^ (w2 >>> 10))

/-- The rounds over the constants left, with the last 16 message words. -/
def shaRounds : List (BitVec 32) → List (BitVec 32) → ShaState → ShaState
  | [], _, x => x
  | k :: ks, ws, x => shaRounds ks (ws.tail ++ [shaNext ws]) (x.round k (ws.headD 0))

/-- Big-endian 32-bit words of a run of bytes. -/
def beWords : Nat → Bytes → List (BitVec 32)
  | 0, _ => []
  | n + 1, bs => BitVec.ofNat 32 (ofBe (bs.take 4)) :: beWords n (bs.drop 4)

/-- Compression of `n` blocks of 64 bytes. -/
def shaBlocks : Nat → Bytes → ShaState → ShaState
  | 0, _, x => x
  | n + 1, bs, x => shaBlocks n (bs.drop 64) (x.add (shaRounds shaK (beWords 16 (bs.take 64)) x))

/-- SHA-256 digest of a message, as the 256-bit number whose most significant byte comes first. -/
def sha256 (m : Bytes) : Nat :=
  let zeros := (119 - m.length % 64) % 64
  let p := m ++ [0x80] ++ List.replicate zeros 0 ++ beBytes 8 (8 * m.length)
  let x := shaBlocks (p.length / 64) p ShaState.init
  [x.a, x.b, x.c, x.d, x.e, x.f, x.g, x.h].foldl (fun n w => n * 4294967296 + w.toNat) 0

end Sys2Proof.Machine
end

