-- ==== Sys2Proof/Machine/Ecdsa.lean ====
section
/-! DEFINITION. ECDSA over P-256 as FIPS 186-4 defines it: points of public keys and the verification of container signatures
(13 R361 to R363). -/

namespace Sys2Proof.Machine

open Sys2Proof

/-- Field prime of P-256. -/
def p256P : Nat := 0xffffffff00000001000000000000000000000000ffffffffffffffffffffffff

/-- Order of the base point. -/
def p256N : Nat := 0xffffffff00000000ffffffffffffffffbce6faada7179e84f3b9cac2fc632551

/-- Coefficient b of the curve y² = x³ − 3x + b. -/
def p256B : Nat := 0x5ac635d8aa3a93e7b3ebbd55769886bc651d06b0cc53b0f63bce3c3e27d2604b

/-- A point of the curve; none is the point at infinity. -/
abbrev Point := Option (Nat × Nat)

/-- Base point. -/
def p256G : Point :=
  some (0x6b17d1f2e12c4247f8bce6e563a440f277037d812deb33a0f4a13945d898c296,
        0x4fe342e2fe1a7f9b8ee7eb4a7c0f9e162bce33576b315ececbb6406837bf51f5)

/-- Extended Euclid on (r, r', t, t'): the inverse of r' modulo `m`. -/
def euclid (m : Nat) : Nat → Nat → Nat → Int → Int → Nat
  | 0, _, _, _, _ => 0
  | fuel + 1, r, r', t, t' =>
    if r' = 0 then (t % (m : Int)).toNat
    else euclid m fuel r' (r % r') t' (t - (r / r' : Nat) * t')

/-- Inverse modulo a prime. -/
def invMod (m x : Nat) : Nat := euclid m 800 m (x % m) 0 1

/-- Difference modulo `m`. -/
def subMod (m x y : Nat) : Nat := (x % m + (m - y % m)) % m

/-- Point with the slope `k` of the line through two points. -/
def chord (k x1 y1 x2 : Nat) : Point :=
  let x3 := subMod p256P (subMod p256P (k * k) x1) x2
  some (x3, subMod p256P (k * subMod p256P x1 x3) y1)

/-- Sum of two points. -/
def Point.add : Point → Point → Point
  | none, q => q
  | p, none => p
  | some (x1, y1), some (x2, y2) =>
    if x1 = x2 then
      if (y1 + y2) % p256P = 0 then none
      else chord (subMod p256P (3 * x1 * x1) 3 * invMod p256P (2 * y1) % p256P) x1 y1 x2
    else chord (subMod p256P y2 y1 * invMod p256P (subMod p256P x2 x1) % p256P) x1 y1 x2

/-- `k` times a point by doubling and adding, from the least significant bit. -/
def scalarMul : Nat → Nat → Point → Point → Point
  | 0, _, _, acc => acc
  | n + 1, k, p, acc => scalarMul n (k / 2) (Point.add p p) (if k % 2 = 1 then Point.add acc p else acc)

/-- Whether coordinates lie on the curve. -/
def onCurve (x y : Nat) : Bool :=
  decide (x < p256P) && decide (y < p256P) && decide ((y * y) % p256P = ((x * x * x) % p256P + subMod p256P p256B (3 * x)) % p256P)

/-- The point of an uncompressed public key: 16#04, X, Y (SEC 1). -/
def keyPoint (key : Bytes) : Option (Nat × Nat) :=
  match key with
  | b :: rest =>
    let x := ofBe (rest.take 32)
    let y := ofBe (rest.drop 32)
    if key.length = 65 ∧ b = 4 ∧ onCurve x y then some (x, y) else none
  | [] => none

/-- Key identity: low 32 bits of the SHA-256 digest of the 65 bytes (13 R361). -/
def keyIdentity (key : Bytes) : Nat := sha256 key % 4294967296

/-- ECDSA verification of (r, s) over a digest with a public key. -/
def ecdsaVerify (key : Bytes) (digest r s : Nat) : Bool :=
  match keyPoint key with
  | none => false
  | some q =>
    if r = 0 ∨ p256N ≤ r ∨ s = 0 ∨ p256N ≤ s then false
    else
      let w := invMod p256N s
      let u1 := digest * w % p256N
      let u2 := r * w % p256N
      match Point.add (scalarMul 256 u1 p256G none) (scalarMul 256 u2 (some q) none) with
      | some (x, _) => decide (x % p256N = r)
      | none => false

end Sys2Proof.Machine
end

