-- ==== Sys2Proof/Machine/Session.lean ====
section
/-! DEFINITION. The privileged session, the password, the signing keys, the Escutcheon plug in service and the JTAG port
(13 R353 to R366). -/

namespace Sys2Proof.Machine

open Sys2Proof

/-! ## The session (13 R355 to R357, R359, R360) -/

/-- Whether a request comes from the holder of the session: one client id on one path (R357). -/
def State.holds (s : State) (r : Sender) : Bool :=
  s.priv.holder.any (fun h => decide (h.client = r.client) && decide (h.path = r.path))

/-- Whether another client holds the session. -/
def State.heldByOther (s : State) (r : Sender) : Bool := s.priv.holder.isSome && !s.holds r

/-- Type 12: a session event, 1 opened, 2 closed by its holder, 3 ended otherwise, 4 failed attempt, with client and path (14
Table 14-4; the event codes are the model's own). -/
def recordSession (s : State) (event client path : Nat) : State :=
  record s 11 12 (leBytes 1 event ++ leBytes 1 client ++ leBytes 1 path)

/-- Consecutive failures; a lockout that has run out leaves none (R356). -/
def Priv.failCount (p : Priv) : Nat := if 5 ≤ p.fails ∧ p.lockNs = 0 then 0 else p.fails

/-- Whether a lockout is in progress. -/
def Priv.locked (p : Priv) : Bool := decide (0 < p.lockNs)

/-- A failed attempt counted; the fifth starts a lockout of 15 min (R356). -/
def countFailure (s : State) (r : Sender) : State :=
  let n := s.priv.failCount + 1
  let s := { s with priv := { s.priv with fails := n, lockNs := if 5 ≤ n then 900000000000 else s.priv.lockNs } }
  recordSession s 4 r.client r.path.code

/-- The session opened for a client; its idle time starts. -/
def openFor (s : State) (r : Sender) (reset : Bool) : State :=
  let s := { s with priv := { s.priv with holder := some r, lastAt := s.time.now, fails := if reset then 0 else s.priv.fails } }
  recordSession s 1 r.client r.path.code

/-- The end of the session, if one is open. -/
def endSession (s : State) (event : Nat) : State :=
  match s.priv.holder with
  | some h => recordSession { s with priv := { s.priv with holder := none } } event h.client h.path.code
  | none => s

/-- Whether the length and characters of a password are in range (R355). -/
def passwordOk (pw : Bytes) : Bool :=
  decide (8 ≤ pw.length) && decide (pw.length ≤ 32) && pw.all (fun b => decide (0x21 ≤ b.toNat) && decide (b.toNat ≤ 0x7E))

/-- Whether a password matches the stored digest (R359). -/
def Priv.matches (p : Priv) (pw : Bytes) : Bool := decide (p.digest = some (sha256 (p.salt ++ pw)))

/-- Abort code of an attempt to open the session, 0 when it opens, by the first row of Table 13-4 that applies. -/
def openOutcome (s : State) (r : Sender) (pw : Bytes) : Nat :=
  if !bitOf (jget s 0x8011 1) r.path.code then 0x0A120003
  else if s.priv.locked then 0x0A120004
  else if s.heldByOther r then 0x0A120006
  else if s.priv.digest.isNone then (if s.unsealed then 0 else 0x0A120002)
  else if !passwordOk pw then 0x06090030
  else if s.priv.matches pw then 0 else 0x0A120007

/-- OPEN_SESSION (Table 13-4): what an attempt leaves. Every failed attempt is recorded; those of length, characters and a wrong
password count. -/
def openAttempt (s : State) (r : Sender) (pw : Bytes) : State :=
  let c := openOutcome s r pw
  if c = 0 then openFor s r s.priv.digest.isSome
  else if c = 0x06090030 ∨ c = 0x0A120007 then countFailure s r
  else recordSession s 4 r.client r.path.code

/-- SESSION_IDLE_TIMEOUT (R357): the idle time of 8010.05 after the holder's last request. -/
def sessionIdle (s : State) : State :=
  match s.priv.holder with
  | some _ => endSession (advanceTo s (s.priv.lastAt + 1000000000 * jget s 0x8010 5)) 3
  | none => s

/-- LOCKOUT_END (R356): the lockout runs out and the failure count returns to 0. -/
def lockoutOver (s : State) : State :=
  if s.priv.locked then
    let s := advanceTo s (s.time.now + s.priv.lockNs)
    { s with priv := { s.priv with fails := 0, lockNs := 0 } }
  else { s with priv := { s.priv with fails := s.priv.failCount } }

/-- A new password: a salt of 16 bytes from the random source and the digest of salt and password (R359). -/
def setPassword (s : State) (pw : Bytes) : State :=
  let salt := leBytes 16 (Config.randomSalt s.free).toNat
  { s.drew with priv := { s.priv with salt := salt, digest := some (sha256 (salt ++ pw)) } }

/-- The password removed and any session ended (R357, R359). -/
def removePassword (s : State) : State := endSession { s with priv := { s.priv with salt := [], digest := none } } 3

/-! ## Keys (13 R361 to R365) -/

/-- Identity of the key in a slot. -/
def State.keyAt (s : State) (slot : Nat) : Option Nat := (Store.find? s.keys slot).map keyIdentity

/-- Abort code of a key written to a slot, 0 when it is taken (R361): the state rule first, then the value rule. -/
def keyOutcome (s : State) (slot : Nat) (key : Bytes) : Nat :=
  if (Store.find? s.keys slot).isSome then 0x08000022
  else if (keyPoint key).isNone ∨ s.revoked.contains (keyIdentity key) then 0x06090030 else 0

/-- A key stored in its slot. -/
def storeKey (s : State) (slot : Nat) (key : Bytes) : State := { s with keys := Store.insert s.keys slot key }

/-- The container stored for the next start-up, as the lowest-lettered lane that has one holds it. -/
def State.storedContainer (s : State) : Option Container :=
  (LaneId.all.filterMap (fun l => (s.lane l).stored)).head?

/-- Abort code of a revocation, 0 when it takes effect (R364). -/
def revokeOutcome (s : State) (slot : Nat) : Nat :=
  match s.keyAt slot with
  | none => 0x08000022
  | some k =>
    if (s.config.isSome && decide (s.cfg.keyId = k)) || s.storedContainer.any (fun c => decide (c.signed.keyId = k)) then 0x08000022
    else if s.keys.length ≤ 1 then 0x08000022
    else if 16 ≤ s.revoked.length then 0x05040005 else 0

/-- A key revoked: its identity joins the list and the slot becomes empty (R364). -/
def dropKey (s : State) (slot : Nat) : State :=
  match s.keyAt slot with
  | some k => { s with keys := Store.erase s.keys slot, revoked := s.revoked ++ [k] }
  | none => s

/-- Abort code of a new minimum container version, 0 when it is taken (R365). -/
def minVersionOutcome (s : State) (v : Nat) : Nat :=
  if v < jget s 0x8105 1 ∨ s.storedContainer.any (fun c => decide (c.version < v)) then 0x08000022 else 0

/-- Load status of a container by its signature block, version and node identity, in the order of Table 13-5: 1 accepted. -/
def loadStatus (s : State) (x : Signed) (version node : Nat) : Nat :=
  match (s.keys.map Prod.snd).find? (fun k => decide (keyIdentity k = x.keyId)) with
  | none => 2
  | some key =>
    if s.revoked.contains x.keyId then 3
    else if !ecdsaVerify key x.digest x.r x.s then 4
    else if version < jget s 0x8105 1 then 5
    else if node ≠ s.pins.node then 6 else 1

/-! ## The plug in service (13 R353) -/

/-- Type 22: the four plug readings. -/
def recordPlug (s : State) : State :=
  record s 0 22 (leBytes 1 s.pins.escJ ++ leBytes 1 s.pins.escL.a ++ leBytes 1 s.pins.escL.b ++ leBytes 1 s.pins.escL.c)

/-- Whether a reading changed a bit of ESC[6:0]. -/
def plugMoved (p : Pins) (j : Nat) (ls : Tri Nat) : Bool :=
  decide (p.escJ % 128 ≠ j % 128) || LaneId.all.any (fun l => decide (p.escL.get l % 128 ≠ ls.get l % 128))

/-- The readings in service: runs of equal junction readings of ESC7 and of lane readings that differ from it. -/
def Pins.read (p : Pins) (j : Nat) (ls : Tri Nat) : Pins :=
  let b := bitOf j 7
  let runs := if decide (bitOf p.escJ 7 = b) then Nat.min 3 (p.esc7Runs + 1) else 1
  let off := ls.mapId (fun l v => if bitOf v 7 = b then 0 else Nat.min 3 (p.escRuns.get l + 1))
  let far := LaneId.all.any (fun l => decide (3 ≤ off.get l))
  let agree := LaneId.all.all (fun l => decide (off.get l = 0))
  { p with escJ := j, escL := ls, esc7Runs := runs, escRuns := off, esc7 := if 3 ≤ runs then b else p.esc7
           disagree := if far then true else if agree then false else p.disagree }

/-- Readings shown in 8000.01 and 8000.02. -/
def showPlug (s : State) : State :=
  let s := jset s 0x8000 1 s.pins.escJ
  s.modLanes (fun l ln => ln.rset 0x8000 2 (s.pins.escL.get l))

/-- PLUG_READING (R353): the lands in every state; in service every 10 ms, with their supervision. -/
def plugReading (s : State) (j : Nat) (ls : Tri Nat) : State :=
  if !s.booted then { s with pins := { s.pins with escJ := j, escL := ls } }
  else
    let old := s.pins
    let s := advanceTo s (old.readAt + 10000000)
    let s := showPlug { s with pins := { old.read j ls with readAt := s.time.now } }
    let moved := plugMoved old j ls
    let s := if moved then jset s 0x8000 5 (Nat.lor (jget s 0x8000 5) 2) else s
    let s := if !old.esc7 && s.pins.esc7 && s.inRun then jset s 0x8000 5 (Nat.lor (jget s 0x8000 5) 4) else s
    if moved || decide (old.esc7 ≠ s.pins.esc7) || (!old.disagree && s.pins.disagree) then recordPlug s else s

/-! ## JTAG (13 R366) -/

/-- Whether the device is in reset or in start-up before step 7. -/
def State.beforeRing7 (s : State) : Bool := decide (s.mode = .startUp) && decide (s.power.step < 7)

/-- JTAG_INSTRUCTION (R366): the instruction that takes effect; one that takes the lands later than before step 7 selects BYPASS, and is
counted in RUN and in the safe state. -/
def jtagLoad (s : State) (i : JtagCode) : State :=
  let put := fun (s : State) (c : JtagCode) => { s with pins := { s.pins with jtag := c } }
  let refuse := if s.mode = .startUp then put s .bypass else jbump (put s .bypass) 0x8030 2
  match i with
  | .bypass | .idcode | .samplePreload => put s i
  | .other => put s .bypass
  | .extest => if s.beforeRing7 then put s i else refuse
  | .takesLands =>
    if !s.beforeRing7 then refuse
    else if s.pins.unsealedMode then put s i else put s .bypass
  | .factory => if s.beforeRing7 && s.pins.unsealedMode then put s i else put s .bypass

end Sys2Proof.Machine
end

