-- ==== Sys2Proof/Machine/Recorder.lean ====
section
/-! DEFINITION. Commits that complete, carries and scrubbing; arming, draining, reading and freezing the event recorder; the
change log and the monitors as their commands change them (14 R371 to R373, R382 to R392, 06 R180). -/

namespace Sys2Proof.Machine

open Sys2Proof

/-! ## Commits, carries, scrubbing -/

/-- Whether every active lane's newest complete commit holds the state of a configuration. -/
def commitHolds (s : State) (identity : Nat) : Bool :=
  s.actives.all (fun l => match (s.lane l).glue.commits with
    | r :: _ => decide (r.config = identity)
    | [] => false)

/-- The base released once the commit of the activation cycle has completed in every active lane: the merged configuration is
what the next start-up loads, written in the base's place (06 R180, R181). -/
def releaseBase (s : State) : State :=
  match s.cfg.base, s.config with
  | some b, some c =>
    if commitHolds s c.identity then
      let s := s.modLanes (fun _ ln =>
        if ln.stored.any (fun x => decide (x.identity = b.identity)) then { ln with stored := ln.spare, spare := none }
        else { ln with spare := none })
      let s := stampCopies s LaneId.all 0
      { s with cfg := { s.cfg with base := none } }
    else s
  | _, _ => s

/-- COMMIT_WRITE_COMPLETE (R371): the trailer makes the record complete. -/
def commitComplete (s : State) (l : LaneId) : State :=
  if (s.lane l).glue.writing.isSome then
    let now := s.time.now
    releaseBase (stampRegions (s.modLane l (fun ln => ln.commitDone l now)))
  else s

/-- CARRY_PIECE (R373): while no commit is written, a piece of at most 4 KiB of blocks of the newest complete commit. -/
def carryWrite (s : State) (l : LaneId) (blocks : List Nat) : State :=
  match (s.lane l).glue.writing, (s.lane l).glue.commits with
  | none, r :: _ =>
    if recordSize blocks.length ≤ 4096 ∧ blocks ≠ [] then
      stampRegions (s.modLane l (fun ln => ln.append (ln.carryRecord l r blocks)))
    else s
  | _, _ => s

/-- Five years in ns, of 365.25 days as the 40 years of 12 R336. -/
def fiveYears : Nat := 157788000000000000

/-- Region of the recorder MRAM, die 3, that a slot lies in: 512 slots of 128 bytes to a region, the keep area first. Behind the 3 840 regions
of the slots lie 8 of the staging buffer and 8 of the change log, the last region holds the management data (DESIGN CHOICE, log 88). -/
def slotRegion (keep : Bool) (slot : Nat) : Nat := 196608 + (if keep then slot / 512 else 512 + slot / 512)

/-- Last writes of the recorder's regions, by node time, by the records and the entries of the change log that lie in them. -/
def recorderWrites (s : State) : Store Nat :=
  let one := fun (keep : Bool) (m : Store Nat) (p : Nat × EvRec) =>
    let r := slotRegion keep p.1
    Store.insert m r (Nat.max (Store.get m 0 r) p.2.time)
  let m := s.recorder.circ.foldl (one false) (s.recorder.keep.foldl (one true) [])
  let m := s.recorder.stageAt.foldl (fun m p => Store.insert m (196608 + 3840 + p.1) p.2) m
  s.log.zipIdx.foldl (fun m p => Store.insert m (196608 + 3848 + p.2 / 512) p.1.time) m

/-- Last writes of every region, on the clock of the ages; the management data of a die, in its last region, change with every region of it
that is written. -/
def regionWrites (s : State) : Store Nat :=
  let shift := s.regionClock - s.time.now
  let known := (recorderWrites s).foldl (fun m p => Store.insert m p.1 (Nat.max (Store.get m 0 p.1) (p.2 + shift))) s.scrub
  known.foldl (fun m p =>
    let r := 65536 * (p.1 / 65536) + (if p.1 / 65536 < 3 then 2047 else 4095)
    Store.insert m r (Nat.max (Store.get m 0 r) p.2)) known

/-- The times of last writes kept while records or entries leave the areas. -/
def keepWrites (s : State) : State := { s with scrub := regionWrites s }

/-- One region rewritten with its own content: counted in 3046.00 and recorded with type 23. -/
def scrubRegion (s : State) (r : Nat) : State :=
  let s := jbump { s with scrub := Store.insert s.scrub r s.regionClock } 0x3046 0
  record s (if r / 65536 < 3 then r / 65536 + 1 else 10) 23 (leBytes 1 (r / 65536) ++ leBytes 2 (r % 65536))

/-- SCRUB_EVALUATION (R382): every region whose age reaches 5 years is rewritten; a region that the device has not written has
no age. -/
def scrubAll (s : State) : State :=
  if s.booted then
    let old := (regionWrites s).filterMap (fun p => if p.2 + fiveYears ≤ s.regionClock then some p.1 else none)
    old.foldl scrubRegion s
  else s

/-! ## The recorder -/

/-- Arming (R383): the sizes of 7000.01 and 7000.02, s_arm at the next sequence, the areas discarded. -/
def armRecorder (s : State) : State :=
  let s := keepWrites s
  { s with recorder := { s.recorder with keep := [], circ := [], sizeN := jget s 0x7000 1, sizeM := jget s 0x7000 2,
                                         sArm := s.recorder.head } }

/-- A staged record enters the areas; one from before the last arming is discarded with them. -/
def Recorder.settle (r : Recorder) : Recorder :=
  match r.staged with
  | e :: es => let r := { r with staged := es }
               if r.sArm ≤ e.seq then r.place e else r
  | [] => r

/-- STAGING_DRAIN (R385, R387): the oldest staged record, while no client holds a freeze; the buffer then has room for the count of the
records that it lost. -/
def drainOne (s : State) : State :=
  if s.recorder.holder.isNone then { s with recorder := s.recorder.settle.tellLost s.time.now } else s

/-- Slot of a sequence number, zeros when nothing has been written to it (R383, R386). -/
def Recorder.slotBytes (r : Recorder) (seq : Nat) : Bytes :=
  let i := seq - r.sArm
  match (if i < r.sizeN then Store.find? r.keep i else Store.find? r.circ ((i - r.sizeN) % Nat.max 1 r.sizeM)) with
  | some e => e.bytes
  | none => List.replicate 128 0

/-- The record with a sequence number, if its slot holds it (R386). -/
def Recorder.at_ (r : Recorder) (seq : Nat) : Option EvRec :=
  let i := seq - r.sArm
  if seq < r.sArm ∨ r.head ≤ seq then none
  else match (if i < r.sizeN then Store.find? r.keep i else Store.find? r.circ ((i - r.sizeN) % Nat.max 1 r.sizeM)) with
    | some e => if e.seq = seq then some e else none
    | none => none

/-- Slots that a read of 7010.03 covers from a cursor: up to the head, at most 64; none outside s_arm to the head (R386). -/
def Recorder.blockLen (r : Recorder) (cursor : Nat) : Nat :=
  if cursor < r.sArm ∨ r.head ≤ cursor then 0 else Nat.min 64 (r.head - cursor)

/-- The content of a record block. -/
def Recorder.block (r : Recorder) (cursor : Nat) : Bytes :=
  (List.range (r.blockLen cursor)).flatMap (fun i => r.slotBytes (cursor + i))

/-- Freeze begun by a client (R387). -/
def beginFreeze (s : State) (client : Nat) : State :=
  { s with recorder := { s.recorder with holder := some client, holdAt := s.time.now } }

/-- Freeze ended: the staged records enter the areas as STAGING_DRAIN moves them (R387). -/
def endFreeze (s : State) : State := { s with recorder := { s.recorder with holder := none } }

/-- FREEZE_TIMEOUT (R387): 60 s after the holder's last request. -/
def freezeOver (s : State) : State :=
  match s.recorder.holder with
  | some _ => endFreeze (advanceTo s (s.recorder.holdAt + 60000000000))
  | none => s

/-! ## The change log -/

/-- The entry that a cursor names, counted from 1 (R389). -/
def State.logAt (s : State) (n : Nat) : Option Bytes :=
  if n = 0 then none else (s.log[n - 1]?).map (fun e => e.bytes n)

/-- CRC-32C over the 128 bytes of every entry in order. -/
def logCrc (s : State) : Nat := crc32c (s.log.zipIdx.flatMap (fun p => p.1.bytes (p.2 + 1)))

/-- The log cleared: the first new entry, of kind 5, holds the count and the CRC-32C of the entries cleared (R390). -/
def clearLog (s : State) (client path : Nat) : State :=
  let old := leBytes 4 s.log.length ++ leBytes 4 (logCrc s)
  logEntry { keepWrites s with log := [] } client path 0x7203 0 5 old []

/-! ## Monitors -/

/-- A monitor cleared. -/
def clearMonitor (s : State) (n : Nat) : State := { s with monitors := Store.erase s.monitors n }

/-- DIE_TEMPERATURE_READING (18 R471): one die's reading every 10 ms, dies 0 to 2 the lanes, 3 the junction, 4 the field die as
the lowest-lettered active lane section reports it. -/
def dieTemperature (s : State) (die : Nat) (t : Int) : State :=
  if s.booted && (decide (die ≠ 4) || (s.variantF && s.field.operating)) then
    let s := match LaneId.ofNum die with
      | some l => s.modLane l (fun ln => ln.rset 0x2108 1 (wrapTo 16 t))
      | none => jset s 0x2108 (die + 1) (wrapTo 16 t)
    let s := if 1250 ≤ t then jbump s 0x2108 (die + 6) else s
    monitorTake s 7 die t
  else s

/-- SUPPLY_RAIL_SAMPLE (R391): every 1 ms; selectors 0 to 3 VIN_A, VIN_B, VIN_C and VIN_J, 4 FS_PWR, 5 to 8 DOVS0 to DOVS3. -/
def railSample (s : State) (rail mV : Nat) : State :=
  let s := match LaneId.ofNum rail with
    | some l => s.modLane l (fun ln => ln.rset 0x2101 1 (mV % 65536))
    | none => if rail = 3 then jset s 0x2101 4 (mV % 65536) else if rail = 4 ∧ s.variantF then seeSupplyAll s (mV % 65536) else s
  let s := { s with power := { s.power with mV := Store.insert s.power.mV rail mV } }
  if s.booted then monitorTake s 6 rail mV else s

end Sys2Proof.Machine
end

