-- ==== Sys2Proof/Machine/Admit.lean ====
section
/-! DEFINITION. Containers and their admission, timing-relevant writes on the configuration they would change, on-line change
and forces (06 R167 to R173, R182 to R188, 12 R323 to R325, R340 to R343, 13 R363). -/

namespace Sys2Proof.Machine

open Sys2Proof

/-! ## The configuration with values written to it (12 R341, R342) -/

/-- Whether a lane entry changes what the Gauge judges (12 Table 12-4), or a parameter that its checks read. -/
def judged (index : Nat) : Bool :=
  (decide (0x3200 ≤ index) && decide (index ≤ 0x33FF)) || (decide (0x4400 ≤ index) && decide (index ≤ 0x47FF)) ||
  decide (index = 0x411A) || decide (index = 0x414A) || (decide (0x5000 ≤ index) && decide (index ≤ 0x543F))

/-- Whether a task takes a write of its context that reaches a lane, or every lane. -/
def taskTakes (t : Task) (lane : Option LaneId) : Bool :=
  match lane with
  | some l => decide (t.scope = l.num + 1)
  | none => decide (t.scope = 0)

/-- A configuration with one entry at a new value: period and phase of a task, A_max and D_max of a flow, A_max of a telegram
context, n_drop and n_rec of a station, or a parameter. -/
def withWrite (c : Container) (w : BatchWrite) : Container :=
  let index := w.key / 256
  let sub := w.key % 256
  if 0x3200 ≤ index ∧ index ≤ 0x33FF then
    { c with tasks := c.tasks.map (fun t =>
        if t.ctx = index - 0x3200 ∧ taskTakes t w.lane then
          { t with kind := match t.kind with
              | .cyclic m p => if sub = 3 then .cyclic w.val p else if sub = 4 then .cyclic m w.val else .cyclic m p
              | k => k }
        else t) }
  else if 0x4400 ≤ index ∧ index ≤ 0x47FF then
    { c with flows := c.flows.map (fun f =>
        if f.id = index - 0x4400 then
          { f with aMax := if sub = 9 then w.val else f.aMax, dMaxUs := if sub = 10 then w.val else f.dMaxUs }
        else f) }
  else if index = 0x411A ∨ index = 0x414A then
    { c with telegrams := c.telegrams.map (fun t =>
        if t.port = (if index = 0x411A then 0 else 1) ∧ t.ctx = sub then { t with aMax := w.val } else t) }
  else if 0x5400 ≤ index ∧ index ≤ 0x543F then
    { c with stations := c.stations.map (fun x =>
        if x.no = index - 0x5400 then
          { x with nDrop := if sub = 3 then w.val else x.nDrop, nRec := if sub = 4 then w.val else x.nRec }
        else x) }
  else { c with params := (c.params.filter (fun p => decide (p.1 ≠ w.key))) ++ [(w.key, w.val)] }

/-- Entries that a lane's registers or the parameters of a container name, that the Gauge reads and that can be written. -/
def heldKeys (ln : Lane) (c : Container) (l : LaneId) : List Nat :=
  ((ln.reg.map (fun p => p.1)) ++ (laneParams c l).map (fun p => p.1)).dedup.filter (fun key =>
    judged (key / 256) && (match entry? (key / 256) (key % 256) with
      | some e => decide (e.acc = .rwS)
      | none => false))

/-- Values that the lanes hold of the entries that the Gauge reads, at their defaults too: voted ones, and those of a lane's single-lane
tasks. For a configuration other than that of the lanes, an entry that it gives another value than theirs keeps the new one
(06 R175). -/
def heldWrites (s : State) (c : Container) : List BatchWrite :=
  let isSingle := fun (key : Nat) (l : LaneId) => decide (0x3200 ≤ key / 256) && decide (key / 256 ≤ 0x33FF) && singleCtx c l (key / 256 - 0x3200)
  let of := fun (l : LaneId) (lane : Option LaneId) =>
    match (s.lane l).container with
    | none => []
    | some b => ((heldKeys (s.lane l) c l).filter (fun key =>
        (laneParams c l).all (fun p => decide (p.1 ≠ key) || (laneParams b l).contains p))).map (fun key =>
          ({ key := key, val := Store.get (s.lane l).reg (tableDefault key) key, lane := lane } : BatchWrite))
  of s.lead none ++ LaneId.all.flatMap (fun l => (of l (some l)).filter (fun w => isSingle w.key l))

/-- A configuration with the values in force in the lanes and the writes already accepted into the batch. -/
def effective (s : State) (c : Container) : Container :=
  (s.batchIn.writes.filter (fun w => judged (w.key / 256))).foldl withWrite ((heldWrites s c).foldl withWrite c)

/-- The device as the Gauge sees it, with the base of a delta (12 R323). -/
def gaugeEnv (s : State) (base : Option Container) : GaugeEnv :=
  { variantC := !s.variantF, level := jget s 0x2000 4, esc6 := s.pins.split, base := base }

/-! ## Reports (12 R340, Table 12-5, 14 type 13) -/

/-- Subject codes of 9010.02. -/
def Subject.code : Subject → Nat
  | .full _ => 1
  | .delta => 2
  | .entry _ _ _ _ _ => 3
  | .stored => 4

/-- An admission begun: verdict 3, running. -/
def beginGauge (s : State) (x : Subject) (c : Option Container) : State :=
  let s := { s with cfg := { s.cfg with gauge := some x, gaugeK := c, gaugeAt := s.time.now } }
  jset (jset s 0x9010 1 3) 0x9010 2 x.code

/-- Values of 9010.01 to 9010.07 as a type 13 record holds them. -/
def verdictBytes (s : State) : Bytes :=
  leBytes 1 (jget s 0x9010 1) ++ leBytes 1 (jget s 0x9010 2) ++ leBytes 2 (jget s 0x9010 3) ++ leBytes 1 (jget s 0x9010 4) ++
  leBytes 4 (jget s 0x9010 5) ++ leBytes 8 (jget s 0x9010 6) ++ leBytes 8 (jget s 0x9010 7)

/-- An admission finished in `ms`: 9010, and a record of type 13; `refused` is what 9010.0A shows. -/
def reportGauge (s : State) (x : Subject) (f : Option Finding) (ms refused : Nat) : State :=
  let g := f.getD (finding 0 0 0 0 0)
  let s := { s with cfg := { s.cfg with gauge := none, gaugeK := none } }
  let s := jset (jset s 0x9010 1 (if f.isSome then 2 else 1)) 0x9010 2 x.code
  let s := jset (jset (jset s 0x9010 3 g.code) 0x9010 4 g.kind) 0x9010 5 g.id
  let s := jset (jset s 0x9010 6 (wrapTo 64 g.value)) 0x9010 7 (wrapTo 64 g.bound)
  let s := jset (jset (jset s 0x9010 8 g.topo) 0x9010 9 ms) 0x9010 10 refused
  record s 4 13 (verdictBytes s)

/-- Time that the admission in progress has taken, in ms. -/
def State.gaugeMs (s : State) : Nat := (s.time.now - s.cfg.gaugeAt) / 1000000

/-! ## Full containers (12 R324, 13 R363) -/

/-- A container whose structure is not recognised, with the signature block that closes its bytes. -/
def unread (x : Signed) : Container :=
  { formOk := false, revision := 0, variantC := false, level := 0, nodeId := 0, version := 0, identity := 0, signed := x,
    tBase := 0, phi := 0, sOff := 0, vOff := 0, oOff := 0, pGlue := 0, bIn := 0, bOut := 0, qExt := 0, ringIdent := 0,
    splits := Tri.all [], tasks := [], orders := [], programs := [], groups := [], symbols := [], links := [],
    lcv := Tri.all [], fields := [], doMap := [], pulse := [], params := [], cut := [],
    ring := { order := [], links := [], relays := [], tRound := 0, nR := 0, slots := [], syncs := [], identity := 0, digest := 0 },
    flows := [], telegrams := [], minSpeed := [], canRx := [], canTx := [], stations := [], cvus := [], windows := [],
    chains := [], safety := [], triggersOpen := [] }

/-- The signature block that closes the bytes of a container, and the digest of what it signs (13 R362). -/
def signedOfBytes (bs : Bytes) : Signed :=
  let n := bs.length - 72
  let b := bs.drop n
  { keyId := ofLe (b.take 4), r := ofBe ((b.drop 4).take 32), s := ofBe ((b.drop 36).take 32), digest := sha256 (bs.take n) }

/-- The container that downloaded bytes spell. -/
def containerFrom (bs : Bytes) : Container :=
  match Config.containerOf bs with
  | some c => { c with signed := signedOfBytes bs }
  | none => unread (signedOfBytes bs)

/-- A full container downloaded: its signature verified, the load status in 8105.02 (13 R363). -/
def takeDownload (s : State) (k : Container) : State :=
  let st := loadStatus s k.signed k.version k.nodeId
  jset { s with cfg := { s.cfg with download := some (k, st) } } 0x8105 2 st

/-- Abort code of a container command, 0 when it runs: a download that verified, and no admission in progress (12 R324). -/
def containerCmdOutcome (s : State) : Nat :=
  match s.cfg.download with
  | some (_, st) => if st ≠ 1 ∨ s.cfg.gauge.isSome then 0x08000022 else 0
  | none => 0x08000022

/-- The Gauge started on the downloaded container. -/
def startFull (s : State) (store : Bool) : State :=
  match s.cfg.download with
  | some (k, _) => beginGauge s (.full store) (some k)
  | none => s

/-- A container stored in every lane for the next start-up (12 Table 12-5). -/
def storeContainer (s : State) (k : Container) : State :=
  stampCopies (s.modLanes (fun _ ln => { ln with stored := some k })) LaneId.all 0

/-! ## Timing-relevant writes (12 R341, R342) -/

/-- Whether an entry is one of Table 12-4. -/
def timingEntry (index sub : Nat) : Bool :=
  (decide (0x3200 ≤ index) && decide (index ≤ 0x33FF) && (decide (sub = 3) || decide (sub = 4))) || decide (index = 0x5001) ||
  (decide (0x5310 ≤ index) && decide (index ≤ 0x5318)) ||
  (decide (0x4400 ≤ index) && decide (index ≤ 0x47FF) && (decide (sub = 9) || decide (sub = 10))) ||
  decide (index = 0x411A) || decide (index = 0x414A) ||
  (decide (0x5400 ≤ index) && decide (index ≤ 0x543F) && decide (sub = 3))

/-- Lane that a write reaches: the selected lane's single-lane task of a context (04 R478), else every lane. -/
def writeLane (s : State) (view : LaneId) (index : Nat) : Option LaneId :=
  if 0x3200 ≤ index ∧ index ≤ 0x33FF then
    match s.config with
    | some c => if LaneId.all.any (fun l => singleCtx c l (index - 0x3200)) then some view else none
    | none => none
  else none

/-- The re-check of a write on the configuration in force, and during states 2 to 6 of a change on the merged one too. -/
def recheck (s : State) (w : BatchWrite) : Option Finding :=
  let index := w.key / 256
  let sub := w.key % 256
  let one := fun (c : Container) => entryChecks (gaugeEnv s none) (withWrite (effective s c) w) index sub
  match s.config with
  | none => none
  | some c => (one c).orElse (fun _ =>
      if 2 ≤ s.change.state then (match s.change.delta with
        | some d => one d.merged
        | none => none)
      else none)

/-! ## On-line change (06 R167 to R173) -/

/-- A delta refused or abandoned before its activation. -/
def refuseDelta (s : State) (result detail : Nat) : State := endChange s result detail

/-- Parameters whose value differs between two configurations. -/
def changedParams (base merged : Container) : List Nat :=
  ((base.params ++ merged.params).map (fun p => p.1)).dedup.filter (fun key =>
    decide (paramOf base (key / 256) (key % 256) ≠ paramOf merged (key / 256) (key % 256)))

/-- Access of an entry by its key; none where the tables have no such entry. -/
def accessAt (key : Nat) : Option Access := (entry? (key / 256) (key % 256)).map (fun e => e.acc)

/-- Cutting-list entries that a delta may not change: all but those of converter starts, ECN transmit, user event triggers and PPS_OUT
(06 Table 06-1), by place and without their check value, which covers the place. -/
def fixedEntries (c : Container) : List (Nat × Nat × Nat) :=
  ((cutEntries c).filter (fun p => !([3, 8, 9, 10] : List Nat).contains (CutEntry.act p.2))).map (fun p => (p.2.w0, p.2.w1, p.2.w2))

/-- A flow without what a delta may change of it: where its data stand, and its S-class limits. -/
def Flow.layout (f : Flow) : Flow := { f with area := 0, ofs := 0, aMax := 0, dMaxUs := 0 }

/-- A telegram context without what a delta may change of it. -/
def Telegram.layout (t : Telegram) : Telegram := { t with area := 0, ofs := 0, aMax := 0 }

/-- A station without what a delta may change of it. -/
def Station.layout (x : Station) : Station := { x with substs := [], nDrop := 0, nRec := 0 }

/-- Engines or halves that hold a task of a configuration. -/
def enginesUsed (c : Container) : List Nat := (c.tasks.map (fun t => t.ctx / 16)).dedup

/-- The windows of a configuration with the variables whose symbols a change keeps: a symbol that it adds, removes or retypes takes its variables with
it (06 R168, R173; DEDUCED, log 85). -/
def keptWindows (base merged x : Container) : List (Nat × List (Nat × Bool)) :=
  let kept := fun (id : Nat) => base.symbols.any (fun y => decide (y.id = id) && merged.symbols.any (fun z => decide (z.id = id) && decide (z.type = y.type)))
  (x.windows.map (fun w => (w.w, w.vars.filter (fun v => kept v.1)))).filter (fun w => decide (w.2 ≠ []))

/-- Items that a delta may not change (06 R168, Table 06-1), by their rows in the table counted from 1; row 13 stands for every item that
the table does not name. The manual gives items no numbers: DESIGN CHOICE (log 85). -/
def barredItems (base merged : Container) : List Nat :=
  (if (enginesUsed merged).all (fun e => (enginesUsed base).contains e) then [] else [2]) ++
  (if base.tBase = merged.tBase ∧ base.phi = merged.phi ∧ base.sOff = merged.sOff ∧ base.vOff = merged.vOff ∧ base.oOff = merged.oOff
    then [] else [9]) ++
  (if base.splits = merged.splits then [] else [10]) ++
  (if base.ring = merged.ring ∧ base.ringIdent = merged.ringIdent ∧ fixedEntries base = fixedEntries merged ∧
      base.flows.map Flow.layout = merged.flows.map Flow.layout then [] else [11]) ++
  (if (changedParams base merged).any (fun key => decide (accessAt key = some .rwP)) then [12] else []) ++
  (if (changedParams base merged).all (fun key => decide (accessAt key = some .rwP) || decide (accessAt key = some .rwS)) ∧
      base.revision = merged.revision ∧ base.variantC = merged.variantC ∧ base.level = merged.level ∧ base.nodeId = merged.nodeId ∧
      base.pGlue = merged.pGlue ∧ base.lcv = merged.lcv ∧ base.telegrams.map Telegram.layout = merged.telegrams.map Telegram.layout ∧
      base.minSpeed = merged.minSpeed ∧ base.canRx = merged.canRx ∧ base.canTx = merged.canTx ∧
      base.stations.map Station.layout = merged.stations.map Station.layout ∧ base.cvus = merged.cvus ∧ base.chains = merged.chains ∧
      base.safety = merged.safety ∧ base.doMap = merged.doMap ∧ base.healthMap = merged.healthMap ∧ base.pulse = merged.pulse ∧
      keptWindows base merged base = keptWindows base merged merged then [] else [13])

/-- Whether a delta changes the value of an S-class parameter (06 Table 06-1): of an rwS entry, A_max or D_max of a flow, A_max of a
telegram context. -/
def changesSClass (base merged : Container) : Bool :=
  (changedParams base merged).any (fun key => decide (accessAt key = some .rwS)) ||
  decide (base.flows.map (fun f => (f.aMax, f.dMaxUs)) ≠ merged.flows.map (fun f => (f.aMax, f.dMaxUs))) ||
  decide (base.telegrams.map (fun t => t.aMax) ≠ merged.telegrams.map (fun t => t.aMax))

/-- DELTA_DOWNLOAD (06 R167, R168): signature, base identity, permitted items, S-class values, in that order. What the delta changes is
judged on the configurations themselves, beside what its own list declares. -/
def takeDelta (s : State) (k : Delta) : State :=
  let st := loadStatus s k.signed k.version k.nodeId
  let s := jset (jset s 0x8105 2 st) 0x6800 9 k.base
  let merged := { k.merged with signed := k.signed, version := k.version, nodeId := k.nodeId }
  let s := { s with change := { s.change with state := 1, delta := some { k with merged := merged }, kAct := 0, holds := Tri.all false } }
  if st ≠ 1 then refuseDelta s 3 0
  else match s.config with
    | none => refuseDelta s 4 0
    | some c =>
      if c.identity ≠ k.base then refuseDelta s 4 0
      else match k.barred ++ barredItems c merged with
        | i :: _ => refuseDelta s 7 i
        | [] => if (k.sClass || changesSClass c merged) && !s.unsealed then refuseDelta s 8 0 else s

/-- The delta container that downloaded bytes spell; without a recognised structure it names no base. -/
def deltaFrom (bs : Bytes) : Delta :=
  match Config.deltaOf bs with
  | some d => { d with signed := signedOfBytes bs, digest := crc32c bs }
  | none => { base := 0, signed := signedOfBytes bs, nodeId := 0, version := 0, digest := crc32c bs, barred := [], sClass := false,
              removed := [], merged := unread (signedOfBytes bs) }

/-- Abort code of a change command, 0 when it runs (R171, R172, Table 06-4). -/
def changeCmdOutcome (s : State) (cmd : Nat) : Nat :=
  let bad : Nat := 0x08000022
  if cmd = 1 then (if s.change.state = 1 ∧ s.change.delta.isSome ∧ s.cfg.gauge.isNone then 0 else bad)
  else if cmd = 2 then
    match s.vote.k, s.config with
    | some k, some c =>
      let a := jget s 0x6800 4
      if s.change.state = 5 ∧ s.inRun ∧ k + 2 ≤ a ∧ a ≤ k + ceilDiv 3600000000000 (Nat.max 1 c.tBase) then 0 else bad
    | _, _ => bad
  else (if 1 ≤ s.change.state then 0 else bad)

/-- Command 1 (R169): the Gauge on the merged configuration. -/
def startDelta (s : State) : State :=
  match s.change.delta with
  | some d => beginGauge { s with change := { s.change with state := 2 } } .delta (some d.merged)
  | none => s

/-- Admission of a delta (state 3); the junction distributes it from its next tick on. -/
def deltaAdmitted (s : State) : State := { s with change := { s.change with state := 3 } }

/-- Distribution begins (state 4). -/
def startDistribution (s : State) : State :=
  if s.change.state = 3 then { s with change := { s.change with state := 4 } } else s

/-- DELTA_DISTRIBUTED (R170 step 3): every lane reports the CRC-32C of what it holds; the change is ready when every active lane
holds the delta. -/
def deltaReported (s : State) (crcs : Tri Nat) : State :=
  match s.change.delta with
  | some d =>
    if s.change.state = 3 ∨ s.change.state = 4 then
      let holds := crcs.mapId (fun l x => decide (x = d.digest) && s.active l)
      let ready := s.actives.all (fun l => holds.get l)
      { s with change := { s.change with state := if ready then 5 else 4, holds := holds } }
    else s
  | none => s

/-- First symbol of a force that a delta removes or retypes (R188). -/
def firstForced (s : State) (base merged : Container) : Option Nat :=
  match endedForces s base merged with
  | n :: _ => (Store.find? s.forces n).map (fun f => (forceRec f.rec_).sym)
  | [] => none

/-- Command 2 (R171, R188): activation fixed at k_act, unless a forced symbol ends and its release has not been asked for. -/
def fixActivation (s : State) : State :=
  match s.change.delta, s.config with
  | some d, some c =>
    match (if jbool s 0x6800 5 then none else firstForced s c d.merged) with
    | some y => refuseDelta s 6 y
    | none => { s with change := { s.change with state := 6, kAct := jget s 0x6800 4 } }
  | _, _ => s

/-- Command 3 (R172): the change cancelled with result 2; an admission of it in progress ends without a verdict. -/
def cancelDelta (s : State) : State :=
  let s := if s.cfg.gauge = some .delta then
      jset { s with cfg := { s.cfg with gauge := none, gaugeK := none } } 0x9010 1 0 else s
  startDeferred (endChange s 2 0)

/-- Whether an entry belongs to what a fixed change removes or retypes (R173). -/
def entryEnds (s : State) (index sub : Nat) : Bool :=
  match s.change.delta, s.config with
  | some d, some c =>
    if s.change.state ≠ 6 then false
    else if 0x3200 ≤ index ∧ index ≤ 0x33FF then
      (c.tasks.filter (fun t => decide (t.ctx = index - 0x3200))).any (fun t =>
        !(d.merged.tasks.any (fun u => decide (u.id = t.id) && decide (u.scope = t.scope))))
    else if 0x5400 ≤ index ∧ index ≤ 0x543F then
      c.stations.any (fun x => decide (x.no = index - 0x5400)) && !(d.merged.stations.any (fun x => decide (x.no = index - 0x5400)))
    else if 0x6000 ≤ index ∧ index ≤ 0x63FF then
      match windowSym c (index - 0x6000) sub with
      | some (y, _) => !((windowSym d.merged (index - 0x6000) sub).any (fun z => decide (z.1.id = y.id) && decide (z.1.type = y.type)))
      | none => false
    else false
  | _, _ => false

/-! ## Forces (06 R182 to R186) -/

/-- Bits of its area that a force covers, as first bit and count. -/
def ForceRec.bits (f : ForceRec) (c : Container) : Option (Nat × Nat) :=
  (f.place c).map (fun o => if f.width = 0 then (8 * o + f.bit, 1) else (8 * o, 8 * f.bytes))

/-- Whether two force records name exactly the same target. -/
def sameTarget (a b : ForceRec) : Bool :=
  decide (a.sym = b.sym) && decide (a.area = b.area) && decide (a.width = b.width) && decide (a.bit = b.bit) && decide (a.elem = b.elem)

/-- Whether a record is well formed for the configuration (R182): area, symbol, element, width, bit, reserved bits; a structure lists its
elements, an array has elements of one size. -/
def forceValid (c : Container) (f : ForceRec) : Bool :=
  decide (f.area ≤ 1) && decide (f.width ≤ 4) && decide (f.flags ≤ 1) &&
  decide (f.value < 2 ^ (if f.width = 0 then 1 else 8 * f.bytes)) && (decide (f.width = 0) || decide (f.bit = 0)) && decide (f.bit ≤ 7) &&
  match c.symbols.find? (fun y => decide (y.id = f.sym)) with
  | none => false
  | some y =>
    decide (y.area = f.area) &&
    (if !y.members.isEmpty then y.members.any (fun m => decide (m.1 = f.elem) && (match m.2.2 with
        | some b => decide (f.width = 0) && decide (f.bit = b)
        | none => decide (f.width ≠ 0) && decide (f.bytes = m.2.1)))
     else if y.bool then decide (f.width = 0) && decide (y.bit ≤ 8 * f.elem + f.bit) && decide (8 * f.elem + f.bit < y.bit + y.elems)
     else decide (f.width ≠ 0) && decide (f.bytes = y.elemSize) && decide (f.elem % Nat.max 1 y.elemSize = 0) && decide (f.elem < y.size))

/-- Slot whose force names the same target. -/
def forceSlot (s : State) (f : ForceRec) : Option Nat :=
  (s.forces.map (fun p => (p.1, forceRec p.2.rec_))).findSome? (fun p => if sameTarget p.2 f then some p.1 else none)

/-- Whether a record's bits overlap a force on another target. -/
def forceOverlaps (s : State) (c : Container) (f : ForceRec) : Bool :=
  (s.forces.map (fun p => forceRec p.2.rec_)).any (fun g =>
    decide (g.area = f.area) && !sameTarget g f && (match g.bits c, f.bits c with
      | some (a, m), some (b, n) => decide (a < b + n) && decide (b < a + m)
      | _, _ => false))

/-- Lowest free slot of the force table. -/
def freeSlot (s : State) : Option Nat := (List.range 256).find? (fun n => (Store.find? s.forces n).isNone)

/-- State rule of a force record (R173, R182, R183); an ill-formed one is left to the value rule. -/
def forceStateOk (s : State) (f : ForceRec) : Bool :=
  match s.config with
  | none => true
  | some c =>
    !forceValid c f ||
    ((decide (f.flags = 0) || s.unsealed) && !forceOverlaps s c f &&
     (match s.change.delta with
      | some d => decide (s.change.state ≠ 6) || d.merged.symbols.any (fun y => decide (y.id = f.sym) &&
          c.symbols.any (fun b => decide (b.id = y.id) && decide (b.type = y.type)))
      | none => true))

/-- Value rule of a force record: 0 when it can be set. -/
def forceValue (s : State) (f : ForceRec) : Nat :=
  match s.config with
  | none => 0x06090030
  | some c => if !forceValid c f then 0x06090030
              else if (forceSlot s f).isNone ∧ (freeSlot s).isNone then 0x05040005 else 0

/-- A force set or replaced: table and batch (R182, R184); `old` is what the change log holds of the slot before. -/
def putForce (s : State) (client : Nat) (bs : Bytes) : State :=
  match (forceSlot s (forceRec bs)).orElse (fun _ => freeSlot s) with
  | some n =>
    { s with forces := Store.insert s.forces n { rec_ := bs, time := s.time.now, client := client }
             batchIn := { s.batchIn with forces := s.batchIn.forces ++ [.set n] } }
  | none => s

/-- A force set with its entry in the change log, made first (R186). -/
def setForceOf (s : State) (client path : Nat) (bs : Bytes) : State :=
  match (forceSlot s (forceRec bs)).orElse (fun _ => freeSlot s) with
  | some n =>
    let old := match Store.find? s.forces n with
      | some f => f.rec_
      | none => []
    putForce (logEntry s client path (0x6500 + n) 1 2 old bs) client bs
  | none => s

/-- A force released: log entry, table and batch (R185, R186). -/
def releaseForceOf (s : State) (client path n : Nat) : State :=
  let s := releaseSlot s client path n
  { s with batchIn := { s.batchIn with forces := s.batchIn.forces ++ [.release n] } }

/-- Every force released (R186). -/
def releaseAllOf (s : State) (client path : Nat) : State :=
  (s.forces.map (fun p => p.1)).foldl (fun s n => releaseForceOf s client path n) s

end Sys2Proof.Machine
end

