-- ==== Sys2Proof/Machine/Power.lean ====
section
/-! DEFINITION. Supply sag and shedding stages, lane supplies, resets and what survives them, and ROM boot (16 R411 to R425, R431 to
R434, 13 R352, 06 R187). -/

namespace Sys2Proof.Machine

open Sys2Proof

/-! ## What survives a module reset (16 R425) -/

/-- Read-only entries that the manual says persist. -/
def persistKeys : List Nat :=
  [regKey 0x1014 1, regKey 0x3003 0, regKey 0x8020 1, regKey 0x2000 8, regKey 0x2000 9, regKey 0x2000 1, regKey 0x2102 1, regKey 0x2102 2, regKey 0x2102 3,
   regKey 0x2105 0, regKey 0x2108 6, regKey 0x2108 7, regKey 0x2108 8, regKey 0x2108 9, regKey 0x2108 10]

/-- Whether a class J register survives a module reset: a setting of a client, or an entry that persists. -/
def survives (key : Nat) : Bool :=
  persistKeys.contains key || (match entry? (key / 256) (key % 256) with
    | some e => decide (e.acc = .rw) || decide (e.acc = .rwS) || decide (e.acc = .rwP)
    | none => false)

/-- A glue-up controller after a reset: what its MRAM holds. -/
def Glue.afterReset (g : Glue) : Glue :=
  { Glue.empty with journal := g.journal, count := g.count, written := g.written, stamped := g.stamped }

/-- A lane after a reset at `now`, which cuts the record in writing: what its MRAM holds, and the count of changes that persists (06 Table
06-4). -/
def Lane.afterReset (now : Nat) (ln : Lane) : Lane :=
  let ln := ln.abandon now
  { Lane.blank with glue := ln.glue.afterReset, stored := ln.stored, spare := ln.spare,
                    reg := ln.reg.filter (fun p => decide (p.1 = regKey 0x6800 10) || decide (p.1 = regKey 0x3045 1)) }

/-- A lane after a safe-state release: the copies of its last release are read on until the next (17 R439). -/
def Lane.afterRelease (now : Nat) (ln : Lane) : Lane :=
  { ln.afterReset now with rel := ln.rel, relSeen := ln.relSeen, forcesRel := ln.forcesRel }

/-! ## Forces at a start-up (06 R187, 14 R389) -/

/-- Whether a force is persistent. -/
def Force.persistent (f : Force) : Bool := decide ((forceRec f.rec_).flags % 2 = 1)

/-- Forces without the persistent flag cleared, with one entry of kind 4 that holds their count, or a type 24 record when the log
is full. Path 4 is the device. -/
def clearForces (s : State) : State :=
  let n := (s.forces.filter (fun p => !p.2.persistent)).length
  let s := { s with forces := s.forces.filter (fun p => p.2.persistent) }
  if n = 0 then s
  else if logRoom s 1 then logEntry s 255 4 0x6400 3 4 (leBytes 2 n) []
  else record (jbump s 0x7200 2) 0 24 (leBytes 2 n)

/-! ## ROM boot (13 R352, 16 R426, R431) -/

/-- Start-up stopped with a code of Table 16-6; the step in progress stays. -/
def stopAt (s : State) (code : Nat) : State := { s with power := { s.power with stop := code } }

/-- The next start-up step reached. -/
def toStep (s : State) (n : Nat) : State :=
  recordStep { s with power := { s.power with step := n, stop := 0, stepAt := s.time.now } } n

/-- Whether the four plug readings agree and name a node. -/
def Pins.plugOk (p : Pins) : Bool := LaneId.all.all (fun l => decide (p.escL.get l = p.escJ)) && decide (p.escJ % 64 ≠ 0)

/-- The plug read and checked: node identity, split permission, ESC7, the JTAG mode and the readings that the lanes boot by (13 R352, R353,
R366). -/
def Pins.boot (p : Pins) : Pins :=
  let agree := LaneId.all.all (fun l => decide (p.escL.get l = p.escJ))
  { p with esc7 := agree && bitOf p.escJ 7, esc7Runs := 3, escRuns := Tri.all 0, disagree := false, escBoot := p.escL
           node := if agree then p.escJ % 64 else 0, split := agree && bitOf p.escJ 6, unsealedMode := agree && bitOf p.escJ 7 }

/-- COMPAT[1:0] as three readings agree on it, none when they differ or name the reserved level (R431). -/
def Pins.compatOk (p : Pins) : Option Nat :=
  match p.compat with
  | [a, b, c] => if a = b ∧ b = c ∧ a < 3 then some a else none
  | _ => none

/-- Lands in the states of Table 16-7, seen from outside (R434). -/
def setLands (s : State) (x : Lands) : State := { s with power := { s.power with lands := x } }.emit (.lands x)

/-- Step 1: domains 7, 12, 11, 8, 10, 13 and 9 on, the lands in service, PPS_OUT driven, the plug and the COMPAT lands read, bit 0 of 8000.05 set
where the readings agree on a node; step 2 follows when neither stops it. -/
def romBoot (s : State) : State :=
  let s := setLands s Lands.on
  let s := { s with power := { s.power with step := 1, stop := 0, stage := 0, pfw := false, vinGood := some s.time.now, restored := false,
                                            c1 := none, phyReset := true, bootAt := s.time.now, domains := 8128, shedC := 0, upNs := 0,
                                            restart := none }
                    pins := { s.pins.boot with readAt := s.time.now }, time := { s.time with ppsOut := .low }
                    dict := { s.dict with port := jget s 0x1E00 1 } }
  let s := jset (showPlug s) 0x8000 5 (if s.pins.plugOk then 1 else 0)
  let s := recordStep s 1
  let s := canBoot (canBoot s .c0) .c1
  let s := choosePtpMode (choosePtpMode s .e0 (ptpGet s .e0 1)) .e1 (ptpGet s .e1 1)
  if !s.pins.plugOk then stopAt (recordPlug s) 1
  else match s.pins.compatOk with
    | none => stopAt s 2
    | some v => toStep (jset (jset s 0x2000 3 v) 0x2000 4 (Nat.lor v (jget s 0x2000 2))) 2

/-! ## Module resets (16 R425, R434) -/

/-- Every domain reset: what MRAM holds stays, a commit in writing is cut, and the field die that was lost has its return recorded (07 R191). -/
def resetDomains (s : State) : State :=
  { s with jreg := s.jreg.filter (fun p => survives p.1), mode := .startUp, lanes := s.lanes.map (Lane.afterReset s.time.now),
           vote := { Vote.reset with starts := s.vote.starts }, time := TimeBase.reset s.time.saved, ptp0 := PtpPort.blank, ptp1 := PtpPort.blank,
           field := { FieldDie.reset with operating := s.field.operating, ran := s.field.ran }, ring := Ring.reset s.ring.saved,
           ecn0 := { Ecn.blank with saved := s.ecn0.saved }, ecn1 := { Ecn.blank with saved := s.ecn1.saved }, can0 := Can.blank,
           can1 := Can.blank, host := { queue := [], pending := 0, overrun := false, discarded := false, ranAt := none }, cvu := [],
           dict := Dict.reset,
           cfg := { download := none, inForce := none, keyId := 0, version := 0, base := none, gauge := none, gaugeK := none,
                    gaugeAt := 0, gaugeQ := [] },
           change := { state := 0, delta := none, kAct := 0, holds := Tri.all false },
           priv := { s.priv with holder := none }, recorder := { s.recorder with holder := none }, monitors := [],
           domains := 2047, crossings := [], batchIn := Batch.empty, stationRun := [], hbAt := [], hbExpired := [] }

/-- VIN good as last measured: VIN_J and at least two lane supplies at or above 9.0 V (R413). -/
def State.vinIsGood (s : State) : Bool :=
  decide (9000 ≤ Store.get s.power.mV 12000 3) && decide (2 ≤ (LaneId.all.filter (fun l => decide (9000 ≤ s.laneMv l))).length)

/-- Whether PFW_N is driven low in a reset: after stage 3, which a supply restart follows too, and in a commanded restart (R418, Table 16-7). -/
def State.pfwInReset (s : State) (src : ResetSource) : Bool := s.power.pfw || decide (src = .commanded)

/-- A module reset: an open session ends (13 R357), the lands take the states of Table 16-7, ECN_PHY_RST_N is low (11 R300), the source and the
count, then ROM boot. A reset by stage 4 or RESET_N lasts until VIN is good. -/
def resetModule (s : State) (src : ResetSource) : State :=
  let low := s.pfwInReset src
  let s := setLands (endSession s 3) { Lands.off with pfw := if low then .low else .hiZ }
  let s := jbump (jset (resetDomains s) 0x2000 8 src.code) 0x2000 9
  let s := clearForces { s with power := { s.power with step := 0, stop := 0, domains := 0, stage := if src = .stage4 then 4 else 0,
                                                        pfw := low && decide (src = .stage4 ∨ src = .resetN), vinGood := none,
                                                        restart := none, phyReset := true } }
  if src = .stage4 ∨ (src = .resetN ∧ !s.vinIsGood) then s else romBoot s

/-- POWER_ON (R425): VIN good from power off. A reset that waits for it ends. -/
def powerOn (s : State) : State :=
  if s.booted then s
  else
    let s := { s with power := { s.power with mV := s.power.mV.filter (fun p => decide (p.1 ≠ 3)) } }
    if s.power.stage = 4 ∨ jget s 0x2000 8 = ResetSource.resetN.code then romBoot s
    else resetModule s .powerOn

/-! ## Shedding stages (16 R414 to R418) -/

/-- Type 5: a power stage change with VIN_J. -/
def recordStage (s : State) (mV : Nat) : State := record s 0 5 (leBytes 1 s.power.stage ++ leBytes 2 mV)

/-- VIN_J as measured (2101.04). -/
def showVinJ (s : State) (mV : Nat) : State :=
  jset { s with power := { s.power with mV := Store.insert s.power.mV 3 mV } } 0x2101 4 (mV % 65536)

/-- The shedding of a stage at the instant of its entry: the cycle's remaining activations are shed, and in stage 2 the halves without a voted
task stop (R415, R417). -/
def shedFrom (s : State) (n : Nat) : State :=
  let s := { s with power := { s.power with stage := n, shedC := Nat.max s.power.shedC n } }
  if 2 ≤ n then stopHalves s else s

/-- A stage entered: counted in 2102 and recorded. -/
def enterStage (s : State) (n mV : Nat) : State := recordStage (jbump (shedFrom s n) 0x2102 n) mV

/-- The ECN ports switched; a port that comes back has no link until its PHY reports one (R415, R417). -/
def switchEcn (s : State) (on : Bool) : State :=
  let one := fun (x : Ecn) => { x with on := on, speed := 0, queue := [] }
  jset (jset { s with ecn0 := one s.ecn0, ecn1 := one s.ecn1 } 0x4100 6 0) 0x4101 6 0

/-- STAGE_1_ENTRY: below 10.2 V for more than 1 ms. -/
def stage1Entry (s : State) (mV : Nat) : State :=
  if s.booted ∧ s.power.stage = 0 ∧ mV < 10200 then enterStage (showVinJ s mV) 1 mV else s

/-- STAGE_1_EXIT: at or above 10.5 V for 10 ms. -/
def stage1Exit (s : State) (mV : Nat) : State :=
  if s.booted ∧ s.power.stage = 1 ∧ 10500 ≤ mV then
    recordStage (showVinJ { s with power := { s.power with stage := 0 } } mV) mV
  else s

/-- STAGE_2_ENTRY: below 9.4 V for 100 µs; the shedding of stage 1 applies too (R415). -/
def stage2Entry (s : State) (mV : Nat) : State :=
  if s.booted ∧ s.power.stage < 2 ∧ mV < 9400 then switchEcn (enterStage (showVinJ s mV) 2 mV) false else s

/-- STAGE_2_EXIT: at or above 9.7 V for 10 ms; back to stage 1. -/
def stage2Exit (s : State) (mV : Nat) : State :=
  if s.booted ∧ s.power.stage = 2 ∧ 9700 ≤ mV then
    recordStage (switchEcn (showVinJ { s with power := { s.power with stage := 1 } } mV) true) mV
  else s

/-- The values that the junction saves: node time, header and telegram sequences; the session state stands in MRAM (14 R377). -/
def saveJunction (s : State) : State :=
  let s := saveTelegrams (saveHeaders s)
  { s with time := { s.time with saved := s.time.now } }

/-- The ECN ports off when a stage from 2 on is entered from below it. -/
def shedPorts (s : State) : State := if s.power.stage < 2 then switchEcn s false else s

/-- What stage 3 does from the assertion of PFW_N on (R418, R422): the safe state with its final commits, the recorder's freeze ended, the
junction's values saved, the leave frame. In start-up no final commit is made and start-up stops with code 11. -/
def failSupply (s : State) : State :=
  let s := { s with power := { s.power with pfw := true } }
  let s := if s.mode = .startUp then stopAt s 11 else enterSafe s 9
  sendLeave (saveJunction { s with recorder := { s.recorder with holder := none } }) 1

/-- POWER_FAIL_WARNING (R418, R422): stage 3. -/
def powerFail (s : State) (mV : Nat) : State :=
  if s.booted ∧ s.power.stage < 3 ∧ mV < 8800 then failSupply (enterStage (showVinJ (shedPorts s) mV) 3 mV) else s

/-- STAGE_4 (R414): below 8.0 V for 2 µs. What the lower stages shed or do is done first where they have not been entered; 2102 has no entry for
stage 4, whose reset is counted (R415, R425). -/
def stage4 (s : State) (mV : Nat) : State :=
  if s.booted ∧ mV < 8000 then
    let down := s.power.stage < 3
    let s := shedFrom (showVinJ (shedPorts s) mV) 4
    let s := recordStage (if down then failSupply s else s) mV
    resetModule s .stage4
  else s

/-- SUPPLY_RESTART (R421): at or above 9.0 V for 100 ms after PFW_N without stage 4; counted in 2105.00. -/
def supplyRestart (s : State) (mV : Nat) : State :=
  if s.booted ∧ s.power.pfw ∧ 9000 ≤ mV then resetModule (jbump (showVinJ s mV) 0x2105 0) .supplyRestart else s

/-- OVERVOLTAGE (R412): above 16.5 V for 10 µs, counted and recorded with type 5. -/
def overvoltageAt (s : State) (mV : Nat) : State :=
  if s.booted ∧ 16500 < mV then recordStage (jbump s 0x2109 0) mV else s

/-! ## Lane supplies (16 R423, R424) -/

/-- A lane's logic and MRAM domains switched (R413). -/
def switchLane (s : State) (l : LaneId) (on : Bool) : State :=
  let m := 3 * 4 ^ l.num
  { s with power := { s.power with domains := if on then Nat.lor s.power.domains m
                                              else s.power.domains - Nat.land s.power.domains m } }

/-- A lane's VIN as measured (2101). -/
def showVin (s : State) (l : LaneId) (mV : Nat) : State :=
  ({ s with power := { s.power with mV := Store.insert s.power.mV l.num mV } }).modLane l (fun ln => ln.rset 0x2101 1 (mV % 65536))

/-- LANE_UNDERVOLTAGE (R423): below 7.8 V for 10 µs; the lane falls silent with cause 12 and makes no final commit. The 100 ms
before an automatic reintegration wait for its supply (R424). -/
def laneSag (s : State) (l : LaneId) (mV : Nat) : State :=
  if s.booted ∧ mV < 7800 then
    let s := showVin (jbump s 0x2103 0) l mV
    let s := report (s.modLane l (fun ln => let ln := ln.abandon s.time.now; { ln with glue := { ln.glue with fullDue := true } })) l 12
    closeLane ((switchLane s l false).modLane l (fun ln => { ln with excludedAt := none })) l
  else s

/-- LANE_SUPPLY_RECOVERED (R424): at or above 9.0 V for 10 ms. -/
def laneRecovers (s : State) (l : LaneId) (mV : Nat) : State :=
  if s.booted ∧ 9000 ≤ mV then
    let s := showVin s l mV
    if (s.lane l).status = .held ∧ (s.lane l).excludedAt = none then
      let now := s.time.now
      s.modLane l (fun ln => { ln with excludedAt := some now })
    else s
  else s

/-! ## Commanded restart (16 R425) -/

/-- A commanded restart scheduled 1 ms after its response. -/
def scheduleRestart (s : State) : State := { s with power := { s.power with restart := some (s.time.now + 1000000) } }

/-- COMMANDED_RESTART_EFFECT (R425): final commits as at stage 3 without the safe state, a leave frame with reason 2, the reset. -/
def restartEffect (s : State) : State :=
  match s.power.restart with
  | some t =>
    let s := advanceTo s t
    let s := if s.inRun then
        stampRegions (s.modLanes (fun l ln => if ln.status = .active then ln.stopEngines.finalWhole l s.pGlue s.time.now else ln))
      else s
    resetModule (sendLeave (saveJunction s) 2) .commanded
  | none => s

end Sys2Proof.Machine
end

