-- ==== Sys2Proof/Machine/Scribe.lean ====
section
/-! DEFINITION. The scribe test: the 64 injection patterns of Table 03-2 into the comparators of the engines and into the two
voters, the verdicts expected, and a restarted lane's own part of the test (03 R70 to R72). -/

namespace Sys2Proof.Machine

open Sys2Proof

/-! ## Injections into an engine's compared bus -/

/-- A bus word of 16 equal bytes. -/
def busBytes (a b : Nat) : BitVec 128 :=
  BitVec.ofNat 128 (ofLe ((List.range 8).flatMap (fun _ => [BitVec.ofNat 8 a, BitVec.ofNat 8 b])))

/-- Number of differing bits of patterns 32 to 39. -/
def injectedBits (n : Nat) : Nat := [2, 3, 8, 16, 32, 64, 127, 128].getD n 0

/-- Word of patterns 40 to 47, half by half: all ones, 16#55, 16#AA and the two in turn. -/
def injectedWord (n : Nat) : BitVec 128 :=
  let w := [busBytes 0xFF 0xFF, busBytes 0x55 0x55, busBytes 0xAA 0xAA, busBytes 0x55 0xAA].getD (n / 2) 0
  if n % 2 = 0 then w &&& BitVec.ofNat 128 (2 ^ 64 - 1) else w &&& BitVec.ofNat 128 (2 ^ 128 - 2 ^ 64)

/-- Differences that pattern `n` puts on the bitwise path and on the signature path of an engine (Table 03-2). The table gives no bit places for
patterns 32 to 39 and 48 to 59 and no order of the words of 40 to 47: the lowest bits, and the words in the table's order (DESIGN CHOICE, log
67). -/
def injection (n : Nat) : BitVec 128 × BitVec 128 :=
  if n < 32 then (BitVec.ofNat 128 (2 ^ (4 * n + n % 4)), BitVec.ofNat 128 (2 ^ (4 * n + n % 4)))
  else if n < 40 then (BitVec.ofNat 128 (2 ^ injectedBits (n - 32) - 1), BitVec.ofNat 128 (2 ^ injectedBits (n - 32) - 1))
  else if n < 48 then (injectedWord (n - 40), injectedWord (n - 40))
  else if n < 56 then (BitVec.ofNat 128 (2 ^ (n - 48)), 0)
  else if n < 60 then (0, BitVec.ofNat 128 (2 ^ (n - 56)))
  else (0, 0)

/-- What an engine's comparators report of pattern `n`: bit 0 the bitwise one, bit 1 the signature one. DEDUCED: the mixing function tells
every injection of the table apart, since the table expects it (log 67). -/
def engineReaction (n : Nat) : Nat :=
  (if (injection n).1 ≠ 0 then 1 else 0) + (if (injection n).2 ≠ 0 then 2 else 0)

/-- What Table 03-2 expects of an engine: a difference in both comparators, a disagreement, or no fault. -/
def engineExpected (n : Nat) : Nat := if n < 48 then 3 else if n < 56 then 1 else if n < 60 then 2 else 0

/-! ## Injections into the voter inputs -/

/-- A test submission of 16 bytes, complete and not flagged shadow, before an injection. -/
def testData : Nat := 2 ^ 96

/-- The lane that pattern `n` concerns. -/
def injectedLane (n : Nat) : LaneId := if n % 3 = 0 then .a else if n % 3 = 1 then .b else .c

/-- A test submission with a difference in its data and with a difference in its signature. -/
def testSub (data sigma : Nat) : Submission :=
  { data := leBytes 16 (Nat.xor testData data), sigma := Nat.xor (crc64 (leBytes 16 testData)) sigma }

/-- What pattern `n` puts on the voters' inputs from lane `l` (Table 03-2). In patterns 32 to 39 the lane after the one concerned differs too, in
another bit. The table names no lane for patterns 32 to 59: the one of the formula of patterns 0 to 31 (DESIGN CHOICE, log 67). -/
def voterInput (n : Nat) (l : LaneId) : Submission :=
  let here := decide (l = injectedLane n)
  if n < 32 then (if here then testSub (2 ^ (4 * n + n % 4)) 1 else testSub 0 0)
  else if n < 40 then
    (if here then testSub (2 ^ (n - 32)) 1 else if l = injectedLane (n + 1) then testSub (2 ^ (n + 32)) 2 else testSub 0 0)
  else if n < 48 then (if here then testSub testData 1 else testSub 0 0)
  else if n < 56 then (if here then testSub (2 ^ (n - 48)) 0 else testSub 0 0)
  else if n < 60 then (if here then testSub 0 1 else testSub 0 0)
  else testSub 0 0

/-- A voter's set of lanes in a test latch: 0 none, 1 to 3 the one lane, 4 more: no majority. -/
def voterLatch : List LaneId → Nat
  | [] => 0
  | [l] => 1 + l.num
  | _ => 4

/-- What the voters hold of pattern `n`, from the votes themselves: Db, or with `sig` Ds. -/
def voterReaction (sig : Bool) (n : Nat) : Nat :=
  let v := judge 16 LaneId.all (fun l => some (voterInput n l))
  voterLatch (if sig then v.ds else v.db)

/-- What Table 03-2 expects of a voter: the lane concerned, no majority, or no fault. -/
def voterExpected (sig : Bool) (n : Nat) : Nat :=
  let l := 1 + (injectedLane n).num
  if n < 32 then l else if n < 40 then 4 else if n < 48 then l else if n < 56 then (if sig then 0 else l)
  else if n < 60 then (if sig then l else 0) else 0

/-! ## The test -/

/-- The two voters as units of 3010.03. -/
def voterUnits : List Nat := [0x8000, 0x8001]

/-- The engines of a lane that are not split, as units of 3010.03 (03 R72). -/
def engineUnits (c : Container) (l : LaneId) : List Nat :=
  ((List.range 16).filter (fun n => !isSplit c (2 * n))).map (fun n => n + 256 * l.num)

/-- What a sound unit holds of pattern `n`. -/
def soundReaction (u n : Nat) : Nat :=
  if u < 0x8000 then engineReaction n else voterReaction (decide (u = 0x8001)) n

/-- What the table expects of a unit. -/
def expectedReaction (u n : Nat) : Nat :=
  if u < 0x8000 then engineExpected n else voterExpected (decide (u = 0x8001)) n

/-- What a unit's test latch holds of pattern `n`: 255 where the unit's defect makes it answer otherwise than it should. -/
def unitReaction (defect : Option (Nat × Nat)) (u n : Nat) : Nat := if defect = some (n, u) then 255 else soundReaction u n

/-- The first pattern, and its first unit, at which a unit does not give exactly the expected verdict (03 R71). -/
def firstFailing (defect : Option (Nat × Nat)) (units : List Nat) : Option (Nat × Nat) :=
  ((List.range 64).flatMap (fun n => units.map (fun u => (n, u)))).find? (fun x =>
    decide (unitReaction defect x.2 x.1 ≠ expectedReaction x.2 x.1))

/-- The test latches after the test: of the first failing pattern, or of the last one. -/
def testLatches (defect : Option (Nat × Nat)) (units : List Nat) : Store Nat :=
  let n := match firstFailing defect units with
    | some x => x.1
    | none => 63
  units.foldl (fun m u => Store.insert m u (unitReaction defect u n)) []

/-- The test of a list of units: its latches and the first failing pattern and unit. They silence no lane (03 R70). -/
def runScribe (s : State) (defect : Option (Nat × Nat)) (units : List Nat) : State × Option (Nat × Nat) :=
  ({ s with power := { s.power with latches := testLatches defect units } }, firstFailing defect units)

/-- The copy in a lane's own MRAM whose digest is that of the configuration which the junction has verified (13 R363): the merged configuration of
a change lies beside its base. -/
def Lane.ownCopy (ln : Lane) (c : Container) : Option Container :=
  (ln.spare.toList ++ ln.stored.toList).find? (fun d => decide (d.signed.digest = c.signed.digest))

/-- Whether a lane may boot a container: it splits engines only where the lane's own reading of ESC6 at the reset was 1 (13 R352, R353). -/
def Pins.mayBoot (p : Pins) (c : Container) (l : LaneId) : Bool := (c.splits.get l).isEmpty || bitOf (p.escBoot.get l) 6

/-- LANE_SCRIBE_TEST (03 R72, Table 03-8 steps 1 and 2, 13 R352, R363): a restarted lane boots from the container in its own MRAM, whose digest
must be that of the admitted one, its crossings open, and its comparators take patterns 0 to 63; without `sound` the first of them has a
defect. -/
def laneScribeTest (s : State) (l : LaneId) (sound : Bool) : State :=
  if s.vote.reint = some l ∧ (s.lane l).status = .restarting then
    match s.config.bind (fun c => (s.lane l).ownCopy c) with
    | some c =>
      if s.pins.mayBoot c l then
        let s := resumeSection ((reopenLane s l).modLane l (fun ln => { ln.load0 c l s.v2serzel with status := .scribe })) l
        let units := engineUnits c l
        let r := runScribe s (if sound then none else units.head?.map (fun u => (0, u))) units
        if r.2.isNone then record r.1 (laneSource l) 3 (leBytes 1 l.num ++ leBytes 1 2 ++ leBytes 1 0)
        else abandonReint r.1 l 2 16
      else abandonReint s l 1 16
    | none => abandonReint s l 1 16
  else s

end Sys2Proof.Machine
end

