-- ==== Sys2Proof/Machine/Startup.lean ====
section
/-! DEFINITION. Start-up from container load to RUN, the discard of the lanes' journals, and the safe-state release (16 R426 to R430,
03 R70, R88, R96, R99, 10 R297, 14 R379 to R381). -/

namespace Sys2Proof.Machine

open Sys2Proof

/-- Whether start-up is in a step and has not stopped in it. -/
def State.inStep (s : State) (n : Nat) : Bool :=
  decide (s.mode = .startUp) && decide (s.power.step = n) && decide (s.power.stop = 0) && s.booted

/-! ## Step 2: container load (R427, R428) -/

/-- A lane whose VIN is below 9.0 V is held with cause 12 and waits for its supply; the other lanes' domains come on (R428, R424). -/
def admitSupply (s : State) (l : LaneId) : State :=
  if (s.lane l).status ≠ .active then s
  else if s.laneMv l < 9000 then closeLane ((exclude s l 12).modLane l (fun ln => { ln with excludedAt := none })) l
  else switchLane s l true

/-- Copies of the stored container in the active lanes. -/
def State.copies (s : State) : List Container := s.actives.filterMap (fun l => (s.lane l).stored)

/-- The copy that at least two lanes hold, by the digest of its signed part. -/
def agreedCopy (cs : List Container) : Option Container :=
  cs.find? (fun c => decide (2 ≤ (cs.filter (fun d => decide (d.signed.digest = c.signed.digest))).length))

/-- The agreed copy in a lane whose own differs; the event is recorded as type 6, step 2. -/
def copyContainer (s : State) (c : Container) (l : LaneId) : State :=
  if !s.active l || (s.lane l).stored.any (fun d => decide (d.signed.digest = c.signed.digest)) then s
  else record (stampCopies (s.modLane l (fun ln => { ln with stored := some c })) [l] 0) (laneSource l) 6 (leBytes 1 2 ++ leBytes 4 0)

/-- A register of class J written with what the write of its entry brings: the mode of a PTP port, the source of PPS_OUT, a CAN
controller that is enabled, a heartbeat consumer, which starts anew (11 R312), the configuration of a monitor, which clears it, the record of a UTC offset or leap indicator that changes
(02 R31, R53, R54, R60, 11 R311, 14 R391, Table 14-4). -/
def jwrite (s : State) (index sub v : Nat) : State :=
  if index = 0x4180 ∧ sub = 1 then choosePtpMode s .e0 v
  else if index = 0x4181 ∧ sub = 1 then choosePtpMode s .e1 v
  else if index = 0x4020 ∧ sub = 1 then choosePps s v
  else if index = 0x4800 ∧ sub = 1 ∧ v = 1 ∧ jbool s 0x4800 1 = false then canBoot (jset s 0x4800 1 1) .c0
  else if index = 0x4810 ∧ sub = 1 ∧ v = 1 ∧ jbool s 0x4810 1 = false then canBoot (jset s 0x4810 1 1) .c1
  else if index = 0x4002 ∧ (sub = 1 ∨ sub = 2) ∧ jget s index sub ≠ v then recordTai (jset s index sub v) s.taiValues
  else if index = 0x1016 then
    { jset s index sub v with hbAt := Store.erase s.hbAt (sub - 1), hbExpired := s.hbExpired.filter (fun n => decide (n ≠ sub - 1)) }
  else if 0x7100 ≤ index ∧ index ≤ 0x713F then clearMonitor (jset s index sub v) (index - 0x7100)
  else jset s index sub v

/-- Parameters of class J that a container gives, written to their registers. -/
def applyModuleParams (s : State) (c : Container) : State :=
  (moduleParams c).foldl (fun s p => if jget s (p.1 / 256) (p.1 % 256) = p.2 then s else jwrite s (p.1 / 256) (p.1 % 256) p.2) s

/-- A container in force. -/
def putInForce (s : State) (c : Container) : State :=
  applyModuleParams { s with cfg := { s.cfg with inForce := some c, keyId := c.signed.keyId, version := c.version, base := none } } c

/-- The stored container verified and admitted; its admission takes a time that the manual bounds and does not fix. -/
def admitStored (s : State) (c : Container) : State :=
  let st := loadStatus s c.signed c.version c.nodeId
  let s := jset s 0x8105 2 st
  if st ≠ 1 then stopAt s 4
  else
    let f := gaugeChecks (gaugeEnv s none) c
    let s := reportGauge s.drew .stored f (s.freeVal % 2001) 0
    if f.isSome then stopAt s 5
    else
      let s := putInForce s c
      toStep (if s.ring.state = .off then leaveOff s else s) 3

/-- CONTAINER_LOAD (R427): step 2; a start-up that waits with code 3 goes on once a container is stored. While the Gauge runs another admission the
stored container waits for it (12 R324). -/
def containerLoad (s : State) : State :=
  if s.cfg.gauge.isNone ∧ s.mode = .startUp ∧ s.power.step = 2 ∧ (s.power.stop = 0 ∨ s.power.stop = 3) ∧ s.booted then
    let s := LaneId.all.foldl admitSupply s
    if s.actives.length < 2 then stopAt s 10
    else if s.copies.isEmpty then stopAt s 3
    else match agreedCopy s.copies with
      | none => stopAt s 6
      | some c => admitStored (LaneId.all.foldl (fun s l => copyContainer s c l) s) c
  else s

/-! ## Step 3: scribe test (03 R70, R71) -/

/-- Units of the start-up test: every engine of the active lanes that is not split, and the voters. -/
def State.scribeUnits (s : State) : List Nat :=
  (match s.config with
    | some c => s.actives.flatMap (engineUnits c)
    | none => []) ++ voterUnits

/-- SCRIBE_TEST: 64 patterns into every unit; `defect` is a unit that answers otherwise than it should to a pattern, if there is one. -/
def scribeTest (s : State) (defect : Option (Nat × Nat)) : State :=
  if s.inStep 3 then
    let t := runScribe s defect s.scribeUnits
    let s := t.1
    let failing := t.2
    let r : Nat := if failing.isSome then 2 else 1
    let x := failing.getD (255, 65535)
    let s := jset (jset (jset s 0x3010 1 r) 0x3010 2 (x.1 % 256)) 0x3010 3 (x.2 % 65536)
    let s := record s 0 4 (leBytes 1 r ++ leBytes 1 x.1 ++ leBytes 2 x.2)
    if failing.isSome then stopAt s 7 else toStep s 4
  else s

/-! ## Step 4: lane boot (03 R88, 13 R352) -/

/-- A lane loaded with a container, its time counter without a mark. -/
def Lane.boot (ln : Lane) (c : Container) (l : LaneId) (v2 : Bool) : Lane :=
  { ln.load0 c l v2 with time := LaneTime.zero, sampledAt := none, fired := [], recog := Recog.start }

/-- Time marks that a lane takes until it declares its counter locked: the first and 16 further ones (02 R44). -/
def lockMarks : Nat := 17

/-- The deviation of a lane's crystal while it boots: within ±50 ppm, a free value (02 R44). -/
def State.bootDev (s : State) : Int := (s.freeVal % 100001 : Nat) - 50000

/-- The time marks of a lane boot: every lane that boots takes the mark of each 125 µs. -/
def bootMarks (devs : Tri Int) (booting : List LaneId) (s : State) : State :=
  (List.range lockMarks).foldl (fun s _ => booting.foldl (fun s l => timeMark s l (devs.get l) true) s) s

/-- The marks up to the lock, with the locks declared. -/
def lockLanes (s : State) : State :=
  let a := s.bootDev
  let s := s.drew
  let b := s.bootDev
  let s := s.drew
  let d := s.bootDev
  let booting := s.actives
  booting.foldl timeLock (bootMarks { a := a, b := b, c := d } booting s.drew)

/-- One lane's boot, its crossings open; it fails when the container splits engines and the lane's own reading of ESC6 at the reset was not 1 (13
R352, R353). -/
def bootLane (s : State) (c : Container) (ok : Tri Bool) (l : LaneId) : State :=
  if !s.active l then s
  else if !ok.get l || !s.pins.mayBoot c l then exclude s l 16
  else
    let v2 := s.v2serzel
    resumeSection ((reopenLane s l).modLane l (fun ln => ln.boot c l v2)) l

/-- LANE_BOOT: two or more failed lanes stop start-up with code 8; the others lock their time counters (02 R44). -/
def laneBoot (s : State) (ok : Tri Bool) : State :=
  match s.config with
  | some c =>
    if s.inStep 4 then
      let s := LaneId.all.foldl (fun s l => bootLane s c ok l) s
      if s.actives.length < 2 then stopAt s 8 else toStep (lockLanes s) 5
    else s
  | none => s

/-! ## Step 5: state restore (14 R379 to R381) -/

/-- A lane loaded with the configuration that a record names, if the lane holds it. -/
def Lane.iniFor (ln : Lane) (c : Container) (l : LaneId) (v2 : Bool) (config : Nat) : Option Lane :=
  if config = c.identity then some (ln.load0 c l v2)
  else match ln.spare with
    | some d => if config = d.identity then some (ln.load0 d l v2) else none
    | none => none

/-- The candidates that each active lane offers (R379). -/
def offers (s : State) (c : Container) : List (LaneId × List Candidate) :=
  s.actives.map (fun l => (l, (s.lane l).candidates (fun r => (s.lane l).iniFor c l s.v2serzel r.config) l))

/-- Lanes that offer a candidate. -/
def offering (os : List (LaneId × List Candidate)) (x : Candidate) : List LaneId :=
  (os.filter (fun o => o.2.contains x)).map (fun o => o.1)

/-- The agreed commit: the highest sequence that at least two lanes offer with one tuple (R380). -/
def agreedCommit (os : List (LaneId × List Candidate)) : Option Candidate :=
  ((os.flatMap (fun o => o.2)).filter (fun x => decide (2 ≤ (offering os x).length))).foldl
    (fun (m : Option Candidate) x => match m with
      | some b => if b.seq < x.seq then some x else some b
      | none => some x) none

/-- The record behind a candidate. -/
def Glue.recordFor (g : Glue) (x : Candidate) : Option Record :=
  g.commits.find? (fun r => decide (r.seq = x.seq) && decide (r.config = x.config) && decide (r.sig = x.sig))

/-- A lane with the state of a commit: blocks, fixed part, and the entries that show the commit. -/
def Lane.restore (ln ini : Lane) (r : Record) : Lane :=
  let ln := { ini with glue := ln.glue }.reconstruct ini r.seq
  let ln := r.fixed.regs.foldl Lane.putKey ln
  let ln := { ln with ctxs := r.fixed.ctxs, forces := r.fixed.forces, iBase := ln.i
                      glue := { ln.glue with dirty := [], kept := [], fixedRel := r.fixed, lastRel := r.seq, fullDue := false } }
  (((ln.rset 0x3040 2 r.seq).rset 0x3040 3 r.seq).rset 0x3042 1 r.sig).showForces

/-- A minority lane with the state of a donor; blocks of single-lane regions keep their initial values (R370, R380), and a full
commit is due (R375). -/
def Lane.copyFrom (ln ini donor : Lane) : Lane :=
  let x := { { ini with glue := ln.glue } with m := donor.m, d := donor.d, s := donor.s, locals := donor.locals }
  let x := ini.singles.foldl (fun x b => x.putBlock b (ini.block b)) x
  let x := x.adopt donor
  { x with glue := { x.glue with dirty := [], kept := [], fixedRel := donor.glue.fixedRel, relCfg := donor.glue.relCfg, lastRel := donor.glue.lastRel, fullDue := true } }

/-- Restored safety sequences of the flows that the node produces, advanced (09 R259). -/
def Lane.advanceSafety (ln : Lane) (c : Container) : Lane :=
  (c.flows.filter (fun f => decide (f.role = 1) && f.safe)).foldl (fun ln f =>
    ln.rset (0x4400 + f.id) 6 ((ln.rget (0x4400 + f.id) 6 + 65536) % 4294967296)) ln

/-- The force table rebuilt from the commit's force table; set time and client of a slot as the junction held them. -/
def forcesFrom (s : State) (fs : List (Nat × Bytes)) : State :=
  { s with forces := fs.foldl (fun m p => Store.insert m p.1 (match Store.find? s.forces p.1 with
      | some f => { f with rec_ := p.2 }
      | none => { rec_ := p.2, time := s.time.now, client := 255 })) [] }

/-- Restore result, 3043.00, with its record of type 7: agreed tuple and minority lanes as a map. -/
def restoreResult (s : State) (result : Nat) (x : Option Candidate) (minority : List LaneId) : State :=
  let t := x.getD ⟨0, 0, 0⟩
  let m := minority.foldl (fun n l => n + 2 ^ l.num) 0
  record (jset s 0x3043 0 result) 0 7 (leBytes 1 result ++ leBytes 8 t.seq ++ leBytes 4 t.config ++ leBytes 8 t.sig ++ leBytes 1 m)

/-- What every start-up does after the restore: sequences advanced, the next step (R381, 09 R259, 11 R303). -/
def restored (s : State) : State := toStep (advanceTelegrams (advanceHeaders s false) false) 6

/-- Initial values in every lane; journals that still hold records need a full commit before the next delta (R375). -/
def startFresh (s : State) (result : Nat) : State :=
  let s := s.modLanes (fun _ ln => if ln.status = .active then { ln with glue := { ln.glue with fullDue := true }, forces := [] } else ln)
  restored (restoreResult { s with forces := [] } result none [])

/-- The configuration that the agreed commit names put in force (06 R181): the merged one, or the base with result 11, with which the change
has not taken place and counts no more. -/
def settleConfig (s : State) (c : Container) (config : Nat) : State :=
  if config = c.identity then
    if s.actives.any (fun l => (s.lane l).spare.isSome) then
      endChange (s.modLanes (fun _ ln => { ln.rset 0x6800 10 (ln.rget 0x6800 10 - 1) with spare := none })) 11 0
    else s
  else match s.actives.findSome? (fun l => (s.lane l).spare.bind (fun d => if d.identity = config then some d else none)) with
    | some d => putInForce (stampCopies (s.modLanes (fun _ ln => { ln with stored := some d, spare := none })) LaneId.all 0) d
    | none => s

/-- A minority lane of the restore: cause 13, then the copy. A lane that had been excluded counts as a reintegration start, and
with the count exhausted it stays held (R380, 03 R96). -/
def copyMinority (donor : LaneId) (limp : Bool) (s : State) (l : LaneId) : State :=
  let s := enterCause s l 13
  if limp ∧ 3 ≤ s.starts24 then silence s l 13
  else
    let s := if limp then countStart s else s
    match s.config with
    | some c =>
      let d := s.lane donor
      let v2 := s.v2serzel
      s.modLane l (fun ln => { ln.copyFrom (ln.load0 c l v2) d with time := ln.time })
    | none => s

/-- The restore of an agreed commit. -/
def restoreFrom (s : State) (c : Container) (os : List (LaneId × List Candidate)) (x : Candidate) : State :=
  let good := offering os x
  let minority := s.actives.filter (fun l => !good.contains l)
  let v2 := s.v2serzel
  let s := s.modLanes (fun l ln =>
    if good.contains l then
      match ln.iniFor c l v2 x.config, ln.glue.recordFor x with
      | some ini, some r => ln.restore ini r
      | _, _ => ln
    else ln)
  let s := settleConfig s c x.config
  let donor := good.headD .a
  let fixed := (s.lane donor).glue.fixedRel
  let s := minority.foldl (copyMinority donor fixed.limpNs.isSome) s
  let s := forcesFrom { s with monitors := fixed.monitors, power := { s.power with restored := true } } fixed.forces
  let s := s.modLanes (fun _ ln => if ln.status = .active then (match s.config with
    | some m => ln.advanceSafety m
    | none => ln) else ln)
  restored (restoreResult s (if minority.isEmpty then 1 else 2) (some x) minority)

/-- STATE_RESTORE (R380). -/
def stateRestore (s : State) : State :=
  match s.config with
  | some c =>
    if s.inStep 5 then
      let os := offers s c
      match agreedCommit os with
      | some x => restoreFrom s c os x
      | none =>
        if 2 ≤ (os.filter (fun o => o.2.isEmpty)).length then startFresh s 0
        else stopAt (restoreResult s 4 none []) 9
    else s
  | none => s

/-- DISCARD_STATE (R380): every journal voided, initial values. -/
def discardState (s : State) : State :=
  startFresh (s.modLanes (fun _ ln => ln.voidMarker 0)) 3

/-! ## Steps 6 and 7 -/

/-- RING_INTEGRATION (10 R297). -/
def ringIntegration (s : State) : State :=
  if s.inStep 6 ∧ (s.ring.state = .active ∨ s.ring.state = .alone) then toStep s 7 else s

/-- RING_INTEGRATION_TIMEOUT (10 R297): with 4230.05 TRUE, 2 s after the step began, the time uncertain. -/
def ringTimeout (s : State) : State :=
  if s.inStep 6 ∧ jbool s 0x4230 5 then
    let s := advanceTo s (s.power.stepAt + 2000000000)
    toStep { s with time := { s.time with uncertain := true } } 7
  else s

/-- Instant of C_{k1−1}: the first cycle start after step 6 (R429). -/
def State.beforeFirst (s : State) (c : Container) : Nat := gridFrom (Nat.max s.time.now (s.power.stepAt + 1)) c.phi (Nat.max 1 c.tBase)

/-- Instant of C_{k1}, the cycle start after `c1` (R429). -/
def State.firstVoted (s : State) (c : Container) (c1 : Nat) : Nat :=
  let t := Nat.max 1 c.tBase
  let g := gridFrom s.time.now c.phi t
  if g ≤ c1 then c1 + t else g

/-- C_{k1−1}: the first cycle start after step 6. What arrived before it is discarded (R429). -/
def firstStart (s : State) (c : Container) : State :=
  let s := advanceTo s (s.beforeFirst c)
  let s := beforeBatch s s.time.now
  { s with
    ring := { s.ring with rx := s.ring.rx.map (fun p => (p.1, p.2.taken')) }
    ecn0 := { s.ecn0 with rx := s.ecn0.rx.map (fun p => (p.1, { p.2 with data := none })) }
    ecn1 := { s.ecn1 with rx := s.ecn1.rx.map (fun p => (p.1, { p.2 with data := none })) }
    can0 := { s.can0 with rx := [] }
    can1 := { s.can1 with rx := [] }
    batchIn := { s.batchIn with triggers := [] }
    power := { s.power with c1 := some s.time.now } }

/-- Whether a lane of the restore stays held because the count of reintegration starts is exhausted: cause 13 (03 R96). -/
def State.exhausted (s : State) : Bool :=
  LaneId.all.any (fun l => decide ((s.lane l).status = .held) && decide ((s.lane l).rget 0x3001 1 = 13))

/-- Limp time with which a device enters RUN on two lanes: the time that the restored commit kept when the count of starts is exhausted (03 R96);
else the smaller of 3004.00 and that time (R428). -/
def limpAtStart (s : State) : Nat :=
  let full := 1000000000 * s.vget 0x3004 0
  match (s.lane s.lead).glue.fixedRel.limpNs with
  | some r => if s.exhausted then r else Nat.min full r
  | none => full

/-- RUN entered at C_{k1} with the first batch (R429). -/
def enterRun (s : State) (c : Container) (c1 : Nat) : State :=
  let t := Nat.max 1 c.tBase
  let cK := s.firstVoted c c1
  let s := beforeBatch (advanceTo s cK) cK
  let three := decide (s.actives.length = 3)
  let s := { s with mode := if three then .run2oo3 else .run2oo2
                    ring := { s.ring with ran := true }
                    vote := { s.vote with limpNs := if three then none else some (limpAtStart s) } }
  let s := if s.power.restored then s else s.modLanes (fun _ ln => { ln with glue := { ln.glue with fullDue := true } })
  let s := canRun (canRun (jset s 0x2000 7 (s.sinceVin / 1000000 % 4294967296)) .c0) .c1
  if s.badAt 1 cK then cutFault s else startCycle (toStep (startTests s) 8) c ((cK - c.phi) / t) cK true

/-- FIRST_VOTED_CYCLE (R429): the second cycle start after step 6; the first has passed when it was not commanded of itself. -/
def firstVotedCycle (s : State) : State :=
  match s.config with
  | some c =>
    if s.inStep 7 then
      match s.power.c1 with
      | some c1 => enterRun s c c1
      | none =>
        let s := firstStart s c
        enterRun s c (s.power.c1.getD 0)
    else s
  | none => s

/-- A cycle start: in step 7 C_{k1−1} and C_{k1}, in RUN every later one. A wrong check value of the
cycle-start entry is a junction time fault (09 R245). -/
def cycleStartNow (s : State) : State :=
  match s.config with
  | some c =>
    if s.inStep 7 then
      match s.power.c1 with
      | some c1 => enterRun s c c1
      | none => firstStart s c
    else cycleDue s
  | none => s

/-- CYCLE_START (01 R16, 16 R429), once at its instant (02 R39). -/
def cycleStartAny (s : State) : State := once s .cycle cycleStartNow

/-- The entries that show what the ring controller has found, at their defaults: it is reset (16 R419, 10 R299). -/
def clearRing (s : State) : State :=
  [(0x4231, 8), (0x4232, 1), (0x4232, 2), (0x4235, 1), (0x4237, 2), (0x4237, 3)].foldl (fun s p => jset s p.1 p.2 0) s

/-! ## Safe-state release (03 R99, 06 R187, 16 R426) -/

/-- The device at the start of step 2 after a safe-state release: its lanes restart, the ring starts anew after a leave frame, what
MRAM holds, the copies of the last release and the privileged session stay; the findings and locks of the outputs end (07 R203, R210), and bit 2
of 8000.05 with them (13 R353). The lanes' crossings close until each boots (15 R408); the admission of a delta that runs ends with it. -/
def releaseSafe (s : State) : State :=
  let s := jset (jbump s 0x8020 1) 0x3002 0 0
  let s := clearRing (sendLeave (saveTelegrams (saveHeaders s)) 3)
  let s := jset s 0x8000 5 (setBit (jget s 0x8000 5) 2 false)
  let s := LaneId.all.foldl closeLane { s with
    mode := .startUp
    lanes := s.lanes.map (Lane.afterRelease s.time.now)
    vote := { Vote.reset with starts := s.vote.starts, forcesRel := s.vote.forcesRel }
    time := { s.time with jtf := false }
    ring := { Ring.reset s.ring.saved with bypass := s.ring.bypass, leaveAt := s.ring.leaveAt }
    cfg := { s.cfg with inForce := none, keyId := 0, version := 0, base := none
                        gauge := if s.cfg.gauge = some .delta then none else s.cfg.gauge }
    change := { state := 0, delta := none, kAct := 0, holds := Tri.all false }
    field := { s.field with chan := s.field.chan.map (fun p => (p.1, p.2.startUp)) }
    batchIn := Batch.empty
    stationRun := []
    hbExpired := []
    power := { s.power with restored := false, c1 := none, shedC := 0 } }
  toStep (clearForces s) 2

end Sys2Proof.Machine
end

