-- ==== Sys2Proof/Machine/Read.lean ====
section
/-! DEFINITION. What an index and subindex address, and what the entries of the dictionary read (17 R437 to R442, R457, 04 R478). -/

namespace Sys2Proof.Machine

open Sys2Proof

/-! ## What a request addresses (R437, R440) -/

/-- An addressed entry: a row of a table, the highest subindex in use, a window variable, or a value of a PDO object. -/
inductive Target where
  | row (e : Entry)
  | highest (n : Nat)
  | window (y : Symbol) (rw : Bool) (lane : Option LaneId) (key : Nat)
  | pdo (len : Nat) (v : Option Nat)
  deriving DecidableEq, Repr

/-- Data type of an addressed entry; a window variable that is no Boolean is taken as its bytes. -/
def Target.typ : Target → DType
  | .row e => e.typ
  | .highest _ => .u8
  | .window y _ _ _ => if y.bool then .bool else .oct y.size
  | .pdo n _ => if n = 1 then .u8 else .u32

/-- Access of an addressed entry. -/
def Target.acc : Target → Access
  | .row e => e.acc
  | .window _ true _ _ => .rw
  | _ => .ro

/-- Class of an addressed entry. -/
def Target.cls : Target → EClass
  | .row e => e.cls
  | .window _ _ none _ => .v
  | .window _ _ (some _) _ => .l
  | _ => .j

/-- The read-only PDO objects that show the receive and transmit objects of R310 (11 Process data): communication objects with the
COB-ID at subindex 01 and the transmission type at 02, mapping objects with one value. The layout is that of CiA 301 (PRESUMED, log 53),
64 objects of each kind to a controller from the base for CAN0, then CAN1; what the manual gives no value for is free. -/
def pdoTarget (c : Container) (index sub : Nat) : Except Nat Target :=
  let q := (index - 0x1400) / 512
  let n := (index - 0x1400) % 512
  let ident := if q < 2 then (c.canRx.find? (fun r => decide (r.ctl = n / 256) && decide (r.obj = n % 256))).map (fun r => r.ident)
               else (c.canTx.find? (fun r => decide (r.ctl = n / 256) && decide (r.obj = n % 256))).map (fun r => r.ident)
  match ident with
  | none => .error 0x06020000
  | some i =>
    if q % 2 = 0 then
      if sub = 0 then .ok (.highest 2) else if sub = 1 then .ok (.pdo 4 (some i)) else if sub = 2 then .ok (.pdo 1 none)
      else .error 0x06090011
    else if sub = 0 then .ok (.highest 1) else if sub = 1 then .ok (.pdo 4 none) else .error 0x06090011

/-- Whether the variables of a window are single-lane data. -/
def windowSingle (c : Container) (w : Window) : Bool :=
  w.vars.any (fun v => c.symbols.any (fun y => decide (y.id = v.1) && decide (y.single ≠ 0)))

/-- A window variable (R440): `n` values for a voted window, `n` per lane for a window of a single-lane group. -/
def windowTarget (c : Container) (index sub : Nat) : Except Nat Target :=
  match c.windows.find? (fun x => decide (x.w = index - 0x6000)) with
  | none => .error 0x06020000
  | some w =>
    let n := w.vars.length
    let single := windowSingle c w
    if sub = 0 then .ok (.highest (if single then 3 * n else n))
    else
      let v := if single then (sub - 1) % Nat.max 1 n + 1 else sub
      let lane := if single then LaneId.ofNum ((sub - 1) / Nat.max 1 n) else none
      if single && lane.isNone then .error 0x06090011
      else match windowSym c (index - 0x6000) v with
        | some (y, rw) => .ok (.window y rw lane (regKey index v))
        | none => .error 0x06090011

/-- The entry that an index and subindex address, or the code of check 5 (R437). -/
def resolve (s : State) (index sub : Nat) : Except Nat Target :=
  if 0x5000 ≤ index ∧ index ≤ 0x53FF ∧ s.variantF = false then .error 0x06020000
  else if 0x1400 ≤ index ∧ index ≤ 0x1BFF then
    match s.config with
    | some c => pdoTarget c index sub
    | none => .error 0x06020000
  else if 0x6000 ≤ index ∧ index ≤ 0x63FF then
    match s.config with
    | some c => windowTarget c index sub
    | none => .error 0x06020000
  else match entry? index sub with
    | some e => .ok (.row e)
    | none =>
      if !indexExists index then .error 0x06020000
      else if sub = 0 ∧ 0 < firstSub index then .ok (.highest (lastSub index)) else .error 0x06090011

/-! ## Clients (R442) -/

/-- A binding with nothing selected: cursors at their defaults, Lane A in view. -/
def Binding.fresh (r : Sender) (now : Nat) : Binding :=
  { path := r.path, carrier := r.carrier, ip := r.ip, udpPort := r.udpPort, at_ := now, recCursor := 0, logCursor := 1, view := 0 }

/-- The binding of a client. -/
def State.bindingOf (s : State) (r : Sender) : Binding := (Store.find? s.dict.bindings r.client).getD (Binding.fresh r s.time.now)

/-- The state with a client's binding changed. -/
def State.modBinding (s : State) (r : Sender) (f : Binding → Binding) : State :=
  { s with dict := { s.dict with bindings := Store.insert s.dict.bindings r.client (f (s.bindingOf r)) } }

/-- Lane whose single-lane task a client sees (04 R478). -/
def State.viewOf (s : State) (r : Sender) : LaneId := (LaneId.ofNum (s.bindingOf r).view).getD .a

/-- Client binding 1E01 as it reads. -/
def bindingWord (s : State) (client : Nat) : Nat :=
  match Store.find? s.dict.bindings client with
  | some b => b.path.code + 1 + 256 * b.carrier + 65536 * (b.udpPort % 65536) + 4294967296 * (b.ip % 4294967296)
  | none => 0

/-- A record of the write history in its 32 bytes (Table 17-10). -/
def HistRec.bytes (h : HistRec) : Bytes :=
  timeBytes h.time ++ leBytes 1 h.client ++ leBytes 1 h.path ++ leBytes 2 h.index ++ leBytes 1 h.sub ++ leBytes 1 h.flags ++
  leBytes 4 h.abort ++ padTo 8 h.value ++ leBytes 4 0

/-! ## Entries of class V that the configuration gives -/

/-- The task of a context number that a client sees (04 R478). -/
def taskSeen (c : Container) (view : LaneId) (ctx : Nat) : Option Task := (tasksOf c view).find? (fun t => decide (t.ctx = ctx))

/-- Kind code of a task, 32xx.01. -/
def TaskKind.code : TaskKind → Nat
  | .cyclic _ _ => 1
  | .event _ _ _ => 2
  | .error => 3

/-- Position of a task in its engine's order list. DESIGN CHOICE (log 82): counted from 0; an event task, which has no place of its own,
reads 0. -/
def orderPlace (c : Container) (t : Task) (l : LaneId) : Nat :=
  match c.orders.find? (fun o => decide (o.slot = t.ctx / 16) && (decide (o.lanes = 0) || decide (o.lanes = l.num + 1))) with
  | some o => (o.list.findIdx? (fun x => decide (x = .task t.ctx))).getD 0
  | none => 0

/-- Entries 32xx.01, .02 and .05 to .09 of a context; an empty context reads 0 (04 Table 04-6). -/
def taskEntry (c : Container) (view : LaneId) (ctx sub : Nat) : Option Nat :=
  match taskSeen c view ctx with
  | none => if sub ≤ 2 ∨ (5 ≤ sub ∧ sub ≤ 9) then some 0 else none
  | some t =>
    match sub with
    | 1 => some (TaskKind.code t.kind)
    | 2 => some t.scope
    | 5 => some (orderPlace c t view)
    | 6 => some (wcet c view t)
    | 7 => some (match t.kind with
        | .event n _ _ => n
        | _ => 0)
    | 8 => some t.group
    | 9 => some (if t.sheddable then 1 else 0)
    | _ => none

/-- Insertion map 4119: insertion i in bits 16 i and up (11 Table 11-8). -/
def insertionMap (t : Telegram) : Nat :=
  t.inserts.zipIdx.foldl (fun m p => m + 2 ^ (16 * p.2) * (p.1.ofs + 64 * p.1.kind + (if p.1.msb then 512 else 0))) 0

/-- Number of the check-value unit attached to an item, 255 none. -/
def attachedUnit (c : Container) (kind id : Nat) : Nat := ((attached c kind id).map (fun u => u.unit)).getD 255

/-- Entries of a telegram context that the container gives, by their distance from 4110 or 4140. A MAC address reads its octets in the order sent (17
Table 17-1). -/
def telEntry (c : Container) (port x ctx : Nat) : Option Nat :=
  match c.telegrams.find? (fun t => decide (t.port = port) && decide (t.ctx = ctx)) with
  | none => if x < 10 then some 0 else if x = 15 then some 255 else none
  | some t =>
    match x with
    | 0 => some t.role
    | 1 => some (t.vid + 4096 * t.pcp + (if t.tagged then 32768 else 0))
    | 2 => some (ofLe (beBytes 6 t.mac))
    | 3 => some t.dstIp
    | 4 => some t.srcIp
    | 5 => some (65536 * t.srcPort + t.dstPort)
    | 6 => some t.header.length
    | 7 => some t.dLen
    | 8 => some (ofLe t.header)
    | 9 => some (insertionMap t)
    | 15 => some (attachedUnit c (port + 1) ctx)
    | _ => none

/-- Entries of a flow that the container gives (09 Table 09-9). -/
def flowEntry (c : Container) (id sub : Nat) : Option Nat :=
  match c.flows.find? (fun f => decide (f.id = id)) with
  | none => if sub ≤ 4 ∨ sub = 20 then some 0 else none
  | some f =>
    match sub with
    | 1 => some f.role
    | 2 => some f.producer
    | 3 => some (if f.safe then 1 else 0)
    | 4 => some f.aux
    | 20 => some (flowSeed f.id f.producer c.ring.identity)
    | _ => none

/-- Entries of a junction check-value unit that the container gives (11 Table 11-10). -/
def cvuEntry (c : Container) (unit sub : Nat) : Option Nat :=
  match c.cvus.find? (fun u => decide (u.unit = unit)) with
  | none => if sub ≤ 4 then some 0 else none
  | some u =>
    match sub with
    | 1 => some 1
    | 2 => some (u.id + 1024 * u.kind)
    | 3 => some u.start
    | 4 => some (if u.msb then 1 else 0)
    | _ => none

/-- Per mille of the execution window that an engine or half uses in its heaviest cycle, in the lane where it is largest. -/
def windowUse (c : Container) (slot : Nat) : Nat :=
  let n := LaneId.all.foldl (fun m l => Nat.max m (heaviest c l slot)) 0
  ceilDiv (n * 1000) (Nat.max 1 (window c))

/-- Claims of the container and results of its admission: 9020 to 9030. -/
def claimEntry (c : Container) (index sub : Nat) : Option Nat :=
  let chain := c.chains.find? (fun x => decide (x.no = sub))
  let fn := c.safety.find? (fun x => decide (x.no = sub))
  match index with
  | 0x9020 => some c.chains.length
  | 0x9021 => some ((chain.map (chainLatency c)).getD 0)
  | 0x9022 => some ((chain.map (fun x => x.bound)).getD 0)
  | 0x9023 => some ((fn.map (reactionTime c)).getD 0)
  | 0x9024 => some ((fn.map (fun x => x.tPst)).getD 0)
  | 0x9030 =>
    if sub = 1 then some (dirtyBound c c.pGlue)
    else if sub = 2 then some (commitTime (dirtyBound c c.pGlue))
    else if sub = 3 then some (dirtyBound c (2 * c.pGlue))
    else if sub = 4 then some (commitTime (dirtyBound c (2 * c.pGlue)))
    else some (wear c (dirtyBound c c.pGlue))
  | _ => none

/-- Value of a class V entry that the configuration in force fixes; none for one that lives in the lanes. -/
def configEntry (s : State) (c : Container) (view : LaneId) (index sub : Nat) : Option Nat :=
  if 0x3200 ≤ index ∧ index ≤ 0x33FF then taskEntry c view (index - 0x3200) sub
  else if 0x4110 ≤ index ∧ index ≤ 0x411F then telEntry c 0 (index - 0x4110) sub
  else if 0x4140 ≤ index ∧ index ≤ 0x414F then telEntry c 1 (index - 0x4140) sub
  else if 0x4400 ≤ index ∧ index ≤ 0x47FF then flowEntry c (index - 0x4400) sub
  else if 0x4A00 ≤ index ∧ index ≤ 0x4A07 then cvuEntry c (index - 0x4A00) sub
  else if 0x5400 ≤ index ∧ index ≤ 0x543F ∧ sub = 1 then
    some (((c.stations.find? (fun x => decide (x.no = index - 0x5400))).map (fun x => x.node)).getD 0)
  else if 0x5311 ≤ index ∧ index ≤ 0x5318 ∧ sub = 6 then
    if paramOf (effective s c) index 1 = 0 then some 0 else some (recogWindow (effective s c) (index - 0x5310) / 1000)
  else if 0x9020 ≤ index ∧ index ≤ 0x9030 then claimEntry (effective s c) index sub
  else match index, sub with
    | 0x3030, 5 => some c.bOut
    | 0x3100, 1 => some (c.splits.a.foldl (fun n e => setBit n e true) 0)
    | 0x3110, n => some (windowUse (effective s c) (n - 1))
    | 0x3122, 0 => some (LaneId.all.foldl (fun m l => Nat.max m (crossBytes c l)) 0)
    | 0x3126, n => some (((c.lcv.a[n - 1]?).getD none).getD 255)
    | 0x3040, 1 => some c.pGlue
    | 0x4100, 7 => some (c.minSpeed.getD 0 3)
    | 0x4101, 7 => some (c.minSpeed.getD 1 3)
    | 0x5003, n => some (if c.pulse.contains (n - 1) then 1 else 0)
    | 0x6800, 8 => some c.identity
    | _, _ => none

/-! ## Entries of class J that are not registers -/

/-- Ring and schedule entries of the junction. -/
def ringEntry (s : State) (index sub : Nat) : Option Nat :=
  match index, sub, s.config with
  | 0x4200, 1, _ => some (if s.v2ring then 1 else 0)
  | 0x4200, 2, some c => some (((ringPlace c s.pins.node).map (fun n => n + 1)).getD 0)
  | 0x4200, 3, some c => some c.ring.order.length
  | 0x4200, 4, some c => some c.ring.identity
  | 0x4201, 1, some c => some (c.ring.tRound / 1000)
  | 0x4201, 2, some c => some c.ring.nR
  | 0x4201, 3, some c => some (Nat.min 65535 (slotGuard s.v2ring c))
  | 0x4202, 1, _ => some s.ring.east.link
  | 0x4202, 2, _ => some s.ring.west.link
  | 0x4203, n, some c =>
    match ringPlace c s.pins.node with
    | some i => some (((c.ring.links[(if n = 1 then i else i + c.ring.links.length - 1) % Nat.max 1 c.ring.links.length]?).getD (0, 0)).2)
    | none => some 0
  | 0x4230, 2, _ => some (if (coldDelay s s.pins.node).isSome then 1 else 0)
  | 0x4230, 3, _ => some ((coldDelay s s.pins.node).getD 0)
  | 0x4230, 4, _ => some (if (syncNode s s.pins.node).isSome then 1 else 0)
  | 0x4231, 7, some c => some (if c.ring.syncs.length < 4 then 1 else 0)
  | 0x4237, 1, _ => some (if s.ring.bypass then 3 else 0)
  | 0x4300, 2, some c => some (cutEntries c).length
  | _, _, _ => none

/-- Session, keys and plug entries (13 Table 13-6). -/
def sealEntry (s : State) (index sub : Nat) : Option Nat :=
  match index, sub with
  | 0x8000, 5 => some (jget s 0x8000 5 + (if s.pins.disagree then 8 else 0))
  | 0x8000, 6 => some s.pins.node
  | 0x8000, 7 => some (if s.pins.split then 1 else 0)
  | 0x8000, 8 => some (if s.unsealed then 0 else 1)
  | 0x8010, 6 => some (if s.priv.holder.isSome then 1 else if s.priv.locked then 2 else 0)
  | 0x8010, 7 => some (match s.priv.holder with
      | some h => h.client + 256 * h.path.code
      | none => 0)
  | 0x8010, 8 => some s.priv.failCount
  | 0x8010, 9 => some (ceilDiv s.priv.lockNs 1000000000)
  | 0x8010, 10 => some (if s.priv.digest.isSome then 1 else 0)
  | 0x8030, 1 => some (if s.pins.unsealedMode then 1 else 0)
  | 0x8105, 3 => some s.cfg.version
  | 0x8105, 4 => some s.cfg.keyId
  | 0x8106, n => some (s.revoked.getD (n - 1) 0)
  | _, _ =>
    if 0x8101 ≤ index ∧ index ≤ 0x8104 then
      if sub = 2 then some ((s.keyAt (index - 0x8101)).getD 0)
      else if sub = 3 then some (if (s.keyAt (index - 0x8101)).isSome then 1 else 0) else none
    else none

/-- Device, power, lane and time entries. DESIGN CHOICE (log 82): 3005.00 rounds the limp time that remains up to whole seconds. -/
def deviceEntry (s : State) (index sub : Nat) : Option Nat :=
  match index, sub with
  | 0x1008, 0 => some (ofLe [0x59, 0x65, 0x72, 0x69, 0x73, 0x20, 0x56, 0x33])
  | 0x1009, 0 => some Config.hardwareVersion.toNat
  | 0x100A, 0 => some Config.softwareVersion.toNat
  | 0x1018, 2 => some (if s.variantF then 0x00030046 else 0x00030043)
  | 0x1018, 3 => some (0x00030000 + Config.revision.toNat)
  | 0x1018, 4 => some Config.serialNumber.toNat
  | 0x1E00, 3 => some s.dict.inFlight.length
  | 0x1E00, 8 => some s.dict.captures.length
  | 0x1E01, n => some (bindingWord s (n - 1))
  | 0x2000, 5 => some s.power.step
  | 0x2000, 6 => some s.power.stop
  | 0x2100, 1 => some s.power.stage
  | 0x2106, 0 => some (s.power.domains + (if s.field.operating then 57344 else 0))
  | 0x2108, 5 => if s.variantF && s.field.operating then none else some 0
  | 0x2200, 2 => some s.crossingsFlagged
  | 0x2201, n => some (s.domainStatus (n - 1))
  | 0x3000, 1 => some s.mode.code
  | 0x3000, 2 => some (LaneId.all.foldl (fun n l => n + 16 ^ l.num * (s.lane l).status.code) 0)
  | 0x3005, 0 => some (if s.mode = .run2oo2 then ceilDiv (s.vote.limpNs.getD 0) 1000000000 else 0)
  | 0x3006, 3 => some s.starts24
  | 0x4000, 1 => some (ofLe (timeBytes s.time.now))
  | 0x4000, 2 => some s.timeStatus
  | 0x4001, 0 => some (wrapTo 64 s.time.tai)
  | 0x4009, 4 => some s.laneClocks
  | 0x4100, 2 => some (ofLe (beBytes 6 (Config.macAddress false).toNat))
  | 0x4101, 2 => some (ofLe (beBytes 6 (Config.macAddress true).toNat))
  | 0x4800, 8 => some s.can0.nmt.code
  | 0x4810, 8 => some s.can1.nmt.code
  | 0x4800, 9 => some s.can0.err
  | 0x4810, 9 => some s.can1.err
  | 0x4804, 1 => some (0x600 + canNode s .c0)
  | 0x4805, 1 => some (0x580 + canNode s .c0)
  | 0x4804, 5 => some (0x600 + canNode s .c1)
  | 0x4805, 5 => some (0x580 + canNode s .c1)
  | 0x4900, 2 => some s.host.queue.length
  | 0x5180, 1 => some s.healthState
  | 0x6800, 1 => some s.change.state
  | 0x7000, 4 => some s.recorder.sArm
  | 0x7000, 5 => some s.recorder.head
  | 0x7011, 1 => some (if s.recorder.holder.isSome then 1 else 0)
  | 0x7011, 2 => some (s.recorder.holder.getD 255)
  | 0x7011, 3 => some s.recorder.staged.length
  | 0x7200, 1 => some s.log.length
  | 0x9000, 3 => some ((s.storedContainer.map (fun c => c.identity)).getD 0)
  | _, _ =>
    if 0x2210 ≤ index ∧ index ≤ 0x2239 ∧ sub = 1 then some (s.crossing (index - 0x2210)).status
    else if 0x4010 ≤ index ∧ index ≤ 0x4017 ∧ sub = 3 then some ((s.time.dc[index - 0x4010]?).elim 0 (fun x => x.state))
    else if 0x4018 ≤ index ∧ index ≤ 0x401B ∧ sub = 4 then some ((s.time.ec[index - 0x4018]?).elim 0 (fun x => x.state))
    else if 0x4A00 ≤ index ∧ index ≤ 0x4A07 ∧ sub = 12 then
      some (((Store.find? s.cvu (index - 0x4A00)).bind (fun v => v.client)).getD 255)
    else none

/-- Controller whose entry 1014.00 a request reaches: that of its SDO channel, and CAN0 on the other paths (11 R322; DESIGN CHOICE, log 33). -/
def emcyCtl (r : Sender) : CanCtl := if r.path = .can then canOf (r.carrier / 4) else .c0

/-- Entries that hold one value per client (04 R478, 14 R386, R389), or one per controller (11 R322). -/
def clientEntry (s : State) (r : Sender) (index sub : Nat) : Option Nat :=
  match index, sub with
  | 0x1014, 0 => some (s.emcyIdent (emcyCtl r))
  | 0x3127, 0 => some (s.bindingOf r).view
  | 0x7010, 1 => some (s.bindingOf r).recCursor
  | 0x7202, 1 => some (s.bindingOf r).logCursor
  | _, _ => none

/-- Value of a class J entry as a number. -/
def jvalue (s : State) (r : Sender) (index sub : Nat) : Nat :=
  ((clientEntry s r index sub).orElse (fun _ => (deviceEntry s index sub).orElse (fun _ =>
    (ringEntry s index sub).orElse (fun _ => sealEntry s index sub)))).getD (jget s index sub)

/-! ## Class V (R439) -/

/-- The value that at least two of some copies hold, when there is one. -/
def twoEqual (vs : List Bytes) : Option Bytes := vs.find? (fun v => decide (2 ≤ (vs.filter (fun w => decide (w = v))).length))

/-- Value that the admitted container gives an entry, or its default; of a context with single-lane tasks, that of the lane in view
(04 R478). -/
def initialValue (s : State) (view : LaneId) (key len : Nat) : Bytes :=
  match s.config with
  | none => leBytes len (tableDefault key)
  | some c => leBytes len ((((laneParams c view).reverse.find? (fun p => decide (p.1 = key))).map (fun p => p.2)).getD (tableDefault key))

/-- A read of copies that the lanes released: the value of two, or the code of a disagreement with a lane record (Table 17-8). -/
def agreeCopies (s : State) (vs : List Bytes) : State × Except Nat Bytes :=
  match twoEqual vs with
  | some v => (s, .ok v)
  | none => (record s 0 2 (leBytes 1 255 ++ leBytes 1 0 ++ leBytes 4 0), .error 0x06060000)

/-- Active lanes that have released. -/
def releasedLanes (s : State) : List LaneId := s.actives.filter (fun l => (s.lane l).relSeen)

/-- A force slot at the latest release, 6500 to 65FF: as the lanes held it, with its set time and client as the junction kept them (R439). -/
def forceEntry (s : State) (slot sub : Nat) : State × Except Nat Bytes :=
  if sub = 1 then
    if (releasedLanes s).isEmpty then (s, .ok [])
    else agreeCopies s ((releasedLanes s).map (fun l => (Store.find? (s.lane l).forcesRel slot).getD []))
  else
    let f := Store.find? s.vote.forcesRel slot
    (s, .ok (if sub = 2 then timeBytes ((f.map (fun x => x.time)).getD 0) else leBytes 1 ((f.map (fun x => x.client)).getD 0)))

/-- A read of a class V register: the released copies, one lane's copy for a context with single-lane tasks (04 R478), or before the
first release what the container gives. -/
def laneValues (s : State) (view : LaneId) (key len : Nat) : State × Except Nat Bytes :=
  let index := key / 256
  let copy := fun (l : LaneId) => leBytes len (Store.get (s.lane l).rel (tableDefault key) key)
  if (releasedLanes s).isEmpty then (s, .ok (initialValue s view key len))
  else match writeLane s view index with
    | some l => (s, .ok (copy l))
    | none => agreeCopies s ((releasedLanes s).map copy)

/-- A read of a class V entry of a table. -/
def vread (s : State) (r : Sender) (e : Entry) (index sub : Nat) : State × Except Nat Bytes :=
  let len := e.typ.len
  if 0x6500 ≤ index ∧ index ≤ 0x65FF then forceEntry s (index - 0x6500) sub
  else if index = 0x6400 ∧ sub = 1 then (s, .ok [])
  else match s.config.bind (fun c => configEntry s c (s.viewOf r) index sub) with
    | some v => (s, .ok (leBytes len v))
    | none => laneValues s (s.viewOf r) (regKey index sub) len

/-- Initial value of a window variable. -/
def windowInit (s : State) (y : Symbol) : Bytes :=
  let b := symInit s.v2serzel y
  if y.bool then leBytes y.size (ofLe b / 2 ^ y.bit % 2) else b

/-- A read of a window variable (R440). -/
def wread (s : State) (y : Symbol) (lane : Option LaneId) (key len : Nat) : State × Except Nat Bytes :=
  let copy := fun (l : LaneId) => leBytes len (Store.get (s.lane l).rel 0 key)
  match lane with
  | some l => (s, .ok (if (s.lane l).relSeen then copy l else padTo len (windowInit s y)))
  | none =>
    if (releasedLanes s).isEmpty then (s, .ok (padTo len (windowInit s y)))
    else agreeCopies s ((releasedLanes s).map copy)

/-! ## Class L (R439) -/

/-- Entries of class L that the junction enters when a lane is excluded, and which are read as they stand: the exclusion cause and the engine fault
map, which the procedure of 13 R350 reads after the safe state was entered (DEDUCED, log 79). -/
def junctionHeld (index : Nat) : Bool := decide (index = 0x3001) || decide (index = 0x3101)

/-- A read of a class L entry of a table: the lane's value at its latest release, and before the first as it stands (R439; DESIGN CHOICE, log
79). -/
def lread (s : State) (e : Entry) (index sub : Nat) : Bytes :=
  let ln := s.lane (e.laneOf sub)
  let key := e.laneKey index sub
  leBytes e.typ.len (Store.get (if junctionHeld index || !ln.relSeen then ln.reg else ln.rel) (tableDefault key) key)

/-- Junction tick of the present instant (R448). -/
def State.tickNo (s : State) : Nat := s.time.now / 1000

/-- Value that a write of the tick in progress has left in the batch for an entry, which a later read of the tick returns (R453). -/
def State.sameTick (s : State) (index sub key : Nat) (lane : Option LaneId) : Option Nat :=
  if s.dict.history.any (fun h => decide (h.tick = s.tickNo) && decide (h.index = index) && decide (h.sub = sub) && !bitOf h.flags 1) then
    ((s.batchIn.writes.filter (fun w => decide (w.key = key) && decide (w.lane = lane))).getLast?).map (fun w => w.val)
  else none

/-! ## Reads with an effect -/

/-- A recorder record at the client's cursor (14 R386). -/
def readRecord (s : State) (r : Sender) : State × Except Nat Bytes :=
  let n := (s.bindingOf r).recCursor
  match s.recorder.at_ n with
  | some e => (s.modBinding r (fun b => { b with recCursor := n + 1 }), .ok e.bytes)
  | none => (s, .error 0x0A130001)

/-- The record block from the client's cursor. -/
def readBlock (s : State) (r : Sender) : State × Except Nat Bytes :=
  let n := (s.bindingOf r).recCursor
  if s.recorder.blockLen n = 0 then (s, .error 0x0A130001)
  else (s.modBinding r (fun b => { b with recCursor := n + s.recorder.blockLen n }), .ok (s.recorder.block n))

/-- The change-log entry at the client's cursor (14 R389). -/
def readLog (s : State) (r : Sender) : State × Except Nat Bytes :=
  let n := (s.bindingOf r).logCursor
  match s.logAt n with
  | some b => (s.modBinding r (fun x => { x with logCursor := (n + 1) % 65536 }), .ok b)
  | none => (s, .error 0x0A130001)

/-- Whether a domain showed clock edges in the last millisecond; domain 10 does so during a transaction of the host link alone (15 Table 15-1). -/
def State.edges (s : State) (d : Nat) : Bool :=
  if d = 10 then s.host.ranAt.any (fun t => decide (s.time.now < t + 1000000)) else s.domainRuns d

/-- Measured frequency 2202: 0 for a stopped clock, else within 0.1 % of nominal (15 R396, R410). -/
def readFrequency (s : State) (d : Nat) : State × Except Nat Bytes :=
  if s.edges d then
    let f := domainKhz d
    (s.drew, .ok (leBytes 4 (f - f / 1000 + s.freeVal % (2 * (f / 1000) + 1))))
  else (s, .ok (leBytes 4 0))

/-- The 16 384 entries of the cutting list, 4300.01. -/
def cutBytes (c : Container) : Bytes :=
  (c.cut.flatMap (fun e => leBytes 4 e.w0 ++ leBytes 4 e.w1 ++ leBytes 4 e.w2 ++ leBytes 4 e.w3)) ++
  List.replicate (16 * (16384 - c.cut.length)) 0

/-- Result of a junction check-value unit, 4A0n.09 (11 R319). -/
def readCvu (s : State) (r : Sender) (n : Nat) : State × Except Nat Bytes :=
  match Store.find? s.cvu n with
  | some v =>
    if v.client = some r.client then
      match v.unit with
      | some u => ({ s with cvu := Store.insert s.cvu n { v with at_ := s.time.now } }, .ok (leBytes 8 (crcFinish u.poly u.reg)))
      | none => (s, .error 0x08000022)
    else (s, .error 0x08000022)
  | none => (s, .error 0x08000022)

/-- A read of a class J entry of a table. -/
def jread (s : State) (r : Sender) (e : Entry) (index sub : Nat) : State × Except Nat Bytes :=
  match index, sub with
  | 0x1E10, n => (s, .ok ((s.dict.history[n - 1]?).elim (List.replicate 32 0) HistRec.bytes))
  | 0x2202, n => readFrequency s (n - 1)
  | 0x4300, 1 => (s, .ok (s.config.elim (List.replicate 262144 0) cutBytes))
  | 0x6800, 2 => (s, .ok [])
  | 0x7010, 2 => readRecord s r
  | 0x7010, 3 => readBlock s r
  | 0x7202, 2 => readLog s r
  | 0x8010, 3 => (s, .ok [])
  | 0x9000, 1 => (s, .ok [])
  | _, _ =>
    if 0x4A00 ≤ index ∧ index ≤ 0x4A07 ∧ sub = 9 then readCvu s r (index - 0x4A00)
    else if 0x7140 ≤ index ∧ index ≤ 0x717F then
      let n := index - 0x7140
      let b := (s.monitor n).bytes s.time.now
      (if sub = 2 then clearMonitor s n else s, .ok b)
    else if 0x8101 ≤ index ∧ index ≤ 0x8104 ∧ sub = 1 then (s, .ok ((Store.find? s.keys (index - 0x8101)).getD []))
    else (s, .ok (leBytes e.typ.len (jvalue s r index sub)))

/-- Lane copy and key of the value that a class V or L entry addresses, as its writes enter the batch. -/
def Target.place (s : State) (r : Sender) (t : Target) (index sub : Nat) : Option (Nat × Option LaneId) :=
  match t with
  | .window _ _ lane key => some (key, lane)
  | .row e =>
    match e.cls with
    | .j => none
    | .v => some (regKey index sub, writeLane s (s.viewOf r) index)
    | .l => some (e.laneKey index sub, some (e.laneOf sub))
  | _ => none

/-- A read of what a request addresses, as the entry's class gives it. -/
def readEntry (s : State) (r : Sender) (t : Target) (index sub : Nat) : State × Except Nat Bytes :=
  match t with
  | .highest n => (s, .ok (leBytes 1 n))
  | .pdo len (some v) => (s, .ok (leBytes len v))
  | .pdo len none => (s.drew, .ok (leBytes len s.freeVal))
  | .window y _ lane key => wread s y lane key t.typ.len
  | .row e =>
    match e.cls with
    | .j => jread s r e index sub
    | .v => vread s r e index sub
    | .l => (s, .ok (lread s e index sub))

/-- A read of what a request addresses; a value that a write of the same tick has entered in the batch is read there (R453). -/
def readTarget (s : State) (r : Sender) (t : Target) (index sub : Nat) : State × Except Nat Bytes :=
  match (t.place s r index sub).bind (fun p => s.sameTick index sub p.1 p.2) with
  | some v => (s, .ok (leBytes t.typ.len v))
  | none => readEntry s r t index sub

end Sys2Proof.Machine
end

