-- ==== Sys2Proof/Machine/Rules.lean ====
section
/-! DEFINITION. The rules of the entries: which writes the state of the device and the value permit, what is logged, and what an
executed write does (17 R438 to R440, R449, R454, and the chapters of the entries). -/

namespace Sys2Proof.Machine

open Sys2Proof

/-- What a write brings: bytes, or a container or delta whose bytes the manual gives no layout. -/
inductive Payload where
  | plain
  | container (k : Container)
  | delta (k : Delta)
  deriving DecidableEq, Repr

/-! ## Check 6 and 7 -/

/-- Access of an entry; the COB-IDs of SDO channels 0 and 4 are fixed (11 Table 11-8). -/
def accessOf (t : Target) (index sub : Nat) : Access :=
  if (index = 0x4804 ∨ index = 0x4805) ∧ (sub = 1 ∨ sub = 5) then .ro else t.acc

/-- Whether an entry takes values of varying length (R438). -/
def freeLength (index sub : Nat) : Bool := decide (index = 0x8010) && (decide (sub = 1) || decide (sub = 3))

/-- Code of check 7 for the data of a write, 0 when the length fits (R438). -/
def lengthCode (t : Target) (index sub n : Nat) : Nat :=
  if t.typ = .domain then (if 12582912 < n then 0x06070012 else 0)
  else if freeLength index sub then (if 32 < n then 0x06070012 else 0)
  else if t.typ.len < n then 0x06070012 else if n < t.typ.len then 0x06070013 else 0

/-! ## Check 8: state rules -/

/-- Whether a unit is attached to a flow or context (11 R318). -/
def cvuAttached (s : State) (n : Nat) : Bool := s.config.any (fun c => c.cvus.any (fun u => decide (u.unit = n)))

/-- Client that claims a junction check-value unit. -/
def cvuClient (s : State) (n : Nat) : Option Nat := (Store.find? s.cvu n).bind (fun v => v.client)

/-- State rules of class V entries beside RUN (R439). -/
def stateRuleV (s : State) (r : Sender) (index sub : Nat) (d : Bytes) : Bool :=
  match s.config with
  | none => true
  | some c =>
    if 0x3200 ≤ index ∧ index ≤ 0x33FF then
      (taskSeen c (s.viewOf r) (index - 0x3200)).any (fun t => decide (TaskKind.code t.kind = 1))
    else if 0x5400 ≤ index ∧ index ≤ 0x543F then c.stations.any (fun x => decide (x.no = index - 0x5400))
    else if 0x4400 ≤ index ∧ index ≤ 0x47FF then
      c.flows.any (fun f => decide (f.id = index - 0x4400) && decide (f.role = 2) && (f.safe || decide (sub ≠ 10)))
    else if index = 0x411A ∨ index = 0x414A then
      c.telegrams.any (fun t => decide (t.port = (if index = 0x411A then 0 else 1)) && decide (t.ctx = sub) && decide (t.role = 2))
    else if index = 0x6400 ∧ sub = 1 then forceStateOk s (forceRec d)
    else if index = 0x6400 ∧ sub = 2 then (Store.find? s.forces (ofLe d)).isSome
    else true

/-- State rules of class J entries, each from the chapter of its entry. -/
def stateRuleJ (s : State) (r : Sender) (index sub : Nat) (d : Bytes) : Bool :=
  let v := ofLe d
  if 0x4A00 ≤ index ∧ index ≤ 0x4A07 then
    let n := index - 0x4A00
    if sub = 5 then !cvuAttached s n && (cvuClient s n).all (fun x => decide (x = r.client))
    else if sub = 10 then true
    else decide (cvuClient s n = some r.client)
  else if 0x8101 ≤ index ∧ index ≤ 0x8104 then
    if sub = 1 then decide (keyOutcome s (index - 0x8101) d ≠ 0x08000022)
    else decide (revokeOutcome s (index - 0x8101) ≠ 0x08000022)
  else match index, sub with
    | 0x3006, 2 =>
      match LaneId.ofNum v with
      | some l => decide (s.mode = .run2oo2) && decide ((s.lane l).status = .held) && decide (jget s 0x3006 1 ≠ 0) && !reintBarred s l
      | none => true
    | 0x3007, 0 => decide (s.mode = .safe) && !s.power.pfw
    | 0x3044, 0 => decide (s.mode = .startUp) && decide (s.power.stop = 9)
    | 0x4002, _ => s.timeSource
    | 0x401B, 3 => decide (jget s 0x4020 1 ≠ 1)
    | 0x6800, 2 => decide (s.change.state = 1) && s.change.delta.isNone
    | 0x6800, 3 => decide (v = 0) || decide (3 < v) || decide (changeCmdOutcome s v = 0)
    | 0x7011, 1 =>
      decide (jget s 0x7000 3 = 0) && (if v = 1 then s.recorder.holder.all (fun x => decide (x = r.client))
                                       else decide (s.recorder.holder = some r.client))
    | 0x8010, 2 => s.priv.holder.isSome
    | 0x8105, 1 => decide (minVersionOutcome s v = 0)
    | 0x9000, 2 => decide (containerCmdOutcome s = 0)
    | _, _ => true

/-- Check 8 of a write (R439, R449). -/
def stateRule (s : State) (r : Sender) (t : Target) (index sub : Nat) (d : Bytes) : Bool :=
  match t with
  | .row e =>
    match e.cls with
    | .j => stateRuleJ s r index sub d
    | .v => s.inRun && !entryEnds s index sub && stateRuleV s r index sub d
    | .l => true
  | .window _ _ none key => s.inRun && !entryEnds s index (key % 256)
  | .window _ _ (some _) key => !entryEnds s index (key % 256)
  | _ => true

/-! ## Check 11: value rules -/

/-- Value that a lane entry will hold after the writes accepted into the batch. -/
def valueAhead (s : State) (view : LaneId) (index sub : Nat) : Nat :=
  let lane := writeLane s view index
  match (s.batchIn.writes.filter (fun w => decide (w.key = regKey index sub) && decide (w.lane = lane))).getLast? with
  | some w => w.val
  | none => (s.lane (lane.getD s.lead)).rget index sub

/-- Range of a value by its type and its row (R438). -/
def rangeOk (t : Target) (d : Bytes) : Bool :=
  let v := ofLe d
  match t.typ with
  | .bool => decide (v ≤ 1)
  | .oct _ | .domain | .r32 => true
  | ty =>
    match t with
    | .row e =>
      let x : Int := if ty.signed then signedOf (8 * ty.len) v else (v : Int)
      decide (e.min ≤ x) && decide (x ≤ e.max)
    | _ => true

/-- D_max of a consumed SAFE flow: 1 to 1 000 000 (09 Table 09-9). -/
def dMaxOk (v : Nat) : Bool := decide (1 ≤ v) && decide (v ≤ 1000000)

/-- Code of the entry's own value rule, 0 when it holds. DESIGN CHOICE (log 87): 5310.02 may name the input of 5310.01, which then feeds both
blocks, since 08 R228 states no refusal. -/
def valueRuleOwn (s : State) (r : Sender) (index sub : Nat) (d : Bytes) : Nat :=
  let v := ofLe d
  let range := fun (b : Bool) => if b then 0 else 0x06090030
  if 0x3200 ≤ index ∧ index ≤ 0x33FF then
    if sub = 3 then range (decide (2 ^ Nat.log2 v = v)) else range (decide (v < valueAhead s (s.viewOf r) index 3))
  else if 0x4400 ≤ index ∧ index ≤ 0x47FF ∧ sub = 10 then range (dMaxOk v)
  else if 0x7100 ≤ index ∧ index ≤ 0x713F ∧ sub = 1 then range (decide (v ≤ 9))
  else if 0x8101 ≤ index ∧ index ≤ 0x8104 then
    if sub = 1 then keyOutcome s (index - 0x8101) d else revokeOutcome s (index - 0x8101)
  else if (0x4010 ≤ index ∧ index ≤ 0x4017 ∧ sub = 2) ∨ (0x4018 ≤ index ∧ index ≤ 0x401B ∧ sub = 3) then range (triggerOpen s v)
  else match index, sub with
    | 0x5310, 2 => range (decide (v ≤ 3) || decide (v = 255))
    | 0x6400, 1 => forceValue s (forceRec d)
    | 0x8010, 1 => openOutcome s r d
    | 0x8010, 2 => if s.heldByOther r then 0x0A120006 else 0
    | 0x8010, 3 => range (passwordOk d)
    | _, _ => 0

/-- Check 11 of a write. -/
def valueRule (s : State) (r : Sender) (t : Target) (index sub : Nat) (d : Bytes) : Nat :=
  if !rangeOk t d then 0x06090030
  else match t with
    | .row _ => valueRuleOwn s r index sub d
    | _ => 0

/-! ## Check 12 and the records of an accepted write -/

/-- Change-log entries that a privileged write makes (13 R358, 06 R186). -/
def logNeed (s : State) (index sub : Nat) : Nat := if index = 0x6400 ∧ sub = 3 then s.forces.length else 1

/-- Value in force before a write, empty for an entry that reads empty. -/
def oldValue (s : State) (r : Sender) (t : Target) (index sub : Nat) : Bytes :=
  match t with
  | .row e =>
    if e.typ = .domain ∨ index = 0x6400 ∨ (index = 0x8010 ∧ sub ≠ 5) ∨ (0x8101 ≤ index ∧ index ≤ 0x8104 ∧ sub = 1) then []
    else match e.cls with
      | .j => leBytes e.typ.len (jvalue s r index sub)
      | _ => leBytes e.typ.len ((s.lane ((writeLane s (s.viewOf r) index).getD s.lead)).rget index sub)
  | _ => []

/-- Type 11: an accepted S-class write with the first 8 bytes of the old and new values (13 R354). -/
def recordSClass (s : State) (r : Sender) (index sub : Nat) (old new : Bytes) : State :=
  record s 11 11 (leBytes 2 index ++ leBytes 1 sub ++ leBytes 1 r.client ++ padTo 8 old ++ padTo 8 new)

/-- The change-log entry of a privileged write, made before its effect: forces make their own, a release holds the safe-state cause,
a password is not shown (13 R358, R359, 14 R389). -/
def logPrivileged (s : State) (r : Sender) (index sub : Nat) (old new : Bytes) : State :=
  if index = 0x6400 then s
  else if index = 0x3007 then logEntry s r.client r.path.code index sub 3 [] (leBytes 1 (jget s 0x3002 0))
  else if index = 0x8010 ∧ sub = 3 then logEntry s r.client r.path.code index sub 1 [] []
  else logEntry s r.client r.path.code index sub 1 old new

/-- What is written of an accepted write before its effect. -/
def noteWrite (s : State) (r : Sender) (t : Target) (index sub : Nat) (d : Bytes) : State :=
  match accessOf t index sub with
  | .rwS => recordSClass s r index sub (oldValue s r t index sub) d
  | .rwP => logPrivileged s r index sub (oldValue s r t index sub) d
  | _ => s

/-! ## Effects -/

/-- A junction check-value unit initialised and claimed (11 R319). -/
def initCvu (s : State) (r : Sender) (n poly : Nat) : State :=
  { s with
    cvu := Store.insert s.cvu n
      { unit := some { poly := poly, reg := (crcParams poly).init, owner := none }, client := some r.client, at_ := s.time.now } }

/-- Bytes fed to a claimed unit. -/
def feedCvu (s : State) (n : Nat) (d : Bytes) : State :=
  match Store.find? s.cvu n with
  | some v => { s with
    cvu := Store.insert s.cvu n
      { v with unit := v.unit.map (fun u => { u with reg := crcFeed u.poly u.reg d }), at_ := s.time.now } }
  | none => s

/-- The claim on a unit ended. -/
def releaseCvu (s : State) (n : Nat) : State := { s with cvu := Store.erase s.cvu n }

/-- What an executed write of a class J entry does. -/
def effectJ (s : State) (r : Sender) (x : Payload) (index sub : Nat) (d : Bytes) : State :=
  let v := ofLe d
  if 0x4A00 ≤ index ∧ index ≤ 0x4A07 then
    let n := index - 0x4A00
    if sub = 5 then initCvu (jset s index 5 v) r n v else if sub = 10 then releaseCvu s n else feedCvu s n d
  else if 0x4010 ≤ index ∧ index ≤ 0x4017 ∧ sub = 2 then armDc (jset s index sub v) (index - 0x4010) v
  else if 0x4018 ≤ index ∧ index ≤ 0x401B ∧ sub = 3 then armEc (jset s index sub v) (index - 0x4018) v
  else if 0x2210 ≤ index ∧ index ≤ 0x2239 ∧ sub = 7 then clearCrossing s (index - 0x2210)
  else if 0x7100 ≤ index ∧ index ≤ 0x713F ∧ sub = 6 then clearMonitor s (index - 0x7100)
  else if 0x8101 ≤ index ∧ index ≤ 0x8104 then
    if sub = 1 then storeKey s (index - 0x8101) d else dropKey s (index - 0x8101)
  else match index, sub with
    | 0x1014, 0 => { s with jreg := Store.insert s.jreg (regKey 0x1014 (emcyCtl r).num) v }
    | 0x2010, 0 => scheduleRestart s
    | 0x2203, 0 => clearCrossings s
    | 0x3006, 2 => startOrDefer s ((LaneId.ofNum v).getD .a)
    | 0x3007, 0 => releaseSafe s
    | 0x3044, 0 => discardState s
    | 0x3127, 0 => s.modBinding r (fun b => { b with view := v })
    | 0x4004, 0 => writeTaiSecond s v
    | 0x4800, 14 => canRestart s .c0
    | 0x4810, 14 => canRestart s .c1
    | 0x6800, 2 => takeDelta s (match x with
        | .delta k => k
        | _ => deltaFrom d)
    | 0x6800, 3 => if v = 1 then startDelta s else if v = 2 then fixActivation s else cancelDelta s
    | 0x7001, 1 => armRecorder s
    | 0x7010, 1 => s.modBinding r (fun b => { b with recCursor := v })
    | 0x7011, 1 => if v = 1 then beginFreeze s r.client else endFreeze s
    | 0x7202, 1 => s.modBinding r (fun b => { b with logCursor := v })
    | 0x7203, 0 => clearLog s r.client r.path.code
    | 0x8010, 1 => openAttempt s r d
    | 0x8010, 2 => endSession s 2
    | 0x8010, 3 => setPassword s d
    | 0x8010, 4 => removePassword s
    | 0x9000, 1 => takeDownload s (match x with
        | .container k => k
        | _ => containerFrom d)
    | 0x9000, 2 => startFull s (decide (v = 2))
    | _, _ => jwrite s index sub v

/-- A write entered in the batch of the next cycle start (R439). -/
def batchWrite (s : State) (w : BatchWrite) : State :=
  { s with batchIn := { s.batchIn with writes := s.batchIn.writes ++ [w] } }

/-- What an executed write of a class V entry does: forces enter the table and the batch, every other value the batch. -/
def effectV (s : State) (r : Sender) (index sub : Nat) (d : Bytes) : State :=
  if index = 0x6400 then
    if sub = 1 then setForceOf s r.client r.path.code d
    else if sub = 2 then releaseForceOf s r.client r.path.code (ofLe d)
    else releaseAllOf s r.client r.path.code
  else batchWrite s { key := regKey index sub, val := ofLe d, lane := writeLane s (s.viewOf r) index }

/-- What an executed write does. -/
def writeEffect (s : State) (r : Sender) (x : Payload) (t : Target) (index sub : Nat) (d : Bytes) : State :=
  match t with
  | .row e =>
    match e.cls with
    | .j => effectJ s r x index sub d
    | .v => effectV s r index sub d
    | .l => batchWrite s { key := e.laneKey index sub, val := ofLe d, lane := some (e.laneOf sub) }
  | .window _ _ lane key => batchWrite s { key := key, val := ofLe d, lane := lane }
  | _ => s

end Sys2Proof.Machine
end

