-- ==== Sys2Proof/Machine/Sdo.lean ====
section
/-! DEFINITION. The CANopen SDO channels' frames: COB-IDs, the server's initiate, segment, block and abort frames, and the response to the request
that a transfer has formed (11 R313, 17 R447; the frames of CiA 301 are PRESUMED, log 89). -/

namespace Sys2Proof.Machine

open Sys2Proof

/-- Whether an SDO channel serves: its controller is on and in Pre-operational or Operational, and no disabled COB-ID (11 R313). -/
def State.sdoUp (s : State) (ch : Nat) : Bool :=
  let c := canOf (ch / 4)
  s.booted && s.canUp c && (decide ((s.can c).nmt = .preOp) || decide ((s.can c).nmt = .operational)) &&
  (decide (ch % 4 = 0) || (!bitOf (jget s 0x4804 (ch + 1)) 31 && !bitOf (jget s 0x4805 (ch + 1)) 31))

/-- COB-ID from the client to the server (11 R313). -/
def State.sdoIn (s : State) (ch : Nat) : Nat := if ch % 4 = 0 then 0x600 + canNode s (canOf (ch / 4)) else jget s 0x4804 (ch + 1)

/-- COB-ID from the server to the client (11 R313). -/
def State.sdoOut (s : State) (ch : Nat) : Nat := if ch % 4 = 0 then 0x580 + canNode s (canOf (ch / 4)) else jget s 0x4805 (ch + 1)

/-- Identifier of a COB-ID: 29 bits with bit 29 set, else 11 (CiA 301). -/
def cobIdent (cob : Nat) : Nat := if bitOf cob 29 then cob % 536870912 else cob % 2048

/-- A frame of eight bytes from the server. -/
def sdoSend (s : State) (ch : Nat) (b : Bytes) : State :=
  transmit s 33 2 (.can (canOf (ch / 4)) { ident := cobIdent (s.sdoOut ch), ext := bitOf (s.sdoOut ch) 29, data := padTo 8 b })

/-- The entry of a transfer as an initiate frame names it. -/
def SdoXfer.entry (x : SdoXfer) : Bytes := leBytes 2 x.index ++ leBytes 1 x.sub

/-- An abort transfer (17 R447): command 16#80, the entry, the code. -/
def sdoAbort (s : State) (ch index sub code : Nat) : State := sdoSend s ch (leBytes 1 0x80 ++ leBytes 2 index ++ leBytes 1 sub ++ leBytes 4 code)

/-- A transfer aborted by the server. -/
def sdoFail (s : State) (ch : Nat) (x : SdoXfer) (code : Nat) : State := sdoAbort (dropSdo s ch) ch x.index x.sub code

/-- A transfer kept on a channel. -/
def keepSdo (s : State) (ch : Nat) (x : SdoXfer) : State := { s with dict := { s.dict with sdo := Store.insert s.dict.sdo ch x } }

/-- CRC-16 of a block transfer: polynomial 16#1021, initial value 0 (CiA 301). -/
def crcXmodem (b : Bytes) : Nat :=
  b.foldl (fun r x =>
    let f := crcBitHigh 16 0x1021
    f (f (f (f (f (f (f (f (Nat.xor r (x.toNat * 256))))))))) ) 0

/-- Blocks of one sub-block that the server asks for. -/
def sdoBlockSize : Nat := 127

/-- What a finished upload is answered with, its value read: one expedited frame, or the initiate of a transfer in segments or blocks. -/
def sdoUploaded (s : State) (ch : Nat) (x : SdoXfer) (v : Bytes) : State :=
  let n := v.length
  let x := { x with data := v, at_ := s.time.now, txn := none }
  match x.block with
  | some _ => sdoSend (keepSdo s ch x) ch (leBytes 1 0xC6 ++ x.entry ++ leBytes 4 n)
  | none =>
    if 1 ≤ n ∧ n ≤ 4 then sdoSend (dropSdo s ch) ch (leBytes 1 (0x43 + 4 * (4 - n)) ++ x.entry ++ v)
    else sdoSend (keepSdo s ch x) ch (leBytes 1 0x41 ++ x.entry ++ leBytes 4 n)

/-- What a finished download is answered with: the end of its blocks, its last segment, or its expedited initiate. -/
def sdoDownloaded (s : State) (ch : Nat) (x : SdoXfer) : State :=
  sdoSend (dropSdo s ch) ch (match x.block with
    | some _ => leBytes 1 0xA1
    | none => if x.sent = 0 then leBytes 1 0x60 ++ x.entry else leBytes 1 (0x20 + (if x.toggle then 16 else 0)))

/-- The response body of a request on its way to the client of an SDO channel (17 R447): an abort as an abort transfer, a value as an upload, which
starts with its total length when the entry is a DOMAIN (Table 17-5). A transfer discarded since gets none (11 R313). -/
def sdoAnswer (s : State) (r : Sender) (b : Bytes) : State :=
  match Store.find? s.dict.sdo r.carrier with
  | some x =>
    if x.txn ≠ some r.txn then s
    else if (b.drop 5).headD 0 ≠ 0 then sdoFail s r.carrier x (ofLe (b.drop 16))
    else if x.upload then sdoUploaded s r.carrier x (b.drop (if (b.drop 4).headD 0 = 0x83 then 20 else 16))
    else sdoDownloaded s r.carrier x
  | none => s

end Sys2Proof.Machine
end

