-- ==== Sys2Proof/Machine/Dict.lean ====
section
/-! DEFINITION. The dictionary server: bindings, repeats, the checks of Table 17-6, DOMAIN transfers, the write history, timing-relevant
writes held for the Gauge, and responses (17 R441 to R454, 12 R324, R340 to R342). -/

namespace Sys2Proof.Machine

open Sys2Proof

/-! ## Bodies (R444) -/

/-- A request body from byte 4 to its end (Table 17-4). -/
def bodyTail (q : Request) : Bytes :=
  leBytes 1 q.op ++ leBytes 1 (if q.last then 1 else 0) ++ leBytes 2 q.index ++ leBytes 1 q.sub ++ leBytes 1 0 ++ leBytes 4 q.offset ++
  leBytes 2 q.data.length ++ q.data

/-- CRC-32C by which a repeat is compared (R452). -/
def bodyCrc (q : Request) : Nat := crc32c (bodyTail q)

/-- A response body (Table 17-5). -/
def responseBody (q : Request) (status : Nat) (data : Bytes) : Bytes :=
  leBytes 1 1 ++ leBytes 1 q.sender.client ++ leBytes 2 q.sender.txn ++ leBytes 1 (q.op + 0x80) ++ leBytes 1 status ++ leBytes 2 q.index ++
  leBytes 1 q.sub ++ leBytes 1 0 ++ leBytes 4 q.offset ++ leBytes 2 data.length ++ data

/-- Response body of an outcome: the data of a request that was done, or the abort code. -/
def outcomeBody (q : Request) (o : Except Nat Bytes) : Bytes :=
  match o with
  | .ok data => responseBody q 0 data
  | .error c => responseBody q 1 (leBytes 4 c)

/-- A request that a body spells, for a sender whose client and transaction ids it carries; none for one that breaks R444. -/
def parseBody (r : Sender) (b : Bytes) : Option Request :=
  let at_ := fun (n : Nat) => ((b.drop n).headD 0).toNat
  let word := fun (n k : Nat) => ofLe ((b.drop n).take k)
  let op := at_ 4
  let flags := at_ 5
  let n := word 14 2
  if b.length < 16 ∨ 1040 < b.length ∨ at_ 0 ≠ 1 ∨ op = 0 ∨ 4 < op ∨ 1 < flags ∨ (flags = 1 ∧ op ≠ 4) ∨ at_ 9 ≠ 0 ∨
      n ≠ b.length - 16 ∨ ((op = 1 ∨ op = 3) ∧ n ≠ 0) ∨ ((op = 1 ∨ op = 2) ∧ word 10 4 ≠ 0) then none
  else some { sender := { r with client := at_ 1, txn := word 2 2 }, op := op, last := decide (flags = 1), index := word 6 2,
              sub := at_ 8, offset := word 10 4, data := b.drop 16 }

/-! ## Responses -/

/-- A response handed to its path (R443, R447, 11 R316). A ring response waits in the best-effort queue (09 R264). An ECN port sends it as a
datagram from the service's port, and none in shedding stage 1, or while it is off (16 R416, R417). -/
def sendResponse (s : State) (r : Sender) (b : Bytes) : State :=
  match r.path with
  | .host => { s with host := { s.host with queue := s.host.queue ++ [b] } }
  | .can => sdoAnswer s r b
  | .ecn => if (s.ecn r.carrier).on && decide (s.power.stage < 1) then sendDatagram s r.carrier r.ip s.dict.port r.udpPort b else s
  | .ring => sendOverRing s r.ip r.udpPort b

/-- One request of the host link whose response has not been read (11 R316). -/
def countPending (s : State) (r : Sender) : State :=
  if r.path = .host then { s with host := { s.host with pending := s.host.pending + 1 } } else s

/-- A request answered on arrival. -/
def answer (s : State) (q : Request) (code : Nat) : State :=
  sendResponse (countPending s q.sender) q.sender (outcomeBody q (.error code))

/-- A response kept in the duplicate history of a client (R452); a busy abort is not (R451). -/
def keepResponse (s : State) (q : Request) (b : Bytes) : State :=
  let e : Dup := { txn := q.sender.txn, crc := bodyCrc q, resp := b, at_ := s.time.now }
  let old := Store.get s.dict.dups [] q.sender.client
  { s with dict := { s.dict with dups := Store.insert s.dict.dups q.sender.client ((e :: old).take 64) } }

/-- A request no longer in flight. -/
def landed (s : State) (q : Request) : State :=
  { s with dict := { s.dict with inFlight := s.dict.inFlight.erase (q.sender.client, q.sender.txn) } }

/-- A request turned away at its turn, before it is executed: answered, and not kept in the history of executed requests (R452). -/
def turnAway (s : State) (q : Request) (code : Nat) : State := sendResponse (landed s q) q.sender (outcomeBody q (.error code))

/-- A request finished: its response sent and kept, no longer in flight. -/
def finish (s : State) (q : Request) (o : Except Nat Bytes) : State :=
  let b := outcomeBody q o
  let s := landed s q
  let bound := (Store.find? s.dict.bindings q.sender.client).isSome
  let busy := match o with
    | .error c => decide (c = 0x0A110001)
    | .ok _ => false
  let s := if bound && decide (q.sender.path ≠ .can) && !busy then keepResponse s q b else s
  sendResponse s q.sender b

/-! ## Bindings (R442) -/

/-- Whether a client id belongs to a path (Table 17-3). -/
def clientAllowed (r : Sender) : Bool :=
  match r.path with
  | .can => decide (r.client = 16 + r.carrier) && decide (r.carrier < 8)
  | _ => decide (r.client ≤ 15) || (decide (24 ≤ r.client) && decide (r.client ≤ 31))

/-- Whether a request comes from the path and source of a binding. -/
def Binding.fits (b : Binding) (r : Sender) : Bool :=
  decide (b.path = r.path) && (match r.path with
    | .host => true
    | .can => decide (b.carrier = r.carrier)
    | .ecn => decide (b.carrier = r.carrier) && decide (b.ip = r.ip) && decide (b.udpPort = r.udpPort)
    | .ring => decide (b.ip = r.ip) && decide (b.udpPort = r.udpPort))

/-- Code of check 2, 0 when it passes. -/
def clientCode (s : State) (r : Sender) : Nat :=
  if !clientAllowed r then 0x0A110002
  else match Store.find? s.dict.bindings r.client with
    | some b => if b.fits r then 0 else 0x0A110003
    | none => 0

/-- A request of a bound client: its binding lasts on, and so does the session or the freeze that it holds (R442, 13 R357, 14 R387). -/
def hearClient (s : State) (r : Sender) : State :=
  let s := if (Store.find? s.dict.bindings r.client).isSome then s.modBinding r (fun b => { b with at_ := s.time.now }) else s
  let s := if s.holds r then { s with priv := { s.priv with lastAt := s.time.now } } else s
  if s.recorder.holder = some r.client then { s with recorder := { s.recorder with holdAt := s.time.now } } else s

/-- The binding made by the first executed request of a client (R442). -/
def bindClient (s : State) (r : Sender) : State := hearClient (s.modBinding r (fun b => { b with at_ := s.time.now })) r

/-! ## Arrival: checks 1 to 4 -/

/-- Checks 1 to 4 on a request that arrives; TRUE when it goes on to its execution, in flight from here. -/
def admitRequest (s : State) (q : Request) : State × Bool :=
  let r := q.sender
  if s.power.pfw then (answer s q 0x08000022, false)
  else
    let c := clientCode s r
    let s := if c = 0 then hearClient s r else s
    if c ≠ 0 then (answer (jbump s 0x1E00 7) q c, false)
    else if r.path ≠ .can ∧ s.dict.inFlight.contains (r.client, r.txn) then (jbump s 0x1E00 5, false)
    else match (if r.path = .can then none else (Store.get s.dict.dups [] r.client).find? (fun d => decide (d.txn = r.txn))) with
      | some d =>
        let s := jbump s 0x1E00 5
        if d.crc = bodyCrc q then (sendResponse (countPending s r) r d.resp, false) else (answer s q 0x0A110004, false)
      | none =>
        if 64 ≤ s.dict.inFlight.length then (answer (jbump s 0x1E00 4) q 0x0A110001, false)
        else
          let s := countPending s r
          ({ s with dict := { s.dict with inFlight := s.dict.inFlight ++ [(r.client, r.txn)] } }, true)

/-! ## The write history (R450, R453) -/

/-- Writes of one tick to one entry marked as superseded, newest first: all but the newest executed one. `seen` tells whether that
one has been passed; the count is of new marks. -/
def markOlder (tick index sub : Nat) : Bool → List HistRec → List HistRec × Nat
  | _, [] => ([], 0)
  | seen, h :: hs =>
    if h.tick = tick ∧ h.index = index ∧ h.sub = sub then
      let done := !bitOf h.flags 1
      let keeps := done && !seen
      let rest := markOlder tick index sub (seen || done) hs
      if keeps ∨ bitOf h.flags 0 = true then (h :: rest.1, rest.2)
      else ({ h with flags := setBit h.flags 0 true } :: rest.1, rest.2 + 1)
    else
      let rest := markOlder tick index sub seen hs
      (h :: rest.1, rest.2)

/-- A record entered in 1E10, and the marks of R453 when the tick holds another write to the entry. -/
def addHistory (s : State) (h : HistRec) : State :=
  let l := (h :: s.dict.history).take 64
  let group := l.filter (fun x => decide (x.tick = h.tick) && decide (x.index = h.index) && decide (x.sub = h.sub))
  let m := if 2 ≤ group.length then markOlder h.tick h.index h.sub false l else (l, 0)
  jadd { s with dict := { s.dict with history := m.1 } } 0x1E00 6 m.2

/-- Writes of one tick to one write-only entry, marked as `markOlder` marks. -/
def markWo (tick key : Nat) : Bool → List WoWrite → List WoWrite × Nat
  | _, [] => ([], 0)
  | seen, w :: ws =>
    if w.tick = tick ∧ w.key = key then
      let keeps := w.done && !seen
      let rest := markWo tick key (seen || w.done) ws
      if keeps ∨ w.over_ = true then (w :: rest.1, rest.2) else ({ w with over_ := true } :: rest.1, rest.2 + 1)
    else
      let rest := markWo tick key seen ws
      (w :: rest.1, rest.2)

/-- A write to a write-only entry noted for its tick. -/
def addWo (s : State) (w : WoWrite) : State :=
  let l := w :: s.dict.tick.filter (fun x => decide (x.tick = w.tick))
  let group := l.filter (fun x => decide (x.key = w.key))
  let m := if 2 ≤ group.length then markWo w.tick w.key false l else (l, 0)
  jadd { s with dict := { s.dict with tick := m.1 } } 0x1E00 6 m.2

/-- Whether an rwP entry reads empty, so that 1E10 holds zero for its value. -/
def readsEmpty (index sub : Nat) : Bool :=
  (decide (index = 0x6400) && decide (sub = 1)) || (decide (index = 0x6800) && decide (sub = 2)) || (decide (index = 0x8010) && decide (sub = 3))

/-- A write that reached check 9, with its abort code or 0 (R450). -/
def noteHistory (s : State) (q : Request) (t : Target) (d : Bytes) (abort tick : Nat) : State :=
  let r := q.sender
  match accessOf t q.index q.sub with
  | .wo => addWo s { tick := tick, key := regKey q.index q.sub, done := decide (abort = 0), over_ := false }
  | .ro | .const => s
  | _ => addHistory s { time := s.time.now, client := r.client, path := r.path.code, index := q.index, sub := q.sub,
                        flags := if abort = 0 then 0 else 2, abort := abort,
                        value := if readsEmpty q.index q.sub then [] else d.take 8, tick := tick }

/-! ## Writes: checks 8 to 14 -/

/-- A write aborted at check 9 or later. A failed attempt to open the session leaves its record (13 R355, R356). -/
def refuse (s : State) (q : Request) (t : Target) (d : Bytes) (code : Nat) : State :=
  let s := if q.index = 0x8010 ∧ q.sub = 1 then openAttempt s q.sender d else s
  finish (noteHistory s q t d code s.tickNo) q (.error code)

/-- A write executed: noted, logged, carried out, answered. The response to a safe-state release goes out before the release. -/
def carryOut (s : State) (q : Request) (x : Payload) (t : Target) (d : Bytes) (tick : Nat) : State :=
  let s := noteWrite (noteHistory s q t d 0 tick) q.sender t q.index q.sub d
  if q.index = 0x3007 then writeEffect (finish s q (.ok [])) q.sender x t q.index q.sub d
  else finish (writeEffect s q.sender x t q.index q.sub d) q (.ok [])

/-- Check 13: a timing-relevant write waits for the Gauge. Another one of the same tick queues behind it; any other admission in
progress aborts it (12 R341, R342). -/
def holdWrite (s : State) (q : Request) (t : Target) (d : Bytes) : State :=
  let w := Subject.entry q.sender q.index q.sub (ofLe d) s.tickNo
  match s.cfg.gauge with
  | none => beginGauge s w none
  | some (.entry _ _ _ _ k) =>
    if k = s.tickNo then { s with cfg := { s.cfg with gaugeQ := s.cfg.gaugeQ ++ [w] } } else refuse s q t d 0x08000022
  | some _ => refuse s q t d 0x08000022

/-- Checks 8 to 14 of a write of the value `d` (Table 17-6). -/
def judgeWrite (s : State) (q : Request) (x : Payload) (t : Target) (d : Bytes) : State :=
  let r := q.sender
  let acc := accessOf t q.index q.sub
  if !stateRule s r t q.index q.sub d then finish s q (.error 0x08000022)
  else if acc = .rwS ∧ s.unsealed = false then refuse s q t d 0x0A120002
  else if acc = .rwP ∧ s.holds r = false then refuse s q t d 0x0A120003
  else
    let v := valueRule s r t q.index q.sub d
    if v ≠ 0 then refuse s q t d v
    else if acc = .rwP ∧ logRoom s (logNeed s q.index q.sub) = false then
      refuse (recordUnlogged (jbump s 0x7200 2) r.client q.index q.sub) q t d 0x0A120005
    else if timingEntry q.index q.sub then holdWrite s q t d
    else carryOut s q x t d s.tickNo

/-! ## DOMAIN transfers (R445, R446) -/

/-- The entry of a delta download (06 R170). -/
def isDelta (index sub : Nat) : Bool := decide (index = 0x6800) && decide (sub = 2)

/-- A change whose download ended without a delta exists no more. -/
def dropReceiving (s : State) : State :=
  if s.change.state = 1 ∧ s.change.delta = none then { s with change := { s.change with state := 0 } } else s

/-- A client's open transfer discarded. -/
def dropXfer (s : State) (client : Nat) : State :=
  match Store.find? s.dict.xfers client with
  | some x =>
    let s := { s with dict := { s.dict with xfers := Store.erase s.dict.xfers client } }
    if isDelta x.index x.sub then dropReceiving s else s
  | none => s

/-- Whether a client's open transfer is to an entry. -/
def xferTo (s : State) (client index sub : Nat) : Bool :=
  (Store.find? s.dict.xfers client).any (fun x => decide (x.index = index) && decide (x.sub = sub))

/-- A segment at offset 0 opens a transfer: 0, or the abort code. Only one change exists at a time (06 R170). -/
def openCode (s : State) (q : Request) : Nat :=
  let c := q.sender.client
  if s.dict.xfers.any (fun p => decide (p.1 ≠ c) && decide (p.2.index = q.index) && decide (p.2.sub = q.sub)) then 0x08000022
  else if isDelta q.index q.sub && !(decide (s.change.state = 0) || xferTo s c q.index q.sub) then 0x08000022 else 0

/-- A transfer with `data` received so far. -/
def putXfer (s : State) (q : Request) (data : Bytes) : State :=
  let x : Xfer := { index := q.index, sub := q.sub, data := data, at_ := s.time.now }
  let s := { s with dict := { s.dict with xfers := Store.insert s.dict.xfers q.sender.client x } }
  if isDelta q.index q.sub && decide (s.change.state = 0) then { s with change := { s.change with state := 1 } } else s

/-- The last segment: the whole value judged and executed; a delta that is not taken leaves no change. -/
def closeXfer (s : State) (q : Request) (x : Payload) (t : Target) (d : Bytes) : State :=
  let s := { s with dict := { s.dict with xfers := Store.erase s.dict.xfers q.sender.client } }
  let s := judgeWrite s q x t d
  if isDelta q.index q.sub then dropReceiving s else s

/-- A write segment after checks 5 to 7. -/
def writeSegment (s : State) (q : Request) (x : Payload) (t : Target) : State :=
  let c := q.sender.client
  let old := ((Store.find? s.dict.xfers c).map (fun y => y.data)).getD []
  let code := if q.offset = 0 then openCode s q
              else if xferTo s c q.index q.sub && decide (old.length = q.offset) then 0 else 0x0A110005
  if code ≠ 0 then finish s q (.error code)
  else
    let d := if q.offset = 0 then q.data else old ++ q.data
    let s := if q.offset = 0 then dropXfer s c else s
    if lengthCode t q.index q.sub d.length ≠ 0 ∧ x = .plain then finish (dropXfer s c) q (.error 0x06070012)
    else
      let s := putXfer s q d
      if q.last then closeXfer s q x t d else finish s q (.ok [])

/-- Bytes of a value in one read segment: its response body is at most 1 040 bytes, with 4 for the total length (R444, Table 17-5). An
SDO upload is one request. -/
def segmentSize (r : Sender) : Nat := if r.path = .can then 12582912 else 1020

/-- A segment served from a client's capture, which ends with the value. -/
def serveCapture (s : State) (q : Request) (v : Bytes) : State :=
  let c := q.sender.client
  let caps := if v.length ≤ q.offset then Store.erase s.dict.captures c
              else Store.insert s.dict.captures c { index := q.index, sub := q.sub, data := v, at_ := s.time.now }
  let s := { s with dict := { s.dict with captures := caps } }
  finish s q (.ok (leBytes 4 v.length ++ (v.drop q.offset).take (segmentSize q.sender)))

/-- A read segment after checks 5 to 7 (R446). -/
def readSegment (s : State) (q : Request) (t : Target) : State :=
  let c := q.sender.client
  if q.offset = 0 then
    if 4 ≤ (Store.erase s.dict.captures c).length then finish s q (.error 0x0A110001)
    else match readTarget s q.sender t q.index q.sub with
      | (s, .ok v) => serveCapture s q v
      | (s, .error e) => finish s q (.error e)
  else match Store.find? s.dict.captures c with
    | some y => if y.index = q.index ∧ y.sub = q.sub then serveCapture s q y.data else finish s q (.error 0x0A110005)
    | none => finish s q (.error 0x0A110005)

/-! ## Execution (R448, R449) -/

/-- A read after check 5. -/
def executeRead (s : State) (q : Request) (t : Target) : State :=
  if !(accessOf t q.index q.sub).canRead then finish s q (.error 0x06010001)
  else if decide (t.typ = .domain) ≠ decide (q.op = 3) then finish s q (.error 0x06070010)
  else if q.op = 3 then readSegment s q t
  else
    let o := readTarget s q.sender t q.index q.sub
    finish o.1 q o.2

/-- A write after check 5. -/
def executeWrite (s : State) (q : Request) (x : Payload) (t : Target) : State :=
  if !(accessOf t q.index q.sub).canWrite then finish s q (.error 0x06010002)
  else if decide (t.typ = .domain) ≠ decide (q.op = 4) then finish s q (.error 0x06070010)
  else if q.op = 4 then writeSegment s q x t
  else
    let c := lengthCode t q.index q.sub q.data.length
    if c ≠ 0 then finish s q (.error c) else judgeWrite s q x t q.data

/-- A request executed: checks 1 and 2 at its turn, then 5 to 14. -/
def execute (s : State) (q : Request) (x : Payload) : State :=
  if s.power.pfw then turnAway s q 0x08000022
  else
    let c := clientCode s q.sender
    if c ≠ 0 then turnAway (jbump s 0x1E00 7) q c
    else
      let s := bindClient s q.sender
      match resolve s q.index q.sub with
      | .error e => finish s q (.error e)
      | .ok t => if q.op = 1 ∨ q.op = 3 then executeRead s q t else executeWrite s q x t

/-! ## The Gauge's verdict (12 R325, R340, R341) -/

/-- The next timing-relevant write of the same tick, if one waits. -/
def nextHeld (s : State) : State :=
  match s.cfg.gaugeQ with
  | w :: ws => beginGauge { s with cfg := { s.cfg with gaugeQ := ws } } w none
  | [] => s

/-- The request behind a held write. -/
def heldRequest (r : Sender) (index sub val len : Nat) : Request :=
  { sender := r, op := 2, last := false, index := index, sub := sub, offset := 0, data := leBytes len val }

/-- A held write finished: refused by the Gauge, no longer possible outside RUN or, where it is of class S, with ESC7 reading 0 (13 R354), or entered
in the batch. -/
def verdictEntry (s : State) (r : Sender) (index sub val tick : Nat) : State :=
  let w : BatchWrite := { key := regKey index sub, val := val, lane := writeLane s (s.viewOf r) index }
  let f := recheck s w
  let s := reportGauge s (.entry r index sub val tick) f s.gaugeMs (if f.isSome then index * 256 + sub else 0)
  match resolve s index sub with
  | .error e => nextHeld (finish s (heldRequest r index sub val 0) (.error e))
  | .ok t =>
    let q := heldRequest r index sub val t.typ.len
    if f.isSome then nextHeld (finish (noteHistory s q t q.data 0x0A120001 tick) q (.error 0x0A120001))
    else if !s.inRun then nextHeld (finish (noteHistory s q t q.data 0x08000022 tick) q (.error 0x08000022))
    else if accessOf t index sub = .rwS ∧ s.unsealed = false then nextHeld (finish (noteHistory s q t q.data 0x0A120002 tick) q (.error 0x0A120002))
    else nextHeld (carryOut s q .plain t q.data tick)

/-- GAUGE_VERDICT (12 R325): the admission in progress finishes. -/
def gaugeVerdict (s : State) : State :=
  match s.cfg.gauge, s.cfg.gaugeK with
  | some (.entry r index sub val tick), _ => verdictEntry s r index sub val tick
  | some (.full store), some k =>
    let f := gaugeChecks (gaugeEnv s none) k
    let s := reportGauge s (.full store) f s.gaugeMs 0
    if f.isNone && store then storeContainer s k else s
  | some .delta, some k =>
    let f := gaugeChecks (gaugeEnv s s.config) k
    let s := reportGauge s .delta f s.gaugeMs 0
    if f.isSome then refuseDelta s 5 0 else deltaAdmitted s
  | _, _ => s

/-! ## Timeouts -/

/-- DOMAIN_TRANSFER_TIMEOUT (R445): 10 s without a segment. -/
def xferTimeout (s : State) (client : Nat) : State :=
  match Store.find? s.dict.xfers client with
  | some x => dropXfer (advanceTo s (x.at_ + 10000000000)) client
  | none => s

/-- CAPTURE_TIMEOUT (R446): 10 s without a segment. -/
def captureTimeout (s : State) (client : Nat) : State :=
  match Store.find? s.dict.captures client with
  | some x =>
    let s := advanceTo s (x.at_ + 10000000000)
    { s with dict := { s.dict with captures := Store.erase s.dict.captures client } }
  | none => s

/-- What keeps a binding alive: the SDO path, the session, a freeze, a check-value claim, an open transfer (R442). -/
def bindingKept (s : State) (client : Nat) (b : Binding) : Bool :=
  decide (b.path = .can) || s.priv.holder.any (fun h => decide (h.client = client)) || decide (s.recorder.holder = some client) ||
  s.cvu.any (fun p => decide (p.2.client = some client)) || (Store.find? s.dict.xfers client).isSome

/-- BINDING_EXPIRY (R442): 60 s after the last request; history, cursors and selection go with it. -/
def bindingExpiry (s : State) (client : Nat) : State :=
  match Store.find? s.dict.bindings client with
  | some b =>
    if bindingKept s client b then s
    else
      let s := advanceTo s (b.at_ + 60000000000)
      { s with dict := { s.dict with bindings := Store.erase s.dict.bindings client, dups := Store.erase s.dict.dups client } }
  | none => s

/-- HISTORY_EXPIRY (R452): 10 s after the response was sent. -/
def historyExpiry (s : State) (client txn : Nat) : State :=
  let l := Store.get s.dict.dups [] client
  match l.find? (fun d => decide (d.txn = txn)) with
  | some d =>
    let s := advanceTo s (d.at_ + 10000000000)
    { s with dict := { s.dict with dups := Store.insert s.dict.dups client (l.filter (fun x => decide (x.txn ≠ txn))) } }
  | none => s

end Sys2Proof.Machine
end

