-- ==== Sys2Proof/Machine/Canopen.lean ====
section
/-! DEFINITION. The SDO server of the CAN controllers: transfers that form requests, expedited, in segments and in blocks, with their protocol
faults (11 R313, 17 R447, R455; the frames of CiA 301 are PRESUMED, log 89). -/

namespace Sys2Proof.Machine

open Sys2Proof

/-! ## Requests -/

/-- A request that its carrier delivered: checks 1 to 4, then a place among the tick's arrivals (17 R448). -/
def arriveRequest (s : State) (q : Request) : State :=
  match admitRequest s q with
  | (s, true) => { s with dict := { s.dict with arrived := s.dict.arrived ++ [q] } }
  | (s, false) => s

/-- A read request. -/
def readReq (r : Sender) (index sub : Nat) : Request :=
  { sender := r, op := 1, last := false, index := index, sub := sub, offset := 0, data := [] }

/-- A write request. -/
def writeReq (r : Sender) (index sub : Nat) (d : Bytes) : Request :=
  { sender := r, op := 2, last := false, index := index, sub := sub, offset := 0, data := d }

/-- A DOMAIN write of a whole value in one segment. -/
def wholeReq (r : Sender) (index sub : Nat) (d : Bytes) : Request :=
  { sender := r, op := 4, last := true, index := index, sub := sub, offset := 0, data := d }

/-- The client that an SDO channel is, with the next transaction id of its counter (11 R313, 17 R447). -/
def sdoSender (s : State) (ch : Nat) : Sender :=
  { path := .can, carrier := ch, ip := 0, udpPort := 0, client := 16 + ch, txn := Store.get s.dict.sdoTxn 0 ch }

/-- The channel's counter moved on. -/
def nextTxn (s : State) (ch : Nat) : State :=
  { s with dict := { s.dict with sdoTxn := Store.put s.dict.sdoTxn 0 ch ((Store.get s.dict.sdoTxn 0 ch + 1) % 65536) } }

/-- Whether an SDO transfer goes to a DOMAIN entry, which takes operations 3 and 4. -/
def sdoDomain (s : State) (index sub : Nat) : Bool :=
  match resolve s index sub with
  | .ok t => decide (t.typ = .domain)
  | .error _ => false

/-- The request that an SDO upload forms. -/
def sdoRead (s : State) (ch index sub : Nat) : Request :=
  { readReq (sdoSender s ch) index sub with op := if sdoDomain s index sub then 3 else 1 }

/-- The request that an SDO download forms. -/
def sdoWrite (s : State) (ch index sub : Nat) (d : Bytes) : Request :=
  if sdoDomain s index sub then wholeReq (sdoSender s ch) index sub d else writeReq (sdoSender s ch) index sub d

/-- A transfer judged: its request arrives, under the next transaction id of the channel (17 R447). -/
def sdoJudge (s : State) (ch : Nat) (x : SdoXfer) : State :=
  let q := if x.upload then sdoRead s ch x.index x.sub else sdoWrite s ch x.index x.sub x.data
  arriveRequest (nextTxn (keepSdo s ch { x with txn := some q.sender.txn }) ch) q

/-! ## Initiates and segments (11 R313) -/

/-- A new transfer: one that runs on the channel is discarded without a response. -/
def sdoNew (s : State) (upload : Bool) (index sub : Nat) : SdoXfer :=
  { upload := upload, index := index, sub := sub, data := [], at_ := s.time.now }

/-- An initiate: an upload and an expedited download are judged at once; a download in segments is begun and answered. -/
def sdoBegin (s : State) (ch : Nat) (upload : Bool) (index sub : Nat) (expedited : Option Bytes) : State :=
  let s := dropSdo s ch
  let x := sdoNew s upload index sub
  if upload then sdoJudge s ch x
  else match expedited with
    | some d => sdoJudge s ch { x with data := d }
    | none => sdoSend (keepSdo s ch x) ch (leBytes 1 0x60 ++ x.entry)

/-- A segment of a download: the last forms the request, another is answered at once. -/
def sdoDownSegment (s : State) (ch : Nat) (x : SdoXfer) (toggle : Bool) (d : Bytes) (last : Bool) : State :=
  let y := { x with data := x.data ++ d, at_ := s.time.now, sent := x.sent + 1, toggle := toggle }
  if toggle ≠ (x.toggle ^^ decide (x.sent ≠ 0)) then sdoFail s ch x 0x05030000
  else if last then sdoJudge s ch y
  else sdoSend (keepSdo s ch y) ch (leBytes 1 (0x20 + (if toggle then 16 else 0)))

/-- A segment of an upload: seven bytes of the value; the last ends the transfer. -/
def sdoUpSegment (s : State) (ch : Nat) (x : SdoXfer) (toggle : Bool) : State :=
  let d := (x.data.drop x.sent).take 7
  let y := { x with sent := x.sent + 7, toggle := !x.toggle, at_ := s.time.now }
  let last := decide (x.data.length ≤ x.sent + 7)
  if toggle ≠ x.toggle then sdoFail s ch x 0x05030000
  else sdoSend (if last then dropSdo s ch else keepSdo s ch y) ch
    (leBytes 1 ((if toggle then 16 else 0) + 2 * (7 - d.length) + (if last then 1 else 0)) ++ d)

/-- SDO_INITIATE (11 R313). -/
def sdoInitiate (s : State) (ch : Nat) (upload : Bool) (index sub : Nat) (expedited : Option Bytes) : State :=
  if s.sdoUp ch then sdoBegin s ch upload index sub expedited else s

/-- Whether a transfer in segments waits for its client: its request is not formed, or has been answered. -/
def SdoXfer.open_ (x : SdoXfer) : Bool := x.txn.isNone && x.block.isNone

/-- A segment that belongs to no transfer aborted (17 R447, Table 17-8). -/
def sdoStray (s : State) (ch : Nat) : State :=
  match Store.find? s.dict.sdo ch with
  | some x => sdoFail s ch x 0x05040001
  | none => sdoAbort s ch 0 0 0x05040001

/-- SDO_SEGMENT (11 R313): a segment with the toggle bit in turn. -/
def sdoSegment (s : State) (ch : Nat) (d : Bytes) (last : Bool) : State :=
  if s.sdoUp ch then
    match (Store.find? s.dict.sdo ch).filter (fun x => x.open_) with
    | some x => if x.upload then sdoUpSegment s ch x x.toggle else sdoDownSegment s ch x (x.toggle ^^ decide (x.sent ≠ 0)) d last
    | none => sdoStray s ch
  else s

/-- SDO_SEGMENT_TIMEOUT (11 R313): 1 s after the last segment the transfer is aborted. One whose request the server has yet to answer waits for no
segment. -/
def sdoTimeout (s : State) (ch : Nat) : State :=
  match Store.find? s.dict.sdo ch with
  | some x => if x.txn.isNone then sdoFail (advanceTo s (x.at_ + 1000000000)) ch x 0x05040000 else s
  | none => s

/-! ## Blocks (17 R447) -/

/-- Segments of a sub-block of an upload sent, from the first byte that the client has not acknowledged. -/
def sdoSendBlock (s : State) (ch : Nat) (x : SdoXfer) (b : SdoBlock) : State :=
  let left := x.data.drop x.sent
  let n := Nat.min b.size (Nat.max 1 (ceilDiv left.length 7))
  let s := keepSdo s ch { x with at_ := s.time.now, block := some { b with seq := n } }
  (List.range n).foldl (fun s i =>
    let d := (left.drop (7 * i)).take 7
    let c := if left.length ≤ 7 * (i + 1) then 128 else 0
    sdoSend s ch (leBytes 1 (c + i + 1) ++ d)) s

/-- The client's acknowledgement of an upload's sub-block: the next one, or the end with the value's CRC. -/
def sdoAckBlock (s : State) (ch : Nat) (x : SdoXfer) (b : SdoBlock) (seq size : Nat) : State :=
  if b.seq < seq then sdoFail s ch x 0x05040003
  else if size = 0 ∨ 127 < size then sdoFail s ch x 0x05040002
  else
    let x := { x with sent := Nat.min x.data.length (x.sent + 7 * seq), at_ := s.time.now }
    if x.data.length ≤ x.sent ∧ seq = b.seq then
      let n := if x.data.length = 0 then 7 else (7 - x.data.length % 7) % 7
      sdoSend (keepSdo s ch { x with block := some { b with ended := true } }) ch
        (leBytes 1 (0xC1 + 4 * n) ++ leBytes 2 (if b.crc then crcXmodem x.data else 0))
    else sdoSendBlock s ch x { b with size := size }

/-- A segment of a download's sub-block: what is in order is kept; the last of the sub-block is answered with the last in order. -/
def sdoTakeBlock (s : State) (ch : Nat) (x : SdoXfer) (b : SdoBlock) (seq : Nat) (last : Bool) (d : Bytes) : State :=
  if seq = 0 ∨ b.size < seq then sdoFail s ch x 0x05040003
  else
    let inOrder := decide (seq = b.seq + 1)
    let data := if inOrder then x.data ++ d else x.data
    let got := if inOrder then seq else b.seq
    let put := fun (b : SdoBlock) => keepSdo s ch { x with data := data, at_ := s.time.now, block := some b }
    if last ∨ seq = b.size then
      sdoSend (put { b with seq := 0, ended := last && inOrder }) ch (leBytes 1 0xA2 ++ leBytes 1 got ++ leBytes 1 b.size)
    else put { b with seq := got }

/-- The end of a download in blocks: `n` bytes of its last segment are not data; with its CRC right it forms the request. -/
def sdoEndBlock (s : State) (ch : Nat) (x : SdoXfer) (b : SdoBlock) (n crc : Nat) : State :=
  let data := x.data.take (x.data.length - n)
  if b.crc && decide (crcXmodem data ≠ crc) then sdoFail s ch x 0x05040004 else sdoJudge s ch { x with data := data }

/-- A frame of a transfer in blocks that awaits its client: segments of a download, and the client's commands. -/
def sdoBlockFrame (s : State) (ch : Nat) (x : SdoXfer) (b : SdoBlock) (f : Nat → Nat) (d : Bytes) : State :=
  if !x.upload then
    if b.ended then
      (if f 0 / 32 = 6 ∧ f 0 % 2 = 1 then sdoEndBlock s ch x b (f 0 / 4 % 8) (f 1 + 256 * f 2) else sdoFail s ch x 0x05040001)
    else sdoTakeBlock s ch x b (f 0 % 128) (decide (128 ≤ f 0)) d
  else if f 0 / 32 ≠ 5 then sdoFail s ch x 0x05040001
  else match f 0 % 4 with
    | 1 => if b.ended then dropSdo s ch else sdoFail s ch x 0x05040001
    | 2 => if b.seq = 0 ∨ b.ended then sdoFail s ch x 0x05040001 else sdoAckBlock s ch x b (f 1) (f 2)
    | 3 => if b.seq = 0 then sdoSendBlock s ch x b else sdoFail s ch x 0x05040001
    | _ => sdoFail s ch x 0x05040001

/-- The initiate of a download in blocks, answered with the size of a sub-block. -/
def sdoBlockDown (s : State) (ch index sub : Nat) (crc : Bool) : State :=
  let s := dropSdo s ch
  let x := { sdoNew s false index sub with block := some { size := sdoBlockSize, seq := 0, crc := crc, ended := false } }
  sdoSend (keepSdo s ch x) ch (leBytes 1 0xA4 ++ x.entry ++ leBytes 1 sdoBlockSize)

/-- The initiate of an upload in blocks, judged at once. -/
def sdoBlockUp (s : State) (ch index sub size : Nat) (crc : Bool) : State :=
  let s := dropSdo s ch
  if size = 0 ∨ 127 < size then sdoAbort s ch index sub 0x05040002
  else sdoJudge s ch { sdoNew s true index sub with block := some { size := size, seq := 0, crc := crc, ended := false } }

/-! ## Frames (17 R447) -/

/-- A frame of a client by its command specifier, outside a transfer in blocks. -/
def sdoCommand (s : State) (ch : Nat) (f : Nat → Nat) (d : Bytes) : State :=
  let index := f 1 + 256 * f 2
  let x := (Store.find? s.dict.sdo ch).filter (fun x => x.open_)
  match f 0 / 32 with
  | 0 => match x.filter (fun x => !x.upload) with
    | some x => sdoDownSegment s ch x (bitOf (f 0) 4) (d.take (7 - f 0 / 2 % 8)) (bitOf (f 0) 0)
    | none => sdoStray s ch
  | 1 => sdoBegin s ch false index (f 3)
      (if bitOf (f 0) 1 then some ((d.drop 3).take (if bitOf (f 0) 0 then 4 - f 0 / 4 % 4 else 4)) else none)
  | 2 => sdoBegin s ch true index (f 3) none
  | 3 => match x.filter (fun x => x.upload) with
    | some x => sdoUpSegment s ch x (bitOf (f 0) 4)
    | none => sdoStray s ch
  | 5 => if f 0 % 4 = 0 then sdoBlockUp s ch index (f 3) (f 4) (bitOf (f 0) 2) else sdoStray s ch
  | 6 => if f 0 % 2 = 0 then sdoBlockDown s ch index (f 3) (bitOf (f 0) 2) else sdoStray s ch
  | _ => sdoStray s ch

/-- Whether a frame is an initiate, by its command specifier. -/
def sdoInitiates (f : Nat → Nat) : Bool :=
  decide (f 0 / 32 = 1) || decide (f 0 / 32 = 2) || (decide (f 0 / 32 = 5) && decide (f 0 % 4 = 0)) || (decide (f 0 / 32 = 6) && decide (f 0 % 2 = 0))

/-- A frame of an SDO channel's client: an abort ends the transfer without an answer; in a transfer in blocks the segments of a sub-block that
are awaited carry no command specifier, and an initiate opens a new transfer otherwise. -/
def sdoReceive (s : State) (ch : Nat) (bytes : Bytes) : State :=
  let f := fun (n : Nat) => ((bytes.drop n).headD 0).toNat
  let d := bytes.drop 1
  match Store.find? s.dict.sdo ch with
  | some x =>
    match x.block with
    | some b =>
      if f 0 = 0x80 then dropSdo s ch
      else if x.txn.isSome || ((x.upload || b.ended) && sdoInitiates f) then sdoCommand s ch f d
      else sdoBlockFrame s ch x b f d
    | none => if f 0 = 0x80 then dropSdo s ch else sdoCommand s ch f d
  | none => if f 0 = 0x80 then s else sdoCommand s ch f d

/-- The SDO channel that a frame of a controller addresses: one that serves, by its COB-ID from the client, a classical frame of 8 bytes. -/
def sdoChannel (s : State) (c : CanCtl) (f : CFrame) : Option Nat :=
  if f.fd || decide (f.data.length ≠ 8) then none
  else (List.range 8).find? (fun ch => decide (canOf (ch / 4) = c) && s.sdoUp ch && decide (cobIdent (s.sdoIn ch) = f.ident) &&
    decide (bitOf (s.sdoIn ch) 29 = f.ext))

/-- CAN_FRAME_RECEIVED (11 R310, R313): a frame of an SDO channel goes to its server, any other to the receive objects. -/
def canFrame (s : State) (c : CanCtl) (f : CFrame) : State :=
  match sdoChannel s c f with
  | some ch => sdoReceive s ch f.data
  | none => canFrameReceived s c f

end Sys2Proof.Machine
end

