-- ==== Sys2Proof/Machine/Link.lean ====
section
/-! DEFINITION. The carriers of dictionary requests: the host link, the CANopen SDO channels, UDP on the ECN ports and the ring, and
the junction tick that takes what arrived (11 R313 to R316, 17 R443, R447, R448). -/

namespace Sys2Proof.Machine

open Sys2Proof

/-! ## Admission by the carrier -/

/-- Whether 1E00.02 enables a UDP path: bits 0 and 1 the ECN ports, bit 2 the ring. -/
def State.udpPath (s : State) (r : Sender) : Bool := bitOf (jget s 0x1E00 2) (if r.path = .ring then 2 else r.carrier)

/-- Carrier of a dictionary request: TRUE when the request reaches the server. What the carrier discards leaves only its counts; the carrier of a
ring datagram is the port that it came by (11 R300, R313, R316, 16 R416, R417, 17 R443, 09 R267). -/
def carrierTakes (s : State) (r : Sender) : State × Bool :=
  if !s.booted then (s, false)
  else match r.path with
    | .host =>
      if !jbool s 0x4900 1 then (s, false)
      else if 16 ≤ s.host.pending then (jbump { s with host := { s.host with overrun := true } } 0x4900 4, false)
      else (s, true)
    | .can => (s, s.sdoUp r.carrier)
    | .ecn =>
      if !s.ecnUp r.carrier ∨ 1 < r.carrier then (s, false)
      else
        let s := jbump s (ecnIndex r.carrier) 9
        if 1 ≤ s.power.stage ∨ !s.udpPath r then (ecnDiscard s r.carrier, false) else (s, true)
    | .ring =>
      if 1 ≤ s.power.stage then (s, false)
      else if !s.udpPath r then (jbump s (0x4210 + r.carrier % 2) 6, false) else (s, true)

/-! ## The junction tick (17 R448) -/

/-- Requests of one path among those of a tick, in order of arrival. -/
def arrivedOn (qs : List (Request × Payload)) (p : Path) : List (Request × Payload) := qs.filter (fun q => decide (q.1.sender.path = p))

/-- Requests of a junction tick in the order in which it takes them (17 R448). -/
def tickOrder (qs : List (Request × Payload)) : List (Request × Payload) :=
  arrivedOn qs .host ++ arrivedOn qs .can ++ arrivedOn qs .ecn ++ arrivedOn qs .ring

/-- The end of the junction tick in progress: node time reaches it, and the requests that arrived in the tick are executed, `extra` with what its
commands carry behind those of its path. -/
def runTick (s : State) (extra : List (Request × Payload)) : State :=
  let s := startDistribution (advanceTo s ((s.time.now / 1000 + 1) * 1000))
  let qs := tickOrder (s.dict.arrived.map (fun q => (q, .plain)) ++ extra)
  qs.foldl (fun s q => execute s q.1 q.2) { s with dict := { s.dict with arrived := [] } }

/-- JUNCTION_TICK (17 R448). -/
def junctionTick (s : State) : State := runTick s []

/-- A request of a dictionary command with a row of its own: it arrives, and the command goes on to the end of its tick, at which it is executed in
its turn (DESIGN CHOICE, log 8). -/
def immediate (s : State) (q : Request) (x : Payload) : State :=
  match carrierTakes s q.sender with
  | (s, true) =>
    match admitRequest s q with
    | (s, true) => runTick s [(q, x)]
    | (s, false) => s
  | (s, false) => s

/-- A dictionary read by a client. -/
def dictRead (s : State) (r : Sender) (index sub : Nat) : State := immediate s (readReq r index sub) .plain

/-- A dictionary write by a client. -/
def dictWrite (s : State) (r : Sender) (index sub : Nat) (d : Bytes) : State := immediate s (writeReq r index sub d) .plain

/-! ## Arrival for the tick -/

/-- A body delivered by its carrier: a malformed one is discarded and counted (17 R444). -/
def arriveBody (s : State) (r : Sender) (b : Bytes) : State :=
  match parseBody r b with
  | some q => arriveRequest s q
  | none => jbump s 0x1E00 9

/-! ## The host link -/

/-- The host link of this device as a request source. -/
def hostSender : Sender := { path := .host, carrier := 0, ip := 0, udpPort := 0, client := 0, txn := 0 }

/-- Whether the link drives HS_MISO: the junction is booted and 4900.01 is set. -/
def State.hostUp (s : State) : Bool := s.booted && jbool s 0x4900 1

/-- A transaction's clock noted: domain 10 shows edges only while one runs (15 Table 15-1). -/
def clocked (s : State) : State := { s with host := { s.host with ranAt := some s.time.now } }

/-- What the device shifts out after the command byte: as many bytes as the host clocks, zeros at the end. -/
def shiftOut (s : State) (n : Nat) (b : Bytes) : State := transmit (clocked s) 36 (Nat.min n b.length) (.spi (padTo n b))

/-- Body of a request frame: none when it breaks R315. -/
def hostBody (b : Bytes) : Option Bytes :=
  let n := ofLe (b.take 2)
  if b.length < 6 ∨ n = 0 ∨ 1040 < n ∨ b.length < 6 + n then none
  else if crc32c (b.take (2 + n)) = ofLe ((b.drop (2 + n)).take 4) then some ((b.drop 2).take n) else none

/-- HOST_REQUEST (11 R315, R316): the bytes clocked after the command. -/
def hostRequest (s : State) (b : Bytes) : State :=
  if !s.hostUp then s
  else
    let s := shiftOut s b.length []
    match hostBody b with
    | none => jbump { s with host := { s.host with discarded := true } } 0x4900 3
    | some body =>
      match carrierTakes s hostSender with
      | (s, true) => arriveBody s hostSender body
      | (s, false) => s

/-- The oldest queued response as the link sends it: turnaround, length, body, CRC-32C (11 Table 11-5). -/
def hostFrame (s : State) : Bytes :=
  let body := s.host.queue.headD []
  let f := leBytes 2 body.length ++ body
  0 :: (f ++ leBytes 4 (crc32c f))

/-- READ_RESPONSE (11 R316): the response leaves the queue when all of its 7 + L bytes have been clocked. -/
def readResponse (s : State) (clocked : Nat) : State :=
  if !s.hostUp then s
  else
    let f := hostFrame s
    let s := shiftOut s clocked f
    if s.host.queue ≠ [] ∧ f.length ≤ clocked then
      { s with host := { s.host with queue := s.host.queue.tail, pending := s.host.pending - 1 } }
    else s

/-- The status word (11 Table 11-7). -/
def hostWord (s : State) : Nat :=
  s.host.queue.length + (if s.host.overrun then 32 else 0) + (if s.host.discarded then 64 else 0) + (if s.inRun then 128 else 0) +
  256 * s.mode.code

/-- HOST_STATUS (11 R314, R316): the word is sent; a transaction that reads bits 5 and 6 clears them. -/
def hostStatus (s : State) (clocked : Nat) : State :=
  if !s.hostUp then s
  else
    let s := shiftOut s clocked (0 :: leBytes 4 (hostWord s))
    if 2 ≤ clocked then { s with host := { s.host with overrun := false, discarded := false } } else s

/-- HS_IRQ_N, TRUE when driven low: a response waits (11 R316). -/
def State.hostIrq (s : State) : Bool := s.hostUp && decide (s.host.queue ≠ [])

/-- UNKNOWN_COMMAND (11 R314): 16#00 returned and counted. A known command with nothing clocked after it is that command. -/
def unknownCommand (s : State) (cmd : Byte) : State :=
  if cmd = 1 then hostRequest s []
  else if cmd = 2 then readResponse s 0
  else if cmd = 3 then hostStatus s 0
  else if !s.hostUp then s
  else jbump (shiftOut s 1 []) 0x4900 5

/-! ## UDP and the tick -/

/-- A datagram to the port's own address as the frame that a receive context judges: untagged, its checks passed. -/
def datagramFrame (s : State) (r : Sender) (port : Nat) (b : Bytes) : EFrame :=
  { fcsOk := true, mac := 0, tags := 0, vid := 0, pcp := 0, etype := 0x0800, ipVer := 4, tos := 0, ttl := 64, ident := 0, df := false
    hdrCk := true, frag := false, proto := 17, srcIp := r.ip, dstIp := jget s (ecnIndex r.carrier) 3, udpCk := true, srcPort := r.udpPort
    dstPort := port, payload := b }

/-- A body that its carrier may pass on. -/
def serveBody (s : State) (r : Sender) (b : Bytes) : State :=
  match carrierTakes s r with
  | (s, true) => arriveBody s r b
  | (s, false) => s

/-- A datagram at an ECN port goes to the first consumer that claims it: PTP, whose message is PTP_MESSAGE's, a receive context, then the dictionary;
one to a port that nothing listens on is discarded (11 R301). -/
def ecnDatagram (s : State) (r : Sender) (port : Nat) (b : Bytes) : State :=
  let p := r.carrier
  let f := datagramFrame s r port b
  let heard := jbump s (ecnIndex p) 9
  if !s.ecnUp p ∨ 1 < p then s
  else if !portChecks f then ecnDiscard heard p
  else if ptpClaims s p port then heard
  else match contextFor s p f with
    | some t => takeTelegramFrame heard p t f
    | none => if port = s.dict.port then serveBody s r b else ecnDiscard heard p

/-- DICTIONARY_DATAGRAM (17 R443): a datagram to this device's address and a port of it, on an ECN port or the ring. -/
def dictionaryDatagram (s : State) (r : Sender) (port : Nat) (b : Bytes) : State :=
  match r.path with
  | .ecn => ecnDatagram s r port b
  | .ring => if port = s.dict.port then serveBody s r b else s
  | _ => s

/-- A service 1 frame taken at a port (09 R249). -/
def takeService (s : State) (p : RingPort) (f : RFrame) : State :=
  match takePacket s f with
  | some d =>
    dictionaryDatagram s { path := .ring, carrier := p.num, ip := d.src, udpPort := d.srcPort, client := 0, txn := 0 } d.dstPort d.data
  | none => s

/-- BEST_EFFORT_IPV4 (09 R249): the frame travels on or is consumed; a datagram for this node's address and the service port is a
dictionary request, and any other is dropped. DESIGN CHOICE (log 86): a sender gives a request either in its frame or as
DICTIONARY_DATAGRAM. -/
def bestEffortIpv4 (s : State) (p : RingPort) (f : RFrame) : State :=
  (arriveBest s p f 1).take p f.len (.bestEffortIpv4 p f) (fun s => takeService s p f)

/-- CVU_CLAIM_TIMEOUT (11 R319): 10 s after the last access. -/
def cvuTimeout (s : State) (n : Nat) : State :=
  match Store.find? s.cvu n with
  | some v => if v.client.isSome then releaseCvu (advanceTo s (v.at_ + 10000000000)) n else s
  | none => s

/-! ## Module reset -/

/-- MODULE_RESET (16 R425, R426): the reset of a source. Power-on acts on a device that is off, every other source on one that is
powered; a supply restart comes after PFW_N alone and is counted (R421), and a commanded restart makes its commit and leave frame first. -/
def resetBy (s : State) (src : ResetSource) : State :=
  match src with
  | .powerOn => powerOn s
  | .commanded => restartEffect s
  | .stage4 => if s.booted then resetModule s .stage4 else s
  | .supplyRestart => if s.booted && s.power.pfw then resetModule (jbump s 0x2105 0) .supplyRestart else s
  | .resetN => if s.booted then resetModule s .resetN else s

end Sys2Proof.Machine
end

