-- ==== Sys2Proof/Machine/CmdChange.lean ====
section
/-! DEFINITION. The commands of admission, on-line change and forcing (chapters 12 and 06): one meaning for each command. -/

namespace Sys2Proof.Machine

open Sys2Proof

/-- CONTAINER_DOWNLOAD (R343): A full container is written to 9000.01 and its signature verified. -/
def execContainerDownload (r : Sender) (k : Container) (s : State) : Host.Outcome State Fault Refusal :=
  .next (immediate s (wholeReq r 0x9000 1 (Config.containerBytes k.signed.digest)) (.container k))

/-- ADMIT_ONLY (R324): Command 1 to 9000.02 runs the Gauge on the downloaded container. -/
def execAdmitOnly (r : Sender) (s : State) : Host.Outcome State Fault Refusal :=
  .next (dictWrite s r 0x9000 2 [1])

/-- ADMIT_AND_STORE (R324): Command 2 to 9000.02 admits the container and stores it for the next start-up. -/
def execAdmitAndStore (r : Sender) (s : State) : Host.Outcome State Fault Refusal :=
  .next (dictWrite s r 0x9000 2 [2])

/-- GAUGE_VERDICT (R325): The Gauge finishes its form checks and checks 1 to 8 and reports admission or the first refusal. -/
def execGaugeVerdict (s : State) : Host.Outcome State Fault Refusal :=
  .next (gaugeVerdict s)

/-- TIMING_RELEVANT_WRITE (R341): A write to an entry of Table 12-4 is held until the Gauge re-runs the listed checks. -/
def execTimingRelevantWrite (r : Sender) (index sub : Nat) (d : Bytes) (s : State) : Host.Outcome State Fault Refusal :=
  .next (dictWrite s r index sub d)

/-- DELTA_DOWNLOAD (R167): A delta container is written to 6800.02 and checked for signature and base identity. -/
def execDeltaDownload (r : Sender) (k : Delta) (s : State) : Host.Outcome State Fault Refusal :=
  .next (immediate s (wholeReq r 0x6800 2 (Config.containerBytes k.signed.digest)) (.delta k))

/-- ADMIT_DELTA (R169): Command 1 to 6800.03 starts the Gauge's admission of the merged configuration. -/
def execAdmitDelta (r : Sender) (s : State) : Host.Outcome State Fault Refusal :=
  .next (dictWrite s r 0x6800 3 [1])

/-- DELTA_DISTRIBUTED (R170): Every lane reports the CRC-32C of the distributed delta and the change becomes ready. -/
def execDeltaDistributed (crcs : Tri Nat) (s : State) : Host.Outcome State Fault Refusal :=
  .next (deltaReported s crcs)

/-- ACTIVATE_CHANGE (R171): Command 2 to 6800.03 fixes activation at k_act. -/
def execActivateChange (r : Sender) (s : State) : Host.Outcome State Fault Refusal :=
  .next (dictWrite s r 0x6800 3 [2])

/-- CANCEL_CHANGE (R172): Command 3 to 6800.03 cancels the change and discards the delta. -/
def execCancelChange (r : Sender) (s : State) : Host.Outcome State Fault Refusal :=
  .next (dictWrite s r 0x6800 3 [3])

/-- SET_FORCE (R182): A force record written to 6400.01 sets or replaces a force on an I or Q variable. -/
def execSetForce (r : Sender) (d : Bytes) (s : State) : Host.Outcome State Fault Refusal :=
  .next (dictWrite s r 0x6400 1 d)

/-- RELEASE_FORCE (R185): A write of a slot to 6400.02 releases that force. -/
def execReleaseForce (r : Sender) (d : Bytes) (s : State) : Host.Outcome State Fault Refusal :=
  .next (dictWrite s r 0x6400 2 d)

/-- RELEASE_ALL_FORCES (R186): A write of 16#A5 to 6400.03 releases every force if the change log has room. -/
def execReleaseAllForces (r : Sender) (d : Bytes) (s : State) : Host.Outcome State Fault Refusal :=
  .next (dictWrite s r 0x6400 3 d)

end Sys2Proof.Machine
end

