-- ==== Sys2Proof/Machine/Turn.lean ====
section
/-! DEFINITION. The commands of the triggers of the time base, each after what is due with it and comes first: entries in ascending index, the cycle
start among them, then the compares (02 R36 to R41, 01 R16). -/

namespace Sys2Proof.Machine

open Sys2Proof

/-! ## The cycle start in its turn -/

/-- Instant of the next cycle start: in step 7 of start-up C_{k1−1} or C_{k1}, in RUN that of the next cycle (01 R16, 16 R429). -/
def State.nextCycle (s : State) : Option Nat :=
  s.config.bind (fun c =>
    if s.inStep 7 then some (match s.power.c1 with
      | some c1 => s.firstVoted c c1
      | none => s.beforeFirst c)
    else if s.inRun then some (nextC s c) else none)

/-- Whether entry `i` is the cycle-start entry of a cycle start due at `t`. -/
def State.dueCycle (s : State) (t i : Nat) : Bool :=
  (s.cut i).any (fun e => decide (CutEntry.act e = 1) && s.firesAt e t) && decide (s.nextCycle = some t)

/-- Entry `i` fires at `t` in its turn, ahead of its command, if it is due. -/
def turn (t : Nat) (s : State) (i : Nat) : State :=
  if s.dueCycle t i then markEarly (cycleStartNow s) .cycle else fireInTurn t s i

/-- The entries below index `n` that are due at `t` fire, a cycle start among them (02 R39). -/
def fireBefore (s : State) (t n : Nat) : State := (List.range n).foldl (turn t) s

/-! ## Commands of the entries -/

/-- The command of an entry of the time base with action `act`, done by `f`: what is due with it and comes first fires before it, and what
has fired in its turn already fires no more. -/
def entryCommand (s : State) (i act : Nat) (f : State → State) : State :=
  once s (.entry i) (fun s =>
    match s.cut i with
    | some e =>
      if CutEntry.act e = act then
        let t := s.firing i e 0
        once (fireBefore (advanceTo s t) t i) (.entry i) f
      else s
    | none => s)

/-- RING_TRANSMIT_SLOT. -/
def ringTransmitSlot (s : State) (i : Nat) : State := entryCommand s i 6 (fun s => ringSlotDue s i)

/-- RING_RECEIVE_WINDOW: it opens at its entry, and ends LEN later. -/
def ringReceiveWindow (s : State) (i : Nat) (opens : Bool) : State :=
  if opens then entryCommand s i 7 (fun s => windowDue s i) else rxWindowEnds s i

/-- ECN_TRANSMIT. -/
def ecnTransmit (s : State) (i : Nat) : State := entryCommand s i 8 (fun s => ecnDue s i)

/-- USER_EVENT_TRIGGER. -/
def userEventTrigger (s : State) (i : Nat) : State := entryCommand s i 9 (fun s => userEventDue s i)

/-- BEST_EFFORT_WINDOW. -/
def bestEffortWindow (s : State) (p : RingPort) (i : Nat) : State := entryCommand s i 11 (fun s => bestWindowDue s p i)

/-- SYNC_SLOT. -/
def syncSlot (s : State) (i : Nat) : State := entryCommand s i 12 (fun s => syncDue s i)

/-- SYNC_RECEIVE_WINDOW: it opens at its entry, and ends LEN later. -/
def syncReceiveWindow (s : State) (i : Nat) (opens : Bool) : State :=
  if opens then entryCommand s i 13 (fun s => syncWindowDue s i) else syncWindowEnds s i

/-! ## Commands of the compares -/

/-- DIRECT_COMPARE_FIRE: after the cutting-list entries due at that edge and the compares before it. -/
def directCompareFire (s : State) (n : Nat) : State :=
  once s (.direct n) (fun s =>
    match s.dcAt n with
    | some t => once (fireDirect (fireBefore (advanceTo s t) t s.cutLength) n) (.direct n) (fun s => directCompareDue s n)
    | none => s)

/-- EPOCH_COMPARE_FIRE: after the entries and the direct compares due at that edge and the epoch compares before it. -/
def epochCompareFire (s : State) (n : Nat) : State :=
  once s (.epoch n) (fun s =>
    match s.ecAt n with
    | some t =>
      once (fireEpoch (fireDirect (fireBefore (advanceTo s t) t s.cutLength) 8) n) (.epoch n) (fun s => epochCompareDue s n)
    | none => s)

/-- PPS_OUT (02 R60): of an entry of action 10, or at a second-aligned instant, which is EC3's. -/
def ppsOut (s : State) (entry : Option Nat) : State :=
  match entry with
  | some i => entryCommand s i 10 (fun s => ppsEntryDue s i)
  | none => if s.ppsSecond then epochCompareFire s 3 else s

end Sys2Proof.Machine
end

