-- ==== Sys2Proof/Machine/Cross.lean ====
section
/-! DEFINITION. What crosses between clock domains by command, stopped and running domains, stalls and flush handshakes (15 R396, R405 to
R409). -/

namespace Sys2Proof.Machine

open Sys2Proof

/-! ## Commands whose traffic crosses (15 R404) -/

/-- What a command does once its traffic has reached the far side of its crossing; the other commands cross nothing that waits. -/
def arriveFar (s : State) (at_ : Nat) : Instr → State
  | .vectorReceived l v => vectorReceived s l v
  | .forwardedVector l src v => forwardedVector s l src v
  | .stateTransferBlock l blk d crcA crcB => stateTransferBlock s l blk d crcA crcB
  | .timeMark l dev _ => takeMark s l at_ dev
  | .cycleStart => cycleStartAny s
  | .ppsInEdge t => ppsInEdge s t
  | .tick p f => takeTick s p f
  | .dataFrame p f t => acceptData s p f (arrivalAt s p t)
  | .syncFrame p f t => takeSync s p f t
  | .coldstartFrame p f t => takeColdstart s p f t
  | .wrapNotice p f => takeNotice s p f
  | .leaveFrame p f => takeLeave s p f
  | .bestEffortIpv4 p f => takeService s p f
  | .timeQuery _ f => takeQuery s f
  | .timeAnswer p f t => takeAnswer s p f t
  | .timeAnnouncementReceived _ f => judgeAnnouncement s f
  | .telegramReceived p f => telegramReceived s p f
  | .arpRequest p target src => arpRequest s p target src
  | .arpReply p ip mac => arpReply s p ip mac
  | .icmpEchoRequest p src dst => icmpEchoRequest s p src dst
  | .dictionaryDatagram r port b => dictionaryDatagram s r port b
  | .ptpMessage p m t => ptpMessage s p m t
  | .canFrameReceived c f => canFrame s c f
  | .heartbeatReceived c node => heartbeatReceived s c node
  | .nmtStart c node => nmtStart s c node
  | .nmtStop c node => nmtStop s c node
  | .nmtEnterPreOperational c node => nmtPreOp s c node
  | .nmtResetCommunication c node => nmtResetComm s c node
  | .nmtResetNode c node => nmtResetNode s c node
  | .sdoInitiate ch upload index sub d => sdoInitiate s ch.val upload index sub d
  | .sdoSegment ch d last => sdoSegment s ch.val d last
  | .hostRequest b => hostRequest s b
  | _ => s

/-- What a port counts of a received frame from which an entry was dropped: 4100.0A of an ECN port, and 4210.02 or
4211.02 of a ring port, whose first check a truncated frame fails (R403, 09 R256, 11 R306). -/
def portLost (x : Nat) (c : Instr) (s : State) : State :=
  if x = 27 ∨ x = 28 then jbump s (portIndex (if x = 27 then .east else .west)) 2
  else match c with
    | .telegramReceived p _ => jbump s (ecnIndex p.num) 10
    | .arpRequest p _ _ => jbump s (ecnIndex p.num) 10
    | .arpReply p _ _ => jbump s (ecnIndex p.num) 10
    | .icmpEchoRequest p _ _ => jbump s (ecnIndex p.num) 10
    | .ptpMessage p _ _ => jbump s (ecnIndex p.num) 10
    | .dictionaryDatagram r _ _ => if r.path = .ecn then jbump s (ecnIndex (r.carrier % 2)) 10 else s
    | _ => s

/-- A command whose traffic of `n` bytes crosses `x`, done where it arrives. -/
def crossing (s : State) (x n : Nat) (c : Instr) : State :=
  carry s x (entriesOf x n) (.traffic c s.time.now) (portLost x c) (fun t => arriveFar t s.time.now c)

/-- A cycle start crosses from the time base to the fabric as an event (15 R400). -/
def cycleCrossing (s : State) : State := raiseEvent s 21 0 (.traffic .cycleStart s.time.now) cycleStartAny

/-- Crossing over which a dictionary datagram arrives: that of the ECN, or the ring port from the west. -/
def datagramCrossing (r : Sender) : Nat := if r.path = .ring then 27 else 32

/-! ## Stopped clocks (15 R396, R405) -/

/-- DOMAIN_LOST (R396): no edge for 2 µs. This marking is status only. -/
def loseDomain (s : State) (d : Nat) : State :=
  if d ≠ 10 ∧ s.booted ∧ bitOf s.domains d then
    jset { s with domains := setBit s.domains d false } 0x2201 (d + 1) 4
  else s

/-- A frame of a control channel at its lane section (01 R14, R23, 08 R223). -/
def takeFrame (s : State) (l : LaneId) : FieldFrame → State
  | .sample => latchSection s l
  | .convert e => markConversion s l e
  | .outputs => s.config.elim s (fun cfg => applyOutputs cfg s l)

/-- What a lane section reports at its lane (01 R14, 08 R223, R224). -/
def takeReport (s : State) (l : LaneId) : FieldReport → State
  | .sampled b => takeSampled s l b
  | .input n => takeInput s l n
  | .entry e code => takeEntry s l e code
  | .line n code primary entries => takeLine s l n code primary entries

/-- What an item does at the far side. -/
def arriveItem (s : State) : XItem → State
  | .traffic c t => arriveFar s t c
  | .trigger id => takeTrigger s id
  | .fault l cause => if cause = 11 then takeRate s l else exclude s l cause
  | .wire w => s.emit w
  | .submission l k x pubs => if s.vote.kV = some k ∧ s.vote.voting then takeSubmission s l x pubs else s
  | .image l k vb limp change => takeImage s l k vb limp change
  | .frame l f => takeFrame s l f
  | .report l r => takeReport s l r
  | .correction rc slew => takeCorrection s rc slew
  | .compare e n c => if e then setEc s n c else setDc s n c
  | .refuse => s

/-- An item that waited in a crossing is delivered; an event is no entry. -/
def deliver (x : Nat) (s : State) (h : XItem × Nat) : State := arriveItem (through s x h.2) h.1

/-- A crossing goes on once the clock of its destination runs: its pending request is acknowledged, and what it holds and what its source offers
is delivered in the order written. -/
def resume (s : State) (x : Nat) : State :=
  let c := s.crossing x
  if c.open_ && s.destRuns x then
    (c.held ++ c.offered).foldl (deliver x) (s.setCrossing x { c with
      held := [], offered := [], wp := c.rp, stalled := false
      events := c.events.map (fun p => (p.1, { p.2 with ack := p.2.req, taken := p.2.req })) })
  else s

/-- A handshake that waited for a clock completes (R409). -/
def completeFlush (s : State) (x : Nat) : State :=
  match (s.crossing x).flush with
  | some (a, b) => if s.sourceRuns x && s.destRuns x then handshake s x a b else s
  | none => s

/-- DOMAIN_RUNNING (R396, R405): 1 µs of edges; the domain's crossings go on as though nothing had happened. -/
def runDomain (s : State) (d : Nat) : State :=
  if d ≠ 10 ∧ s.booted ∧ !bitOf s.domains d ∧ s.clockOn d then
    let s := { s with domains := setBit s.domains d true }
    let s := (s.crossings.filter (fun p => (crossingDomains p.1).contains d)).foldl (fun s p => resume (completeFlush s p.1) p.1) s
    LaneId.all.foldl followCounts s
  else s

/-! ## Stalls and flushes (15 R406, R408, R409) -/

/-- Whether a crossing can report a stall: it has a handshake, and is not one of the host link (R397, R401, R406). -/
def canStall (x : Nat) : Bool := (decide (crossingKind x = .queue) || decide (crossingKind x = .event)) && decide (x ≠ 35) && decide (x ≠ 36)

/-- Whether a side of a crossing whose clock runs waits for progress: on an entry held or offered, on a request, or on a flush handshake. One with
nothing pending does not, whatever the other clock does. -/
def State.waits (s : State) (x : Nat) : Bool :=
  let c := s.crossing x
  (s.sourceRuns x || s.destRuns x) && (decide (c.held ≠ []) || decide (c.offered ≠ []) || c.flush.isSome)

/-- CROSSING_STALLED (R406): 10 µs without progress; each episode is counted. -/
def stallCrossing (s : State) (x : Nat) : State :=
  let c := s.crossing x
  if s.booted && canStall x && s.crossingLive x && s.waits x && !c.stalled then
    jbump (s.setCrossing x { c with stalled := true, bits := setBit c.bits 6 true }) (crossingIndex x) 5
  else s

/-- FLUSH_HANDSHAKE (R408, R409): a side that has left reset with its clock running runs the handshake, after which what a stalled source still
offers is accepted. While the other side's clock stands the handshake waits, with the crossing closed. -/
def flushCrossing (s : State) (x : Nat) (src dst : Bool) : State :=
  if s.booted && decide (crossingKind x ≠ .bit) && s.crossingLive x && (src || dst) then
    if s.sourceRuns x && s.destRuns x then resume (handshake s x src dst) x
    else if (!src || s.sourceRuns x) && (!dst || s.destRuns x) then
      s.setCrossing x { s.crossing x with open_ := false, flush := some (src, dst) }
    else s
  else s

end Sys2Proof.Machine
end

