-- ==== Sys2Proof/Machine/CmdCycle.lean ====
section
/-! DEFINITION. The commands of the cycle and the lanes (chapters 01 and 03): one meaning for each command. -/

namespace Sys2Proof.Machine

open Sys2Proof

/-- SAMPLE (R14): A sample entry fires in a lane time counter, and the lane's field-die section latches inputs and starts its tied converters. -/
def execSample (l : LaneId) (s : State) : Host.Outcome State Fault Refusal :=
  .next (sample s l)

/-- CONVERTER_START (R223): A converter-start entry fires and starts the named converters of each lane, filling the entry's Mitre field. -/
def execConverterStart (l : LaneId) (entry : Nat) (s : State) : Host.Outcome State Fault Refusal :=
  .next (converterStart s l entry)

/-- CONVERSION_RESULT (R223): A general-input conversion completes and its result reaches the lane within 5 µs of the trigger. -/
def execConversionResult (l : LaneId) (input : Fin 8) (entry : Option Nat) (v : Int) (s : State) : Host.Outcome State Fault Refusal :=
  .next (conversionResult s l input.val entry v)

/-- CYCLE_START (R16): A cycle-start entry fires; the junction closes the batch of cycle k and every lane starts its Mitre exchange. -/
def execCycleStart (s : State) : Host.Outcome State Fault Refusal :=
  .next (cycleCrossing s)

/-- VECTOR_RECEIVED (R74): The Mitre hub receives a lane's vector, checks its CRC-32C and forwards it with its verdict to the other two lanes. -/
def execVectorReceived (l : LaneId) (v : Bytes) (s : State) : Host.Outcome State Fault Refusal :=
  .next (crossing s (7 * l.num) v.length (.vectorReceived l v))

/-- VECTOR_DEADLINE (R74): At C_k + t_mx − 200 ns the hub marks every vector not completely received as absent and excludes its lane. -/
def execVectorDeadline (s : State) : Host.Outcome State Fault Refusal :=
  .next (vectorDeadline s)

/-- FORWARDED_VECTOR (R75): A lane receives a forwarded vector, rechecks its CRC-32C and agrees its words as they arrive. -/
def execForwardedVector (l from_ : LaneId) (v : Bytes) (s : State) : Host.Outcome State Fault Refusal :=
  .next (crossing s (7 * l.num + 1) v.length (.forwardedVector l from_ v))

/-- EXCHANGE_COMPLETE (R19): A lane completes the exchange and its engines start walking their order lists. -/
def execExchangeComplete (l : LaneId) (s : State) : Host.Outcome State Fault Refusal :=
  .next (exchangeComplete s l)

/-- LINK_WAIT_END (R124): A reader task held at its entry starts once the linked writer task on another engine has ended. -/
def execLinkWaitEnd (e : EngineId) (s : State) : Host.Outcome State Fault Refusal :=
  .next (linkWaitEnd s e)

/-- VOTE (R21): The vote entry fires and each lane submits its Q image and outgoing data to both voters. -/
def execVote (s : State) : Host.Outcome State Fault Refusal :=
  .next (vote s)

/-- DOVETAIL_VOTE (R85): The bitwise and signature voters judge the submissions and release, exclude a lane or enter the safe state. -/
def execDovetailVote (defect : Bool) (s : State) : Host.Outcome State Fault Refusal :=
  .next (dovetailVote s defect)

/-- RELEASE_DEADLINE (R21): A release that has not happened by O_k is a voter fault and the device enters the safe state. -/
def execReleaseDeadline (s : State) : Host.Outcome State Fault Refusal :=
  .next (releaseDeadline s)

/-- OUTPUT_APPLY (R23): At O_k each lane section sets its bridge elements from its copy of the released image. -/
def execOutputApply (s : State) : Host.Outcome State Fault Refusal :=
  .next (outputApply s)

/-- ENGINE_FAULT (R64): A comparator of a safe engine reports a difference or comparator disagreement. -/
def execEngineFault (e : EngineId) (bitwise signature : Bool) (s : State) : Host.Outcome State Fault Refusal :=
  .next (engineFault s e bitwise signature)

/-- CHANNEL_QUIET (R68): A lane section that receives no valid control channel frame for 1 µs opens its elements, stops its converters and drives
its section alarm. -/
def execChannelQuiet (l : LaneId) (s : State) : Host.Outcome State Fault Refusal :=
  .next (channelQuiet s l)

/-- SECTION_ALARM (R209): A section that receives another section's alarm during a test step recloses its test elements and reports the alarm. -/
def execSectionAlarm (l from_ : LaneId) (s : State) : Host.Outcome State Fault Refusal :=
  .next (sectionAlarm s l from_)

/-- LIMP_TIMER_EXPIRY (R91): The limp timer reaches zero and the device enters the safe state. -/
def execLimpTimerExpiry (s : State) : Host.Outcome State Fault Refusal :=
  .next (limpTimerExpiry s)

/-- REINTEGRATE_LANE (R93): A write of a lane number to 3006.02 in the privileged session commands its reintegration. -/
def execReintegrateLane (r : Sender) (d : Bytes) (s : State) : Host.Outcome State Fault Refusal :=
  .next (dictWrite s r 0x3006 2 d)

/-- AUTOMATIC_REINTEGRATION_START (R93): 100 ms after an exclusion the device starts an automatic reintegration if permitted. -/
def execAutomaticReintegrationStart (l : LaneId) (s : State) : Host.Outcome State Fault Refusal :=
  .next (automaticReint s l)

/-- LANE_SCRIBE_TEST (R72): A restarted lane runs patterns 0 to 63 on its engines' comparators. -/
def execLaneScribeTest (l : LaneId) (pass : Bool) (s : State) : Host.Outcome State Fault Refusal :=
  .next (laneScribeTest s l pass)

/-- TIME_LOCK (R44): The lane time counter is set from the first mark and declared locked after 16 further marks. -/
def execTimeLock (l : LaneId) (s : State) : Host.Outcome State Fault Refusal :=
  .next (timeLock s l)

/-- STATE_TRANSFER_BLOCK (R94): The reintegrating lane receives a 4 KiB block and the other donor's CRC-32C and accepts it only if they agree. -/
def execStateTransferBlock (l : LaneId) (blk : Nat) (d : Bytes) (crcA crcB : Nat) (s : State) : Host.Outcome State Fault Refusal :=
  .next (crossing s (7 * l.num + 1) d.length (.stateTransferBlock l blk d crcA crcB))

/-- SAFE_STATE_RELEASE (R99): A write of 16#A5 to 3007.00 in the privileged session restarts start-up from container load. -/
def execSafeStateRelease (r : Sender) (d : Bytes) (s : State) : Host.Outcome State Fault Refusal :=
  .next (dictWrite s r 0x3007 0 d)

end Sys2Proof.Machine
end

