-- ==== Sys2Proof/Machine/CmdDict.lean ====
section
/-! DEFINITION. The commands of the dictionary server (chapter 17): one meaning for each command. -/

namespace Sys2Proof.Machine

open Sys2Proof

/-- JUNCTION_TICK (R448): At the end of each 1 µs junction tick the arrived requests are ordered and executed. -/
def execJunctionTick (s : State) : Host.Outcome State Fault Refusal :=
  .next (junctionTick s)

/-- REGISTER_WRITE (R449): A dictionary write to an entry without a row of its own passes the checks of Table 17-6 and is executed. -/
def execRegisterWrite (r : Sender) (index sub : Nat) (d : Bytes) (s : State) : Host.Outcome State Fault Refusal :=
  .next (dictWrite s r index sub d)

/-- DOMAIN_WRITE_SEGMENT (R445): A DOMAIN write segment opens or continues a transfer, and the last one executes the value. -/
def execDomainWriteSegment (r : Sender) (index sub offset : Nat) (last : Bool) (d : Bytes) (s : State) : Host.Outcome State Fault Refusal :=
  .next (immediate s { writeReq r index sub d with op := 4, last := last, offset := offset } .plain)

/-- DOMAIN_READ_SEGMENT (R446): A DOMAIN read segment captures the value at offset 0 and serves segments from the capture. -/
def execDomainReadSegment (r : Sender) (index sub offset : Nat) (s : State) : Host.Outcome State Fault Refusal :=
  .next (immediate s { readReq r index sub with op := 3, offset := offset } .plain)

/-- DOMAIN_TRANSFER_TIMEOUT (R445): A DOMAIN write transfer with no segment for 10 s is discarded. -/
def execDomainTransferTimeout (client : Nat) (s : State) : Host.Outcome State Fault Refusal :=
  .next (xferTimeout s client)

/-- CAPTURE_TIMEOUT (R446): A DOMAIN read capture without a segment for 10 s is released. -/
def execCaptureTimeout (client : Nat) (s : State) : Host.Outcome State Fault Refusal :=
  .next (captureTimeout s client)

/-- BINDING_EXPIRY (R442): A client binding ends 60 s after the last request, discarding its history and cursors. -/
def execBindingExpiry (client : Nat) (s : State) : Host.Outcome State Fault Refusal :=
  .next (bindingExpiry s client)

/-- HISTORY_EXPIRY (R452): A duplicate history entry leaves the history 10 s after its response. -/
def execHistoryExpiry (client txn : Nat) (s : State) : Host.Outcome State Fault Refusal :=
  .next (historyExpiry s client txn)

end Sys2Proof.Machine
end

