-- ==== Sys2Proof/Machine/CmdField.lean ====
section
/-! DEFINITION. The commands of the field side and the measurement (chapters 07 and 08): one meaning for each command. -/

namespace Sys2Proof.Machine

open Sys2Proof

/-- FIELD_UNDERVOLTAGE (R190): FS_PWR below 18.0 V for 100 µs sets the field undervoltage flag. -/
def execFieldUndervoltage (l : LaneId) (mV : Nat) (s : State) : Host.Outcome State Fault Refusal :=
  .next (fieldUndervoltage s l mV)

/-- FIELD_UNDERVOLTAGE_CLEAR (R190): FS_PWR at or above 18.5 V for 100 µs clears the flag. -/
def execFieldUndervoltageClear (l : LaneId) (mV : Nat) (s : State) : Host.Outcome State Fault Refusal :=
  .next (fieldUndervoltageClear s l mV)

/-- FIELD_DIE_RESET (R190): FS_PWR below 16.0 V resets the field die and opens every element. -/
def execFieldDieReset (mV : Nat) (s : State) : Host.Outcome State Fault Refusal :=
  .next (fieldDieReset s mV)

/-- FIELD_DIE_BOOT (R190): The field die completes its boot after FS_PWR rises and its control channels resume. -/
def execFieldDieBoot (mV : Nat) (s : State) : Host.Outcome State Fault Refusal :=
  .next (fieldDieBoot s mV)

/-- DI_RAW_CLASS_CHANGE (R193): An input current crosses a threshold and a path's raw class changes. -/
def execDiRawClassChange (l : LaneId) (n : Fin 32) (uA : Nat) (s : State) : Host.Outcome State Fault Refusal :=
  .next (diRaw s l n.val uA)

/-- FILTER_EXPIRY (R195): A raw class held for t_filter becomes the path's filtered class. -/
def execFilterExpiry (l : LaneId) (n : Fin 32) (s : State) : Host.Outcome State Fault Refusal :=
  .next (filterExpiry s l n.val)

/-- PULSE_COUNT (R197): A raw transition into on, after the 2 µs deglitch, advances a path's pulse count. -/
def execPulseCount (l : LaneId) (n : Fin 8) (s : State) : Host.Outcome State Fault Refusal :=
  .next (pulseCount s l n.val)

/-- OVERLOAD (R200): A channel at its current limit for more than 500 µs reports overload. -/
def execOverload (ch : Fin 16) (s : State) : Host.Outcome State Fault Refusal :=
  .next (overload s ch.val)

/-- THERMAL_SHUTDOWN (R200): A channel reaching its shutdown temperature opens all six elements. -/
def execThermalShutdown (ch : Fin 16) (s : State) : Host.Outcome State Fault Refusal :=
  .next (thermalShutdown s ch.val)

/-- THERMAL_RESTART (R200): A shut-down channel below 150 °C follows the image again by its thermal mode. -/
def execThermalRestart (ch : Fin 16) (s : State) : Host.Outcome State Fault Refusal :=
  .next (thermalRestart s ch.val)

/-- DEMAGNETISATION_END (R202): A section's comparator sees the demagnetisation end and closes pending elements if still commanded on. -/
def execDemagnetisationEnd (l : LaneId) (ch : Fin 16) (s : State) : Host.Outcome State Fault Refusal :=
  .next (demagEnd s l ch.val)

/-- DEMAGNETISATION_OVERRUN (R202): Demagnetisation longer than 25 ms reports overrun. -/
def execDemagnetisationOverrun (ch : Fin 16) (s : State) : Host.Outcome State Fault Refusal :=
  .next (demagOverrun s ch.val)

/-- OPEN_WIRE_ON (R203): A commanded-on channel below 8 mA for 1 ms reports open wire in the on state. -/
def execOpenWireOn (l : LaneId) (ch : Fin 16) (uA : Nat) (s : State) : Host.Outcome State Fault Refusal :=
  .next (openWireOn s l ch.val uA)

/-- OPEN_WIRE_OFF (R203): 2 ms after switch-off an output above 4.0 V reports open wire in the off state. -/
def execOpenWireOff (l : LaneId) (ch : Fin 16) (mV : Nat) (s : State) : Host.Outcome State Fault Refusal :=
  .next (openWireOff s l ch.val mV)

/-- GROUP_SUPPLY_LOSS (R203): DOVS below 15.0 V for 100 µs reports group supply loss for all four channels. -/
def execGroupSupplyLoss (g : Fin 4) (mV : Nat) (s : State) : Host.Outcome State Fault Refusal :=
  .next (groupLoss s g.val mV)

/-- GROUP_SUPPLY_RESTORED (R203): DOVS above 17.0 V ends the group supply loss. -/
def execGroupSupplyRestored (g : Fin 4) (mV : Nat) (s : State) : Host.Outcome State Fault Refusal :=
  .next (groupRestored s g.val mV)

/-- STANDING_CHECK (R205): At O_k + 8 µs each section checks the midpoints of every off channel for stuck-closed elements. -/
def execStandingCheck (l : LaneId) (ch : Fin 16) (mids : Tri Nat) (out : Nat) (s : State) : Host.Outcome State Fault Refusal :=
  .next (standingCheck s l ch.val mids out)

/-- ELEMENT_TEST_MEASURE (R206): At O_k + 8 µs of a step cycle every section measures channel and remaining-path current. -/
def execElementTestMeasure (l : LaneId) (ch : Fin 16) (paths : Tri Nat) (s : State) : Host.Outcome State Fault Refusal :=
  .next (elementMeasure s l ch.val paths)

/-- ELEMENT_TEST_OPEN (R206): At O_k + 10 µs the stepping section opens its elements of proceeding channels. -/
def execElementTestOpen (s : State) : Host.Outcome State Fault Refusal :=
  .next (elementOpen s)

/-- ELEMENT_TEST_CHECK (R206): At O_k + 50 µs every section checks that the stepping lane's paths carry less than 1 mA. -/
def execElementTestCheck (l : LaneId) (ch : Fin 16) (paths : Tri Nat) (s : State) : Host.Outcome State Fault Refusal :=
  .next (elementCheck s l ch.val paths)

/-- ELEMENT_TEST_RECLOSE (R206): At O_k + 52 µs the stepping section recloses its elements if still commanded on. -/
def execElementTestReclose (s : State) : Host.Outcome State Fault Refusal :=
  .next (elementReclose s)

/-- PATH_NOT_CONDUCTING (R207): A judged path carrying under 1 mA for 1 ms sets bit 11 and its elements' map bits. -/
def execPathNotConducting (l : LaneId) (ch : Fin 16) (path : Fin 3) (total : Nat) (s : State) : Host.Outcome State Fault Refusal :=
  .next (pathNotConducting s l ch.val path.val total)

/-- OFF_PULSE_START (R211): At O_k + 10 µs every section opens all its elements of the due channel. -/
def execOffPulseStart (ch : Fin 16) (s : State) : Host.Outcome State Fault Refusal :=
  .next (offPulseStart s ch.val)

/-- OFF_PULSE_CHECK (R211): 2 µs before the pulse ends each section compares the output with 3.0 V. -/
def execOffPulseCheck (l : LaneId) (ch : Fin 16) (mV : Nat) (s : State) : Host.Outcome State Fault Refusal :=
  .next (offPulseCheck s l ch.val mV)

/-- OFF_PULSE_END (R211): At the end of w_op the elements reclose. -/
def execOffPulseEnd (ch : Fin 16) (s : State) : Host.Outcome State Fault Refusal :=
  .next (offPulseEnd s ch.val)

/-- HEALTH_TOGGLE (R215): At each 50 µs instant of lane time a section closes or opens its HEALTH elements. -/
def execHealthToggle (l : LaneId) (s : State) : Host.Outcome State Fault Refusal :=
  .next (healthToggle s l)

/-- LA_CONVERSION (R224): A line-analog converter converts at each 500 ns grid instant. -/
def execLaConversion (l : LaneId) (n : Fin 4) (uV : Int) (s : State) : Host.Outcome State Fault Refusal :=
  .next (laConversion s l n.val uV)

/-- DECIMATED_SAMPLE (R228): Every 20 µs the lane averages 40 conversions into a decimated sample in line units. -/
def execDecimatedSample (l : LaneId) (s : State) : Host.Outcome State Fault Refusal :=
  .next (decimatedSample s l)

/-- RECOGNITION_EVALUATION (R230): Every 4 ms the recognition unit measures its windows and forms the raw and confirmed class. -/
def execRecognitionEvaluation (l : LaneId) (s : State) : Host.Outcome State Fault Refusal :=
  .next (recognitionEvaluation s l)

/-- RECOGNITION_PUBLICATION (R232): 1 ms after an evaluation its results are published in the lane. -/
def execRecognitionPublication (l : LaneId) (s : State) : Host.Outcome State Fault Refusal :=
  .next (recognitionPublication s l)

/-- SHUNT_PROTECTION_OPEN (R222): A current above 25 mA for 10 µs opens the shunt's protection switch. -/
def execShuntProtectionOpen (n : Fin 8) (uA : Nat) (s : State) : Host.Outcome State Fault Refusal :=
  .next (shuntOpen s n.val uA)

/-- SHUNT_PROTECTION_RECLOSE (R222): After 1 s the protection switch recloses. -/
def execShuntProtectionReclose (n : Fin 8) (s : State) : Host.Outcome State Fault Refusal :=
  .next (shuntReclose s n.val)

end Sys2Proof.Machine
end

