-- ==== Sys2Proof/Machine/CmdPorts.lean ====
section
/-! DEFINITION. The commands of the ECN ports, CAN, the host link and the check-value units (chapter 11): one meaning for each command. -/

namespace Sys2Proof.Machine

open Sys2Proof

/-- ECN_TRANSMIT (R304): An ECN transmit entry fires and the port queues the telegram of the locked buffer. -/
def execEcnTransmit (entry : Nat) (s : State) : Host.Outcome State Fault Refusal :=
  .next (ecnTransmit s entry)

/-- TELEGRAM_DEADLINE (R304): 4 µs before an ECN entry fires the buffer of the latest publishing release is locked. -/
def execTelegramDeadline (entry : Nat) (s : State) : Host.Outcome State Fault Refusal :=
  .next (telegramDeadline s entry)

/-- TELEGRAM_RECEIVED (R306): An ECN frame is checked and taken by the lowest-numbered matching receive context. -/
def execTelegramReceived (p : EcnPort) (f : EFrame) (s : State) : Host.Outcome State Fault Refusal :=
  .next (crossing s 32 f.payload.length (.telegramReceived p f))

/-- ARP_REQUEST (R301): An ECN port answers an ARP request for its own address. -/
def execArpRequest (p : EcnPort) (target src : Nat) (s : State) : Host.Outcome State Fault Refusal :=
  .next (crossing s 32 64 (.arpRequest p target src))

/-- ARP_REPLY (R301): An ECN port resolves the MAC address of a unicast destination. -/
def execArpReply (p : EcnPort) (ip mac : Nat) (s : State) : Host.Outcome State Fault Refusal :=
  .next (crossing s 32 64 (.arpReply p ip mac))

/-- ARP_ENTRY_EXPIRY (R301): A resolved MAC address is discarded after 300 s. -/
def execArpEntryExpiry (p : EcnPort) (ip : Nat) (s : State) : Host.Outcome State Fault Refusal :=
  .next (arpEntryExpiry s p ip)

/-- ICMP_ECHO_REQUEST (R301): An ECN port answers an ICMP echo request, at most 10 per second. -/
def execIcmpEchoRequest (p : EcnPort) (src dst : Nat) (s : State) : Host.Outcome State Fault Refusal :=
  .next (crossing s 32 64 (.icmpEchoRequest p src dst))

/-- DICTIONARY_DATAGRAM (R443): A UDP datagram to the dictionary port arrives on an ECN port or the ring. -/
def execDictionaryDatagram (r : Sender) (dstPort : Nat) (body : Bytes) (s : State) : Host.Outcome State Fault Refusal :=
  .next (crossing s (datagramCrossing r) body.length (.dictionaryDatagram r dstPort body))

/-- ECN_LINK_CHANGE (R300): The external PHY reports a link speed, duplex or loss through SGMII. -/
def execEcnLinkChange (p : EcnPort) (speed : Nat) (full : Bool) (s : State) : Host.Outcome State Fault Refusal :=
  .next (ecnLinkChange s p speed full)

/-- PHY_RESET_RELEASE (R300): 10 ms after junction boot ECN_PHY_RST_N is released. -/
def execPhyResetRelease (s : State) : Host.Outcome State Fault Refusal :=
  .next (phyResetRelease s)

/-- CAN_FRAME_RECEIVED (R310): A CAN frame completes and is taken by the lowest-numbered matching receive object. -/
def execCanFrameReceived (c : CanCtl) (f : CFrame) (s : State) : Host.Outcome State Fault Refusal :=
  .next (crossing s 34 16 (.canFrameReceived c f))

/-- HEARTBEAT_RECEIVED (R312): A heartbeat from a monitored node starts or restarts its consumer monitoring. -/
def execHeartbeatReceived (c : CanCtl) (node : Nat) (s : State) : Host.Outcome State Fault Refusal :=
  .next (crossing s 34 16 (.heartbeatReceived c node))

/-- HEARTBEAT_CONSUMER_EXPIRY (R312): A heartbeat consumer time expires and the station concerned drops. -/
def execHeartbeatConsumerExpiry (n : Fin 32) (s : State) : Host.Outcome State Fault Refusal :=
  .next (heartbeatExpiry s n)

/-- HEARTBEAT_PRODUCER (R311): The producer heartbeat time elapses and the node sends its heartbeat. -/
def execHeartbeatProducer (c : CanCtl) (s : State) : Host.Outcome State Fault Refusal :=
  .next (heartbeatProducer s c)

/-- NMT_START (R311): An NMT start command puts the controller in Operational, ignored in the safe state. -/
def execNmtStart (c : CanCtl) (node : Nat) (s : State) : Host.Outcome State Fault Refusal :=
  .next (crossing s 34 16 (.nmtStart c node))

/-- NMT_STOP (R311): An NMT stop command puts the controller in Stopped. -/
def execNmtStop (c : CanCtl) (node : Nat) (s : State) : Host.Outcome State Fault Refusal :=
  .next (crossing s 34 16 (.nmtStop c node))

/-- NMT_ENTER_PRE_OPERATIONAL (R311): An NMT enter pre-operational command puts the controller in Pre-operational. -/
def execNmtEnterPreOperational (c : CanCtl) (node : Nat) (s : State) : Host.Outcome State Fault Refusal :=
  .next (crossing s 34 16 (.nmtEnterPreOperational c node))

/-- NMT_RESET_COMMUNICATION (R311): An NMT reset communication command resets that controller's communication state. -/
def execNmtResetCommunication (c : CanCtl) (node : Nat) (s : State) : Host.Outcome State Fault Refusal :=
  .next (crossing s 34 16 (.nmtResetCommunication c node))

/-- NMT_RESET_NODE (R311): An NMT reset node command is handled as reset communication and counted. -/
def execNmtResetNode (c : CanCtl) (node : Nat) (s : State) : Host.Outcome State Fault Refusal :=
  .next (crossing s 34 16 (.nmtResetNode c node))

/-- SDO_INITIATE (R313): An SDO initiate starts a transfer on a channel, discarding any running one. -/
def execSdoInitiate (ch : Fin 8) (upload : Bool) (index sub : Nat) (expedited : Option Bytes) (s : State) : Host.Outcome State Fault Refusal :=
  .next (crossing s 34 16 (.sdoInitiate ch upload index sub expedited))

/-- SDO_SEGMENT (R313): An SDO segment or block continues a transfer, and the last one forms the dictionary request. -/
def execSdoSegment (ch : Fin 8) (d : Bytes) (last : Bool) (s : State) : Host.Outcome State Fault Refusal :=
  .next (crossing s 34 d.length (.sdoSegment ch d last))

/-- SDO_SEGMENT_TIMEOUT (R313): A segment not following within 1 s aborts the transfer with 16#05040000. -/
def execSdoSegmentTimeout (ch : Fin 8) (s : State) : Host.Outcome State Fault Refusal :=
  .next (sdoTimeout s ch.val)

/-- BUS_OFF (R309): A CAN controller enters bus-off under its error counters. -/
def execBusOff (c : CanCtl) (s : State) : Host.Outcome State Fault Refusal :=
  .next (busOff s c)

/-- BUS_OFF_RECOVERY (R309): After 128 occurrences of 11 recessive bits the controller recovers from bus-off. -/
def execBusOffRecovery (c : CanCtl) (s : State) : Host.Outcome State Fault Refusal :=
  .next (busOffRecovery s c)

/-- CONTROLLER_RESTART (R309): A write of 1 to 4800.0E restarts a controller that stays off after eight bus-offs. -/
def execControllerRestart (r : Sender) (c : CanCtl) (d : Bytes) (s : State) : Host.Outcome State Fault Refusal :=
  .next (dictWrite s r (canIndex c) 14 d)

/-- CONTROLLER_ERROR_PASSIVE (R309): A CAN controller's error counters cross into or out of error-passive, and it sends EMCY 16#8120 or the error reset. -/
def execControllerErrorPassive (c : CanCtl) (tec rec_ : Nat) (s : State) : Host.Outcome State Fault Refusal :=
  .next (errorPassive s c tec rec_)

/-- CAN_ARBITRATION_WON (R310): A queued CAN frame wins bus arbitration and is sent, after which it can no longer be withdrawn or replaced. -/
def execCanArbitrationWon (c : CanCtl) (obj : Fin 32) (s : State) : Host.Outcome State Fault Refusal :=
  .next (canArbitrationWon s c obj)

/-- HOST_REQUEST (R315): Host link command 16#01 delivers a request body that is accepted once complete with a correct CRC-32C. -/
def execHostRequest (bytes : Bytes) (s : State) : Host.Outcome State Fault Refusal :=
  .next (crossing s 35 bytes.length (.hostRequest bytes))

/-- READ_RESPONSE (R316): Host link command 16#02 reads the oldest queued response, removing it only when fully clocked. -/
def execReadResponse (clocked : Nat) (s : State) : Host.Outcome State Fault Refusal :=
  .next (readResponse s clocked)

/-- HOST_STATUS (R316): Host link command 16#03 returns the status word and clears the sticky bits. -/
def execHostStatus (clocked : Nat) (s : State) : Host.Outcome State Fault Refusal :=
  .next (hostStatus s clocked)

/-- UNKNOWN_COMMAND (R314): Any other host link command returns 16#00 and is counted. -/
def execUnknownCommand (cmd : Byte) (s : State) : Host.Outcome State Fault Refusal :=
  .next (unknownCommand s cmd)

/-- CVU_INITIALISE (R319): A write of POLY to 4A0n.05 initialises a junction unit and claims it for the client. -/
def execCvuInitialise (r : Sender) (n : Fin 8) (d : Bytes) (s : State) : Host.Outcome State Fault Refusal :=
  .next (dictWrite s r (0x4A00 + n.val) 5 d)

/-- CVU_FEED_BYTE (R319): A write to 4A0n.06 feeds one byte to a claimed unit. -/
def execCvuFeedByte (r : Sender) (n : Fin 8) (d : Bytes) (s : State) : Host.Outcome State Fault Refusal :=
  .next (dictWrite s r (0x4A00 + n.val) 6 d)

/-- CVU_FEED_HALF_WORD (R319): A write to 4A0n.07 feeds two bytes to a claimed unit. -/
def execCvuFeedHalfWord (r : Sender) (n : Fin 8) (d : Bytes) (s : State) : Host.Outcome State Fault Refusal :=
  .next (dictWrite s r (0x4A00 + n.val) 7 d)

/-- CVU_FEED_WORD (R319): A write to 4A0n.08 feeds four bytes to a claimed unit. -/
def execCvuFeedWord (r : Sender) (n : Fin 8) (d : Bytes) (s : State) : Host.Outcome State Fault Refusal :=
  .next (dictWrite s r (0x4A00 + n.val) 8 d)

/-- CVU_RESULT_READ (R319): A read of 4A0n.09 returns the finished value of a claimed unit. -/
def execCvuResultRead (r : Sender) (n : Fin 8) (s : State) : Host.Outcome State Fault Refusal :=
  .next (dictRead s r (0x4A00 + n.val) 9)

/-- CVU_RELEASE_CLAIM (R319): A write to 4A0n.0A ends the claim on a unit. -/
def execCvuReleaseClaim (r : Sender) (n : Fin 8) (d : Bytes) (s : State) : Host.Outcome State Fault Refusal :=
  .next (dictWrite s r (0x4A00 + n.val) 10 d)

/-- CVU_CLAIM_TIMEOUT (R319): A claim ends after 10 s without access. -/
def execCvuClaimTimeout (n : Fin 8) (s : State) : Host.Outcome State Fault Refusal :=
  .next (cvuTimeout s n.val)

end Sys2Proof.Machine
end

