-- ==== Sys2Proof/Machine/CmdPower.lean ====
section
/-! DEFINITION. The commands of the clock domains, power, reset and start-up (chapters 15 and 16): one meaning for each command. -/

namespace Sys2Proof.Machine

open Sys2Proof

/-- DOMAIN_LOST (R396): A clock domain without an edge for 2 µs is marked lost. -/
def execDomainLost (d : Fin 11) (s : State) : Host.Outcome State Fault Refusal :=
  .next (loseDomain s d.val)

/-- DOMAIN_RUNNING (R396): A lost domain with 1 µs of uninterrupted edges is marked running. -/
def execDomainRunning (d : Fin 11) (s : State) : Host.Outcome State Fault Refusal :=
  .next (runDomain s d.val)

/-- CROSSING_STALLED (R406): A side that waits 10 µs for progress on a crossing reports it stalled. -/
def execCrossingStalled (x : Fin 42) (s : State) : Host.Outcome State Fault Refusal :=
  .next (stallCrossing s x.val)

/-- FLUSH_HANDSHAKE (R408): A side leaving reset flushes and reopens its crossings through FLUSH and FLUSH_ACK. -/
def execFlushHandshake (x : Fin 42) (sourceReset destReset : Bool) (s : State) : Host.Outcome State Fault Refusal :=
  .next (flushCrossing s x.val sourceReset destReset)

/-- CROSSING_CLEAR (R410): A write to 22xx.07 clears a crossing's sticky bits and counters. -/
def execCrossingClear (r : Sender) (x : Fin 42) (d : Bytes) (s : State) : Host.Outcome State Fault Refusal :=
  .next (dictWrite s r (0x2210 + x.val) 7 d)

/-- CLEAR_ALL_CROSSING_FLAGS (R410): A write to 2203.00 clears the flags of every crossing. -/
def execClearAllCrossingFlags (r : Sender) (d : Bytes) (s : State) : Host.Outcome State Fault Refusal :=
  .next (dictWrite s r 0x2203 0 d)

/-- POWER_ON (R425): VIN good is reached from power off and the module reset starts start-up. -/
def execPowerOn (s : State) : Host.Outcome State Fault Refusal :=
  .next (powerOn s)

/-- MODULE_RESET (R426): A module reset from any source resets every domain and starts the start-up sequence at ROM boot. -/
def execModuleReset (source : ResetSource) (s : State) : Host.Outcome State Fault Refusal :=
  .next (resetBy s source)

/-- CONTAINER_LOAD (R427): The lanes stream their container copies, the agreed copy is verified and admitted, and the ring controller enters LISTEN. -/
def execContainerLoad (s : State) : Host.Outcome State Fault Refusal :=
  .next (containerLoad s)

/-- SCRIBE_TEST (R70): The scribe test injects 64 patterns into every unsplit engine's comparators and both voters. -/
def execScribeTest (failing : Option (Nat × Nat)) (s : State) : Host.Outcome State Fault Refusal :=
  .next (scribeTest s failing)

/-- LANE_BOOT (R88): The lanes load their engines, apply the split pattern and lock their time counters. -/
def execLaneBoot (ok : Tri Bool) (s : State) : Host.Outcome State Fault Refusal :=
  .next (laneBoot s ok)

/-- STATE_RESTORE (R380): The lanes offer journal candidates, agree a commit and copy a minority lane. -/
def execStateRestore (s : State) : Host.Outcome State Fault Refusal :=
  .next (stateRestore s)

/-- RING_INTEGRATION (R297): Start-up step 6 completes when the ring controller reaches ACTIVE or ALONE. -/
def execRingIntegration (s : State) : Host.Outcome State Fault Refusal :=
  .next (ringIntegration s)

/-- FIRST_VOTED_CYCLE (R429): At the second cycle start after step 6 the first batch is closed and RUN is entered. -/
def execFirstVotedCycle (s : State) : Host.Outcome State Fault Refusal :=
  .next (firstVotedCycle s)

/-- RESET_N (R425): RESET_N held low for at least 1 µs resets the module without a final commit. -/
def execResetN (s : State) : Host.Outcome State Fault Refusal :=
  .next (resetBy s .resetN)

/-- COMMANDED_RESTART (R425): A write of 16#A5 to 2010.00 in the session schedules a module reset 1 ms after the response. -/
def execCommandedRestart (r : Sender) (d : Bytes) (s : State) : Host.Outcome State Fault Refusal :=
  .next (dictWrite s r 0x2010 0 d)

/-- COMMANDED_RESTART_EFFECT (R425): 1 ms after the response the commanded restart makes its commit and leave frame and resets the module. -/
def execCommandedRestartEffect (s : State) : Host.Outcome State Fault Refusal :=
  .next (restartEffect s)

/-- OVERVOLTAGE (R412): A VIN input above 16.5 V for 10 µs is counted and recorded. -/
def execOvervoltage (_rail : Fin 4) (mV : Nat) (s : State) : Host.Outcome State Fault Refusal :=
  .next (overvoltageAt s mV)

/-- STAGE_1_ENTRY (R414): VIN_J below 10.2 V for more than 1 ms enters shedding stage 1. -/
def execStage1Entry (mV : Nat) (s : State) : Host.Outcome State Fault Refusal :=
  .next (stage1Entry s mV)

/-- STAGE_1_EXIT (R414): VIN_J at or above 10.5 V for 10 ms leaves stage 1 and shed functions resume. -/
def execStage1Exit (mV : Nat) (s : State) : Host.Outcome State Fault Refusal :=
  .next (stage1Exit s mV)

/-- STAGE_2_ENTRY (R417): VIN_J below 9.4 V for 100 µs enters stage 2 and stops the ECN ports and unvoted split halves. -/
def execStage2Entry (mV : Nat) (s : State) : Host.Outcome State Fault Refusal :=
  .next (stage2Entry s mV)

/-- STAGE_2_EXIT (R415): VIN_J at or above 9.7 V for 10 ms returns the device to stage 1. -/
def execStage2Exit (mV : Nat) (s : State) : Host.Outcome State Fault Refusal :=
  .next (stage2Exit s mV)

/-- POWER_FAIL_WARNING (R418): VIN_J below 8.8 V for 10 µs asserts PFW_N, enters the safe state and starts the final commit, flush and leave frame. -/
def execPowerFailWarning (mV : Nat) (s : State) : Host.Outcome State Fault Refusal :=
  .next (powerFail s mV)

/-- STAGE_4 (R414): VIN_J below 8.0 V for 2 µs resets the module and switches every domain off. -/
def execStage4 (mV : Nat) (s : State) : Host.Outcome State Fault Refusal :=
  .next (stage4 s mV)

/-- SUPPLY_RESTART (R421): VIN_J at or above 9.0 V for 100 ms after PFW_N without stage 4 resets the module. -/
def execSupplyRestart (mV : Nat) (s : State) : Host.Outcome State Fault Refusal :=
  .next (supplyRestart s mV)

/-- LANE_UNDERVOLTAGE (R423): A lane VIN below 7.8 V for 10 µs silences the lane and switches its domains off. -/
def execLaneUndervoltage (l : LaneId) (mV : Nat) (s : State) : Host.Outcome State Fault Refusal :=
  .next (laneSag s l mV)

/-- LANE_SUPPLY_RECOVERED (R424): A lane VIN at or above 9.0 V for 10 ms starts the 100 ms before automatic reintegration. -/
def execLaneSupplyRecovered (l : LaneId) (mV : Nat) (s : State) : Host.Outcome State Fault Refusal :=
  .next (laneRecovers s l mV)

end Sys2Proof.Machine
end

