-- ==== Sys2Proof/Machine/CmdRing.lean ====
section
/-! DEFINITION. The commands of the ring (chapters 09 and 10): one meaning for each command. -/

namespace Sys2Proof.Machine

open Sys2Proof

/-- RING_TRANSMIT_SLOT (R254): A transmit slot starts and the node sends its locked buffer, a SAFESTATE header or nothing. -/
def execRingTransmitSlot (entry : Nat) (s : State) : Host.Outcome State Fault Refusal :=
  .next (ringTransmitSlot s entry)

/-- SLOT_DEADLINE (R254): 4 µs before a slot the buffer of the latest publishing release is locked. -/
def execSlotDeadline (entry : Nat) (s : State) : Host.Outcome State Fault Refusal :=
  .next (slotDeadline s entry)

/-- FRAME_LEFT_PORT (R254): A frame has left the port and its locked buffer is unlocked. -/
def execFrameLeftPort (entry : Nat) (s : State) : Host.Outcome State Fault Refusal :=
  .next (frameLeftPort s entry)

/-- RING_RECEIVE_WINDOW (R256): A receive window of a flow opens and closes, and a window without an accepted frame counts as a miss. -/
def execRingReceiveWindow (entry : Nat) (opens : Bool) (s : State) : Host.Outcome State Fault Refusal :=
  .next (ringReceiveWindow s entry opens)

/-- SYNC_SLOT (R269): A node's sync slot starts and it sends a sync or coldstart frame. -/
def execSyncSlot (entry : Nat) (s : State) : Host.Outcome State Fault Refusal :=
  .next (syncSlot s entry)

/-- SYNC_RECEIVE_WINDOW (R278): A sync receive window of another sync node opens and closes. -/
def execSyncReceiveWindow (entry : Nat) (opens : Bool) (s : State) : Host.Outcome State Fault Refusal :=
  .next (syncReceiveWindow s entry opens)

/-- BEST_EFFORT_WINDOW (R264): A best-effort window starts and the port sends queued best-effort frames that fit. -/
def execBestEffortWindow (p : RingPort) (entry : Nat) (s : State) : Host.Outcome State Fault Refusal :=
  .next (bestEffortWindow s p entry)

/-- DATA_FRAME (R256): A port receives a data frame, which is checked, forwarded or stripped, and accepted into its receive context. -/
def execDataFrame (p : RingPort) (f : RFrame) (t : Nat) (s : State) : Host.Outcome State Fault Refusal :=
  .next (dataFrame s p f t)

/-- SYNC_FRAME (R278): A node receives a sync frame, accepts it in its window and forms its deviation. -/
def execSyncFrame (p : RingPort) (f : RFrame) (t : Nat) (s : State) : Host.Outcome State Fault Refusal :=
  .next (syncFrame s p f t)

/-- COLDSTART_FRAME (R273): A node receives a coldstart frame and adopts its claim or decides a coldstart contest. -/
def execColdstartFrame (p : RingPort) (f : RFrame) (t : Nat) (s : State) : Host.Outcome State Fault Refusal :=
  .next (coldstartFrame s p f t)

/-- TICK (R263): A port receives a tick from its neighbour and counts it. -/
def execTick (p : RingPort) (f : RFrame) (s : State) : Host.Outcome State Fault Refusal :=
  .next (tick s p f)

/-- TICK_TRANSMIT (R263): A port that has sent nothing for 8 µs sends a tick. -/
def execTickTransmit (p : RingPort) (s : State) : Host.Outcome State Fault Refusal :=
  .next (tickTransmit s p)

/-- WRAP_NOTICE (R291): A node receives a wrap notice, records it, forwards it and learns the break location. -/
def execWrapNotice (p : RingPort) (f : RFrame) (s : State) : Host.Outcome State Fault Refusal :=
  .next (wrapNotice s p f)

/-- LEAVE_FRAME (R419): A node receives a leave frame, counts it and forwards or consumes it. -/
def execLeaveFrame (p : RingPort) (f : RFrame) (s : State) : Host.Outcome State Fault Refusal :=
  .next (leaveFrame s p f)

/-- BEST_EFFORT_IPV4 (R249): A best-effort service 1 frame carrying an IPv4 packet is received and consumed or forwarded. -/
def execBestEffortIpv4 (p : RingPort) (f : RFrame) (s : State) : Host.Outcome State Fault Refusal :=
  .next (bestEffortIpv4 s p f)

/-- TIME_ANNOUNCEMENT_RECEIVED (R55): A node receives a time announcement and takes the TAI correction and UTC offset, recording conflicts. -/
def execTimeAnnouncementReceived (p : RingPort) (f : RFrame) (s : State) : Host.Outcome State Fault Refusal :=
  .next (timeAnnouncementReceived s p f)

/-- TIME_QUERY (R249): A ring controller receives a time query and answers it in the next secondary best-effort window. -/
def execTimeQuery (p : RingPort) (f : RFrame) (s : State) : Host.Outcome State Fault Refusal :=
  .next (timeQuery s p f)

/-- TIME_ANSWER (R274): An integrating node receives the answer to its latest time query and resolves the sender's full time. -/
def execTimeAnswer (p : RingPort) (f : RFrame) (t : Nat) (s : State) : Host.Outcome State Fault Refusal :=
  .next (timeAnswer s p f t)

/-- TIME_QUERY_TIMEOUT (R274): A time query unanswered for 1 s is repeated with a new query id. -/
def execTimeQueryTimeout (s : State) : Host.Outcome State Fault Refusal :=
  .next (timeQueryTimeout s)

/-- ROUND_END (R281): At the end of each round the node averages its deviations and updates offset, rate and start-up state. -/
def execRoundEnd (s : State) : Host.Outcome State Fault Refusal :=
  .next (roundEnd s)

/-- LISTEN_TIMEOUT (R272): A coldstart node's listen time elapses without matching frames and it enters COLDSTART. -/
def execListenTimeout (s : State) : Host.Outcome State Fault Refusal :=
  .next (listenTimeout s)

/-- BREAK_DETECTED (R287): A port receives no frame for 24 µs and detects a break. -/
def execBreakDetected (p : RingPort) (s : State) : Host.Outcome State Fault Refusal :=
  .next (breakDetected s p)

/-- RING_LINK_LOSS (R287): The PHY reports link loss and the port detects a break. -/
def execRingLinkLoss (p : RingPort) (s : State) : Host.Outcome State Fault Refusal :=
  .next (ringLinkLoss s p)

/-- RING_LINK_UP (R292): The PHY of a wrapped port reports link up. -/
def execRingLinkUp (p : RingPort) (s : State) : Host.Outcome State Fault Refusal :=
  .next (ringLinkUp s p)

/-- LINK_RESTORED (R292): A wrapped port's link has carried frames without a long gap for a full round and the node sends a cause-3 notice. -/
def execLinkRestored (p : RingPort) (s : State) : Host.Outcome State Fault Refusal :=
  .next (linkRestored s p)

/-- UNWRAP (R292): At the second round start after both restoration notices the port unwraps. -/
def execUnwrap (p : RingPort) (s : State) : Host.Outcome State Fault Refusal :=
  .next (unwrap s p)

/-- BYPASS_RELEASE (R295): 50 µs after a leave frame has left both ports the node releases BYP_E and BYP_W. -/
def execBypassRelease (s : State) : Host.Outcome State Fault Refusal :=
  .next (bypassRelease s)

/-- RING_INTEGRATION_TIMEOUT (R297): With 4230.05 TRUE the device completes start-up step 6 after 2 s. -/
def execRingIntegrationTimeout (s : State) : Host.Outcome State Fault Refusal :=
  .next (ringTimeout s)

end Sys2Proof.Machine
end

