-- ==== Sys2Proof/Machine/CmdStore.lean ====
section
/-! DEFINITION. The commands of the journal, the recorder, the monitors and privilege (chapters 14 and 13): one meaning for each command. -/

namespace Sys2Proof.Machine

open Sys2Proof

/-- COMMIT_WRITE_COMPLETE (R371): A journal record receives its trailer and becomes complete. -/
def execCommitWriteComplete (l : LaneId) (s : State) : Host.Outcome State Fault Refusal :=
  .next (commitComplete s l)

/-- CARRY_PIECE (R373): While no commit is written the controller copies a piece of at most 4 KiB into a carry record. -/
def execCarryPiece (l : LaneId) (blocks : List Nat) (s : State) : Host.Outcome State Fault Refusal :=
  .next (carryWrite s l blocks)

/-- SCRUB_EVALUATION (R382): At start-up and hourly the scrubber rewrites every region whose age reaches 5 years. -/
def execScrubEvaluation (s : State) : Host.Outcome State Fault Refusal :=
  .next (scrubAll s)

/-- DISCARD_STATE (R380): A write of 16#A5 to 3044.00 while stopped in step 5 voids every journal and starts from initial values. -/
def execDiscardState (r : Sender) (d : Bytes) (s : State) : Host.Outcome State Fault Refusal :=
  .next (dictWrite s r 0x3044 0 d)

/-- ARM (R383): A write of 16#A5 to 7001.01 adopts the area sizes, sets s_arm and discards the areas. -/
def execArm (r : Sender) (d : Bytes) (s : State) : Host.Outcome State Fault Refusal :=
  .next (dictWrite s r 0x7001 1 d)

/-- STAGING_DRAIN (R385): A staged record is moved into the recorder areas once room allows. -/
def execStagingDrain (s : State) : Host.Outcome State Fault Refusal :=
  .next (drainOne s)

/-- RECORD_AT_CURSOR (R386): A read of 7010.02 returns the record at the client's cursor and advances it. -/
def execRecordAtCursor (r : Sender) (s : State) : Host.Outcome State Fault Refusal :=
  .next (dictRead s r 0x7010 2)

/-- RECORD_BLOCK (R386): A read of 7010.03 returns up to 64 slots from the cursor and advances it. -/
def execRecordBlock (r : Sender) (offset : Nat) (s : State) : Host.Outcome State Fault Refusal :=
  .next (immediate s { readReq r 0x7010 3 with op := 3, offset := offset } .plain)

/-- FREEZE_BEGIN (R387): A write of 1 to 7011.01 in freeze mode makes the client freeze holder. -/
def execFreezeBegin (r : Sender) (s : State) : Host.Outcome State Fault Refusal :=
  .next (dictWrite s r 0x7011 1 [1])

/-- FREEZE_END (R387): A write of 0 by the holder ends the freeze and staged records enter the areas. -/
def execFreezeEnd (r : Sender) (s : State) : Host.Outcome State Fault Refusal :=
  .next (dictWrite s r 0x7011 1 [0])

/-- FREEZE_TIMEOUT (R387): A freeze holder silent for 60 s loses the freeze. -/
def execFreezeTimeout (s : State) : Host.Outcome State Fault Refusal :=
  .next (freezeOver s)

/-- ENTRY_AT_CURSOR (R389): A read of 7202.02 returns the change-log entry at the cursor and advances it. -/
def execEntryAtCursor (r : Sender) (s : State) : Host.Outcome State Fault Refusal :=
  .next (dictRead s r 0x7202 2)

/-- CLEAR_CHANGE_LOG (R390): A write of 16#A5 to 7203.00 clears the log and writes a kind 5 entry. -/
def execClearChangeLog (r : Sender) (d : Bytes) (s : State) : Host.Outcome State Fault Refusal :=
  .next (dictWrite s r 0x7203 0 d)

/-- CONTENTS_AND_CLEAR (R392): A read of 7140+n subindex 02 returns a monitor's content and clears it in the same tick. -/
def execContentsAndClear (r : Sender) (n : Fin 64) (s : State) : Host.Outcome State Fault Refusal :=
  .next (dictRead s r (0x7140 + n.val) 2)

/-- MONITOR_CLEAR (R391): A write to 7100+n subindex 06 clears a monitor. -/
def execMonitorClear (r : Sender) (n : Fin 64) (d : Bytes) (s : State) : Host.Outcome State Fault Refusal :=
  .next (dictWrite s r (0x7100 + n.val) 6 d)

/-- OPEN_SESSION (R355): A password written to 8010.01 opens the privileged session or fails by Table 13-4. -/
def execOpenSession (r : Sender) (d : Bytes) (s : State) : Host.Outcome State Fault Refusal :=
  .next (dictWrite s r 0x8010 1 d)

/-- CLOSE_SESSION (R357): A write to 8010.02 by the holder ends the session. -/
def execCloseSession (r : Sender) (d : Bytes) (s : State) : Host.Outcome State Fault Refusal :=
  .next (dictWrite s r 0x8010 2 d)

/-- SESSION_IDLE_TIMEOUT (R357): No request from the holder for the idle time ends the session. -/
def execSessionIdleTimeout (s : State) : Host.Outcome State Fault Refusal :=
  .next (sessionIdle s)

/-- LOCKOUT_END (R356): The 15 min lockout ends and the failure count returns to 0. -/
def execLockoutEnd (s : State) : Host.Outcome State Fault Refusal :=
  .next (lockoutOver s)

/-- NEW_PASSWORD (R359): A write to 8010.03 in the session stores a salted digest of a new password. -/
def execNewPassword (r : Sender) (d : Bytes) (s : State) : Host.Outcome State Fault Refusal :=
  .next (dictWrite s r 0x8010 3 d)

/-- CLEAR_PASSWORD (R359): A write of 16#A5 to 8010.04 removes the password and ends any session. -/
def execClearPassword (r : Sender) (d : Bytes) (s : State) : Host.Outcome State Fault Refusal :=
  .next (dictWrite s r 0x8010 4 d)

/-- PUBLIC_KEY (R361): A key written to an empty slot of 8101 to 8104 is validated and becomes active. -/
def execPublicKey (r : Sender) (n : Fin 4) (d : Bytes) (s : State) : Host.Outcome State Fault Refusal :=
  .next (dictWrite s r (0x8101 + n.val) 1 d)

/-- REVOKE_KEY (R364): A write of 16#A5 to 810n.04 revokes the key and enters it on the revocation list. -/
def execRevokeKey (r : Sender) (n : Fin 4) (d : Bytes) (s : State) : Host.Outcome State Fault Refusal :=
  .next (dictWrite s r (0x8101 + n.val) 4 d)

/-- MINIMUM_CONTAINER_VERSION (R365): A write to 8105.01 raises the minimum container version. -/
def execMinimumContainerVersion (r : Sender) (d : Bytes) (s : State) : Host.Outcome State Fault Refusal :=
  .next (dictWrite s r 0x8105 1 d)

/-- PLUG_READING (R353): Every 10 ms the junction and lanes read the plug, and changes of ESC7 take effect after three agreeing readings. -/
def execPlugReading (junction : Fin 256) (lanes : Tri (Fin 256)) (s : State) : Host.Outcome State Fault Refusal :=
  .next (plugReading s junction.val (lanes.map (fun x => x.val)))

/-- JTAG_INSTRUCTION (R366): A JTAG instruction is loaded and executed or replaced by BYPASS according to the mode. -/
def execJtagInstruction (code : JtagCode) (s : State) : Host.Outcome State Fault Refusal :=
  .next (jtagLoad s code)

/-- SUPPLY_RAIL_SAMPLE (R391): Every 1 ms a monitor of source kind 6 takes the voltage of its supply rail and updates. -/
def execSupplyRailSample (rail : Fin 9) (mV : Nat) (s : State) : Host.Outcome State Fault Refusal :=
  .next (railSample s rail.val mV)

/-- DIE_TEMPERATURE_READING (R471): Every 10 ms each die's sensor is read, a reading at or above 125 °C is counted, and kind 7 monitors update. -/
def execDieTemperatureReading (die : Fin 5) (t : Int) (s : State) : Host.Outcome State Fault Refusal :=
  .next (dieTemperature s die.val t)

end Sys2Proof.Machine
end

