-- ==== Sys2Proof/Machine/CmdTime.lean ====
section
/-! DEFINITION. The commands of the time base and PTP (chapter 02): one meaning for each command. -/

namespace Sys2Proof.Machine

open Sys2Proof

/-- TIME_MARK (R43): Every 125 µs the junction sends each lane a time mark, and the lane steers its counter to node time. -/
def execTimeMark (l : LaneId) (dev : Int) (valid : Bool) (s : State) : Host.Outcome State Fault Refusal :=
  .next (timeMark s l dev valid)

/-- MISSED_TIME_MARKS (R45): A locked lane misses four successive marks and reports a lane clock fault. -/
def execMissedTimeMarks (l : LaneId) (s : State) : Host.Outcome State Fault Refusal :=
  .next (missedTimeMarks s l)

/-- RATE_WINDOW_CHECK (R46): Over every 16-mark window a lane compares the node-time span with its crystal and reports a discrepancy above 200 ppm. -/
def execRateWindowCheck (l : LaneId) (s : State) : Host.Outcome State Fault Refusal :=
  .next (rateWindowCheck s l)

/-- DISCREPANCY_JUDGEMENT (R47): 4 ms after a lane's rate report the junction excludes that lane or raises a junction time fault. -/
def execDiscrepancyJudgement (s : State) : Host.Outcome State Fault Refusal :=
  .next (discrepancyJudgement s)

/-- DC_TRIGGER_ID_WRITE (R37): A write to a direct compare's trigger id arms it with its stored target. -/
def execDcTriggerIdWrite (r : Sender) (n : Fin 8) (d : Bytes) (s : State) : Host.Outcome State Fault Refusal :=
  .next (dictWrite s r (0x4010 + n.val) 2 d)

/-- EC_TRIGGER_ID_WRITE (R37): A write to an epoch compare's trigger id arms it with its 80-bit target. -/
def execEcTriggerIdWrite (r : Sender) (n : Fin 4) (d : Bytes) (s : State) : Host.Outcome State Fault Refusal :=
  .next (dictWrite s r (0x4018 + n.val) 3 d)

/-- EPOCH_COMPARE_ARMING (R37): When node SEC reaches target SEC − 1 an epoch compare arms its private 32-bit compare. -/
def execEpochCompareArming (n : Fin 4) (s : State) : Host.Outcome State Fault Refusal :=
  .next (epochCompareArming s n)

/-- DIRECT_COMPARE_FIRE (R38): An armed direct compare reaches its target, raises its user event trigger and disarms. -/
def execDirectCompareFire (n : Fin 8) (s : State) : Host.Outcome State Fault Refusal :=
  .next (directCompareFire s n)

/-- EPOCH_COMPARE_FIRE (R38): An armed epoch compare reaches its target and raises its user event trigger or a PPS_OUT pulse. -/
def execEpochCompareFire (n : Fin 4) (s : State) : Host.Outcome State Fault Refusal :=
  .next (epochCompareFire s n)

/-- USER_EVENT_TRIGGER (R41): A user event trigger entry fires and its id enters the batch of the next cycle start. -/
def execUserEventTrigger (entry : Nat) (s : State) : Host.Outcome State Fault Refusal :=
  .next (userEventTrigger s entry)

/-- PPS_OUT (R60): A PPS_OUT entry or second-aligned instant starts a pulse on PPS_OUT. -/
def execPpsOut (entry : Option Nat) (s : State) : Host.Outcome State Fault Refusal :=
  .next (ppsOut s entry)

/-- PPS_OUT_PULSE_END (R60): The pulse width of PPS_OUT elapses and the output falls. -/
def execPpsOutPulseEnd (s : State) : Host.Outcome State Fault Refusal :=
  .next (ppsOutPulseEnd s)

/-- PPS_IN_EDGE (R56): A rising edge on PPS_IN is stamped, accepted or rejected, and gives a TAI correction sample. -/
def execPpsInEdge (t : Nat) (s : State) : Host.Outcome State Fault Refusal :=
  .next (crossing s 22 16 (.ppsInEdge t))

/-- PPS_IN_EDGE_MISSING (R56): An expected PPS_IN edge does not arrive and counts as missing. -/
def execPpsInEdgeMissing (s : State) : Host.Outcome State Fault Refusal :=
  .next (ppsInEdgeMissing s)

/-- TAI_SECOND_WRITE (R58): A write to 4004.00 supplies the TAI second for the next accepted PPS_IN edge. -/
def execTaiSecondWrite (r : Sender) (d : Bytes) (s : State) : Host.Outcome State Fault Refusal :=
  .next (dictWrite s r 0x4004 0 d)

/-- TAI_SECOND_DISCARD (R58): A value written to 4004.00 that no edge consumes within 2 s is discarded and counted. -/
def execTaiSecondDiscard (s : State) : Host.Outcome State Fault Refusal :=
  .next (taiSecondDiscard s)

/-- CORRECTION_INVALIDATED (R58): 60 s after the reference is lost the kept TAI correction is marked not valid. -/
def execCorrectionInvalidated (s : State) : Host.Outcome State Fault Refusal :=
  .next (correctionInvalidated s)

/-- TIME_ANNOUNCEMENT (R249): Once per second the time-source node sends the TAI correction and UTC offset in best-effort service 2. -/
def execTimeAnnouncement (s : State) : Host.Outcome State Fault Refusal :=
  .next (timeAnnouncement s)

/-- LEAP_SECOND_APPLIED (R61): At the end of the UTC day the leap indicator is applied to the UTC offset. -/
def execLeapSecondApplied (s : State) : Host.Outcome State Fault Refusal :=
  .next (leapSecondApplied s)

/-- PTP_MESSAGE (R52): An ECN port receives an IEEE 1588 message and processes it in export or monitor mode. -/
def execPtpMessage (p : EcnPort) (m : PtpMsg) (t : Nat) (s : State) : Host.Outcome State Fault Refusal :=
  .next (crossing s 32 64 (.ptpMessage p m t))

/-- PTP_SYNC_INTERVAL (R53): At each sync or announce interval an export-mode port sends its PTP messages. -/
def execPtpSyncInterval (p : EcnPort) (announce : Bool) (s : State) : Host.Outcome State Fault Refusal :=
  .next (ptpSyncInterval s p announce)

/-- PTP_MONITOR_SAMPLE (R54): Once per second a monitor-mode port at a node that is not the time source writes its offsetFromMaster and
meanPathDelay to the recorder. -/
def execPtpMonitorSample (p : EcnPort) (s : State) : Host.Outcome State Fault Refusal :=
  .next (ptpMonitorSample s p)

/-- FOREIGN_MASTER_DISAPPEARS (R53): An export-mode port in PASSIVE returns to MASTER when the better foreign master disappears. -/
def execForeignMasterDisappears (p : EcnPort) (s : State) : Host.Outcome State Fault Refusal :=
  .next (foreignMasterDisappears s p)

end Sys2Proof.Machine
end

