-- ==== Sys2Proof/Machine/SerzelBit.lean ====
section
/-! DEFINITION. Bit logic, brackets and edge detectors (05 R139 to R141): one meaning for each instruction. -/

namespace Sys2Proof.Machine

open Sys2Proof

/-- LD: BA takes the operand bit (05 R139, Table 05-3). -/
def execBLd (e : EngineId) (x : BitAddr) (s : State) : Host.Outcome State Fault Refusal :=
  .next (serzel s e (bitLogic x (fun _ a => a)))

/-- LDN: BA takes the inverted operand bit (05 R139, Table 05-3). -/
def execLdn (e : EngineId) (x : BitAddr) (s : State) : Host.Outcome State Fault Refusal :=
  .next (serzel s e (bitLogic x (fun _ a => !a)))

/-- AND: BA AND the operand bit (05 R139, Table 05-3). -/
def execBAnd (e : EngineId) (x : BitAddr) (s : State) : Host.Outcome State Fault Refusal :=
  .next (serzel s e (bitLogic x (fun b a => b && a)))

/-- ANDN: BA AND the inverted operand bit (05 R139, Table 05-3). -/
def execAndn (e : EngineId) (x : BitAddr) (s : State) : Host.Outcome State Fault Refusal :=
  .next (serzel s e (bitLogic x (fun b a => b && !a)))

/-- OR: BA OR the operand bit (05 R139, Table 05-3). -/
def execBOr (e : EngineId) (x : BitAddr) (s : State) : Host.Outcome State Fault Refusal :=
  .next (serzel s e (bitLogic x (fun b a => b || a)))

/-- ORN: BA OR the inverted operand bit (05 R139, Table 05-3). -/
def execOrn (e : EngineId) (x : BitAddr) (s : State) : Host.Outcome State Fault Refusal :=
  .next (serzel s e (bitLogic x (fun b a => b || !a)))

/-- XOR: BA XOR the operand bit (05 R139, Table 05-3). -/
def execBXor (e : EngineId) (x : BitAddr) (s : State) : Host.Outcome State Fault Refusal :=
  .next (serzel s e (bitLogic x (fun b a => Bool.xor b a)))

/-- XORN: BA XOR the inverted operand bit (05 R139, Table 05-3). -/
def execXorn (e : EngineId) (x : BitAddr) (s : State) : Host.Outcome State Fault Refusal :=
  .next (serzel s e (bitLogic x (fun b a => Bool.xor b (!a))))

/-- ST: the operand bit takes BA (05 R139). -/
def execBSt (e : EngineId) (x : BitAddr) (s : State) : Host.Outcome State Fault Refusal :=
  .next (serzel s e (bitStore x (fun b => b)))

/-- STN: the operand bit takes NOT BA (05 R139). -/
def execStn (e : EngineId) (x : BitAddr) (s : State) : Host.Outcome State Fault Refusal :=
  .next (serzel s e (bitStore x (fun b => !b)))

/-- S: the operand bit is set when BA is 1 (05 R139). -/
def execBSet (e : EngineId) (x : BitAddr) (s : State) : Host.Outcome State Fault Refusal :=
  .next (serzel s e (bitStoreIf x true))

/-- RST: the operand bit is cleared when BA is 1 (05 R139). -/
def execRst (e : EngineId) (x : BitAddr) (s : State) : Host.Outcome State Fault Refusal :=
  .next (serzel s e (bitStoreIf x false))

/-- NOT: BA is inverted (05 R139). -/
def execBNot (e : EngineId) (s : State) : Host.Outcome State Fault Refusal :=
  .next (serzel s e (fun x => (x.clocks 1).mapEn (fun en => { en with ba := !en.ba })))

/-- AND( pushes BA and AND (05 R140). -/
def execAndBracket (e : EngineId) (x : BitAddr) (s : State) : Host.Outcome State Fault Refusal :=
  .next (serzel s e (bracketOpen x .and))

/-- OR( pushes BA and OR (05 R140). -/
def execOrBracket (e : EngineId) (x : BitAddr) (s : State) : Host.Outcome State Fault Refusal :=
  .next (serzel s e (bracketOpen x .or))

/-- XOR( pushes BA and XOR (05 R140). -/
def execXorBracket (e : EngineId) (x : BitAddr) (s : State) : Host.Outcome State Fault Refusal :=
  .next (serzel s e (bracketOpen x .xor))

/-- The close bracket pops a value and its operator (05 R140). -/
def execBracketClose (e : EngineId) (s : State) : Host.Outcome State Fault Refusal :=
  .next (serzel s e bracketClose)

/-- EDGR: rising edge (05 R141). -/
def execEdgr (e : EngineId) (ofs : Fin 1048576) (pair : Fin 4) (s : State) : Host.Outcome State Fault Refusal :=
  .next (serzel s e (edge true ofs.val pair.val))

/-- EDGF: falling edge (05 R141). -/
def execEdgf (e : EngineId) (ofs : Fin 1048576) (pair : Fin 4) (s : State) : Host.Outcome State Fault Refusal :=
  .next (serzel s e (edge false ofs.val pair.val))

end Sys2Proof.Machine
end

