-- ==== Sys2Proof/Machine/SerzelCtl.lean ====
section
/-! DEFINITION. Moves, index registers, check values, publication, control flow, timers and counters (05 R151 to R160): one meaning for each
instruction. -/

namespace Sys2Proof.Machine

open Sys2Proof

/-- MOV: D takes the low w bits of S (05 R151). -/
def execMov (e : EngineId) (w : Wid) (d : Acc) (x : Src) (s : State) : Host.Outcome State Fault Refusal :=
  .next (serzel s e (movOp w d x))

/-- SWAP: WA and WB exchanged (05 R151). -/
def execSwap (e : EngineId) (s : State) : Host.Outcome State Fault Refusal :=
  .next (serzel s e (fun x => (x.clocks 1).mapEn (fun en => { en with wa := en.wb, wb := en.wa })))

/-- BA2W: D takes BA as 0 or 1 (05 R151). -/
def execBa2w (e : EngineId) (_w : Wid) (d : Acc) (s : State) : Host.Outcome State Fault Refusal :=
  .next (serzel s e (fun x => (x.clocks 1).mapEn (fun en => en.setAcc d (if en.ba then 1 else 0))))

/-- W2BA: BA takes whether the low w bits of S are not zero (05 R151). -/
def execW2ba (e : EngineId) (w : Wid) (x : Src) (s : State) : Host.Outcome State Fault Refusal :=
  .next (serzel s e (w2baOp w x))

/-- XLI: Xn takes an immediate (05 R152). -/
def execXli (e : EngineId) (n : Fin 4) (v : Fin 65536) (s : State) : Host.Outcome State Fault Refusal :=
  .next (serzel s e (indexOp n (fun _ => BitVec.ofNat 32 v.val)))

/-- XADD: a signed immediate added to Xn (05 R152). -/
def execXadd (e : EngineId) (n : Fin 4) (v : Fin 65536) (s : State) : Host.Outcome State Fault Refusal :=
  .next (serzel s e (indexOp n (fun en => en.xreg n + BitVec.ofInt 32 (signedOf 16 v.val))))

/-- XFROM: Xn takes the low 32 bits of an accumulator (05 R152). -/
def execXfrom (e : EngineId) (n : Fin 4) (r : Acc) (s : State) : Host.Outcome State Fault Refusal :=
  .next (serzel s e (indexOp n (fun en => (en.acc r).setWidth 32)))

/-- XTO: an accumulator takes Xn (05 R152). -/
def execXto (e : EngineId) (n : Fin 4) (r : Acc) (s : State) : Host.Outcome State Fault Refusal :=
  .next (serzel s e (fun x => (x.clocks 1).mapEn (fun en => en.setAcc r ((en.xreg n).setWidth 64))))

/-- XSHL: Xn shifted left (05 R152). -/
def execXshl (e : EngineId) (n : Fin 4) (v : Fin 8) (s : State) : Host.Outcome State Fault Refusal :=
  .next (serzel s e (indexOp n (fun en => en.xreg n <<< v.val)))

/-- CRCI: the unit takes a polynomial and its initial value (05 R159). -/
def execCrci (e : EngineId) (u : Fin 2) (poly : Fin 5) (s : State) : Host.Outcome State Fault Refusal :=
  .next (serzel s e (crcInit u poly.val))

/-- CRCB: one byte fed (05 R159). -/
def execCrcb (e : EngineId) (u : Fin 2) (r : Acc) (s : State) : Host.Outcome State Fault Refusal :=
  .next (serzel s e (crcFeedOp u 1 r))

/-- CRCH: two bytes fed (05 R159). -/
def execCrch (e : EngineId) (u : Fin 2) (r : Acc) (s : State) : Host.Outcome State Fault Refusal :=
  .next (serzel s e (crcFeedOp u 2 r))

/-- CRCW: four bytes fed (05 R159). -/
def execCrcw (e : EngineId) (u : Fin 2) (r : Acc) (s : State) : Host.Outcome State Fault Refusal :=
  .next (serzel s e (crcFeedOp u 4 r))

/-- CRCR: a register takes the finished value (05 R159). -/
def execCrcr (e : EngineId) (u : Fin 2) (r : Acc) (s : State) : Host.Outcome State Fault Refusal :=
  .next (serzel s e (crcRead u r))

/-- PUB of a ring flow (05 R160). -/
def execPubFlow (e : EngineId) (id : Fin 1024) (s : State) : Host.Outcome State Fault Refusal :=
  .next (serzel s e (publishOp 0 id.val))

/-- PUB of a telegram context (05 R160). -/
def execPubTelegram (e : EngineId) (p : EcnPort) (id : Fin 1024) (s : State) : Host.Outcome State Fault Refusal :=
  .next (serzel s e (publishOp (p.num + 1) id.val))

/-- JMP (05 R153). -/
def execJmp (e : EngineId) (tgt : Fin 65536) (s : State) : Host.Outcome State Fault Refusal :=
  .next (serzel s e (jumpTo tgt.val))

/-- JMPC: taken when BA = 1 (05 R153). -/
def execJmpc (e : EngineId) (tgt : Fin 65536) (s : State) : Host.Outcome State Fault Refusal :=
  .next (serzel s e (fun x => jumpIf x.en.ba tgt.val x))

/-- JMPCN: taken when BA = 0 (05 R153). -/
def execJmpcn (e : EngineId) (tgt : Fin 65536) (s : State) : Host.Outcome State Fault Refusal :=
  .next (serzel s e (fun x => jumpIf (!x.en.ba) tgt.val x))

/-- CAL (05 R155). -/
def execCal (e : EngineId) (tgt : Fin 65536) (s : State) : Host.Outcome State Fault Refusal :=
  .next (serzel s e (callTo tgt.val))

/-- CALC: taken when BA = 1 (05 R155). -/
def execCalc (e : EngineId) (tgt : Fin 65536) (s : State) : Host.Outcome State Fault Refusal :=
  .next (serzel s e (fun x => callIf x.en.ba tgt.val x))

/-- CALCN: taken when BA = 0 (05 R155). -/
def execCalcn (e : EngineId) (tgt : Fin 65536) (s : State) : Host.Outcome State Fault Refusal :=
  .next (serzel s e (fun x => callIf (!x.en.ba) tgt.val x))

/-- RET: return, or the end of the task at depth 0 (05 R155). -/
def execRet (e : EngineId) (s : State) : Host.Outcome State Fault Refusal :=
  .next (serzel s e retOp)

/-- LOOP: a counted loop (05 R154). -/
def execLoop (e : EngineId) (n : Fin 4) (len : Fin 1024) (max : Fin 16384) (s : State) : Host.Outcome State Fault Refusal :=
  .next (serzel s e (loopOp n len.val max.val))

/-- TON (05 R157). -/
def execTon (e : EngineId) (wall : Bool) (inst : Fin 131072) (s : State) : Host.Outcome State Fault Refusal :=
  .next (serzel s e (timerOp .ton false wall inst.val))

/-- TOF (05 R157). -/
def execTof (e : EngineId) (wall : Bool) (inst : Fin 131072) (s : State) : Host.Outcome State Fault Refusal :=
  .next (serzel s e (timerOp .tof false wall inst.val))

/-- TP (05 R157). -/
def execTp (e : EngineId) (wall : Bool) (inst : Fin 131072) (s : State) : Host.Outcome State Fault Refusal :=
  .next (serzel s e (timerOp .tp false wall inst.val))

/-- TONM: TON in ms (05 R157). -/
def execTonm (e : EngineId) (wall : Bool) (inst : Fin 131072) (s : State) : Host.Outcome State Fault Refusal :=
  .next (serzel s e (timerOp .ton true wall inst.val))

/-- CTU (05 R158). -/
def execCtu (e : EngineId) (inst : Fin 131072) (s : State) : Host.Outcome State Fault Refusal :=
  .next (serzel s e (counterOp inst.val (fun k ba wb pv => let r := k.ctu ba (bitOf wb 0); (r, decide (pv ≤ r.cv), none))))

/-- CTD (05 R158). -/
def execCtd (e : EngineId) (inst : Fin 131072) (s : State) : Host.Outcome State Fault Refusal :=
  .next (serzel s e (counterOp inst.val (fun k ba wb pv => let r := k.ctd ba (bitOf wb 0) pv; (r, decide (r.cv ≤ 0), none))))

/-- CTUD: QU in BA, QD in C (05 R158). -/
def execCtud (e : EngineId) (inst : Fin 131072) (s : State) : Host.Outcome State Fault Refusal :=
  .next (serzel s e (counterOp inst.val (fun k ba wb pv =>
    let r := k.ctud ba (bitOf wb 1) (bitOf wb 0) (bitOf wb 2) pv
    (r, decide (pv ≤ r.cv), some (decide (r.cv ≤ 0))))))

/-- A word with an undefined encoding is sequence fault 32 (05 R133, Table 05-10). -/
def execUndefinedEncoding (e : EngineId) (s : State) : Host.Outcome State Fault Refusal :=
  .next (serzel s e (fun x => x.seqFault 32))

end Sys2Proof.Machine
end

