-- ==== Sys2Proof/Machine/SerzelInt.lean ====
section
/-! DEFINITION. Integer, logic and compare instructions (05 R143 to R146): one meaning for each instruction. -/

namespace Sys2Proof.Machine

open Sys2Proof

/-- INT ADD: signed addition (05 R143, Table 05-4). -/
def execIntAdd (e : EngineId) (w : Wid) (d : Acc) (x : Src) (s : State) : Host.Outcome State Fault Refusal :=
  .next (serzel s e (intOp w d x 1 (fun a _ b => aluAddS w.bits a b)))

/-- INT SUB: signed subtraction (05 R143, Table 05-4). -/
def execIntSub (e : EngineId) (w : Wid) (d : Acc) (x : Src) (s : State) : Host.Outcome State Fault Refusal :=
  .next (serzel s e (intOp w d x 1 (fun a _ b => aluSubS w.bits a b)))

/-- INT NEG: negation of the source (05 R143, Table 05-4). -/
def execIntNeg (e : EngineId) (w : Wid) (d : Acc) (x : Src) (s : State) : Host.Outcome State Fault Refusal :=
  .next (serzel s e (intOp w d x 1 (fun _ _ b => aluNeg w.bits b)))

/-- INT ABS: absolute value of the source (05 R143, Table 05-4). -/
def execIntAbs (e : EngineId) (w : Wid) (d : Acc) (x : Src) (s : State) : Host.Outcome State Fault Refusal :=
  .next (serzel s e (intOp w d x 1 (fun _ _ b => aluAbs w.bits b)))

/-- INT MIN: the smaller (05 R143, Table 05-4). -/
def execIntMin (e : EngineId) (w : Wid) (d : Acc) (x : Src) (s : State) : Host.Outcome State Fault Refusal :=
  .next (serzel s e (intOp w d x 1 (fun a _ b => aluPlain w.bits (min a b))))

/-- INT MAX: the larger (05 R143, Table 05-4). -/
def execIntMax (e : EngineId) (w : Wid) (d : Acc) (x : Src) (s : State) : Host.Outcome State Fault Refusal :=
  .next (serzel s e (intOp w d x 1 (fun a _ b => aluPlain w.bits (max a b))))

/-- INT LIMIT: limit between the other accumulator and the source (05 R143, Table 05-4). -/
def execIntLimit (e : EngineId) (w : Wid) (d : Acc) (x : Src) (s : State) : Host.Outcome State Fault Refusal :=
  .next (serzel s e (intOp w d x 1 (fun a o b => aluPlain w.bits (limitOf a o b))))

/-- INT MUL: signed multiplication (05 R143, Table 05-4). -/
def execIntMul (e : EngineId) (w : Wid) (d : Acc) (x : Src) (s : State) : Host.Outcome State Fault Refusal :=
  .next (serzel s e (intOp w d x 3 (fun a _ b => aluMulS w.bits a b)))

/-- INT DIV: signed division (05 R144). -/
def execIntDiv (e : EngineId) (w : Wid) (d : Acc) (x : Src) (s : State) : Host.Outcome State Fault Refusal :=
  .next (serzel s e (intOp w d x 34 (fun a _ b => aluDivS w.bits a b)))

/-- INT MOD: signed remainder (05 R144). -/
def execIntMod (e : EngineId) (w : Wid) (d : Acc) (x : Src) (s : State) : Host.Outcome State Fault Refusal :=
  .next (serzel s e (intOp w d x 34 (fun a _ b => aluModS w.bits a b)))

/-- UINT ADD: unsigned addition (05 R143, Table 05-4). -/
def execUintAdd (e : EngineId) (w : Wid) (d : Acc) (x : Src) (s : State) : Host.Outcome State Fault Refusal :=
  .next (serzel s e (uintOp w d x 1 (fun a _ b => aluAddU w.bits a b)))

/-- UINT SUB: unsigned subtraction (05 R143, Table 05-4). -/
def execUintSub (e : EngineId) (w : Wid) (d : Acc) (x : Src) (s : State) : Host.Outcome State Fault Refusal :=
  .next (serzel s e (uintOp w d x 1 (fun a _ b => aluSubU w.bits a b)))

/-- UINT MIN: the smaller (05 R143, Table 05-4). -/
def execUintMin (e : EngineId) (w : Wid) (d : Acc) (x : Src) (s : State) : Host.Outcome State Fault Refusal :=
  .next (serzel s e (uintOp w d x 1 (fun a _ b => aluPlain w.bits (Nat.min a b : Nat))))

/-- UINT MAX: the larger (05 R143, Table 05-4). -/
def execUintMax (e : EngineId) (w : Wid) (d : Acc) (x : Src) (s : State) : Host.Outcome State Fault Refusal :=
  .next (serzel s e (uintOp w d x 1 (fun a _ b => aluPlain w.bits (Nat.max a b : Nat))))

/-- UINT LIMIT: limit between the other accumulator and the source (05 R143, Table 05-4). -/
def execUintLimit (e : EngineId) (w : Wid) (d : Acc) (x : Src) (s : State) : Host.Outcome State Fault Refusal :=
  .next (serzel s e (uintOp w d x 1 (fun a o b => aluPlain w.bits (limitOf a o b))))

/-- UINT MUL: unsigned multiplication (05 R143, Table 05-4). -/
def execUintMul (e : EngineId) (w : Wid) (d : Acc) (x : Src) (s : State) : Host.Outcome State Fault Refusal :=
  .next (serzel s e (uintOp w d x 3 (fun a _ b => aluMulU w.bits a b)))

/-- UINT DIV: unsigned division (05 R144). -/
def execUintDiv (e : EngineId) (w : Wid) (d : Acc) (x : Src) (s : State) : Host.Outcome State Fault Refusal :=
  .next (serzel s e (uintOp w d x 34 (fun a _ b => aluDivU a b)))

/-- UINT MOD: unsigned remainder (05 R144). -/
def execUintMod (e : EngineId) (w : Wid) (d : Acc) (x : Src) (s : State) : Host.Outcome State Fault Refusal :=
  .next (serzel s e (uintOp w d x 34 (fun a _ b => aluModU a b)))

/-- LOGIC AND: bitwise AND (05 R145, Table 05-5). -/
def execLogicAnd (e : EngineId) (w : Wid) (d : Acc) (x : Src) (s : State) : Host.Outcome State Fault Refusal :=
  .next (serzel s e (logicOp w d x (fun a s => aluBits w.bits (Nat.land a s))))

/-- LOGIC OR: bitwise OR (05 R145, Table 05-5). -/
def execLogicOr (e : EngineId) (w : Wid) (d : Acc) (x : Src) (s : State) : Host.Outcome State Fault Refusal :=
  .next (serzel s e (logicOp w d x (fun a s => aluBits w.bits (Nat.lor a s))))

/-- LOGIC XOR: bitwise XOR (05 R145, Table 05-5). -/
def execLogicXor (e : EngineId) (w : Wid) (d : Acc) (x : Src) (s : State) : Host.Outcome State Fault Refusal :=
  .next (serzel s e (logicOp w d x (fun a s => aluBits w.bits (Nat.xor a s))))

/-- LOGIC NOT: bitwise NOT of the source (05 R145, Table 05-5). -/
def execLogicNot (e : EngineId) (w : Wid) (d : Acc) (x : Src) (s : State) : Host.Outcome State Fault Refusal :=
  .next (serzel s e (logicOp w d x (fun _ s => aluBits w.bits (2 ^ w.bits - 1 - s % 2 ^ w.bits))))

/-- SHL: shift left (05 R145, Table 05-5). -/
def execShl (e : EngineId) (w : Wid) (d : Acc) (x : Src) (s : State) : Host.Outcome State Fault Refusal :=
  .next (serzel s e (logicOp w d x (fun a s => aluShl w.bits a (s % 64))))

/-- SHR: logical shift right (05 R145, Table 05-5). -/
def execShr (e : EngineId) (w : Wid) (d : Acc) (x : Src) (s : State) : Host.Outcome State Fault Refusal :=
  .next (serzel s e (logicOp w d x (fun a s => aluShr w.bits a (s % 64))))

/-- SAR: arithmetic shift right (05 R145, Table 05-5). -/
def execSar (e : EngineId) (w : Wid) (d : Acc) (x : Src) (s : State) : Host.Outcome State Fault Refusal :=
  .next (serzel s e (logicOp w d x (fun a s => aluSar w.bits a (s % 64))))

/-- ROL: rotate left (05 R145, Table 05-5). -/
def execRol (e : EngineId) (w : Wid) (d : Acc) (x : Src) (s : State) : Host.Outcome State Fault Refusal :=
  .next (serzel s e (logicOp w d x (fun a s => aluRol w.bits a (s % 64))))

/-- ROR: rotate right (05 R145, Table 05-5). -/
def execRor (e : EngineId) (w : Wid) (d : Acc) (x : Src) (s : State) : Host.Outcome State Fault Refusal :=
  .next (serzel s e (logicOp w d x (fun a s => aluRor w.bits a (s % 64))))

/-- CMPS EQ: BA := a = b, signed (05 R146). -/
def execCmpsEq (e : EngineId) (w : Wid) (d : Acc) (x : Src) (s : State) : Host.Outcome State Fault Refusal :=
  .next (serzel s e (compareOp true .eq w d x))

/-- CMPS NE: BA := a ≠ b, signed (05 R146). -/
def execCmpsNe (e : EngineId) (w : Wid) (d : Acc) (x : Src) (s : State) : Host.Outcome State Fault Refusal :=
  .next (serzel s e (compareOp true .ne w d x))

/-- CMPS LT: BA := a < b, signed (05 R146). -/
def execCmpsLt (e : EngineId) (w : Wid) (d : Acc) (x : Src) (s : State) : Host.Outcome State Fault Refusal :=
  .next (serzel s e (compareOp true .lt w d x))

/-- CMPS LE: BA := a ≤ b, signed (05 R146). -/
def execCmpsLe (e : EngineId) (w : Wid) (d : Acc) (x : Src) (s : State) : Host.Outcome State Fault Refusal :=
  .next (serzel s e (compareOp true .le w d x))

/-- CMPS GT: BA := a > b, signed (05 R146). -/
def execCmpsGt (e : EngineId) (w : Wid) (d : Acc) (x : Src) (s : State) : Host.Outcome State Fault Refusal :=
  .next (serzel s e (compareOp true .gt w d x))

/-- CMPS GE: BA := a ≥ b, signed (05 R146). -/
def execCmpsGe (e : EngineId) (w : Wid) (d : Acc) (x : Src) (s : State) : Host.Outcome State Fault Refusal :=
  .next (serzel s e (compareOp true .ge w d x))

/-- CMPU EQ: BA := a = b, unsigned (05 R146). -/
def execCmpuEq (e : EngineId) (w : Wid) (d : Acc) (x : Src) (s : State) : Host.Outcome State Fault Refusal :=
  .next (serzel s e (compareOp false .eq w d x))

/-- CMPU NE: BA := a ≠ b, unsigned (05 R146). -/
def execCmpuNe (e : EngineId) (w : Wid) (d : Acc) (x : Src) (s : State) : Host.Outcome State Fault Refusal :=
  .next (serzel s e (compareOp false .ne w d x))

/-- CMPU LT: BA := a < b, unsigned (05 R146). -/
def execCmpuLt (e : EngineId) (w : Wid) (d : Acc) (x : Src) (s : State) : Host.Outcome State Fault Refusal :=
  .next (serzel s e (compareOp false .lt w d x))

/-- CMPU LE: BA := a ≤ b, unsigned (05 R146). -/
def execCmpuLe (e : EngineId) (w : Wid) (d : Acc) (x : Src) (s : State) : Host.Outcome State Fault Refusal :=
  .next (serzel s e (compareOp false .le w d x))

/-- CMPU GT: BA := a > b, unsigned (05 R146). -/
def execCmpuGt (e : EngineId) (w : Wid) (d : Acc) (x : Src) (s : State) : Host.Outcome State Fault Refusal :=
  .next (serzel s e (compareOp false .gt w d x))

/-- CMPU GE: BA := a ≥ b, unsigned (05 R146). -/
def execCmpuGe (e : EngineId) (w : Wid) (d : Acc) (x : Src) (s : State) : Host.Outcome State Fault Refusal :=
  .next (serzel s e (compareOp false .ge w d x))

end Sys2Proof.Machine
end

