-- ==== Sys2Proof/Machine/SerzelReal.lean ====
section
/-! DEFINITION. REAL arithmetic, comparisons and conversions (05 R147 to R150): one meaning for each instruction. -/

namespace Sys2Proof.Machine

open Sys2Proof

/-- REAL ADD: addition (05 R148, Table 05-6). -/
def execRealAdd (e : EngineId) (w : RWid) (d : Acc) (x : RSrc) (s : State) : Host.Outcome State Fault Refusal :=
  .next (serzel s e (realOp w d x 3 (fun f a b => f.add a b)))

/-- REAL SUB: subtraction (05 R148, Table 05-6). -/
def execRealSub (e : EngineId) (w : RWid) (d : Acc) (x : RSrc) (s : State) : Host.Outcome State Fault Refusal :=
  .next (serzel s e (realOp w d x 3 (fun f a b => f.sub a b)))

/-- REAL MUL: multiplication (05 R148, Table 05-6). -/
def execRealMul (e : EngineId) (w : RWid) (d : Acc) (x : RSrc) (s : State) : Host.Outcome State Fault Refusal :=
  .next (serzel s e (realOp w d x 4 (fun f a b => f.mul a b)))

/-- REAL DIV: division (05 R148, Table 05-6). -/
def execRealDiv (e : EngineId) (w : RWid) (d : Acc) (x : RSrc) (s : State) : Host.Outcome State Fault Refusal :=
  .next (serzel s e (realOp w d x 20 (fun f a b => f.div a b)))

/-- REAL SQRT: square root of the source (05 R148, Table 05-6). -/
def execRealSqrt (e : EngineId) (w : RWid) (d : Acc) (x : RSrc) (s : State) : Host.Outcome State Fault Refusal :=
  .next (serzel s e (realOp w d x 24 (fun f _ b => f.sqrt b)))

/-- REAL NEG: sign inverted, never faulting (05 R148, Table 05-6). -/
def execRealNeg (e : EngineId) (w : RWid) (d : Acc) (x : RSrc) (s : State) : Host.Outcome State Fault Refusal :=
  .next (serzel s e (realOp w d x 1 (fun f _ b => ⟨f.neg b, 0⟩)))

/-- REAL ABS: sign cleared, never faulting (05 R148, Table 05-6). -/
def execRealAbs (e : EngineId) (w : RWid) (d : Acc) (x : RSrc) (s : State) : Host.Outcome State Fault Refusal :=
  .next (serzel s e (realOp w d x 1 (fun f _ b => ⟨f.abs b, 0⟩)))

/-- REAL MIN: the smaller (05 R148, Table 05-6). -/
def execRealMin (e : EngineId) (w : RWid) (d : Acc) (x : RSrc) (s : State) : Host.Outcome State Fault Refusal :=
  .next (serzel s e (realOp w d x 3 (fun f a b => f.min a b)))

/-- REAL MAX: the larger (05 R148, Table 05-6). -/
def execRealMax (e : EngineId) (w : RWid) (d : Acc) (x : RSrc) (s : State) : Host.Outcome State Fault Refusal :=
  .next (serzel s e (realOp w d x 3 (fun f a b => f.max a b)))

/-- CMPR EQ: BA := D = S (05 R149). -/
def execCmprEq (e : EngineId) (w : RWid) (d : Acc) (x : RSrc) (s : State) : Host.Outcome State Fault Refusal :=
  .next (serzel s e (compareReal .eq w d x))

/-- CMPR NE: BA := D ≠ S (05 R149). -/
def execCmprNe (e : EngineId) (w : RWid) (d : Acc) (x : RSrc) (s : State) : Host.Outcome State Fault Refusal :=
  .next (serzel s e (compareReal .ne w d x))

/-- CMPR LT: BA := D < S (05 R149). -/
def execCmprLt (e : EngineId) (w : RWid) (d : Acc) (x : RSrc) (s : State) : Host.Outcome State Fault Refusal :=
  .next (serzel s e (compareReal .lt w d x))

/-- CMPR LE: BA := D ≤ S (05 R149). -/
def execCmprLe (e : EngineId) (w : RWid) (d : Acc) (x : RSrc) (s : State) : Host.Outcome State Fault Refusal :=
  .next (serzel s e (compareReal .le w d x))

/-- CMPR GT: BA := D > S (05 R149). -/
def execCmprGt (e : EngineId) (w : RWid) (d : Acc) (x : RSrc) (s : State) : Host.Outcome State Fault Refusal :=
  .next (serzel s e (compareReal .gt w d x))

/-- CMPR GE: BA := D ≥ S (05 R149). -/
def execCmprGe (e : EngineId) (w : RWid) (d : Acc) (x : RSrc) (s : State) : Host.Outcome State Fault Refusal :=
  .next (serzel s e (compareReal .ge w d x))

/-- ITOF32: signed integer to REAL32 (05 R150). -/
def execItof32 (e : EngineId) (w : Wid) (d : Acc) (x : Src) (s : State) : Host.Outcome State Fault Refusal :=
  .next (serzel s e (intToReal f32 true w d x))

/-- ITOF64: signed integer to REAL64 (05 R150). -/
def execItof64 (e : EngineId) (w : Wid) (d : Acc) (x : Src) (s : State) : Host.Outcome State Fault Refusal :=
  .next (serzel s e (intToReal f64 true w d x))

/-- UTOF32: unsigned integer to REAL32 (05 R150). -/
def execUtof32 (e : EngineId) (w : Wid) (d : Acc) (x : Src) (s : State) : Host.Outcome State Fault Refusal :=
  .next (serzel s e (intToReal f32 false w d x))

/-- UTOF64: unsigned integer to REAL64 (05 R150). -/
def execUtof64 (e : EngineId) (w : Wid) (d : Acc) (x : Src) (s : State) : Host.Outcome State Fault Refusal :=
  .next (serzel s e (intToReal f64 false w d x))

/-- F32TOI: REAL32 to a signed integer, to nearest even (05 R150). -/
def execF32toi (e : EngineId) (w : Wid) (d : Acc) (x : ConvSrc) (s : State) : Host.Outcome State Fault Refusal :=
  .next (serzel s e (realToInt f32 true true w d x))

/-- F64TOI: REAL64 to a signed integer, to nearest even (05 R150). -/
def execF64toi (e : EngineId) (w : Wid) (d : Acc) (x : ConvSrc) (s : State) : Host.Outcome State Fault Refusal :=
  .next (serzel s e (realToInt f64 true true w d x))

/-- F32TRUNC: REAL32 to a signed integer, toward zero (05 R150). -/
def execF32trunc (e : EngineId) (w : Wid) (d : Acc) (x : ConvSrc) (s : State) : Host.Outcome State Fault Refusal :=
  .next (serzel s e (realToInt f32 false true w d x))

/-- F64TRUNC: REAL64 to a signed integer, toward zero (05 R150). -/
def execF64trunc (e : EngineId) (w : Wid) (d : Acc) (x : ConvSrc) (s : State) : Host.Outcome State Fault Refusal :=
  .next (serzel s e (realToInt f64 false true w d x))

/-- F32TOU: REAL32 to an unsigned integer, to nearest even (05 R150). -/
def execF32tou (e : EngineId) (w : Wid) (d : Acc) (x : ConvSrc) (s : State) : Host.Outcome State Fault Refusal :=
  .next (serzel s e (realToInt f32 true false w d x))

/-- F64TOU: REAL64 to an unsigned integer, to nearest even (05 R150). -/
def execF64tou (e : EngineId) (w : Wid) (d : Acc) (x : ConvSrc) (s : State) : Host.Outcome State Fault Refusal :=
  .next (serzel s e (realToInt f64 true false w d x))

/-- F32TOF64: exact (05 R150). -/
def execF32tof64 (e : EngineId) (d : Acc) (x : ConvSrc) (s : State) : Host.Outcome State Fault Refusal :=
  .next (serzel s e (realToReal f32 f64 d x))

/-- F64TOF32: rounded to nearest even (05 R150). -/
def execF64tof32 (e : EngineId) (d : Acc) (x : ConvSrc) (s : State) : Host.Outcome State Fault Refusal :=
  .next (serzel s e (realToReal f64 f32 d x))

/-- SNARROW: signed 64-bit narrowed with saturation (05 R150). -/
def execSnarrow (e : EngineId) (w : Wid) (d : Acc) (x : Src) (s : State) : Host.Outcome State Fault Refusal :=
  .next (serzel s e (narrowOp true w d x))

/-- UNARROW: unsigned 64-bit narrowed with saturation (05 R150). -/
def execUnarrow (e : EngineId) (w : Wid) (d : Acc) (x : Src) (s : State) : Host.Outcome State Fault Refusal :=
  .next (serzel s e (narrowOp false w d x))

end Sys2Proof.Machine
end

