-- ==== Sys2Proof/Machine/SerzelWord.lean ====
section
/-! DEFINITION. Word loads and stores (05 R142): one meaning for each instruction. -/

namespace Sys2Proof.Machine

open Sys2Proof

/-- LD8: 1 byte zero-extended (05 R142). -/
def execLd8 (e : EngineId) (x : WordAddr) (r : Acc) (s : State) : Host.Outcome State Fault Refusal :=
  .next (serzel s e (loadWord 1 false x r))

/-- LD16: 2 bytes zero-extended (05 R142). -/
def execLd16 (e : EngineId) (x : WordAddr) (r : Acc) (s : State) : Host.Outcome State Fault Refusal :=
  .next (serzel s e (loadWord 2 false x r))

/-- LD32: 4 bytes zero-extended (05 R142). -/
def execLd32 (e : EngineId) (x : WordAddr) (r : Acc) (s : State) : Host.Outcome State Fault Refusal :=
  .next (serzel s e (loadWord 4 false x r))

/-- LD64: 8 bytes zero-extended (05 R142). -/
def execLd64 (e : EngineId) (x : WordAddr) (r : Acc) (s : State) : Host.Outcome State Fault Refusal :=
  .next (serzel s e (loadWord 8 false x r))

/-- LDS8: 1 byte sign-extended (05 R142). -/
def execLds8 (e : EngineId) (x : WordAddr) (r : Acc) (s : State) : Host.Outcome State Fault Refusal :=
  .next (serzel s e (loadWord 1 true x r))

/-- LDS16: 2 bytes sign-extended (05 R142). -/
def execLds16 (e : EngineId) (x : WordAddr) (r : Acc) (s : State) : Host.Outcome State Fault Refusal :=
  .next (serzel s e (loadWord 2 true x r))

/-- LDS32: 4 bytes sign-extended (05 R142). -/
def execLds32 (e : EngineId) (x : WordAddr) (r : Acc) (s : State) : Host.Outcome State Fault Refusal :=
  .next (serzel s e (loadWord 4 true x r))

/-- ST8: the low 8 bits of a register (05 R142). -/
def execSt8 (e : EngineId) (x : WordAddr) (r : Acc) (s : State) : Host.Outcome State Fault Refusal :=
  .next (serzel s e (storeWord 1 x r))

/-- ST16: the low 16 bits of a register (05 R142). -/
def execSt16 (e : EngineId) (x : WordAddr) (r : Acc) (s : State) : Host.Outcome State Fault Refusal :=
  .next (serzel s e (storeWord 2 x r))

/-- ST32: the low 32 bits of a register (05 R142). -/
def execSt32 (e : EngineId) (x : WordAddr) (r : Acc) (s : State) : Host.Outcome State Fault Refusal :=
  .next (serzel s e (storeWord 4 x r))

/-- ST64: the low 64 bits of a register (05 R142). -/
def execSt64 (e : EngineId) (x : WordAddr) (r : Acc) (s : State) : Host.Outcome State Fault Refusal :=
  .next (serzel s e (storeWord 8 x r))

end Sys2Proof.Machine
end

