-- ==== Sys2Proof/Machine/Dispatch.lean ====
section
/-! DEFINITION. Every command to its meaning. -/

namespace Sys2Proof.Machine

open Sys2Proof

/-- The effect of a command on everything but the queue. -/
def exec (i : Instr) (s : State) : Host.Outcome State Fault Refusal :=
  match i with
  | .bLd e x => Sys2Proof.Machine.execBLd e x s
  | .ldn e x => Sys2Proof.Machine.execLdn e x s
  | .bAnd e x => Sys2Proof.Machine.execBAnd e x s
  | .andn e x => Sys2Proof.Machine.execAndn e x s
  | .bOr e x => Sys2Proof.Machine.execBOr e x s
  | .orn e x => Sys2Proof.Machine.execOrn e x s
  | .bXor e x => Sys2Proof.Machine.execBXor e x s
  | .xorn e x => Sys2Proof.Machine.execXorn e x s
  | .bSt e x => Sys2Proof.Machine.execBSt e x s
  | .stn e x => Sys2Proof.Machine.execStn e x s
  | .bSet e x => Sys2Proof.Machine.execBSet e x s
  | .rst e x => Sys2Proof.Machine.execRst e x s
  | .bNot e => Sys2Proof.Machine.execBNot e s
  | .andBracket e x => Sys2Proof.Machine.execAndBracket e x s
  | .orBracket e x => Sys2Proof.Machine.execOrBracket e x s
  | .xorBracket e x => Sys2Proof.Machine.execXorBracket e x s
  | .bracketClose e => Sys2Proof.Machine.execBracketClose e s
  | .edgr e ofs pair => Sys2Proof.Machine.execEdgr e ofs pair s
  | .edgf e ofs pair => Sys2Proof.Machine.execEdgf e ofs pair s
  | .ld8 e x r => Sys2Proof.Machine.execLd8 e x r s
  | .ld16 e x r => Sys2Proof.Machine.execLd16 e x r s
  | .ld32 e x r => Sys2Proof.Machine.execLd32 e x r s
  | .ld64 e x r => Sys2Proof.Machine.execLd64 e x r s
  | .lds8 e x r => Sys2Proof.Machine.execLds8 e x r s
  | .lds16 e x r => Sys2Proof.Machine.execLds16 e x r s
  | .lds32 e x r => Sys2Proof.Machine.execLds32 e x r s
  | .st8 e x r => Sys2Proof.Machine.execSt8 e x r s
  | .st16 e x r => Sys2Proof.Machine.execSt16 e x r s
  | .st32 e x r => Sys2Proof.Machine.execSt32 e x r s
  | .st64 e x r => Sys2Proof.Machine.execSt64 e x r s
  | .intAdd e w d x => Sys2Proof.Machine.execIntAdd e w d x s
  | .intSub e w d x => Sys2Proof.Machine.execIntSub e w d x s
  | .intNeg e w d x => Sys2Proof.Machine.execIntNeg e w d x s
  | .intAbs e w d x => Sys2Proof.Machine.execIntAbs e w d x s
  | .intMin e w d x => Sys2Proof.Machine.execIntMin e w d x s
  | .intMax e w d x => Sys2Proof.Machine.execIntMax e w d x s
  | .intLimit e w d x => Sys2Proof.Machine.execIntLimit e w d x s
  | .intMul e w d x => Sys2Proof.Machine.execIntMul e w d x s
  | .intDiv e w d x => Sys2Proof.Machine.execIntDiv e w d x s
  | .intMod e w d x => Sys2Proof.Machine.execIntMod e w d x s
  | .uintAdd e w d x => Sys2Proof.Machine.execUintAdd e w d x s
  | .uintSub e w d x => Sys2Proof.Machine.execUintSub e w d x s
  | .uintMin e w d x => Sys2Proof.Machine.execUintMin e w d x s
  | .uintMax e w d x => Sys2Proof.Machine.execUintMax e w d x s
  | .uintLimit e w d x => Sys2Proof.Machine.execUintLimit e w d x s
  | .uintMul e w d x => Sys2Proof.Machine.execUintMul e w d x s
  | .uintDiv e w d x => Sys2Proof.Machine.execUintDiv e w d x s
  | .uintMod e w d x => Sys2Proof.Machine.execUintMod e w d x s
  | .logicAnd e w d x => Sys2Proof.Machine.execLogicAnd e w d x s
  | .logicOr e w d x => Sys2Proof.Machine.execLogicOr e w d x s
  | .logicXor e w d x => Sys2Proof.Machine.execLogicXor e w d x s
  | .logicNot e w d x => Sys2Proof.Machine.execLogicNot e w d x s
  | .shl e w d x => Sys2Proof.Machine.execShl e w d x s
  | .shr e w d x => Sys2Proof.Machine.execShr e w d x s
  | .sar e w d x => Sys2Proof.Machine.execSar e w d x s
  | .rol e w d x => Sys2Proof.Machine.execRol e w d x s
  | .ror e w d x => Sys2Proof.Machine.execRor e w d x s
  | .cmpsEq e w d x => Sys2Proof.Machine.execCmpsEq e w d x s
  | .cmpsNe e w d x => Sys2Proof.Machine.execCmpsNe e w d x s
  | .cmpsLt e w d x => Sys2Proof.Machine.execCmpsLt e w d x s
  | .cmpsLe e w d x => Sys2Proof.Machine.execCmpsLe e w d x s
  | .cmpsGt e w d x => Sys2Proof.Machine.execCmpsGt e w d x s
  | .cmpsGe e w d x => Sys2Proof.Machine.execCmpsGe e w d x s
  | .cmpuEq e w d x => Sys2Proof.Machine.execCmpuEq e w d x s
  | .cmpuNe e w d x => Sys2Proof.Machine.execCmpuNe e w d x s
  | .cmpuLt e w d x => Sys2Proof.Machine.execCmpuLt e w d x s
  | .cmpuLe e w d x => Sys2Proof.Machine.execCmpuLe e w d x s
  | .cmpuGt e w d x => Sys2Proof.Machine.execCmpuGt e w d x s
  | .cmpuGe e w d x => Sys2Proof.Machine.execCmpuGe e w d x s
  | .realAdd e w d x => Sys2Proof.Machine.execRealAdd e w d x s
  | .realSub e w d x => Sys2Proof.Machine.execRealSub e w d x s
  | .realMul e w d x => Sys2Proof.Machine.execRealMul e w d x s
  | .realDiv e w d x => Sys2Proof.Machine.execRealDiv e w d x s
  | .realSqrt e w d x => Sys2Proof.Machine.execRealSqrt e w d x s
  | .realNeg e w d x => Sys2Proof.Machine.execRealNeg e w d x s
  | .realAbs e w d x => Sys2Proof.Machine.execRealAbs e w d x s
  | .realMin e w d x => Sys2Proof.Machine.execRealMin e w d x s
  | .realMax e w d x => Sys2Proof.Machine.execRealMax e w d x s
  | .cmprEq e w d x => Sys2Proof.Machine.execCmprEq e w d x s
  | .cmprNe e w d x => Sys2Proof.Machine.execCmprNe e w d x s
  | .cmprLt e w d x => Sys2Proof.Machine.execCmprLt e w d x s
  | .cmprLe e w d x => Sys2Proof.Machine.execCmprLe e w d x s
  | .cmprGt e w d x => Sys2Proof.Machine.execCmprGt e w d x s
  | .cmprGe e w d x => Sys2Proof.Machine.execCmprGe e w d x s
  | .itof32 e w d x => Sys2Proof.Machine.execItof32 e w d x s
  | .itof64 e w d x => Sys2Proof.Machine.execItof64 e w d x s
  | .utof32 e w d x => Sys2Proof.Machine.execUtof32 e w d x s
  | .utof64 e w d x => Sys2Proof.Machine.execUtof64 e w d x s
  | .f32toi e w d x => Sys2Proof.Machine.execF32toi e w d x s
  | .f64toi e w d x => Sys2Proof.Machine.execF64toi e w d x s
  | .f32trunc e w d x => Sys2Proof.Machine.execF32trunc e w d x s
  | .f64trunc e w d x => Sys2Proof.Machine.execF64trunc e w d x s
  | .f32tou e w d x => Sys2Proof.Machine.execF32tou e w d x s
  | .f64tou e w d x => Sys2Proof.Machine.execF64tou e w d x s
  | .f32tof64 e d x => Sys2Proof.Machine.execF32tof64 e d x s
  | .f64tof32 e d x => Sys2Proof.Machine.execF64tof32 e d x s
  | .snarrow e w d x => Sys2Proof.Machine.execSnarrow e w d x s
  | .unarrow e w d x => Sys2Proof.Machine.execUnarrow e w d x s
  | .mov e w d x => Sys2Proof.Machine.execMov e w d x s
  | .swap e => Sys2Proof.Machine.execSwap e s
  | .ba2w e w d => Sys2Proof.Machine.execBa2w e w d s
  | .w2ba e w x => Sys2Proof.Machine.execW2ba e w x s
  | .xli e n v => Sys2Proof.Machine.execXli e n v s
  | .xadd e n v => Sys2Proof.Machine.execXadd e n v s
  | .xfrom e n r => Sys2Proof.Machine.execXfrom e n r s
  | .xto e n r => Sys2Proof.Machine.execXto e n r s
  | .xshl e n v => Sys2Proof.Machine.execXshl e n v s
  | .crci e u poly => Sys2Proof.Machine.execCrci e u poly s
  | .crcb e u r => Sys2Proof.Machine.execCrcb e u r s
  | .crch e u r => Sys2Proof.Machine.execCrch e u r s
  | .crcw e u r => Sys2Proof.Machine.execCrcw e u r s
  | .crcr e u r => Sys2Proof.Machine.execCrcr e u r s
  | .pubFlow e id => Sys2Proof.Machine.execPubFlow e id s
  | .pubTelegram e p id => Sys2Proof.Machine.execPubTelegram e p id s
  | .jmp e tgt => Sys2Proof.Machine.execJmp e tgt s
  | .jmpc e tgt => Sys2Proof.Machine.execJmpc e tgt s
  | .jmpcn e tgt => Sys2Proof.Machine.execJmpcn e tgt s
  | .cal e tgt => Sys2Proof.Machine.execCal e tgt s
  | .calc e tgt => Sys2Proof.Machine.execCalc e tgt s
  | .calcn e tgt => Sys2Proof.Machine.execCalcn e tgt s
  | .ret e => Sys2Proof.Machine.execRet e s
  | .loop e n len max => Sys2Proof.Machine.execLoop e n len max s
  | .ton e wall inst => Sys2Proof.Machine.execTon e wall inst s
  | .tof e wall inst => Sys2Proof.Machine.execTof e wall inst s
  | .tp e wall inst => Sys2Proof.Machine.execTp e wall inst s
  | .tonm e wall inst => Sys2Proof.Machine.execTonm e wall inst s
  | .ctu e inst => Sys2Proof.Machine.execCtu e inst s
  | .ctd e inst => Sys2Proof.Machine.execCtd e inst s
  | .ctud e inst => Sys2Proof.Machine.execCtud e inst s
  | .undefinedEncoding e => Sys2Proof.Machine.execUndefinedEncoding e s
  | .sample l => Sys2Proof.Machine.execSample l s
  | .converterStart l entry => Sys2Proof.Machine.execConverterStart l entry s
  | .conversionResult l input entry v => Sys2Proof.Machine.execConversionResult l input entry v s
  | .cycleStart => Sys2Proof.Machine.execCycleStart s
  | .vectorReceived l v => Sys2Proof.Machine.execVectorReceived l v s
  | .vectorDeadline => Sys2Proof.Machine.execVectorDeadline s
  | .forwardedVector l from_ v => Sys2Proof.Machine.execForwardedVector l from_ v s
  | .exchangeComplete l => Sys2Proof.Machine.execExchangeComplete l s
  | .linkWaitEnd e => Sys2Proof.Machine.execLinkWaitEnd e s
  | .vote => Sys2Proof.Machine.execVote s
  | .dovetailVote defect => Sys2Proof.Machine.execDovetailVote defect s
  | .releaseDeadline => Sys2Proof.Machine.execReleaseDeadline s
  | .outputApply => Sys2Proof.Machine.execOutputApply s
  | .engineFault e bitwise signature => Sys2Proof.Machine.execEngineFault e bitwise signature s
  | .channelQuiet l => Sys2Proof.Machine.execChannelQuiet l s
  | .sectionAlarm l from_ => Sys2Proof.Machine.execSectionAlarm l from_ s
  | .limpTimerExpiry => Sys2Proof.Machine.execLimpTimerExpiry s
  | .reintegrateLane r d => Sys2Proof.Machine.execReintegrateLane r d s
  | .automaticReintegrationStart l => Sys2Proof.Machine.execAutomaticReintegrationStart l s
  | .laneScribeTest l pass => Sys2Proof.Machine.execLaneScribeTest l pass s
  | .timeLock l => Sys2Proof.Machine.execTimeLock l s
  | .stateTransferBlock l blk d crcA crcB => Sys2Proof.Machine.execStateTransferBlock l blk d crcA crcB s
  | .safeStateRelease r d => Sys2Proof.Machine.execSafeStateRelease r d s
  | .timeMark l dev valid => Sys2Proof.Machine.execTimeMark l dev valid s
  | .missedTimeMarks l => Sys2Proof.Machine.execMissedTimeMarks l s
  | .rateWindowCheck l => Sys2Proof.Machine.execRateWindowCheck l s
  | .discrepancyJudgement => Sys2Proof.Machine.execDiscrepancyJudgement s
  | .dcTriggerIdWrite r n d => Sys2Proof.Machine.execDcTriggerIdWrite r n d s
  | .ecTriggerIdWrite r n d => Sys2Proof.Machine.execEcTriggerIdWrite r n d s
  | .epochCompareArming n => Sys2Proof.Machine.execEpochCompareArming n s
  | .directCompareFire n => Sys2Proof.Machine.execDirectCompareFire n s
  | .epochCompareFire n => Sys2Proof.Machine.execEpochCompareFire n s
  | .userEventTrigger entry => Sys2Proof.Machine.execUserEventTrigger entry s
  | .ppsOut entry => Sys2Proof.Machine.execPpsOut entry s
  | .ppsOutPulseEnd => Sys2Proof.Machine.execPpsOutPulseEnd s
  | .ppsInEdge t => Sys2Proof.Machine.execPpsInEdge t s
  | .ppsInEdgeMissing => Sys2Proof.Machine.execPpsInEdgeMissing s
  | .taiSecondWrite r d => Sys2Proof.Machine.execTaiSecondWrite r d s
  | .taiSecondDiscard => Sys2Proof.Machine.execTaiSecondDiscard s
  | .correctionInvalidated => Sys2Proof.Machine.execCorrectionInvalidated s
  | .timeAnnouncement => Sys2Proof.Machine.execTimeAnnouncement s
  | .leapSecondApplied => Sys2Proof.Machine.execLeapSecondApplied s
  | .ptpMessage p m t => Sys2Proof.Machine.execPtpMessage p m t s
  | .ptpSyncInterval p announce => Sys2Proof.Machine.execPtpSyncInterval p announce s
  | .ringTransmitSlot entry => Sys2Proof.Machine.execRingTransmitSlot entry s
  | .slotDeadline entry => Sys2Proof.Machine.execSlotDeadline entry s
  | .frameLeftPort entry => Sys2Proof.Machine.execFrameLeftPort entry s
  | .ringReceiveWindow entry opens => Sys2Proof.Machine.execRingReceiveWindow entry opens s
  | .syncSlot entry => Sys2Proof.Machine.execSyncSlot entry s
  | .syncReceiveWindow entry opens => Sys2Proof.Machine.execSyncReceiveWindow entry opens s
  | .bestEffortWindow p entry => Sys2Proof.Machine.execBestEffortWindow p entry s
  | .dataFrame p f t => Sys2Proof.Machine.execDataFrame p f t s
  | .syncFrame p f t => Sys2Proof.Machine.execSyncFrame p f t s
  | .coldstartFrame p f t => Sys2Proof.Machine.execColdstartFrame p f t s
  | .tick p f => Sys2Proof.Machine.execTick p f s
  | .tickTransmit p => Sys2Proof.Machine.execTickTransmit p s
  | .wrapNotice p f => Sys2Proof.Machine.execWrapNotice p f s
  | .leaveFrame p f => Sys2Proof.Machine.execLeaveFrame p f s
  | .bestEffortIpv4 p f => Sys2Proof.Machine.execBestEffortIpv4 p f s
  | .timeAnnouncementReceived p f => Sys2Proof.Machine.execTimeAnnouncementReceived p f s
  | .timeQuery p f => Sys2Proof.Machine.execTimeQuery p f s
  | .timeAnswer p f t => Sys2Proof.Machine.execTimeAnswer p f t s
  | .timeQueryTimeout => Sys2Proof.Machine.execTimeQueryTimeout s
  | .roundEnd => Sys2Proof.Machine.execRoundEnd s
  | .listenTimeout => Sys2Proof.Machine.execListenTimeout s
  | .breakDetected p => Sys2Proof.Machine.execBreakDetected p s
  | .ringLinkLoss p => Sys2Proof.Machine.execRingLinkLoss p s
  | .ringLinkUp p => Sys2Proof.Machine.execRingLinkUp p s
  | .linkRestored p => Sys2Proof.Machine.execLinkRestored p s
  | .unwrap p => Sys2Proof.Machine.execUnwrap p s
  | .bypassRelease => Sys2Proof.Machine.execBypassRelease s
  | .ringIntegrationTimeout => Sys2Proof.Machine.execRingIntegrationTimeout s
  | .ecnTransmit entry => Sys2Proof.Machine.execEcnTransmit entry s
  | .telegramDeadline entry => Sys2Proof.Machine.execTelegramDeadline entry s
  | .telegramReceived p f => Sys2Proof.Machine.execTelegramReceived p f s
  | .arpRequest p target src => Sys2Proof.Machine.execArpRequest p target src s
  | .arpReply p ip mac => Sys2Proof.Machine.execArpReply p ip mac s
  | .arpEntryExpiry p ip => Sys2Proof.Machine.execArpEntryExpiry p ip s
  | .icmpEchoRequest p src dst => Sys2Proof.Machine.execIcmpEchoRequest p src dst s
  | .dictionaryDatagram r dstPort body => Sys2Proof.Machine.execDictionaryDatagram r dstPort body s
  | .ecnLinkChange p speed full => Sys2Proof.Machine.execEcnLinkChange p speed full s
  | .phyResetRelease => Sys2Proof.Machine.execPhyResetRelease s
  | .canFrameReceived c f => Sys2Proof.Machine.execCanFrameReceived c f s
  | .heartbeatReceived c node => Sys2Proof.Machine.execHeartbeatReceived c node s
  | .heartbeatConsumerExpiry n => Sys2Proof.Machine.execHeartbeatConsumerExpiry n s
  | .heartbeatProducer c => Sys2Proof.Machine.execHeartbeatProducer c s
  | .nmtStart c node => Sys2Proof.Machine.execNmtStart c node s
  | .nmtStop c node => Sys2Proof.Machine.execNmtStop c node s
  | .nmtEnterPreOperational c node => Sys2Proof.Machine.execNmtEnterPreOperational c node s
  | .nmtResetCommunication c node => Sys2Proof.Machine.execNmtResetCommunication c node s
  | .nmtResetNode c node => Sys2Proof.Machine.execNmtResetNode c node s
  | .sdoInitiate ch upload index sub expedited => Sys2Proof.Machine.execSdoInitiate ch upload index sub expedited s
  | .sdoSegment ch d last => Sys2Proof.Machine.execSdoSegment ch d last s
  | .sdoSegmentTimeout ch => Sys2Proof.Machine.execSdoSegmentTimeout ch s
  | .busOff c => Sys2Proof.Machine.execBusOff c s
  | .busOffRecovery c => Sys2Proof.Machine.execBusOffRecovery c s
  | .controllerRestart r c d => Sys2Proof.Machine.execControllerRestart r c d s
  | .hostRequest bytes => Sys2Proof.Machine.execHostRequest bytes s
  | .readResponse clocked => Sys2Proof.Machine.execReadResponse clocked s
  | .hostStatus clocked => Sys2Proof.Machine.execHostStatus clocked s
  | .unknownCommand cmd => Sys2Proof.Machine.execUnknownCommand cmd s
  | .cvuInitialise r n d => Sys2Proof.Machine.execCvuInitialise r n d s
  | .cvuFeedByte r n d => Sys2Proof.Machine.execCvuFeedByte r n d s
  | .cvuFeedHalfWord r n d => Sys2Proof.Machine.execCvuFeedHalfWord r n d s
  | .cvuFeedWord r n d => Sys2Proof.Machine.execCvuFeedWord r n d s
  | .cvuResultRead r n => Sys2Proof.Machine.execCvuResultRead r n s
  | .cvuReleaseClaim r n d => Sys2Proof.Machine.execCvuReleaseClaim r n d s
  | .cvuClaimTimeout n => Sys2Proof.Machine.execCvuClaimTimeout n s
  | .containerDownload r k => Sys2Proof.Machine.execContainerDownload r k s
  | .admitOnly r => Sys2Proof.Machine.execAdmitOnly r s
  | .admitAndStore r => Sys2Proof.Machine.execAdmitAndStore r s
  | .gaugeVerdict => Sys2Proof.Machine.execGaugeVerdict s
  | .timingRelevantWrite r index sub d => Sys2Proof.Machine.execTimingRelevantWrite r index sub d s
  | .deltaDownload r k => Sys2Proof.Machine.execDeltaDownload r k s
  | .admitDelta r => Sys2Proof.Machine.execAdmitDelta r s
  | .deltaDistributed crcs => Sys2Proof.Machine.execDeltaDistributed crcs s
  | .activateChange r => Sys2Proof.Machine.execActivateChange r s
  | .cancelChange r => Sys2Proof.Machine.execCancelChange r s
  | .setForce r d => Sys2Proof.Machine.execSetForce r d s
  | .releaseForce r d => Sys2Proof.Machine.execReleaseForce r d s
  | .releaseAllForces r d => Sys2Proof.Machine.execReleaseAllForces r d s
  | .fieldUndervoltage l mV => Sys2Proof.Machine.execFieldUndervoltage l mV s
  | .fieldUndervoltageClear l mV => Sys2Proof.Machine.execFieldUndervoltageClear l mV s
  | .fieldDieReset mV => Sys2Proof.Machine.execFieldDieReset mV s
  | .fieldDieBoot mV => Sys2Proof.Machine.execFieldDieBoot mV s
  | .diRawClassChange l n uA => Sys2Proof.Machine.execDiRawClassChange l n uA s
  | .filterExpiry l n => Sys2Proof.Machine.execFilterExpiry l n s
  | .pulseCount l n => Sys2Proof.Machine.execPulseCount l n s
  | .overload ch => Sys2Proof.Machine.execOverload ch s
  | .thermalShutdown ch => Sys2Proof.Machine.execThermalShutdown ch s
  | .thermalRestart ch => Sys2Proof.Machine.execThermalRestart ch s
  | .demagnetisationEnd l ch => Sys2Proof.Machine.execDemagnetisationEnd l ch s
  | .demagnetisationOverrun ch => Sys2Proof.Machine.execDemagnetisationOverrun ch s
  | .openWireOn l ch uA => Sys2Proof.Machine.execOpenWireOn l ch uA s
  | .openWireOff l ch mV => Sys2Proof.Machine.execOpenWireOff l ch mV s
  | .groupSupplyLoss g mV => Sys2Proof.Machine.execGroupSupplyLoss g mV s
  | .groupSupplyRestored g mV => Sys2Proof.Machine.execGroupSupplyRestored g mV s
  | .standingCheck l ch mids out => Sys2Proof.Machine.execStandingCheck l ch mids out s
  | .elementTestMeasure l ch paths => Sys2Proof.Machine.execElementTestMeasure l ch paths s
  | .elementTestOpen => Sys2Proof.Machine.execElementTestOpen s
  | .elementTestCheck l ch paths => Sys2Proof.Machine.execElementTestCheck l ch paths s
  | .elementTestReclose => Sys2Proof.Machine.execElementTestReclose s
  | .pathNotConducting l ch path total => Sys2Proof.Machine.execPathNotConducting l ch path total s
  | .offPulseStart ch => Sys2Proof.Machine.execOffPulseStart ch s
  | .offPulseCheck l ch mV => Sys2Proof.Machine.execOffPulseCheck l ch mV s
  | .offPulseEnd ch => Sys2Proof.Machine.execOffPulseEnd ch s
  | .healthToggle l => Sys2Proof.Machine.execHealthToggle l s
  | .laConversion l n uV => Sys2Proof.Machine.execLaConversion l n uV s
  | .decimatedSample l => Sys2Proof.Machine.execDecimatedSample l s
  | .recognitionEvaluation l => Sys2Proof.Machine.execRecognitionEvaluation l s
  | .recognitionPublication l => Sys2Proof.Machine.execRecognitionPublication l s
  | .shuntProtectionOpen n uA => Sys2Proof.Machine.execShuntProtectionOpen n uA s
  | .shuntProtectionReclose n => Sys2Proof.Machine.execShuntProtectionReclose n s
  | .commitWriteComplete l => Sys2Proof.Machine.execCommitWriteComplete l s
  | .carryPiece l blocks => Sys2Proof.Machine.execCarryPiece l blocks s
  | .scrubEvaluation => Sys2Proof.Machine.execScrubEvaluation s
  | .discardState r d => Sys2Proof.Machine.execDiscardState r d s
  | .arm r d => Sys2Proof.Machine.execArm r d s
  | .stagingDrain => Sys2Proof.Machine.execStagingDrain s
  | .recordAtCursor r => Sys2Proof.Machine.execRecordAtCursor r s
  | .recordBlock r offset => Sys2Proof.Machine.execRecordBlock r offset s
  | .freezeBegin r => Sys2Proof.Machine.execFreezeBegin r s
  | .freezeEnd r => Sys2Proof.Machine.execFreezeEnd r s
  | .freezeTimeout => Sys2Proof.Machine.execFreezeTimeout s
  | .entryAtCursor r => Sys2Proof.Machine.execEntryAtCursor r s
  | .clearChangeLog r d => Sys2Proof.Machine.execClearChangeLog r d s
  | .contentsAndClear r n => Sys2Proof.Machine.execContentsAndClear r n s
  | .monitorClear r n d => Sys2Proof.Machine.execMonitorClear r n d s
  | .openSession r d => Sys2Proof.Machine.execOpenSession r d s
  | .closeSession r d => Sys2Proof.Machine.execCloseSession r d s
  | .sessionIdleTimeout => Sys2Proof.Machine.execSessionIdleTimeout s
  | .lockoutEnd => Sys2Proof.Machine.execLockoutEnd s
  | .newPassword r d => Sys2Proof.Machine.execNewPassword r d s
  | .clearPassword r d => Sys2Proof.Machine.execClearPassword r d s
  | .publicKey r n d => Sys2Proof.Machine.execPublicKey r n d s
  | .revokeKey r n d => Sys2Proof.Machine.execRevokeKey r n d s
  | .minimumContainerVersion r d => Sys2Proof.Machine.execMinimumContainerVersion r d s
  | .plugReading junction lanes => Sys2Proof.Machine.execPlugReading junction lanes s
  | .jtagInstruction code => Sys2Proof.Machine.execJtagInstruction code s
  | .domainLost d => Sys2Proof.Machine.execDomainLost d s
  | .domainRunning d => Sys2Proof.Machine.execDomainRunning d s
  | .crossingStalled x => Sys2Proof.Machine.execCrossingStalled x s
  | .flushHandshake x sourceReset destReset => Sys2Proof.Machine.execFlushHandshake x sourceReset destReset s
  | .crossingClear r x d => Sys2Proof.Machine.execCrossingClear r x d s
  | .clearAllCrossingFlags r d => Sys2Proof.Machine.execClearAllCrossingFlags r d s
  | .powerOn => Sys2Proof.Machine.execPowerOn s
  | .moduleReset source => Sys2Proof.Machine.execModuleReset source s
  | .containerLoad => Sys2Proof.Machine.execContainerLoad s
  | .scribeTest failing => Sys2Proof.Machine.execScribeTest failing s
  | .laneBoot ok => Sys2Proof.Machine.execLaneBoot ok s
  | .stateRestore => Sys2Proof.Machine.execStateRestore s
  | .ringIntegration => Sys2Proof.Machine.execRingIntegration s
  | .firstVotedCycle => Sys2Proof.Machine.execFirstVotedCycle s
  | .resetN => Sys2Proof.Machine.execResetN s
  | .commandedRestart r d => Sys2Proof.Machine.execCommandedRestart r d s
  | .commandedRestartEffect => Sys2Proof.Machine.execCommandedRestartEffect s
  | .overvoltage rail mV => Sys2Proof.Machine.execOvervoltage rail mV s
  | .stage1Entry mV => Sys2Proof.Machine.execStage1Entry mV s
  | .stage1Exit mV => Sys2Proof.Machine.execStage1Exit mV s
  | .stage2Entry mV => Sys2Proof.Machine.execStage2Entry mV s
  | .stage2Exit mV => Sys2Proof.Machine.execStage2Exit mV s
  | .powerFailWarning mV => Sys2Proof.Machine.execPowerFailWarning mV s
  | .stage4 mV => Sys2Proof.Machine.execStage4 mV s
  | .supplyRestart mV => Sys2Proof.Machine.execSupplyRestart mV s
  | .laneUndervoltage l mV => Sys2Proof.Machine.execLaneUndervoltage l mV s
  | .laneSupplyRecovered l mV => Sys2Proof.Machine.execLaneSupplyRecovered l mV s
  | .junctionTick => Sys2Proof.Machine.execJunctionTick s
  | .registerWrite r index sub d => Sys2Proof.Machine.execRegisterWrite r index sub d s
  | .domainWriteSegment r index sub offset last d => Sys2Proof.Machine.execDomainWriteSegment r index sub offset last d s
  | .domainReadSegment r index sub offset => Sys2Proof.Machine.execDomainReadSegment r index sub offset s
  | .domainTransferTimeout client => Sys2Proof.Machine.execDomainTransferTimeout client s
  | .captureTimeout client => Sys2Proof.Machine.execCaptureTimeout client s
  | .bindingExpiry client => Sys2Proof.Machine.execBindingExpiry client s
  | .historyExpiry client txn => Sys2Proof.Machine.execHistoryExpiry client txn s
  | .supplyRailSample rail mV => Sys2Proof.Machine.execSupplyRailSample rail mV s
  | .dieTemperatureReading die t => Sys2Proof.Machine.execDieTemperatureReading die t s
  | .ptpMonitorSample p => Sys2Proof.Machine.execPtpMonitorSample p s
  | .foreignMasterDisappears p => Sys2Proof.Machine.execForeignMasterDisappears p s
  | .controllerErrorPassive c tec rec_ => Sys2Proof.Machine.execControllerErrorPassive c tec rec_ s
  | .canArbitrationWon c obj => Sys2Proof.Machine.execCanArbitrationWon c obj s

end Sys2Proof.Machine
end

