-- ==== Sys2Proof/Machine/Idle.lean ====
section
/-! DEFINITION. What the block does while no command waits: its engines execute, and its clock goes on (02 R29, 04 R118). -/

namespace Sys2Proof.Machine

open Sys2Proof

/-- The engines and halves of a lane in the order of their slots. -/
def laneEngines (l : LaneId) : List EngineId :=
  (List.finRange 16).flatMap (fun n => [{ lane := l, num := n, half := false }, { lane := l, num := n, half := true }])

/-- The first engine that executes, lane A first, then by slot. -/
def State.running (s : State) : Option EngineId :=
  (LaneId.all.flatMap laneEngines).find? (fun e => s.executes e)

/-- An engine executes the instruction at its program counter; with none executing, the time base advances by one clock. -/
def idle (s : State) : Host.Outcome State Fault Refusal :=
  match s.running with
  | some e => exec (decodeSerzel e (s.wordAt e)) s
  | none => .next (timeClock s)

end Sys2Proof.Machine
end

