-- ==== Sys2Proof/WellFormed.lean ====
section
/-! DEFINITION. Which commands are well formed: the operand values that the manual's encodings and address ranges admit beyond what the
types already say. -/

namespace Sys2Proof

/-- A number of `n` bits. -/
def fits (n v : Nat) : Bool := decide (v < 2 ^ n)

/-- A request source: client and transaction ids of Table 17-4, SDO channel or ECN port, IPv4 address, UDP port (17 R441, R442). -/
def Sender.wf (r : Sender) : Bool :=
  fits 8 r.client && fits 16 r.txn && fits 32 r.ip && fits 16 r.udpPort &&
  (match r.path with
   | .can => decide (r.carrier < 8)
   | .ecn => decide (r.carrier < 2)
   | .host | .ring => true)

/-- A cutting-list entry number: the list has 16 384 entries (09 R243). -/
def cutWf (n : Nat) : Bool := fits 14 n

/-- An entry of the dictionary: 16-bit index, 8-bit subindex (17 R437). -/
def entryWf (index sub : Nat) : Bool := fits 16 index && fits 8 sub

/-- The operand values of a command lie in the ranges of their fields. A jump has TGT ≠ 0, LOOP has LEN ≠ 0, a timer an even INST
(05 R133); a lane does not receive its own vector or alarm. -/
def Instr.wf : Instr → Bool
  | .jmp _ t | .jmpc _ t | .jmpcn _ t => decide (t.val ≠ 0)
  | .loop _ _ len _ => decide (len.val ≠ 0)
  | .ton _ _ i | .tof _ _ i | .tp _ _ i | .tonm _ _ i => decide (i.val % 2 = 0)
  | .pubTelegram _ _ i => fits 8 i.val
  | .converterStart _ n | .conversionResult _ _ (some n) _ | .userEventTrigger n | .ringTransmitSlot n | .slotDeadline n |
    .frameLeftPort n | .ringReceiveWindow n _ | .syncSlot n | .syncReceiveWindow n _ | .bestEffortWindow _ n | .ecnTransmit n |
    .telegramDeadline n => cutWf n
  | .forwardedVector l m _ | .sectionAlarm l m => decide (l ≠ m)
  | .reintegrateLane r _ | .safeStateRelease r _ | .dcTriggerIdWrite r _ _ | .ecTriggerIdWrite r _ _ | .taiSecondWrite r _ |
    .controllerRestart r _ _ | .cvuInitialise r _ _ | .cvuFeedByte r _ _ | .cvuFeedHalfWord r _ _ | .cvuFeedWord r _ _ |
    .cvuResultRead r _ | .cvuReleaseClaim r _ _ | .containerDownload r _ | .admitOnly r | .admitAndStore r | .deltaDownload r _ |
    .admitDelta r | .activateChange r | .cancelChange r | .setForce r _ | .releaseForce r _ | .releaseAllForces r _ |
    .discardState r _ | .arm r _ | .recordAtCursor r | .freezeBegin r | .freezeEnd r | .entryAtCursor r | .clearChangeLog r _ |
    .contentsAndClear r _ | .monitorClear r _ _ | .openSession r _ | .closeSession r _ | .newPassword r _ | .clearPassword r _ |
    .publicKey r _ _ | .revokeKey r _ _ | .minimumContainerVersion r _ | .crossingClear r _ _ | .clearAllCrossingFlags r _ |
    .commandedRestart r _ => r.wf
  | .recordBlock r o => r.wf && fits 32 o
  | .timingRelevantWrite r i s _ | .registerWrite r i s _ => r.wf && entryWf i s
  | .domainWriteSegment r i s o _ d => r.wf && entryWf i s && fits 32 o && decide (d.length ≤ 1024)
  | .domainReadSegment r i s o => r.wf && entryWf i s && fits 32 o
  | .dictionaryDatagram r p _ => r.wf && fits 16 p
  | .sdoInitiate _ _ i s d => entryWf i s && (d.all (fun b => decide (1 ≤ b.length) && decide (b.length ≤ 4)))
  | .sdoSegment _ d _ => decide (d.length ≤ 889)
  | .arpRequest _ a b | .icmpEchoRequest _ a b => fits 32 a && fits 32 b
  | .arpReply _ a m => fits 32 a && fits 48 m
  | .arpEntryExpiry _ a => fits 32 a
  | .heartbeatReceived _ n | .nmtStart _ n | .nmtStop _ n | .nmtEnterPreOperational _ n | .nmtResetCommunication _ n |
    .nmtResetNode _ n => decide (n ≤ 127)
  | .domainTransferTimeout c | .captureTimeout c | .bindingExpiry c => fits 8 c
  | .historyExpiry c t => fits 8 c && fits 16 t
  | .carryPiece _ bs => decide (bs.length ≤ 4096)
  | .stateTransferBlock _ b _ x y => decide (b < 1281) && fits 32 x && fits 32 y
  | _ => true

end Sys2Proof
end

