-- ==== Sys2Proof/Safety.lean ====
section
/-! DEFINITION. What counts as a safe state and a run, in the terms in which claims are stated. -/

namespace Sys2Proof.Machine

open Sys2Proof

/-- The canonical form of a byte store: offsets strictly rising, no byte listed that an unlisted one reads as (0). -/
abbrev Memory.wf (m : Store Byte) : Bool := Store.wf (0 : Byte) m

/-- The canonical form of a lane's areas: I, Q, M, D, S and the local stores of its engines (04 Table 04-2). -/
def Lane.memoryWf (ln : Lane) : Bool :=
  Memory.wf ln.i && Memory.wf ln.q && Memory.wf ln.m && Memory.wf ln.d && Memory.wf ln.s &&
  Store.wf ([] : Store Byte) ln.locals && ln.locals.all (fun p => Memory.wf p.2)

/-- The canonical form of every lane's memory. -/
def State.memoryWf (s : State) : Bool := s.lanes.a.memoryWf && s.lanes.b.memoryWf && s.lanes.c.memoryWf

/-- The canonical form of everything that a lane keeps byte by byte: its areas, the input image before its conversion, and the copies of the
cross-engine variables. -/
def Lane.canonical (ln : Lane) : Bool :=
  ln.memoryWf && Memory.wf ln.iBase && Store.wf ([] : Store Byte) ln.published && ln.published.all (fun p => Memory.wf p.2)

/-- The canonical form of every byte store of every lane. -/
def State.canonical (s : State) : Bool := s.lanes.a.canonical && s.lanes.b.canonical && s.lanes.c.canonical

/-- The engine of an id. -/
def State.engineOf (s : State) (e : EngineId) : Engine := (s.lane e.lane).engine e.slot

/-- A byte of an area of a lane, `eng` naming the engine of a local store. -/
def State.byteAt (s : State) (l : LaneId) (a : Area) (eng ofs : Nat) : Byte := Store.get ((s.lane l).area a eng) 0 ofs

/-- Every byte of every area of every lane reads as before. -/
def State.sameMemory (s t : State) : Prop := ∀ l a eng ofs, t.byteAt l a eng ofs = s.byteAt l a eng ofs

/-! ## Instructions of the engines -/

/-- The two cores of an engine agree: neither comparator has reported, the trailing core has reached the registers of the leading one, the
running signatures are equal, and every output on its way meets the same output of the leading core. -/
def State.coresAgree (s : State) (e : EngineId) : Bool :=
  let p := (s.lane e.lane).pair e.slot
  !p.bitwise && !p.signature && decide (p.head = p.lead) && decide (p.sigLead = p.sigTrail) &&
  p.shims.all (fun x => decide (x.give = x.lead))

/-- An engine executes, its two cores agree, and its next instruction is neither the last of its store nor the last of its innermost loop body: an
instruction that is no jump goes on to PC + 1. -/
def State.steady (s : State) (e : EngineId) : Bool :=
  let en := s.engineOf e
  s.executes e && s.coresAgree e && decide (en.pc + 1 < (Exec.start s e).codeSize) &&
  en.loops.head?.all (fun f => !(decide (f.depth = en.calls.length) && decide (en.pc + 1 = f.past)))

/-- The trailing core after an instruction on which both cores agree: the inputs `ins` and the output `out`, the address fetched next behind it,
enter the shim registers (03 R62). -/
def State.follows (s t : State) (e : EngineId) (ins : Bytes) (core : Engine) (out : List (BitVec 128)) : State :=
  let shown := out ++ [busWord 0 core.pc 0]
  lockstep t e (Exec.start s e) ins core core (pairUp shown shown)

/-- The state after an instruction that goes on to PC + 1, takes `ins` in and puts `out` on the compared bus: the lane `ln` with the engine `en`,
`clk` clocks later, the fault latched (0 none), and the trailing core following two clocks behind (03 R62). -/
def State.ranOut (s : State) (e : EngineId) (ln : Lane) (en : Engine) (clk fault : Nat) (ins : Bytes) (out : List (BitVec 128)) : State :=
  let core := { en with pc := (s.engineOf e).pc + 1, clock := (s.engineOf e).clock + clk }
  s.follows (s.modLane e.lane (fun _ => (ln.setEngine e.slot core).latch ((s.engineOf e).ctx.getD 0) fault)) e ins core out

/-- The state after an instruction that goes on to PC + 1, with nothing taken in and nothing else on the compared bus. -/
def State.ran (s : State) (e : EngineId) (ln : Lane) (en : Engine) (clk fault : Nat) : State := s.ranOut e ln en clk fault [] []

/-- What a load of `n` bytes takes in and puts on the compared bus; one that fails a check does neither (05 R138). -/
def State.loadedIn (s : State) (e : EngineId) (a : Area) (ofs n fault : Nat) : Bytes × List (BitVec 128) :=
  if fault = 0 then ((Exec.start s e).readBytes a ofs n, [busLoad a ofs n]) else ([], [])

/-- The state after an instruction that loads `n` bytes at an offset of an area and changes nothing but its engine. -/
def State.ranLoad (s : State) (e : EngineId) (en : Engine) (clk fault : Nat) (a : Area) (ofs n : Nat) : State :=
  s.ranOut e (s.lane e.lane) en clk fault (s.loadedIn e a ofs n fault).1 (s.loadedIn e a ofs n fault).2

/-- An engine that goes to `pc` in `clk` clocks: the loops whose bodies end there are left behind or go round (05 R153, R154). -/
def Engine.settled (en : Engine) (pc clk : Nat) : Engine :=
  let a := { en with pc := pc }
  { settleLoops 5 a with clock := (settleLoops 5 a).clock + clk + loopClocks a (settleLoops 5 a) }

/-- The state after an instruction that takes the engine `en` to `pc` in `clk` clocks. -/
def State.went (s : State) (e : EngineId) (en : Engine) (pc clk : Nat) : State :=
  s.follows (s.modLane e.lane (fun ln => ln.setEngine e.slot (en.settled pc clk))) e [] (en.settled pc clk) []

/-- The state after a sequence fault: the engine stops, nothing else of the instruction happens (05 R163). -/
def State.seqStopped (s : State) (e : EngineId) (code : Nat) : State := s.modLane e.lane (fun ln => ln.stopSeq e.slot code)

/-- Clocks that an access to an area waits (05 R161). -/
def State.slotWait (s : State) (e : EngineId) (a : Area) : Nat := if isShared a then (Exec.start s e).wait else 0

/-- Everything of the device outside one lane that a program could reach: the other lanes, the ring, the ports, the dictionary, the
journals' junction side, power and the queue. The count 2104.00 of skipped activations is the one register excepted. -/
def State.sameOutside (l : LaneId) (s t : State) : Prop :=
  (∀ m, m ≠ l → t.lane m = s.lane m) ∧ t.pending = s.pending ∧ t.mode = s.mode ∧ t.vote = s.vote ∧ t.time = s.time ∧
  t.ring = s.ring ∧ t.ecn0 = s.ecn0 ∧ t.ecn1 = s.ecn1 ∧ t.can0 = s.can0 ∧ t.can1 = s.can1 ∧ t.host = s.host ∧ t.dict = s.dict ∧
  t.cfg = s.cfg ∧ t.change = s.change ∧ t.forces = s.forces ∧ t.priv = s.priv ∧ t.keys = s.keys ∧ t.field = s.field ∧
  t.power = s.power ∧ t.pins = s.pins ∧ t.crossings = s.crossings ∧ t.log = s.log ∧ t.recorder = s.recorder ∧ t.wires = s.wires ∧
  ∀ index sub, regKey index sub ≠ regKey 0x2104 0 → jget t index sub = jget s index sub

/-! ## Entries of the cutting list -/

/-- The device at the instant at which entry `i` fires next (09 R244). -/
def State.comesTo (s : State) (i : Nat) (e : CutEntry) : State := advanceTo s (s.firing i e 0)

/-- The device when entry `i` fires: at its instant, the firing noted. -/
def State.fires (s : State) (i : Nat) (e : CutEntry) : State :=
  let a := s.comesTo i e
  { a with ring := { a.ring with fired := Store.insert a.ring.fired i (s.firing i e 0 + 1) } }

/-- Whether entry `i` is due at `t`, be it the entry of the next cycle start. -/
def State.due (s : State) (t i : Nat) : Bool := s.dueCycle t i || s.dueEntry t i

/-- Entry `i` of the cutting list in force has action `act` and a good check value, has not fired ahead of its command, and no entry before it in
the list is due at its instant (02 R39, 09 R245). -/
def State.armed (s : State) (i act : Nat) (e : CutEntry) : Prop :=
  s.cut i = some e ∧ CutEntry.act e = act ∧ e.w3 = cutCheck e i ∧ s.firedEarly (.entry i) = false ∧
  ∀ j, j < i → (s.comesTo i e).due (s.firing i e 0) j = false

/-- At `t` no entry of the cutting list is due, nor any of the first `dc` direct and `ec` epoch compares (02 R39). -/
def State.nothingDue (s : State) (t dc ec : Nat) : Prop :=
  (∀ j, j < s.cutLength → (advanceTo s t).due t j = false) ∧ (∀ j, j < dc → (advanceTo s t).dueDc j = false) ∧
  ∀ j, j < ec → (advanceTo s t).dueEc j = false

/-! ## Crossings of the clock domains -/

/-- A crossing that takes its traffic at once, where it operates: both clocks run, it is open, and nothing waits in it (15 R396, R404, R405). -/
def State.flows (s : State) (x : Nat) : Prop :=
  s.crossingLive x = true →
    s.sourceRuns x = true ∧ (s.crossing x).open_ = true ∧ s.destRuns x = true ∧ (s.crossing x).held = [] ∧ (s.crossing x).offered = []

/-- An event crossing that takes the next event of a kind at once: as above, and its handshake of that kind is idle (15 R398). -/
def State.ready (s : State) (x r : Nat) : Prop :=
  s.sourceRuns x = true ∧ (s.crossing x).open_ = true ∧ s.destRuns x = true ∧ ((s.crossing x).flops r).busy x s.time.now = false

/-- The state after an event of a kind has gone through its crossing: the request and its acknowledge have toggled. -/
def State.evented (s : State) (x r : Nat) : State :=
  let r' := !((s.crossing x).flops r).req
  let e : EventFlops := { req := r', ack := r', taken := r', at_ := some s.time.now }
  s.setCrossing x { s.crossing x with stalled := false, events := Store.put (s.crossing x).events EventFlops.idle r e }

/-! ## Requests of the dictionary -/

/-- The device once the carrier and the server have let a request in: it is in flight (17 R441 to R443, checks 1 to 4 of Table 17-6). -/
def State.admitted (s : State) (q : Request) : State := (admitRequest (carrierTakes s q.sender).1 q).1

/-- The carrier and the server let the request in. -/
def State.admits (s : State) (q : Request) : Prop :=
  (carrierTakes s q.sender).2 = true ∧ (admitRequest (carrierTakes s q.sender).1 q).2 = true

/-- The device at the end of the tick in progress, the requests of which are about to be carried out (17 R448). -/
def State.tickEnd (s : State) : State :=
  let u := startDistribution (advanceTo s ((s.time.now / 1000 + 1) * 1000))
  { u with dict := { u.dict with arrived := [] } }

/-- The device when a request that it let in is carried out: at the end of the tick, the client bound (17 R442, R443, R448). -/
def State.taken (s : State) (q : Request) : State := bindClient (s.admitted q).tickEnd q.sender

/-- The carrier and the server let the request in, the only one of its tick. -/
def State.takes (s : State) (q : Request) : Prop := s.admits q ∧ s.dict.arrived = []

/-- A read that every check of Table 17-6 lets pass: the entry `t` is addressed, readable and no DOMAIN. -/
def State.readable (s : State) (q : Request) (t : Target) : Prop :=
  s.takes q ∧ q.op = 1 ∧ resolve (s.taken q) q.index q.sub = .ok t ∧ (accessOf t q.index q.sub).canRead = true ∧ t.typ ≠ .domain

/-- A write that checks 1 to 7 of Table 17-6 and the state rules let pass. -/
def State.reaches (s : State) (q : Request) (t : Target) : Prop :=
  s.takes q ∧ q.op = 2 ∧ resolve (s.taken q) q.index q.sub = .ok t ∧ (accessOf t q.index q.sub).canWrite = true ∧ t.typ ≠ .domain ∧
  lengthCode t q.index q.sub q.data.length = 0 ∧ stateRule (s.taken q) q.sender t q.index q.sub q.data = true

/-- The seal and the session that the access class of an entry asks for (17 Table 17-6, checks 9 and 10). -/
def State.allowed (s : State) (r : Sender) (a : Access) : Prop :=
  (a = .rwS → s.unsealed = true) ∧ (a = .rwP → s.holds r = true)

/-- A write that every check of Table 17-6 lets pass. -/
def State.writable (s : State) (q : Request) (t : Target) : Prop :=
  s.reaches q t ∧ (s.taken q).allowed q.sender (accessOf t q.index q.sub) ∧ valueRule (s.taken q) q.sender t q.index q.sub q.data = 0 ∧
  (accessOf t q.index q.sub = .rwP → logRoom (s.taken q) (logNeed (s.taken q) q.index q.sub) = true)

end Sys2Proof.Machine
end

