-- ==== Sys2Proof/Certificates/Slice0/Obligations.lean ====
section
/-! DEFINITION. The statements for the provers. Each docstring names the rules of spec/ that the statement rests on. -/

open Sys2Proof Sys2Proof.Machine

/-! ## The block's step -/

/-- A step takes the command at the front of the queue and runs it on the state with the queue's rest. -/
def Obligations.StepRunsFrontCommand : Prop :=
  ∀ (c : Instr) (rest : List Instr) (s : State), step { s with pending := c :: rest } = exec c { s with pending := rest }

/-- On an empty queue an engine that executes runs the instruction at its program counter; with none executing the time base advances
by one clock (the model's choice, log entry 2). -/
def Parts.IdleStepRunsEngine : Prop :=
  ∀ s : State, s.pending = [] →
    step s = match s.running with
      | some e => exec (decodeSerzel e (s.wordAt e)) s
      | none => .next (timeClock s)

/-! ## Words of the engines -/

/-- The words that 05 R161 writes out, and the undefined opcodes of R135, decode as the manual says. -/
def Obligations.WordsOfTheManualDecode : Prop :=
  ∀ e : EngineId,
    (∀ op ∈ [0x00, 0x13, 0x14, 0x15, 0x16, 0x17, 0x23, 0x3F], ∀ low, low < 2 ^ 26 → decodeWord e (op * 2 ^ 26 + low) = none) ∧
    decodeWord e 0x68000200 = some (.ld32 e { area := .i, idx := 0, ofs := 0x200 } .wa) ∧
    decodeWord e 0x9CA6012C = some (.cmpsLt e .w32 .wa (.imm 300)) ∧
    decodeWord e 0x0C000082 = some (.bAnd e { area := .i, ofs := 0x10, bit := 2 }) ∧
    decodeWord e 0x11000020 = some (.andn e { area := .m, ofs := 4, bit := 0 }) ∧
    decodeWord e 0x24800200 = some (.bSt e { area := .q, ofs := 0x40, bit := 0 })

/-- 05 R133, R135: the undefined opcodes, a jump with TGT 0, LOOP with LEN 0, an odd INST of a timer, WALL on a counter and KIND 2#11 of
PUB are undefined encodings, whatever the other bits hold. -/
def Parts.UndefinedEncodingsAreRefused : Prop :=
  ∀ (e : EngineId) (w : Nat), w < 2 ^ 32 →
    (w / 2 ^ 26 ∈ [0x00, 0x13, 0x14, 0x15, 0x16, 0x17, 0x23, 0x3F] → decodeWord e w = none) ∧
    (w / 2 ^ 26 ∈ [0x30, 0x31, 0x32] → w % 2 ^ 16 = 0 → decodeWord e w = none) ∧
    (w / 2 ^ 26 = 0x37 → w / 2 ^ 14 % 2 ^ 10 = 0 → decodeWord e w = none) ∧
    (w / 2 ^ 26 ∈ [0x38, 0x39, 0x3A, 0x3B] → w % 2 = 1 → decodeWord e w = none) ∧
    (w / 2 ^ 26 ∈ [0x3C, 0x3D, 0x3E] → w / 2 ^ 25 % 2 = 1 → decodeWord e w = none) ∧
    (w / 2 ^ 26 = 0x2F → w / 2 ^ 24 % 4 = 3 → decodeWord e w = none)

/-- Decode of encode: every well-formed Serzel instruction of an engine, at every value of its operands, is read back from its word
(05 R133, R134, Tables 05-1 to 05-9). -/
def Obligations.DecodeOfEncodeIsTheInstruction : Prop :=
  ∀ (i : Instr) (w : Nat), i.wf = true → encodeSerzel i = some w → w < 2 ^ 32 ∧ ∃ e, decodeWord e w = some i

/-! ## Bit instructions (05 R139 to R141) -/

/-- 05 R139: LD to XORN set BA by Table 05-3 from BA and the operand bit; a load that fails a check of R138 delivers 0 and latches its
fault. Nothing else changes but the program counter and the clock. -/
def Obligations.BitLogicSetsBA : Prop :=
  ∀ p ∈ ([(.bLd, fun _ a => a), (.ldn, fun _ a => !a), (.bAnd, fun b a => b && a), (.andn, fun b a => b && !a),
          (.bOr, fun b a => b || a), (.orn, fun b a => b || !a), (.bXor, fun b a => Bool.xor b a), (.xorn, fun b a => Bool.xor b (!a))] :
          List ((EngineId → BitAddr → Instr) × (Bool → Bool → Bool))),
    ∀ (s : State) (e : EngineId) (b : BitAddr), s.steady e = true →
      let x := Exec.start s e
      let f := x.loadFault b.area b.ofs.val 1
      let a := if f = 0 then bitOf (x.readByte b.area b.ofs.val).toNat b.bit.val else false
      exec (p.1 e b) s =
        .next (s.ranLoad e { s.engineOf e with ba := p.2 (s.engineOf e).ba a } (1 + s.slotWait e b.area) f b.area b.ofs.val 1)

/-- 05 R139: NOT inverts BA; ST and STN store BA and its inverse; S and RST store only when BA is 1, at the same clocks. A store that fails
a check of R138 latches its fault and stores nothing. -/
def Parts.BitStoresObeyBA : Prop :=
  ∀ (s : State) (e : EngineId) (b : BitAddr), s.steady e = true →
    let x := Exec.start s e
    let en := s.engineOf e
    let stored := fun (v : Bool) =>
      .next (s.ranOut e (x.storeBit b v).ln en (1 + s.slotWait e b.area) (x.storeFault b.area b.ofs.val 1) [] (x.storeBit b v).out)
    let kept := .next (s.ran e (s.lane e.lane) en (1 + s.slotWait e b.area) 0)
    exec (.bNot e) s = .next (s.ran e (s.lane e.lane) { en with ba := !en.ba } 1 0) ∧
    exec (.bSt e b) s = stored en.ba ∧
    exec (.stn e b) s = stored (!en.ba) ∧
    exec (.bSet e b) s = (if en.ba then stored true else kept) ∧
    exec (.rst e b) s = (if en.ba then stored false else kept)

/-- 05 R140: AND(, OR( and XOR( push (BA, operator) and set BA to the operand; ")" pops (v, op) and sets BA to v op BA; a push onto a full
stack of eight or a pop from an empty one is sequence fault 33. -/
def Obligations.BracketsPushAndPop : Prop :=
  ∀ (s : State) (e : EngineId) (b : BitAddr), s.steady e = true →
    let x := Exec.start s e
    let en := s.engineOf e
    let f := x.loadFault b.area b.ofs.val 1
    let a := if f = 0 then bitOf (x.readByte b.area b.ofs.val).toNat b.bit.val else false
    (∀ p ∈ ([(.andBracket, .and), (.orBracket, .or), (.xorBracket, .xor)] : List ((EngineId → BitAddr → Instr) × BrOp)),
      (en.brackets.length < 8 → exec (p.1 e b) s =
        .next (s.ranLoad e { en with ba := a, brackets := (en.ba, p.2) :: en.brackets } (1 + s.slotWait e b.area) f b.area b.ofs.val 1)) ∧
      (8 ≤ en.brackets.length → exec (p.1 e b) s = .next (s.seqStopped e 33))) ∧
    (∀ v op rest, en.brackets = (v, op) :: rest → exec (.bracketClose e) s =
      .next (s.ran e (s.lane e.lane) { en with ba := op.apply v en.ba, brackets := rest } 1 0)) ∧
    (en.brackets = [] → exec (.bracketClose e) s = .next (s.seqStopped e 33))

/-- 05 R141: an edge detector reads prev and valid, delivers no edge on the first evaluation, else a rising (EDGR) or falling (EDGF) edge,
and writes prev := BA and valid := 1 to its byte of S; the write-back obeys the fence. -/
def Parts.EdgeDetectorsReportEdges : Prop :=
  ∀ (s : State) (e : EngineId) (ofs : Fin 1048576) (pair : Fin 4), s.steady e = true →
    let x := Exec.start s e
    let en := s.engineOf e
    let byte := (x.readByte .s ofs.val).toNat
    let prev := bitOf byte (2 * pair.val)
    let valid := bitOf byte (2 * pair.val + 1)
    let f := x.storeFault .s ofs.val 1
    let new := BitVec.ofNat 8 (setBit (setBit byte (2 * pair.val) en.ba) (2 * pair.val + 1) true)
    let ln := if f = 0 then (x.put .s ofs.val [new]).ln else s.lane e.lane
    let ins := x.readBytes .s ofs.val 1
    let out := busLoad .s ofs.val 1 :: (if f = 0 then busOf .s ofs.val [new] else [])
    exec (.edgr e ofs pair) s =
      .next (s.ranOut e ln { en with ba := if !valid then false else en.ba && !prev } (2 + s.slotWait e .s) f ins out) ∧
    exec (.edgf e ofs pair) s =
      .next (s.ranOut e ln { en with ba := if !valid then false else prev && !en.ba } (2 + s.slotWait e .s) f ins out)

/-! ## Word access (05 R137, R138, R142) -/

/-- 05 R142, R138: LD8 to LD64 load 1, 2, 4 and 8 bytes zero-extended, LDS8 to LDS32 sign-extended, least significant byte first; a load
that fails a check writes zero and latches 17 (area or extent) or 18 (alignment). No flag changes. -/
def Obligations.LoadsDeliverMemory : Prop :=
  ∀ p ∈ ([(.ld8, 1, false), (.ld16, 2, false), (.ld32, 4, false), (.ld64, 8, false), (.lds8, 1, true), (.lds16, 2, true),
          (.lds32, 4, true)] : List ((EngineId → WordAddr → Acc → Instr) × Nat × Bool)),
    ∀ (s : State) (e : EngineId) (w : WordAddr) (r : Acc), s.steady e = true →
      let x := Exec.start s e
      let en := s.engineOf e
      let ea := w.ofs.val + (if w.idx = 0 then 0 else (en.xreg w.idx).toNat)
      let f := if w.area = .res ∨ ea + p.2.1 > x.extent w.area then 17 else if ea % p.2.1 ≠ 0 then 18 else 0
      let v := if f = 0 then ofLe (x.readBytes w.area ea p.2.1) else 0
      let bits := if p.2.2 then BitVec.ofInt 64 (signedOf (8 * p.2.1) v) else BitVec.ofNat 64 v
      exec (p.1 e w r) s = .next (s.ranLoad e (en.setAcc r bits) (1 + s.slotWait e w.area) f w.area ea p.2.1)

/-- 05 R142, R138: ST8 to ST64 store the low 1, 2, 4 and 8 bytes of the register at EA, least significant byte first; a store that fails a
check is suppressed and latches 16 (area, extent or fence) or 18 (alignment). -/
def Parts.StoresWriteMemory : Prop :=
  ∀ p ∈ ([(.st8, 1), (.st16, 2), (.st32, 4), (.st64, 8)] : List ((EngineId → WordAddr → Acc → Instr) × Nat)),
    ∀ (s : State) (e : EngineId) (w : WordAddr) (r : Acc), s.steady e = true →
      let x := Exec.start s e
      let en := s.engineOf e
      let ea := w.ofs.val + (if w.idx = 0 then 0 else (en.xreg w.idx).toNat)
      let f := if w.area = .res ∨ ea + p.2 > x.extent w.area then 16 else if ea % p.2 ≠ 0 then 18
               else if w.area = .i ∨ w.area = .k ∨ !x.fenced w.area ea p.2 then 16 else 0
      let stored := x.put w.area ea (leBytes p.2 (en.acc r).toNat)
      exec (p.1 e w r) s = .next (if f = 0 then s.ranOut e stored.ln en (1 + s.slotWait e w.area) 0 [] stored.out
        else s.ran e (s.lane e.lane) en (1 + s.slotWait e w.area) f)

/-- Frame of the word stores: whatever ST8 to ST64 do, every byte outside the stored ones reads as before: another area, another lane,
another engine's local store, or an offset outside EA to EA + n − 1 as the area places it. -/
def Parts.StoresLeaveOtherBytes : Prop :=
  ∀ p ∈ ([(.st8, 1), (.st16, 2), (.st32, 4), (.st64, 8)] : List ((EngineId → WordAddr → Acc → Instr) × Nat)),
    ∀ (s t : State) (e : EngineId) (w : WordAddr) (r : Acc), s.steady e = true → exec (p.1 e w r) s = .next t →
      let at_ := (Exec.start s e).physical w.area ((Exec.start s e).ea w)
      ∀ l a eng ofs, (l ≠ e.lane ∨ a ≠ w.area ∨ (a = .l ∧ eng ≠ e.slot / 2) ∨ ofs < at_ ∨ at_ + p.2 ≤ ofs) →
        t.byteAt l a eng ofs = s.byteAt l a eng ofs

/-- The instructions that store to memory: the bit and word stores, the edge detectors, the timers and the counters. -/
def Parts.stores : Instr → Bool
  | .bSt _ _ | .stn _ _ | .bSet _ _ | .rst _ _ | .edgr _ _ _ | .edgf _ _ _ => true
  | .st8 _ _ _ | .st16 _ _ _ | .st32 _ _ _ | .st64 _ _ _ => true
  | .ton _ _ _ | .tof _ _ _ | .tp _ _ _ | .tonm _ _ _ | .ctu _ _ | .ctd _ _ | .ctud _ _ => true
  | _ => false

/-- Frame of the instructions that store nothing: whichever of them an engine runs, with its two cores agreeing, and wherever it ends, every byte
of every area of every lane reads as before. -/
def Obligations.RegisterInstructionsKeepMemory : Prop :=
  ∀ (i : Instr) (e : EngineId) (s t : State),
    (i = .undefinedEncoding e ∨ ∃ w, w < 2 ^ 32 ∧ decodeWord e w = some i) → Parts.stores i = false → s.coresAgree e = true →
    exec i s = .next t → s.sameMemory t

/-- A byte written is the byte read: after a word store of a canonical memory whose checks pass, each stored byte reads as the register's byte; a
byte of Q does so in the bits that no force holds, and keeps its forced bits (05 R142, 04 R105, 06 R184). -/
def Parts.StoredBytesReadBack : Prop :=
  ∀ p ∈ ([(.st8, 1), (.st16, 2), (.st32, 4), (.st64, 8)] : List ((EngineId → WordAddr → Acc → Instr) × Nat)),
    ∀ (s t : State) (e : EngineId) (w : WordAddr) (r : Acc), s.steady e = true → s.memoryWf = true →
      (Exec.start s e).storeFault w.area ((Exec.start s e).ea w) p.2 = 0 → exec (p.1 e w r) s = .next t →
      let ea := (Exec.start s e).ea w
      let at_ := (Exec.start s e).physical w.area ea
      ∀ k, k < p.2 →
        (w.area ≠ .q → t.byteAt e.lane w.area (e.slot / 2) (at_ + k) = BitVec.ofNat 8 (((s.engineOf e).acc r).toNat / 256 ^ k)) ∧
        (w.area = .q → ∀ i, i < 8 → (t.byteAt e.lane .q (e.slot / 2) (ea + k)).getLsbD i =
          if bitOf (forceMask (s.lane e.lane) (ea + k)) i then (s.byteAt e.lane .q (e.slot / 2) (ea + k)).getLsbD i
          else ((s.engineOf e).acc r).toNat.testBit (8 * k + i))

/-! ## Integer, logic and compare (05 R143 to R146) -/

/-- The 64 bits of a source and the fault of a constant beyond K (05 R143): 17, with zero delivered. -/
def Parts.sourceOf (s : State) (e : EngineId) (x : Src) : Nat × Nat :=
  match x with
  | .acc r => (((s.engineOf e).acc r).toNat, 0)
  | .x n => (((s.engineOf e).xreg n).toNat, 0)
  | .imm v => (wrapTo 64 (signedOf 16 v.val), 0)
  | .k v => if 8 * v.val + 8 > (Exec.start s e).extent .k then (0, 17) else (ofLe ((Exec.start s e).readBytes .k (8 * v.val) 8), 0)

/-- 05 R143, R144, Table 05-4: an INT instruction forms r from the low w bits of D, the other accumulator and S as two's complement,
writes it to D sign-extended, sets Z, N, C and V, and takes its clocks; the fault of K comes before none, and of two faults the lower is
latched. Nothing else changes. -/
def Parts.IntInstructionsDeliver : Prop :=
  ∀ p ∈ ([(.intAdd, 1, fun n a _ b => aluAddS n a b), (.intSub, 1, fun n a _ b => aluSubS n a b), (.intNeg, 1, fun n _ _ b => aluNeg n b),
          (.intAbs, 1, fun n _ _ b => aluAbs n b), (.intMin, 1, fun n a _ b => aluPlain n (min a b)),
          (.intMax, 1, fun n a _ b => aluPlain n (max a b)), (.intLimit, 1, fun n a o b => aluPlain n (min (max a o) b)),
          (.intMul, 3, fun n a _ b => aluMulS n a b), (.intDiv, 34, fun n a _ b => aluDivS n a b),
          (.intMod, 34, fun n a _ b => aluModS n a b)] :
          List ((EngineId → Wid → Acc → Src → Instr) × Nat × (Nat → Int → Int → Int → Alu))),
    ∀ (s : State) (e : EngineId) (w : Wid) (d : Acc) (x : Src), s.steady e = true →
      let en := s.engineOf e
      let low := fun r => signedOf w.bits ((en.acc r).toNat % 2 ^ w.bits)
      let v := p.2.2 w.bits (low d) (low d.other) (signedOf w.bits (Parts.sourceOf s e x).1)
      let f := if (Parts.sourceOf s e x).2 = 0 then v.f else if v.f = 0 then (Parts.sourceOf s e x).2 else Nat.min (Parts.sourceOf s e x).2 v.f
      exec (p.1 e w d x) s = .next (s.ran e (s.lane e.lane)
        { en.setAcc d (BitVec.ofInt 64 (signedOf w.bits v.r)) with z := decide (v.r = 0), n := bitOf v.r (w.bits - 1), c := v.c, v := v.v }
        p.2.1 f)

/-- 05 R143, R144, Table 05-4: a UINT instruction forms r from the low w bits as unsigned numbers and writes it zero-extended. -/
def Parts.UintInstructionsDeliver : Prop :=
  ∀ p ∈ ([(.uintAdd, 1, fun n a _ b => aluAddU n a b), (.uintSub, 1, fun n a _ b => aluSubU n a b),
          (.uintMin, 1, fun n a _ b => aluPlain n (Nat.min a b : Nat)), (.uintMax, 1, fun n a _ b => aluPlain n (Nat.max a b : Nat)),
          (.uintLimit, 1, fun n a o b => aluPlain n (min (max (a : Int) o) b)), (.uintMul, 3, fun n a _ b => aluMulU n a b),
          (.uintDiv, 34, fun _ a _ b => aluDivU a b), (.uintMod, 34, fun _ a _ b => aluModU a b)] :
          List ((EngineId → Wid → Acc → Src → Instr) × Nat × (Nat → Nat → Nat → Nat → Alu))),
    ∀ (s : State) (e : EngineId) (w : Wid) (d : Acc) (x : Src), s.steady e = true →
      let en := s.engineOf e
      let low := fun r => (en.acc r).toNat % 2 ^ w.bits
      let v := p.2.2 w.bits (low d) (low d.other) ((Parts.sourceOf s e x).1 % 2 ^ w.bits)
      let f := if (Parts.sourceOf s e x).2 = 0 then v.f else if v.f = 0 then (Parts.sourceOf s e x).2 else Nat.min (Parts.sourceOf s e x).2 v.f
      exec (p.1 e w d x) s = .next (s.ran e (s.lane e.lane)
        { en.setAcc d (BitVec.ofNat 64 v.r) with z := decide (v.r = 0), n := bitOf v.r (w.bits - 1), c := v.c, v := v.v }
        p.2.1 f)

/-- 05 R144: division by zero delivers 0 with V and fault 1; the most negative value DIV −1 delivers itself with V and fault 2, and MOD −1
delivers 0 without V or fault. -/
def Parts.DivisionCorners : Prop :=
  ∀ (w : Wid) (a : Int), -(2 ^ (w.bits - 1) : Int) ≤ a → a < (2 ^ (w.bits - 1) : Int) →
    aluDivS w.bits a 0 = { r := 0, c := false, v := true, f := 1 } ∧
    aluModS w.bits a 0 = { r := 0, c := false, v := true, f := 1 } ∧
    aluDivS w.bits (-(2 ^ (w.bits - 1) : Int)) (-1) = { r := 2 ^ (w.bits - 1), c := false, v := true, f := 2 } ∧
    aluModS w.bits (-(2 ^ (w.bits - 1) : Int)) (-1) = { r := 0, c := false, v := false, f := 0 } ∧
    (∀ b : Int, b ≠ 0 → ¬ (a = -(2 ^ (w.bits - 1) : Int) ∧ b = -1) → -(2 ^ (w.bits - 1) : Int) ≤ b → b < (2 ^ (w.bits - 1) : Int) →
      signedOf w.bits (aluDivS w.bits a b).r = Int.tdiv a b ∧ signedOf w.bits (aluModS w.bits a b).r = Int.tmod a b ∧
      (aluDivS w.bits a b).f = 0 ∧ (aluModS w.bits a b).f = 0)

/-- 05 Table 05-4: ADD and SUB wrap; carry and borrow are the unsigned ones, and V says that the exact signed result does not fit. -/
def Parts.AdditionWraps : Prop :=
  ∀ (w : Wid) (a b : Nat), a < 2 ^ w.bits → b < 2 ^ w.bits →
    (aluAddU w.bits a b).r = (a + b) % 2 ^ w.bits ∧ ((aluAddU w.bits a b).c = true ↔ 2 ^ w.bits ≤ a + b) ∧
    (aluSubU w.bits a b).r = (a + 2 ^ w.bits - b) % 2 ^ w.bits ∧ ((aluSubU w.bits a b).c = true ↔ a < b) ∧
    (aluAddS w.bits (signedOf w.bits a) (signedOf w.bits b)).r = (a + b) % 2 ^ w.bits ∧
    ((aluAddS w.bits (signedOf w.bits a) (signedOf w.bits b)).c = true ↔ 2 ^ w.bits ≤ a + b) ∧
    ((aluAddS w.bits (signedOf w.bits a) (signedOf w.bits b)).v = false ↔
      -(2 ^ (w.bits - 1) : Int) ≤ signedOf w.bits a + signedOf w.bits b ∧
        signedOf w.bits a + signedOf w.bits b < (2 ^ (w.bits - 1) : Int)) ∧
    (aluSubS w.bits (signedOf w.bits a) (signedOf w.bits b)).r = (a + 2 ^ w.bits - b) % 2 ^ w.bits ∧
    ((aluSubS w.bits (signedOf w.bits a) (signedOf w.bits b)).c = true ↔ a < b) ∧
    ((aluSubS w.bits (signedOf w.bits a) (signedOf w.bits b)).v = false ↔
      -(2 ^ (w.bits - 1) : Int) ≤ signedOf w.bits a - signedOf w.bits b ∧
        signedOf w.bits a - signedOf w.bits b < (2 ^ (w.bits - 1) : Int))

/-- 05 R145, Table 05-5: LOGIC forms r from the low w bits of D and S (a shift amount is S mod 64), writes it zero-extended, sets Z, N and C
and clears V. -/
def Parts.LogicInstructionsDeliver : Prop :=
  ∀ p ∈ ([(.logicAnd, fun n a b => aluBits n (Nat.land a b)), (.logicOr, fun n a b => aluBits n (Nat.lor a b)),
          (.logicXor, fun n a b => aluBits n (Nat.xor a b)), (.logicNot, fun n _ b => aluBits n (2 ^ n - 1 - b % 2 ^ n)),
          (.shl, fun n a b => aluShl n a (b % 64)), (.shr, fun n a b => aluShr n a (b % 64)), (.sar, fun n a b => aluSar n a (b % 64)),
          (.rol, fun n a b => aluRol n a (b % 64)), (.ror, fun n a b => aluRor n a (b % 64))] :
          List ((EngineId → Wid → Acc → Src → Instr) × (Nat → Nat → Nat → Alu))),
    ∀ (s : State) (e : EngineId) (w : Wid) (d : Acc) (x : Src), s.steady e = true →
      let en := s.engineOf e
      let v := p.2 w.bits ((en.acc d).toNat % 2 ^ w.bits) (Parts.sourceOf s e x).1
      v.v = false ∧ v.f = 0 ∧
      exec (p.1 e w d x) s = .next (s.ran e (s.lane e.lane)
        { en.setAcc d (BitVec.ofNat 64 v.r) with z := decide (v.r = 0), n := bitOf v.r (w.bits - 1), c := v.c, v := false }
        1 (Parts.sourceOf s e x).2)

/-- 05 R146: CMPS and CMPU set BA to a op b, signed or unsigned; no register and no flag changes. -/
def Parts.ComparesSetBA : Prop :=
  ∀ p ∈ ([(.cmpsEq, .cmpuEq, fun a b => decide (a = b)), (.cmpsNe, .cmpuNe, fun a b => decide (a ≠ b)),
          (.cmpsLt, .cmpuLt, fun a b => decide (a < b)), (.cmpsLe, .cmpuLe, fun a b => decide (a ≤ b)),
          (.cmpsGt, .cmpuGt, fun a b => decide (b < a)), (.cmpsGe, .cmpuGe, fun a b => decide (b ≤ a))] :
          List ((EngineId → Wid → Acc → Src → Instr) × (EngineId → Wid → Acc → Src → Instr) × (Int → Int → Bool))),
    ∀ (s : State) (e : EngineId) (w : Wid) (d : Acc) (x : Src), s.steady e = true →
      let en := s.engineOf e
      let a := (en.acc d).toNat % 2 ^ w.bits
      let b := (Parts.sourceOf s e x).1
      exec (p.1 e w d x) s = .next (s.ran e (s.lane e.lane)
        { en with ba := p.2.2 (signedOf w.bits a) (signedOf w.bits b) } 1 (Parts.sourceOf s e x).2) ∧
      exec (p.2.1 e w d x) s = .next (s.ran e (s.lane e.lane)
        { en with ba := p.2.2 (a : Int) ((b % 2 ^ w.bits : Nat) : Int) } 1 (Parts.sourceOf s e x).2)

/-! ## REAL and conversions (05 R147 to R150) -/

/-- A REAL source. -/
def Parts.realSource : RSrc → Src
  | .acc r => .acc r
  | .k v => .k v

/-- A conversion source. -/
def Parts.convSource : ConvSrc → Src
  | .acc r => .acc r
  | .x n => .x n
  | .k v => .k v

/-- The lower of two faults, 0 standing for none (05 R162). -/
def Parts.lowerFault (a b : Nat) : Nat := if a = 0 then b else if b = 0 then a else Nat.min a b

/-- 05 R147, R148, Table 05-6: a REAL instruction writes its result to D, the upper bits clear, sets Z for a zero, N to the sign, V exactly
when fault 5 is raised and C for a NaN. -/
def Obligations.RealInstructionsDeliver : Prop :=
  ∀ p ∈ ([(.realAdd, 3, fun f a b => f.add a b), (.realSub, 3, fun f a b => f.sub a b), (.realMul, 4, fun f a b => f.mul a b),
          (.realDiv, 20, fun f a b => f.div a b), (.realSqrt, 24, fun f _ b => f.sqrt b), (.realNeg, 1, fun f _ b => ⟨f.neg b, 0⟩),
          (.realAbs, 1, fun f _ b => ⟨f.abs b, 0⟩), (.realMin, 3, fun f a b => f.min a b), (.realMax, 3, fun f a b => f.max a b)] :
          List ((EngineId → RWid → Acc → RSrc → Instr) × Nat × (FFmt → Nat → Nat → FRes))),
    ∀ (s : State) (e : EngineId) (w : RWid) (d : Acc) (x : RSrc), s.steady e = true →
      let en := s.engineOf e
      let f := realFmt w
      let r := p.2.2 f ((en.acc d).toNat % 2 ^ f.width) ((Parts.sourceOf s e (Parts.realSource x)).1 % 2 ^ f.width)
      exec (p.1 e w d x) s = .next (s.ran e (s.lane e.lane)
        { en.setAcc d (BitVec.ofNat 64 r.bits) with
          z := decide (r.bits % 2 ^ (f.width - 1) = 0), n := bitOf r.bits (f.width - 1), v := decide (r.fault = 5), c := f.isNan r.bits }
        p.2.1 (Parts.lowerFault (Parts.sourceOf s e (Parts.realSource x)).2 r.fault))

/-- 05 R149: CMPR sets BA by the IEEE 754 order; with a NaN operand it sets BA for NE and clears it for every other function, and raises
no fault of its own. -/
def Obligations.RealComparesSetBA : Prop :=
  ∀ p ∈ ([(.cmprEq, .eq), (.cmprNe, .ne), (.cmprLt, .lt), (.cmprLe, .le), (.cmprGt, .gt), (.cmprGe, .ge)] :
          List ((EngineId → RWid → Acc → RSrc → Instr) × Cmp)),
    ∀ (s : State) (e : EngineId) (w : RWid) (d : Acc) (x : RSrc), s.steady e = true →
      let en := s.engineOf e
      let f := realFmt w
      let a := (en.acc d).toNat % 2 ^ f.width
      let b := (Parts.sourceOf s e (Parts.realSource x)).1 % 2 ^ f.width
      ∃ ba, exec (p.1 e w d x) s = .next (s.ran e (s.lane e.lane) { en with ba := ba } 1 (Parts.sourceOf s e (Parts.realSource x)).2) ∧
        ((f.isNan a = true ∨ f.isNan b = true) → ba = decide (p.2 = .ne)) ∧
        (∀ o, f.cmp a b = some o → ba = p.2.holds (match o with
          | .lt => -1
          | .eq => 0
          | .gt => 1) 0)

/-- 05 R150, Table 05-7: a conversion takes 2 clocks; an integer result is saturated with fault 3 and V, a REAL result sets Z, N and V and
clears C; SNARROW and UNARROW saturate. -/
def Obligations.ConversionsDeliver : Prop :=
  ∀ (s : State) (e : EngineId) (w : Wid) (d : Acc) (x : Src) (y : ConvSrc), s.steady e = true →
    let en := s.engineOf e
    let a := Parts.sourceOf s e x
    let b := Parts.sourceOf s e (Parts.convSource y)
    let ofReal := fun (f : FFmt) (r : FRes) (k : Nat) => s.ran e (s.lane e.lane)
      { en.setAcc d (BitVec.ofNat 64 r.bits) with
        z := decide (r.bits % 2 ^ (f.width - 1) = 0), n := bitOf r.bits (f.width - 1), v := decide (r.fault ≠ 0), c := false }
      2 (Parts.lowerFault k r.fault)
    let ofInt := fun (sgn : Bool) (i : Int) (f k : Nat) => s.ran e (s.lane e.lane)
      { en.setAcc d (if sgn then BitVec.ofInt 64 (signedOf w.bits (wrapTo w.bits i)) else BitVec.ofNat 64 (wrapTo w.bits i)) with
        z := decide (wrapTo w.bits i = 0), n := bitOf (wrapTo w.bits i) (w.bits - 1), c := false, v := decide (f ≠ 0) }
      2 (Parts.lowerFault k f)
    let minI : Int := -(2 ^ (w.bits - 1) : Int)
    let maxI : Int := 2 ^ (w.bits - 1) - 1
    let maxU : Int := 2 ^ w.bits - 1
    let toInt := fun (f : FFmt) (rne sgn : Bool) =>
      f.toInt rne (if sgn then minI else 0) (if sgn then maxI else maxU) (b.1 % 2 ^ f.width)
    let narrow := fun (i lo hi : Int) => (clampInt lo hi i, if lo ≤ i ∧ i ≤ hi then 0 else 3)
    exec (.itof32 e w d x) s = .next (ofReal f32 ⟨f32.ofInt (signedOf w.bits a.1), 0⟩ a.2) ∧
    exec (.itof64 e w d x) s = .next (ofReal f64 ⟨f64.ofInt (signedOf w.bits a.1), 0⟩ a.2) ∧
    exec (.utof32 e w d x) s = .next (ofReal f32 ⟨f32.ofInt ((a.1 % 2 ^ w.bits : Nat) : Int), 0⟩ a.2) ∧
    exec (.utof64 e w d x) s = .next (ofReal f64 ⟨f64.ofInt ((a.1 % 2 ^ w.bits : Nat) : Int), 0⟩ a.2) ∧
    exec (.f32toi e w d y) s = .next (ofInt true (toInt f32 true true).1 (toInt f32 true true).2 b.2) ∧
    exec (.f64toi e w d y) s = .next (ofInt true (toInt f64 true true).1 (toInt f64 true true).2 b.2) ∧
    exec (.f32trunc e w d y) s = .next (ofInt true (toInt f32 false true).1 (toInt f32 false true).2 b.2) ∧
    exec (.f64trunc e w d y) s = .next (ofInt true (toInt f64 false true).1 (toInt f64 false true).2 b.2) ∧
    exec (.f32tou e w d y) s = .next (ofInt false (toInt f32 true false).1 (toInt f32 true false).2 b.2) ∧
    exec (.f64tou e w d y) s = .next (ofInt false (toInt f64 true false).1 (toInt f64 true false).2 b.2) ∧
    exec (.f32tof64 e d y) s = .next (ofReal f64 (f32.convert f64 (b.1 % 2 ^ 32)) b.2) ∧
    exec (.f64tof32 e d y) s = .next (ofReal f32 (f64.convert f32 (b.1 % 2 ^ 64)) b.2) ∧
    exec (.snarrow e w d x) s =
      .next (ofInt true (narrow (signedOf 64 a.1) minI maxI).1 (narrow (signedOf 64 a.1) minI maxI).2 a.2) ∧
    exec (.unarrow e w d x) s = .next (ofInt false (narrow (a.1 : Int) 0 maxU).1 (narrow (a.1 : Int) 0 maxU).2 a.2)

/-! ## Moves, index registers, check values, publication (05 R151, R152, R159, R160) -/

/-- 05 R151, R152: moves and index operations take 1 clock and change no flag. -/
def Parts.MovesAndIndexOperations : Prop :=
  ∀ (s : State) (e : EngineId) (w : Wid) (d : Acc) (x : Src) (n : Fin 4) (v : Fin 65536) (k : Fin 8), s.steady e = true →
    let en := s.engineOf e
    let done_ := fun (en' : Engine) (f : Nat) => Host.Outcome.next (s.ran e (s.lane e.lane) en' 1 f)
    exec (.mov e w d x) s = done_ (en.setAcc d (BitVec.ofNat 64 ((Parts.sourceOf s e x).1 % 2 ^ w.bits))) (Parts.sourceOf s e x).2 ∧
    exec (.swap e) s = done_ { en with wa := en.wb, wb := en.wa } 0 ∧
    exec (.ba2w e w d) s = done_ (en.setAcc d (if en.ba then 1 else 0)) 0 ∧
    exec (.w2ba e w x) s = done_ { en with ba := decide ((Parts.sourceOf s e x).1 % 2 ^ w.bits ≠ 0) } (Parts.sourceOf s e x).2 ∧
    exec (.xli e n v) s = done_ (en.setX n (BitVec.ofNat 32 v.val)) 0 ∧
    exec (.xadd e n v) s = done_ (en.setX n (en.xreg n + BitVec.ofInt 32 (signedOf 16 v.val))) 0 ∧
    exec (.xfrom e n d) s = done_ (en.setX n ((en.acc d).setWidth 32)) 0 ∧
    exec (.xto e n d) s = done_ (en.setAcc d ((en.xreg n).setWidth 64)) 0 ∧
    exec (.xshl e n k) s = done_ (en.setX n (en.xreg n <<< k.val)) 0

/-- 05 R159, Table 05-9: CRCI sets the unit to the polynomial's initial value; CRCB, CRCH and CRCW feed 1, 2 and 4 bytes of the register;
CRCR delivers the finished value and leaves the unit. A unit not assigned to the engine, or not initialised in the activation, is not
touched: fault 19, and CRCR delivers zero. -/
def Parts.CheckValueInstructions : Prop :=
  ∀ (s : State) (e : EngineId) (u : Fin 2) (poly : Fin 5) (r : Acc), s.steady e = true →
    let x := Exec.start s e
    let en := s.engineOf e
    let ln := s.lane e.lane
    let feed := fun (n clk : Nat) => Host.Outcome.next (match x.unit u with
      | some v => s.ranOut e (ln.setLcv u { v with reg := crcFeed v.poly v.reg (leBytes n (en.acc r).toNat) }) en clk 0
          [] [busWord 3 (8 * u.val + n) (en.acc r).toNat]
      | none => s.ran e ln en clk 19)
    exec (.crci e u poly) s = .next (if x.ownsUnit u then
      s.ranOut e (ln.setLcv u { poly := poly.val, reg := (crcParams poly.val).init, owner := some en.began }) en 1 0
        [] [busWord 3 (8 * u.val) poly.val]
      else s.ran e ln en 1 19) ∧
    exec (.crcb e u r) s = feed 1 1 ∧ exec (.crch e u r) s = feed 2 2 ∧ exec (.crcw e u r) s = feed 4 4 ∧
    exec (.crcr e u r) s = .next (match x.unit u with
      | some v => s.ran e ln (en.setAcc r (BitVec.ofNat 64 (crcFinish v.poly v.reg))) 1 0
      | none => s.ran e ln (en.setAcc r 0) 1 19)

/-- 11 R317, Table 11-6: fed the nine ASCII bytes "123456789", each polynomial gives the check value of its row. -/
def Parts.CheckValuesOfThePolynomials : Prop :=
  let nine : Bytes := [0x31, 0x32, 0x33, 0x34, 0x35, 0x36, 0x37, 0x38, 0x39]
  let check := fun p => crcFinish p (crcFeed p (crcParams p).init nine)
  check 0 = 0xA1 ∧ check 1 = 0x906E ∧ check 2 = 0xCBF43926 ∧ check 3 = 0xE3069283 ∧ check 4 = 0x6C40DF5F0B497347

/-- 05 R160: PUB of an item assigned to the running task marks it published, once a cycle; of any other item it raises fault 19. No
register and no flag changes. -/
def Parts.PublicationMarksItems : Prop :=
  ∀ (s : State) (e : EngineId) (p : EcnPort) (id : Fin 1024), s.steady e = true →
    let en := s.engineOf e
    let ln := s.lane e.lane
    let pub := fun (kind : Nat) => Host.Outcome.next (
      if ((Exec.start s e).task.map (fun t => t.pubs.any (fun q => decide (q.kind = kind) && decide (q.id = id.val)))).getD false = true then
        s.ranOut e (if ln.pubs.contains (kind, id.val) then ln else { ln with pubs := ln.pubs ++ [(kind, id.val)] }) en 2 0
          [] [busWord 4 kind id.val]
      else s.ran e ln en 2 19)
    exec (.pubFlow e id) s = pub 0 ∧ exec (.pubTelegram e p id) s = pub (p.num + 1)

/-! ## Control flow, timers, counters, faults (05 R153 to R158, R162, R163) -/

/-- 05 R153, R155: a taken jump goes to PC + TGT, which lies in its routine and in the innermost loop body, or just past that body, else sequence
fault 36; a jump or call not taken goes on at PC + 1; a call pushes PC + 1, a ninth nested one is sequence fault 34; RET takes the address back,
ends the task at depth 0, and is sequence fault 35 inside a loop body of its routine and 33 with a bracket open at depth 0, the lower code where
both hold. A call may have TGT 0. Running past the end of the instruction store is sequence fault 37. -/
def Obligations.JumpsAndCalls : Prop :=
  ∀ (s : State) (e : EngineId) (t : Fin 65536), s.executes e = true → s.coresAgree e = true →
    let en := s.engineOf e
    let x := Exec.start s e
    let goes := fun (en' : Engine) (pc clk : Nat) =>
      if (en'.settled pc clk).pc < x.codeSize then s.went e en' pc clk else s.seqStopped e 37
    let past := ∃ f, x.body = some f ∧ en.pc + t.val = f.past
    let legal := past ∨ (en.pc + t.val < x.routine.1 + x.routine.2 ∧ ∀ f, x.body = some f → en.pc + t.val ≤ f.past)
    let back := fun (go : State) => Host.Outcome.next go
    (t.val ≠ 0 → legal →
      exec (.jmp e t) s = back (goes en (en.pc + t.val) 2) ∧
      (en.ba = true → exec (.jmpc e t) s = back (goes en (en.pc + t.val) 2)) ∧
      (en.ba = false → exec (.jmpcn e t) s = back (goes en (en.pc + t.val) 2))) ∧
    (t.val ≠ 0 → ¬ legal →
      exec (.jmp e t) s = back (s.seqStopped e 36) ∧
      (en.ba = true → exec (.jmpc e t) s = back (s.seqStopped e 36)) ∧
      (en.ba = false → exec (.jmpcn e t) s = back (s.seqStopped e 36))) ∧
    (en.ba = false → (t.val ≠ 0 → exec (.jmpc e t) s = back (goes en (en.pc + 1) 1)) ∧ exec (.calc e t) s = back (goes en (en.pc + 1) 1)) ∧
    (en.ba = true → (t.val ≠ 0 → exec (.jmpcn e t) s = back (goes en (en.pc + 1) 1)) ∧ exec (.calcn e t) s = back (goes en (en.pc + 1) 1)) ∧
    (let call := if 8 ≤ en.calls.length then s.seqStopped e 34 else goes { en with calls := (en.pc + 1) :: en.calls } t.val 4
     exec (.cal e t) s = back call ∧
      (en.ba = true → exec (.calc e t) s = back call) ∧ (en.ba = false → exec (.calcn e t) s = back call)) ∧
    (∀ ret rest, en.calls = ret :: rest → x.body = none → exec (.ret e) s = back (goes { en with calls := rest } ret 3)) ∧
    (en.calls = [] → en.brackets = [] → x.body = none → exec (.ret e) s = back (endTask (s.went e en (en.pc + 1) 3) e.lane e.slot)) ∧
    (en.calls = [] → en.brackets ≠ [] → exec (.ret e) s = back (s.seqStopped e 33)) ∧
    (x.body ≠ none → ¬ (en.calls = [] ∧ en.brackets ≠ []) → exec (.ret e) s = back (s.seqStopped e 35))

/-- 05 R154: LOOP runs its body MIN(Xn, MAX) times with Xn counting from 0; with none it goes on after the body; a fifth loop, or the index
register of an enclosing loop, is sequence fault 35. Table 05-2: 2 clocks, and 2 for each iteration. -/
def Parts.LoopBegins : Prop :=
  ∀ (s : State) (e : EngineId) (n : Fin 4) (len : Fin 1024) (max : Fin 16384), s.executes e = true → s.coresAgree e = true →
    len.val ≠ 0 →
    let en := s.engineOf e
    let count := Nat.min (en.xreg n).toNat max.val
    let goes := fun (en' : Engine) (pc clk : Nat) =>
      if (en'.settled pc clk).pc < (Exec.start s e).codeSize then s.went e en' pc clk else s.seqStopped e 37
    let frame : LoopFrame := { first := en.pc + 1, past := en.pc + 1 + len.val, iters := count, iter := 0, xn := n, depth := en.calls.length }
    ((4 ≤ en.loops.length ∨ ∃ f ∈ en.loops, f.xn = n) → exec (.loop e n len max) s = .next (s.seqStopped e 35)) ∧
    (en.loops.length < 4 → (∀ f ∈ en.loops, f.xn ≠ n) →
      (count ≠ 0 → exec (.loop e n len max) s = .next (goes { en.setX n 0 with loops := frame :: en.loops } (en.pc + 1) 4)) ∧
      (count = 0 → exec (.loop e n len max) s = .next (goes (en.setX n 0) (en.pc + 1 + len.val) 2)))

/-- 05 R154: at the end of a body the next iteration begins at its first instruction with the index register one higher, 2 clocks later;
after the last one the loop is left behind. -/
def Parts.LoopBodyEnds : Prop :=
  ∀ (en : Engine) (f : LoopFrame) (rest : List LoopFrame), en.loops = f :: rest → f.depth = en.calls.length → en.pc = f.past →
    (f.iter + 1 < f.iters → settleLoops 5 en =
      ({ en with loops := { f with iter := f.iter + 1 } :: rest, pc := f.first } : Engine).setX f.xn (BitVec.ofNat 32 (f.iter + 1))) ∧
    (f.iters ≤ f.iter + 1 → settleLoops 5 en = settleLoops 4 { en with loops := rest }) ∧
    (∀ (at_ : Engine) (clk : Nat), en = { at_ with pc := en.pc } →
      (f.iter + 1 < f.iters → (at_.settled en.pc clk).clock = at_.clock + clk + 2 ∧ (at_.settled en.pc clk).pc = f.first) ∧
      (f.iters ≤ f.iter + 1 → rest = [] → (at_.settled en.pc clk).clock = at_.clock + clk ∧ (at_.settled en.pc clk).pc = f.past))

/-- 05 R156, R157: a timer call reads its 16 bytes of S, acts by its algorithm with now in µs (ms for TONM and at level V2) and pt at
most 2^31 (fault 6 above it), delivers BA := q and WB := et, and writes the instance back unless the fence forbids it. -/
def Parts.TimersRun : Prop :=
  ∀ p ∈ ([(.ton, .ton, false), (.tof, .tof, false), (.tp, .tp, false), (.tonm, .ton, true)] :
          List ((EngineId → Bool → Fin 131072 → Instr) × TimerKind × Bool)),
    ∀ (s : State) (e : EngineId) (wall : Bool) (inst : Fin 131072), s.steady e = true → inst.val % 2 = 0 →
      let x := Exec.start s e
      let en := s.engineOf e
      let us := if wall then en.tw else en.tr
      let raw := en.wa.toNat % 2 ^ 32
      let tm := (timerOf (x.readBytes .s (8 * inst.val) 16)).call p.2.1 en.ba (if p.2.2 || x.v2 then us / 1000 else us) (Nat.min raw (2 ^ 31))
      let g := x.storeFault .s (8 * inst.val) 16
      exec (p.1 e wall inst) s = .next (s.ranOut e (if g = 0 then (x.put .s (8 * inst.val) tm.bytes).ln else s.lane e.lane)
        { en with ba := tm.q, wb := BitVec.ofNat 64 tm.et } (6 + s.slotWait e .s) (Parts.lowerFault (if raw > 2 ^ 31 then 6 else 0) g)
        (x.readBytes .s (8 * inst.val) 16) (busLoad .s (8 * inst.val) 16 :: (if g = 0 then busOf .s (8 * inst.val) tm.bytes else [])))

/-- 05 R157: a TON started by IN delivers q once pt has elapsed and not before, and forgets its time when IN falls; a pt of 0 gives q on the
call that starts it. -/
def Parts.OnDelayElapses : Prop :=
  ∀ (t : TimerInst) (now pt : Nat), t.tStart ≤ now → now < 2 ^ 64 →
    (t.call .ton false now pt).q = false ∧ (t.call .ton false now pt).et = 0 ∧ (t.call .ton false now pt).run = false ∧
    (t.inPrev = false → (t.call .ton true now pt).tStart = now ∧ (t.call .ton true now pt).et = 0 ∧
      ((t.call .ton true now pt).q = true ↔ pt = 0)) ∧
    (t.inPrev = true → t.run = true → t.q = false →
      (t.call .ton true now pt).et = Nat.min (now - t.tStart) pt ∧ ((t.call .ton true now pt).q = true ↔ pt ≤ now - t.tStart)) ∧
    (t.call .ton true now pt).inPrev = true

/-- 05 R158: a counter reads its 8 bytes of S, acts by its algorithm on BA and WB with pv the low 32 bits of WA, delivers WB := cv and BA,
CTUD also C, and writes the instance back unless the fence forbids it. -/
def Parts.CountersRun : Prop :=
  ∀ (s : State) (e : EngineId) (inst : Fin 131072), s.steady e = true →
    let x := Exec.start s e
    let en := s.engineOf e
    let k := counterOf (x.readBytes .s (8 * inst.val) 8)
    let pv := signedOf 32 en.wa.toNat
    let wb := fun i => bitOf en.wb.toNat i
    let g := x.storeFault .s (8 * inst.val) 8
    let done_ := fun (k' : CounterInst) (ba c : Bool) => Host.Outcome.next (s.ranOut e
      (if g = 0 then (x.put .s (8 * inst.val) k'.bytes).ln else s.lane e.lane)
      { en with ba := ba, wb := BitVec.ofInt 64 k'.cv, c := c } (3 + s.slotWait e .s) g
      (x.readBytes .s (8 * inst.val) 8) (busLoad .s (8 * inst.val) 8 :: (if g = 0 then busOf .s (8 * inst.val) k'.bytes else [])))
    let up : CounterInst := { k with cv := if wb 0 then 0 else if en.ba && !k.cu then countUp k.cv else k.cv, cu := en.ba }
    let down : CounterInst := { k with cv := if wb 0 then pv else if en.ba && !k.cd then countDown k.cv else k.cv, cd := en.ba }
    let both : CounterInst :=
      { cv := if wb 0 then 0 else if wb 2 then pv
              else if (en.ba && !k.cu) && !(wb 1 && !k.cd) then countUp k.cv
              else if (wb 1 && !k.cd) && !(en.ba && !k.cu) then countDown k.cv else k.cv
        cu := en.ba, cd := wb 1 }
    exec (.ctu e inst) s = done_ up (decide (pv ≤ up.cv)) en.c ∧
    exec (.ctd e inst) s = done_ down (decide (down.cv ≤ 0)) en.c ∧
    exec (.ctud e inst) s = done_ both (decide (pv ≤ both.cv)) (decide (both.cv ≤ 0))

/-- 05 R133, R163: a word with an undefined encoding is sequence fault 32: the engine stops with no queued task, the submission is
incomplete, 3123 counts the fault and 3124 shows its code and context; memory and every other engine stay. -/
def Parts.UndefinedEncodingStopsTheEngine : Prop :=
  ∀ (s : State) (e : EngineId), s.executes e = true →
    ∃ t, exec (.undefinedEncoding e) s = .next t ∧ (t.engineOf e).phase = .stopped ∧ (t.engineOf e).queue = [] ∧
      (t.lane e.lane).incomplete = true ∧ (t.lane e.lane).rget 0x3123 1 = bump32 ((s.lane e.lane).rget 0x3123 1) ∧
      (t.lane e.lane).rget 0x3124 1 = 32 + 256 * (s.engineOf e).ctx.getD 0 ∧ s.sameMemory t ∧ s.sameOutside e.lane t ∧
      (∀ e' : EngineId, e'.lane = e.lane → e'.slot ≠ e.slot → t.engineOf e' = s.engineOf e')

/-- Isolation: with its two cores agreeing, no instruction of an engine, whatever its operands and wherever it ends, changes another lane or
anything of the junction but the count 2104.00 of skipped activations (01 R9, 04 R101). -/
def Parts.InstructionsStayInTheirLane : Prop :=
  ∀ (i : Instr) (e : EngineId) (s t : State),
    (i = .undefinedEncoding e ∨ ∃ w, w < 2 ^ 32 ∧ decodeWord e w = some i) → s.coresAgree e = true → exec i s = .next t →
    s.sameOutside e.lane t

/-- 03 R62, R63: the trailing core of an engine repeats the leading core two clocks behind on its shimmed inputs, so that two cores that agree
go on agreeing: no instruction of any engine makes a comparator report. In the module as delivered every pair agrees. -/
def Parts.CoresKeepAgreeing : Prop :=
  (∀ e, State.reset.coresAgree e = true) ∧
  ∀ (i : Instr) (e : EngineId) (s t : State),
    (i = .undefinedEncoding e ∨ ∃ w, w < 2 ^ 32 ∧ decodeWord e w = some i) → (∀ e', s.coresAgree e' = true) → exec i s = .next t →
    ∀ e', t.coresAgree e' = true

/-- 03 R63, R64: the comparators of an engine: a pair of different words makes the bitwise comparator report for good, equal words
do not; the signature comparator reports where the running signatures of the two cores differ, and equal words keep equal signatures equal. -/
def Parts.ComparatorsCompare : Prop :=
  ∀ (p : Pair) (x : Shim),
    (x.lead ≠ x.give → (p.compare x).bitwise = true) ∧
    (x.lead = x.give → (p.compare x).bitwise = p.bitwise ∧ (p.sigLead = p.sigTrail →
      (p.compare x).signature = p.signature ∧ (p.compare x).sigLead = (p.compare x).sigTrail)) ∧
    ((p.compare x).signature = true ↔ p.signature = true ∨ Config.mix p.sigLead x.lead ≠ Config.mix p.sigTrail x.give) ∧
    (p.compare x).trail = x.core ∧ (p.bitwise = true → (p.compare x).bitwise = true)

/-- Every instruction of an engine whose cores agree keeps the memory of the lanes in its canonical form. -/
def Obligations.InstructionsKeepMemoryCanonical : Prop :=
  ∀ (i : Instr) (e : EngineId) (s t : State),
    (i = .undefinedEncoding e ∨ ∃ w, w < 2 ^ 32 ∧ decodeWord e w = some i) → s.coresAgree e = true → s.memoryWf = true → exec i s = .next t →
    t.memoryWf = true

/-- Whatever command or idle step runs, with whatever operands, in whatever state: a step keeps every byte store of every lane in its canonical
form: the areas and local stores, the input image before its conversion and the copies of the cross-engine variables. Cycle starts, vectors,
restores, transfers, lane boots, changes and forces write them as the instructions of the engines do. -/
def Obligations.StepsKeepMemoryCanonical : Prop :=
  ∀ s t : State, s.canonical = true →
    ((∀ i, exec i s = .next t → t.canonical = true) ∧ (step s = .next t → t.canonical = true))

/-- The memory of the module as delivered is canonical. -/
def Obligations.ResetMemoryIsCanonical : Prop := State.reset.canonical = true ∧ State.reset.memoryWf = true

/-- An engine that does not execute (its lane not in RUN, no task in progress, stopped or waiting) runs no instruction (04 R118, 05 R163). -/
def Parts.IdleEnginesRunNothing : Prop :=
  ∀ (i : Instr) (e : EngineId) (s : State),
    (i = .undefinedEncoding e ∨ ∃ w, w < 2 ^ 32 ∧ decodeWord e w = some i) → s.executes e = false → exec i s = .next s

/-! ## Sampling, conversions and recognition (chapters 01 and 08) -/

/-- 01 R14, R15, 08 R237: a sample of a running lane whose section operates is taken at S_k of the lane's own counter: it latches every field of the
container as the section holds it, starts the conversions tied to the sample trigger, and begins the event bits of its output sections anew. -/
def Parts.SampleLatchesEveryField : Prop :=
  ∀ (s : State) (l : LaneId) (c : Container), s.config = some c → s.runs l = true → (s.sec l).alive = true → s.field.operating = true →
    s.firedEarly (.sample l) = false → s.badAt 2 (s.sampleAt l) = false → s.flows (7 * l.num + 4) → s.flows (7 * l.num + 5) →
    let at_ := (advanceTo s (s.laneAt l (s.sampleAt l))).modLane l (fun ln => { ln with sampledAt := some (s.sampleAt l) })
    let asked := through at_ (7 * l.num + 4) 1
    let begun := asked.modSec l (fun x => { x with
      di := x.di.map (fun p => (p.1, { p.2 with shown := asked.laneCount l p.1 }))
      converting := asked.tiedStarts l ++ x.converting.filter (fun n => decide (n ≥ 2000)) })
    ∃ t, exec (.sample l) s = .next t ∧ (t.lane l).sampled = sampleBytes begun l c ∧ (t.lane l).sampledAt = some (s.sampleAt l) ∧
      (t.sec l).converting = (begun.sec l).converting ∧ t.time = at_.time ∧ t.mode = s.mode ∧
      (∀ p ∈ t.field.chan, (p.2.sec.get l).events = 0) ∧
      ∀ m, m ≠ l → (t.lane m).sampled = (s.lane m).sampled ∧ (t.sec m).converting = (s.sec m).converting

/-- 08 R220, R221, R223, R224: a converter-start entry marks its conversion at its instant in the lane's counter; a completed conversion enters its code
under its mode, 0 with the shunt switch open, and ends the mark; a line-analog conversion falls on the grid of 500 ns of lane time, enters its code,
and joins the blocks of the recognition unit. -/
def Parts.ConversionsEnterTheirCodes : Prop :=
  ∀ (s : State) (l : LaneId), s.converts l = true → s.flows (7 * l.num + 4) → s.flows (7 * l.num + 5) →
    (∀ i e, s.cut i = some e → CutEntry.act e = 3 → e.w3 = cutCheck e i → s.firedEarly (.conv l i) = false →
      (8 ≤ CutEntry.tgt e ∨ s.aiMode l (CutEntry.tgt e) ≠ 0) → exec (.converterStart l i) s =
        .next ((through ((advanceTo s (s.laneAt l (s.laneFiring l i e))).modLane l (fun ln =>
          { ln with fired := Store.insert ln.fired i (s.laneFiring l i e) })) (7 * l.num + 4) 1).modSec l (fun x =>
            { x with converting := addAsc (2000 + i) x.converting }))) ∧
    (∀ (n : Fin 8) (v : Int),
      let shunt := (Store.find? s.field.shunt n.val).isSome && decide (2 ≤ s.aiMode l n.val)
      let code := if shunt then 0 else aiCode (s.aiMode l n.val) v
      ((s.sec l).converting.contains (1000 + n.val) = true → ∃ t, exec (.conversionResult l n none v) s = .next t ∧
        (t.sec l).ai = Store.put (s.sec l).ai 0 n.val code ∧ (t.sec l).converting = (s.sec l).converting.filter (fun m => decide (m ≠ 1000 + n.val)) ∧
        (t.sec l).conv = (s.sec l).conv ∧ t.time = s.time ∧ t.mode = s.mode ∧ ∀ m, m ≠ l → t.lane m = s.lane m ∧ t.sec m = s.sec m) ∧
      (∀ i e, (s.sec l).converting.contains (2000 + i) = true → s.cut i = some e → CutEntry.tgt e = n.val →
        ∃ t, exec (.conversionResult l n (some i) v) s = .next t ∧
          (t.sec l).conv = Store.put (s.sec l).conv 0 i code ∧ (t.sec l).ai = (s.sec l).ai ∧
          (t.sec l).converting = (s.sec l).converting.filter (fun m => decide (m ≠ 2000 + i)) ∧ t.lanes = s.lanes ∧ t.time = s.time)) ∧
    (∀ (n : Fin 4) (uV : Int),
      let at_ := boundaryBefore ((advanceTo s (s.laneAt l (s.laGrid l n.val))).modSec l (fun x =>
        { x with laAt := Store.insert x.laAt n.val (s.laGrid l n.val) })) l (s.laGrid l n.val)
      ∃ t, exec (.laConversion l n uV) s = .next t ∧ (t.sec l).laConv = Store.put (s.sec l).laConv 0 n.val (laCode uV) ∧
        (1008 + n.val) ∉ (t.sec l).converting ∧ t.time = at_.time ∧
        ((s.sec l).converting.contains (1008 + n.val) = true → (t.sec l).la = Store.put (s.sec l).la 0 n.val (laCode uV)) ∧
        (t.lane l).recog.uBlock =
          (if (s.lane l).rget 0x5310 1 = n.val then laCode uV :: (at_.lane l).recog.uBlock else (at_.lane l).recog.uBlock) ∧
        (t.lane l).recog.iBlock =
          (if (s.lane l).rget 0x5310 2 = n.val then laCode uV :: (at_.lane l).recog.iBlock else (at_.lane l).recog.iBlock))

/-- A code is the integer nearest to `num` / 625, saturated to −32 768 and 32 767. -/
def Parts.nearestCode (code num : Int) : Prop :=
  (-32768 ≤ code ∧ code ≤ 32767) ∧ (-32768 * 625 ≤ num → num ≤ 32767 * 625 → (2 * (num - 625 * code)).natAbs ≤ 625) ∧
  (32767 * 625 ≤ num → code = 32767) ∧ (num ≤ -32768 * 625 → code = -32768)

/-- 08 R220: the code of a conversion is the nearest one, 3 200 to the volt in mode 1 and of a line-analog input (from µV), 1 600 to the
milliampere in modes 2 and 3 (from nA), and never leaves −32 768 to 32 767; an input in mode 0 has the code 0. -/
def Parts.CodesRoundAndSaturate : Prop :=
  ∀ v : Int, aiCode 0 v = 0 ∧ Parts.nearestCode (aiCode 1 v) (2 * v) ∧ Parts.nearestCode (laCode v) (2 * v) ∧
    Parts.nearestCode (aiCode 2 v) v ∧ Parts.nearestCode (aiCode 3 v) v

/-- 08 R228, R230, R232: at every 20 µs of lane time 40 codes of each block become one decimated sample in line units, and a block of another
length breaks the window; every 4 ms the unit evaluates its windows, and 1 ms later the results are published. -/
def Parts.RecognitionRuns : Prop :=
  ∀ (s : State) (l : LaneId), s.converts l = true →
    (let t := dueAt (s.laneNow l) 0 4000000 (s.lane l).recog.evalAt
     exec (.recognitionEvaluation l) s = .next ((advanceTo s (s.laneAt l t)).modLane l (fun ln =>
       { ln with recog := { evaluate ln with evalAt := some t } }))) ∧
    (let t := dueAt (s.laneNow l) 1000000 4000000 (s.lane l).recog.pubAt
     exec (.recognitionPublication l) s = .next ((advanceTo s (s.laneAt l t)).modLane l (fun ln =>
       { ln with recog := { ln.recog with shown := ln.recog.waiting, pubAt := some t } }))) ∧
    (s.firedEarly (.block l) = false →
      let t := dueAt (s.laneNow l) 0 20000 (s.lane l).recog.blockAt
      let r := (s.lane l).recog
      let un := (s.lane l).rget 0x5310 1
      exec (.decimatedSample l) s = .next ((advanceTo s (s.laneAt l t)).modLane l (fun ln => ln.closeBlock t)) ∧
      (r.uBlock.length = 40 → (s.lane l).rget 0x5310 2 = 255 → ((s.lane l).closeBlock t).recog = { r with
        uBlock := [], iBlock := [], blockAt := some t
        window := ({ t := t, u := blockValue r.uBlock ((s.lane l).rget 0x5300 (un + 1)) ((s.lane l).rget 0x5301 (un + 1)), i := 0,
                     clip := r.uBlock.any overRange } :: r.window).take 15000 }) ∧
      (r.uBlock.length ≠ 40 → ((s.lane l).closeBlock t).recog.window = []))

/-- 08 R222: a shunt current above 25 mA in a current mode opens the protection switch and its code reads 0 in every lane; one second later
the switch closes again. -/
def Parts.ShuntProtectionOpensAndRecloses : Prop :=
  ∀ (s : State) (n : Fin 8),
    (∀ uA, 25000 < uA → s.field.operating = true → 2 ≤ s.vget 0x5200 (n.val + 1) → ∃ t,
      exec (.shuntProtectionOpen n uA) s = .next t ∧ Store.find? t.field.shunt n.val = some s.time.now ∧
      (∀ l, (t.sec l).ai = Store.put (s.sec l).ai 0 n.val 0) ∧ t.lanes = s.lanes ∧ t.jreg = s.jreg ∧ t.mode = s.mode) ∧
    (∀ since, Store.find? s.field.shunt n.val = some since → exec (.shuntProtectionReclose n) s =
      .next { advanceTo s (since + 1000000000) with field := { s.field with shunt := Store.erase s.field.shunt n.val } })

/-! ## The cycle and its votes (chapters 01 and 03) -/

/-- 01 R11, R16, 02 R39, 15 R400, 16 R429: a cycle start crosses to the fabric as an event. In RUN it comes to the next start of the grid, where
what is due before it fires and the receive windows that have ended close, a transfer or a rejoin that is due is done, and the cycle starts with its
index. At step 7 the first start discards what the ports received before, and the second one, or FIRST_VOTED_CYCLE, enters RUN in 2oo3 with three
active lanes, else in 2oo2. A wrong check value of the cycle-start entry is a junction time fault. -/
def Parts.CycleStartsFollowTheGrid : Prop :=
  ∀ (s : State) (c : Container), s.config = some c →
    let crossed := s.evented 21 0
    (∀ k0, s.inRun = true → s.inStep 7 = false → s.vote.k = some k0 → s.firedEarly .cycle = false → s.ready 21 0 →
      let cK := nextC s c
      let k := k0 + (cK - s.vote.cK) / Nat.max 1 c.tBase
      let u := rejoinStep (transferStep (beforeBatch (advanceTo crossed cK) cK) k)
      (s.badAt 1 cK = true → exec .cycleStart s = .next (cutFault (advanceTo crossed cK))) ∧
      (s.badAt 1 cK = false → (advanceTo s cK).vote.limpNs ≠ some 0 → u.inRun = true →
        ∃ t, exec .cycleStart s = .next t ∧ t = startCycle u c k cK false ∧ t.vote.k = some k ∧ t.vote.cK = cK ∧ t.vote.agreed = none ∧
          ∀ m, t.vote.hub.get m = if t.runs m then .awaited else .absent)) ∧
    (s.inStep 7 = true → s.firedEarly .cycle = false →
      (s.ready 21 0 → s.power.c1 = none → ∃ t, exec .cycleStart s = .next t ∧ t = firstStart crossed c ∧ t.power.c1 = some t.time.now ∧
        t.can0.rx = [] ∧ t.can1.rx = [] ∧ t.batchIn.triggers = [] ∧ (∀ p ∈ t.ring.rx, p.2.frame = none)) ∧
      (∀ c1, s.ready 21 0 → s.power.c1 = some c1 → exec .cycleStart s = .next (enterRun crossed c c1)) ∧
      exec .firstVotedCycle s = .next (match s.power.c1 with
        | some c1 => enterRun s c c1
        | none => enterRun (firstStart s c) c ((firstStart s c).power.c1.getD 0))) ∧
    ∀ c1,
      let g := gridFrom s.time.now c.phi (Nat.max 1 c.tBase)
      let cK := if g ≤ c1 then c1 + Nat.max 1 c.tBase else g
      let u := beforeBatch (advanceTo s cK) cK
      s.badAt 1 cK = false → u.config = some c → (enterRun s c c1).vote.cK = cK ∧
        (enterRun s c c1).vote.k = some ((cK - c.phi) / Nat.max 1 c.tBase) ∧
        (enterRun s c c1).mode = if u.actives.length = 3 then .run2oo3 else .run2oo2

/-- 03 R74, R75: the hub accepts a vector of the right length and check value, and rejects another one, counts it in 3020.01 and excludes
its lane with cause 5; at the deadline an outstanding vector is absent and its lane excluded with cause 6; a lane that finds a forwarded
vector bad is excluded with cause 9. Vectors reach the hub and the lanes over their queues. -/
def Parts.VectorsAreExchanged : Prop :=
  ∀ (s : State) (c : Container) (l src : LaneId) (v : Bytes), s.config = some c → s.inRun = true →
    (s.flows (7 * l.num) → s.vote.hub.get l = .awaited →
      let at_ := through s (7 * l.num) (entriesOf (7 * l.num) v.length)
      let rejected := { at_ with vote := { at_.vote with hub := at_.vote.hub.set l .rejected } }.modLanes
        (fun m ln => if m = l then ln.rbump 0x3020 1 else { ln with vecs := ln.vecs.set l .rejected })
      (vectorOk c v = true →
        exec (.vectorReceived l v) s = .next { at_ with vote := { at_.vote with hub := at_.vote.hub.set l (.accepted v) } }) ∧
      (vectorOk c v = false → exec (.vectorReceived l v) s = .next (agreeAllLanes (exclude rejected l 5)))) ∧
    (s.vote.k.isSome = true →
      let d := advanceTo s (s.vote.cK + tMx c - 200)
      (outstanding s = [] → exec .vectorDeadline s = .next (agreeAllLanes d)) ∧
      (outstanding s = [l] → exec .vectorDeadline s = .next (agreeAllLanes (exclude
        ({ d with vote := { d.vote with hub := d.vote.hub.set l .absent } }.modLanes
          (fun m ln => if m = l then ln.rbump 0x3021 1 else { ln with vecs := ln.vecs.set l .absent })) l 6)))) ∧
    (∀ w, s.flows (7 * l.num + 1) → s.vote.hub.get src = .accepted w → s.runs l = true → (s.lane l).vecs.get src = .awaited →
      let at_ := through s (7 * l.num + 1) (entriesOf (7 * l.num + 1) v.length)
      exec (.forwardedVector l src v) s = .next
        (if vectorOk c v then agreeLane (at_.modLane l (fun ln => { ln with vecs := ln.vecs.set src (.accepted v) })) l
         else agreeAllLanes (exclude at_ l 9)))

/-- 01 R19, 04 R118, R123, R124: a lane with its agreed image starts every engine at the top of its order list, with fresh registers, at the later
of the end of its exchange and the end of the copies of the cross-engine variables; an engine held by a link goes on from its place when nothing
holds it. -/
def Parts.EnginesStartWithTheAgreedImage : Prop :=
  ∀ (s : State) (l : LaneId) (e : EngineId), s.inRun = true →
    (s.runs l = true → (s.lane l).exchanged = true → (s.lane l).executing = false →
      let fresh := s.modLane l (fun ln => { ln with
        executing := true
        engines := ln.engines.map (fun p => (p.1, { Engine.blank with clock := Nat.max (s.time.now / 2) (copyEnd s l) })) })
      exec (.exchangeComplete l) s = .next (((s.lane l).engines.map (fun p => p.1)).foldl (fun t n => walkEngine t l n) fresh)) ∧
    (s.runs e.lane = true → (s.engineOf e).phase = .waiting →
      let go := walkEngine (s.modLane e.lane (fun ln => ln.setEngine e.slot { s.engineOf e with phase := .running, ctx := none })) e.lane e.slot
      exec (.linkWaitEnd e) s = .next (if (go.engineOf e).phase = .waiting then s else go))

/-- 03 R84, R85: among three lanes, two that submit the same complete data with its check value are released against a third that differs in
both, and the third alone is in Db and Ds; among two lanes the voters decide only what both submit. -/
def Obligations.TwoEqualSubmissionsAreReleased : Prop :=
  ∀ (n : Nat) (d e : Bytes) (sig : Nat),
    let good : Submission := { data := d, sigma := crc64 d }
    let other : Submission := { data := e, sigma := sig }
    removed n (some good) = false → removed n (some other) = false →
    (∀ l, judge n LaneId.all (fun _ => some good) = { vb := d, db := [], ds := [], star := some (crc64 d) } ∧
      judge n [l] (fun _ => none) = { vb := [], db := [l], ds := [l], star := none }) ∧
    (e ≠ d → sig ≠ crc64 d → ∀ l,
      let v := judge n LaneId.all (fun m => if m = l then some other else some good)
      v = { vb := d, db := [l], ds := [l], star := some (crc64 d) } ∧ v.agree = true) ∧
    (∀ l m, l ≠ m → e ≠ d → sig ≠ crc64 d →
      let v := judge n [l, m] (fun x => if x = l then some good else some other)
      v.db = [l, m] ∧ v.ds = [l, m] ∧ v.star = none)

/-- 01 R21, R40, 03 R82, R85, Table 03-6: the vote takes at V_k in each lane's counter the submission of each running lane, its published sequences
advanced, which crosses to the fabric; the voters release, exclude one lane or enter the safe state with cause 1, 3 or 4; a release missing at O_k is the safe state with
cause 6. -/
def Parts.VoteOutcomes : Prop :=
  ∀ (s : State) (c : Container), s.config = some c → s.inRun = true →
    (s.vote.k.isSome = true → s.vote.kV ≠ s.vote.k → s.firedEarly .vote = false → s.badAt 4 (s.vote.cK + c.vOff) = false →
      (∀ l : LaneId, s.flows (7 * l.num)) →
      ∃ t, exec .vote s = .next t ∧ t.vote.voting = true ∧ t.vote.modeV = s.mode ∧ t.vote.partsV = s.actives ∧ t.vote.kV = s.vote.k ∧
        t.vote.cV = s.vote.cK ∧
        ∀ l, t.vote.subs.get l = (if s.runs l then some (((s.lane l).atVote c (s.vote.cK + c.vOff)).submission c s.v2ring) else none) ∧
          t.vote.pubsV.get l = if s.runs l then (s.lane l).pubs else []) ∧
    (∀ k d, s.vote.kV = some k → s.vote.voting = true → bitOf s.power.domains 7 = true → s.domainRuns 3 = true →
      let vK := s.vote.cV + c.vOff
      let v := judge c.bOut s.vote.partsV (fun l => if s.active l then s.vote.subs.get l else none)
      let counted := v.db.foldl (fun t l => t.modLane l (fun ln => ln.rbump 0x3030 1))
        { advanceTo s (vK + tVote c) with vote := { (advanceTo s (vK + tVote c)).vote with voting := false } }
      ((d || !v.agree) = true → exec (.dovetailVote d) s = .next (enterSafe counted 4)) ∧
      (v.agree = true → 2 ≤ v.db.length → s.vote.modeV = .run2oo3 → exec (.dovetailVote false) s = .next (enterSafe counted 3)) ∧
      (v.agree = true → v.db ≠ [] → s.vote.modeV = .run2oo2 → exec (.dovetailVote false) s = .next (enterSafe counted 1)) ∧
      (v.agree = true → v.db = [] ∨ (∃ l, v.db = [l]) ∧ s.vote.modeV = .run2oo3 →
        let out := release counted c k v
        let shown := judgeShadow (monitorTake (jset out 0x3030 4 (out.time.now - vK)) 3 0 ((out.time.now - vK : Nat) : Int)) v
        exec (.dovetailVote false) s = .next (v.db.foldl (fun t l =>
          if t.active l then exclude t l (minorityCause (t.vote.subs.get l)) else t) shown))) ∧
    (s.vote.k.isSome = true → exec .releaseDeadline s = .next
      (if s.vote.relK = some s.applyNext.2 ∨ (s.vote.relK = none ∧ s.vote.agreedLast = none ∧ s.vote.k ≠ some s.applyNext.2)
       then advanceTo s s.applyNext.1 else enterSafe (advanceTo s s.applyNext.1) 6))

/-- 01 R15, R21, R23, 02 R40, 07 R199: with the image of its cycle released, at O_k the samples due at that instant are taken first, in every lane
whose sample falls there; then the locks of the channels are judged, every lane's section, in the order in which their counters reach O_k, sets its
elements from the image that its lane holds, and the tests and off pulses of the cycle are planned; without a release of the cycle the safe state
is entered. -/
def Parts.OutputsFollowTheRelease : Prop :=
  ∀ (s : State) (c : Container), s.config = some c → s.inRun = true → s.vote.k.isSome = true →
    let o := s.applyNext
    let at_ := { advanceTo s o.1 with vote := { (advanceTo s o.1).vote with oAt := o.1 } }
    s.badAt 5 o.1 = false → (s.vote.cK + c.vOff ≠ o.1 ∨ s.vote.kV = s.vote.k) → ¬(s.vote.cK < o.1 ∧ nextC (advanceTo s o.1) c = o.1) →
    (s.vote.relK = some o.2 → s.field.operating = true →
      let sampled := (at_.laneOrder o.1).foldl (sampleBefore o.1) at_
      let locked := switching sampled (fun t => if t.field.operating then (List.range 16).foldl lockChan t else t)
      let u := (locked.laneOrder o.1).foldl (applyAt c o.1) locked
      exec .outputApply s = .next (if u.field.operating then
        (List.range 16).foldl (fun t ch => planPulse t c o.2 ch) (planTests u c o.2) else u)) ∧
    (s.released o.2 = false → exec .outputApply s = .next (enterSafe at_ 6))

/-- 07 R198, R199, R213: a section that operates and whose lane is active takes the command of every channel from its lane's released image, and an
off pulse ends on a channel that no section commands on; a section of another lane is not changed by it. The image crosses the lane's channel. -/
def Parts.SectionsTakeTheReleasedImage : Prop :=
  ∀ (s : State) (c : Container) (l : LaneId),
    (s.active l = true → (s.sec l).alive = true → s.field.operating = true → s.flows (7 * l.num + 4) → ∀ ch, ch < 16 →
      (((applyLane c s l).chan ch).sec.get l).cmd = imageCmd c (s.lane l).released ch ∧
      ((∀ m, (((applyLane c s l).chan ch).sec.get m).cmd = false) → ((applyLane c s l).chan ch).pulse = none) ∧
      ∀ m, m ≠ l → (((applyLane c s l).chan ch).sec.get m).cmd = ((s.chan ch).sec.get m).cmd) ∧
    (s.active l = false ∨ (s.sec l).alive = false → applyLane c s l = s)

/-- 03 R64 to R66, R90, R91, 15 R404: an engine fault excludes its lane with cause 1, or 2 with the comparators disagreeing. An active lane that
is excluded in 2oo3 falls silent, its elements open, and 2oo2 limp begins with the limp time of 3004.00; in 2oo2 the exclusion is the safe state. -/
def Parts.ExclusionEntersLimp : Prop :=
  ∀ (s : State) (e : EngineId) (b g : Bool), (b || g) = true → s.paired e = true → (s.lane e.lane).hold = false → s.active e.lane = true →
    s.ready (7 * e.lane.num + 3) 0 →
    (s.mode = .run2oo3 → ∃ t, exec (.engineFault e b g) s = .next t ∧ t.mode = .run2oo2 ∧
      (t.lane e.lane).status = .held ∧ (t.lane e.lane).hold = true ∧ (t.lane e.lane).excludedAt = some s.time.now ∧
      ((s.lane e.lane).rget 0x3001 1 = 0 → (t.lane e.lane).rget 0x3001 1 = if b && g then 1 else 2) ∧
      t.vote.limpNs = some (1000000000 * t.vget 0x3004 0) ∧
      (∀ l, l ≠ e.lane → (t.lane l).status = (s.lane l).status ∧ (t.lane l).reg = (s.lane l).reg ∧ (t.lane l).engines = (s.lane l).engines) ∧
      (∀ ch, ((t.chan ch).sec.get e.lane).closed = false) ∧ t.time = s.time ∧ t.ring = s.ring ∧ t.dict = s.dict) ∧
    (s.mode = .run2oo2 → ∃ t, exec (.engineFault e b g) s = .next t ∧ t.mode = .safe)

/-- 03 R91, R97, R98: at the end of the limp time, whatever else happens in the state, the safe state is entered with cause 2: every lane holds,
every element of every channel is open, both CAN controllers send no more process data, and 3002.00 and 3003.00 tell the cause. -/
def Parts.LimpEndsInTheSafeState : Prop :=
  ∀ (s : State) (r : Nat), s.mode = .run2oo2 → s.vote.limpNs = some r →
    ∃ t, exec .limpTimerExpiry s = .next t ∧ t.mode = .safe ∧ (∀ l, (t.lane l).hold = true) ∧
      (∀ ch l, ((t.chan ch).sec.get l).closed = false ∧ ((t.chan ch).sec.get l).cmd = false) ∧ t.can0.tx = [] ∧ t.can1.tx = [] ∧
      jget t 0x3002 0 = 2 ∧ jget t 0x3003 0 = 2 ∧ t.vote.limpNs = none ∧ t.vote.reint = none ∧ t.time.now = s.time.now + r

/-- 03 R68, 07 R191, R209: a quiet section opens its elements, drives its alarm and excludes its lane with cause 14 unless the field supply was
reported low; with low reports of all three the field supply is lost and no lane is excluded. The alarm of another section ends a test step
of the section that hears it and brings the same judgement. -/
def Parts.QuietSectionsExcludeTheirLane : Prop :=
  ∀ (s : State) (l m : LaneId),
    let q := quietSection s l
    (exec (.channelQuiet l) s = .next (judgeQuiet q l) ∧ (q.sec l).alarm = true ∧ (q.sec l).alive = false ∧
      ∀ ch, ((q.chan ch).sec.get l).closed = false) ∧
    (s.field.lost = false → q.lowReport = false →
      judgeQuiet q l = if s.active l then exclude q l 14 else q) ∧
    (s.field.lost = false → q.lowReport = true → q.allQuiet = true → judgeQuiet q l = fieldSupplyLoss q ∧
      (fieldSupplyLoss q).field.operating = false ∧ (fieldSupplyLoss q).lanes = q.lanes ∧ (fieldSupplyLoss q).mode = q.mode) ∧
    (m ≠ l → (s.sec m).alarm = true → s.field.step ≠ some l → exec (.sectionAlarm l m) s = .next (judgeQuiet s m)) ∧
    (m ≠ l → (s.sec m).alarm = true → s.field.step = some l → ∃ t, exec (.sectionAlarm l m) s = .next (judgeQuiet t m) ∧ t.field.step = none ∧
      t.lanes = s.lanes ∧ t.mode = s.mode)

/-! ## Reintegration (03 R93 to R95) -/

/-- 03 R93 to R95, Table 03-8, 02 R44: the automatic start 100 ms after an exclusion, the lane scribe test on
the container of the lane's own MRAM, which must be the admitted one and one that the lane may boot, the lock after
16 further marks, the blocks of the state transfer, of which the donors must agree, the shadow execution once no block is outstanding, and the
rejoin after 16 matching cycles. -/
def Obligations.LaneReintegrates : Prop :=
  ∀ (s : State) (l : LaneId) (c : Container),
    (∀ at_, (s.lane l).excludedAt = some at_ → s.mode = .run2oo2 → (s.lane l).status = .held → jget s 0x3006 1 = 1 → s.change.state ≠ 6 →
      let s' := advanceTo s (at_ + 100000000)
      reintBarred s' l = false → ∃ t, exec (.automaticReintegrationStart l) s = .next t ∧ t.vote.reint = some l ∧
        (t.lane l).status = .restarting ∧ (t.lane l).hold = false ∧ (t.lane l).m = [] ∧ (t.lane l).d = [] ∧ (t.lane l).s = [] ∧
        (t.lane l).time = LaneTime.zero ∧
        t.vote.starts = (s'.time.now :: s.vote.starts).take 3 ∧ ∀ m, m ≠ l → t.lane m = s'.lane m) ∧
    (s.vote.reint = some l → (s.lane l).status = .restarting → s.config = some c →
      (∀ sound, (s.lane l).ownCopy c = none → exec (.laneScribeTest l sound) s = .next (abandonReint s l 1 16)) ∧
      ∀ d, (s.lane l).ownCopy c = some d →
      (∀ sound, s.pins.mayBoot d l = false → exec (.laneScribeTest l sound) s = .next (abandonReint s l 1 16)) ∧
      (s.pins.mayBoot d l = true →
      ∃ t u, exec (.laneScribeTest l true) s = .next t ∧ t.lane l = { (s.lane l).load0 d l s.v2serzel with status := .scribe } ∧
        t.vote = s.vote ∧ t.mode = s.mode ∧ (s.field.operating = true → (t.sec l).alive = true ∧ (t.sec l).alarm = false) ∧
        (engineUnits d l ≠ [] → exec (.laneScribeTest l false) s = .next u ∧ u.vote.reint = none ∧ (u.lane l).status = .barred ∧
          (u.lane l).hold = true ∧ jget u 0x3006 4 = 2))) ∧
    (17 ≤ (s.lane l).time.marks →
      (s.vote.reint ≠ some l → exec (.timeLock l) s =
        .next (s.modLane l (fun ln => { ln with time := { ln.time with locked := true } }))) ∧
      (s.vote.reint = some l → (s.lane l).status = .scribe → ∃ t, exec (.timeLock l) s = .next t ∧ (t.lane l).status = .transferring ∧
        (t.lane l).time.locked = true ∧ t.vote.blocksDue = List.range 1281)) ∧
    (∀ (blk : Nat) (d : Bytes) (a b : Nat), s.vote.reint = some l → (s.lane l).status = .transferring → s.vote.blocksDue.contains blk = true →
      blk < 1281 → s.flows (7 * l.num + 1) →
      let at_ := through s (7 * l.num + 1) (entriesOf (7 * l.num + 1) d.length)
      (a ≠ b → exec (.stateTransferBlock l blk d a b) s = .next (enterSafe at_ 8)) ∧
      (crc32c d ≠ a → exec (.stateTransferBlock l blk d a a) s = .next (abandonReint at_ l 4 15)) ∧
      (crc32c d = a → ∃ t, exec (.stateTransferBlock l blk d a a) s = .next t ∧ t.lane l = (s.lane l).takeBlock blk d ∧
        t.vote.blocksDue.contains blk = false ∧ ∀ m, m ≠ l → t.lane m = s.lane m)) ∧
    (∀ k e, s.vote.reint = some l → (s.lane l).status = .transferring → s.vote.passEnd = some e →
      (s.vote.blocksDue = [] → (transferStep s k).lane l = { (s.lane l).adopt (s.lane s.lead) with status := .shadow }) ∧
      (s.vote.blocksDue ≠ [] → transferStep s k = if e + 64 < k then abandonReint s l 4 15 else s)) ∧
    (s.vote.reint = some l → (s.lane l).status = .shadow → s.vote.shadowOk = 16 → s.mode = .run2oo2 →
      (rejoinStep s).mode = .run2oo3 ∧ ((rejoinStep s).lane l).status = .active ∧ (rejoinStep s).vote.limpNs = none ∧
      (rejoinStep s).vote.reint = none ∧ ((rejoinStep s).lane l).glue.fullDue = true ∧ jget (rejoinStep s) 0x3006 4 = 1)

/-- 03 R76, Table 03-4: a sampled field is agreed by its kind. Bits by the majority of three, and of two where they are equal, else as before;
analog values
by the middle of three and by the mean of two, rounded down; counts advance by the middle or the smaller of the advances; enumerations by two
equal values, else the fallback. -/
def Obligations.SamplesAgreeByTheirKind : Prop :=
  ∀ a b c p : Nat, a < 65536 → b < 65536 → c < 65536 → p < 65536 →
    (∀ n i, i < n → n ≤ 16 →
      (agreeField (.bit n) [a, b, c] p).testBit i =
        decide (2 ≤ ([a, b, c].filter (fun x => x.testBit i)).length) ∧
      (agreeField (.bit n) [a, b] p).testBit i = (if a.testBit i = b.testBit i then a.testBit i else p.testBit i)) ∧
    (∀ m, m = agreeField .analog [a, b, c] p → m < 65536 ∧ m ∈ [a, b, c] ∧
      2 ≤ ([a, b, c].filter (fun x => decide (signedOf 16 x ≤ signedOf 16 m))).length ∧
      2 ≤ ([a, b, c].filter (fun x => decide (signedOf 16 m ≤ signedOf 16 x))).length) ∧
    (∀ m, m = signedOf 16 (agreeField .analog [a, b] p) →
      2 * m ≤ signedOf 16 a + signedOf 16 b ∧ signedOf 16 a + signedOf 16 b < 2 * m + 2) ∧
    (let adv : Nat → Nat := fun x => (x + 65536 - p) % 65536;
     (∃ x ∈ [a, b, c], agreeField .count [a, b, c] p = x ∧ 2 ≤ ([a, b, c].filter (fun y => decide (adv y ≤ adv x))).length ∧
        2 ≤ ([a, b, c].filter (fun y => decide (adv x ≤ adv y))).length) ∧
     (∃ x ∈ [a, b], agreeField .count [a, b] p = x ∧ ∀ y ∈ [a, b], adv x ≤ adv y)) ∧
    (∀ fb, (∀ x, 2 ≤ ([a, b, c].filter (fun y => decide (y = x))).length → agreeField (.enum fb) [a, b, c] p = x) ∧
      (a ≠ b → a ≠ c → b ≠ c → agreeField (.enum fb) [a, b, c] p = fb) ∧
      agreeField (.enum fb) [a, b] p = (if a = b then a else fb))

/-! ## Time base and PTP (chapter 02) -/

/-- 02 R43 to R47: a mark carries the node time and the rate correction of the time base; the first valid one sets the lane's counter, each
later one steers it, and one that is not valid is missed. A locked lane off by more than 100 ns reports a lane clock fault, cause 10; four missed
marks do the same. A window of 17 marks gives the rate deviation, reported above 200 ppm; after 4 ms one lane that reports alone is excluded with
cause 11, and two or more raise the junction time fault and the safe state with cause 7. The law by which a mark steers, and what becomes of one
that is not valid, are the model's choices (log entry 76). -/
def Parts.LaneTimeFollowsTheMarks : Prop :=
  ∀ (s : State) (l : LaneId), (s.lane l).hold = false →
    (∀ dev : Int, s.domainRuns 4 = true →
      let u := advanceTo s (s.nextMark l)
      let x := through u (7 * l.num + 1) 1
      let offset := (u.lane l).time.offsetAt u.time.now dev
      let told := x.modLane l (fun ln => Lane.showTime { ln with time := ln.time.mark u.time.now s.rateNow dev } offset)
      s.flows (7 * l.num + 1) →
      exec (.timeMark l dev true) s = .next (if (s.lane l).time.locked && decide (100 < offset.natAbs) then report told l 10 else told) ∧
      exec (.timeMark l dev false) s = .next (advanceTo u (u.time.now + 1))) ∧
    (∀ node rate dev, (s.lane l).time.lastMark = none →
      ((s.lane l).time.mark node rate dev).now = node ∧ ((s.lane l).time.mark node rate dev).marks = 1 ∧
      ((s.lane l).time.mark node rate dev).lastMark = some node) ∧
    (∀ m, (s.lane l).time.lastMark = some m → (s.lane l).time.locked = true → exec (.missedTimeMarks l) s = .next (report
      ((advanceTo s (m + 500000)).modLane l (fun ln => { ln with time := { ln.time with lastMark := some (m + 500000) } })) l 10)) ∧
    (s.ready (7 * l.num + 3) 1 → report s l 10 = exclude (s.evented (7 * l.num + 3) 1) l 10) ∧
    (17 ≤ (s.lane l).time.window.length →
      let dev := rateDeviation ((s.lane l).time.window.take 17)
      let told := s.modLane l (fun ln => { ln.rset 0x4009 1 (wrapTo 32 dev) with time := { ln.time with window := ln.time.window.take 1 } })
      (dev.natAbs ≤ 200000 → exec (.rateWindowCheck l) s = .next told) ∧
      (200000 < dev.natAbs → s.ready (7 * l.num + 3) 2 → ∃ t, exec (.rateWindowCheck l) s = .next t ∧
        t.lane l = { told.lane l with time := { (told.lane l).time with
          reported := (s.lane l).time.reported.orElse (fun _ => some s.time.now) } } ∧
        (∀ m, m ≠ l → t.lane m = s.lane m) ∧ t.mode = s.mode ∧ t.time = s.time)) ∧
    (∀ t, s.reports = [(l, t)] → exec .discrepancyJudgement s = .next (exclude (advanceTo s (t + 4000000)) l 11)) ∧
    (∀ m t u, s.reports = [(l, t), (m, u)] → t ≤ u → u ≤ t + 4000000 → exec .discrepancyJudgement s =
      .next (enterSafe { advanceTo s (t + 4000000) with time := { (advanceTo s (t + 4000000)).time with jtf := true } } 7))

/-- 02 R37 to R41, R60, R245: an epoch compare closes in one second before its target second; an armed compare, and a user event entry of the
cutting list, fires at its target, is spent, and gives its trigger to the batch over its queue; a pulse starts at a second or at a cutting-list
entry as 4020.01 selects and ends after its width. An entry with a bad check value is the junction time fault. -/
def Obligations.ComparesFireAtTheirTargets : Prop :=
  ∀ s : State,
    (∀ (n : Fin 4) (x : Compare), s.time.ec[n.val]? = some x → x.state = 1 →
      (x.close = false → exec (.epochCompareArming n) s =
        .next (setEc (advanceTo s ((x.sec - 1) * 1000000000)) n.val { x with close := true })) ∧
      (x.close = true → (n = 3 → s.ppsSecond = false) → s.firedEarly (.epoch n.val) = false →
        let t := Nat.max s.time.now (x.sec * 1000000000 + x.ns)
        s.nothingDue t 8 n.val →
        exec (.epochCompareFire n) s = .next (raiseTrigger (setEc (advanceTo s t) n.val { x with state := 2 }) x.id))) ∧
    (s.ppsSecond = true → s.firedEarly (.epoch 3) = false → s.nothingDue s.nextSecond 8 3 → s.time.now ≤ s.nextSecond →
      exec (.epochCompareFire 3) s = .next (startPulse (advanceTo s s.nextSecond)) ∧
      exec (.ppsOut none) s = .next (startPulse (advanceTo s s.nextSecond))) ∧
    (∀ (n : Fin 8) (x : Compare), s.time.dc[n.val]? = some x → x.state = 1 → s.firedEarly (.direct n.val) = false →
      let t := s.time.now + waitFor s.time.now x.ns
      s.nothingDue t n.val 0 → exec (.directCompareFire n) s = .next (raiseTrigger (setDc (advanceTo s t) n.val { x with state := 2 }) x.id)) ∧
    (∀ (i : Nat) (e : CutEntry), s.armed i 9 e → exec (.userEventTrigger i) s = .next (raiseTrigger (s.fires i e) (CutEntry.tgt e))) ∧
    (∀ id, s.flows 22 → ∃ t, raiseTrigger s id = t ∧ t.batchIn = { s.batchIn with triggers := s.batchIn.triggers ++ [id] } ∧
      t.time = s.time ∧ t.lanes = s.lanes ∧ t.mode = s.mode) ∧
    (∀ (i : Nat) (e : CutEntry), s.armed i 10 e → exec (.ppsOut (some i)) s =
      .next (if jget s 0x4020 1 = 2 then startPulse (s.fires i e) else s.fires i e)) ∧
    (∀ (i act : Nat) (e : CutEntry), s.cut i = some e → CutEntry.act e = act → e.w3 ≠ cutCheck e i → s.firedEarly (.entry i) = false →
      (∀ j, j < i → (s.comesTo i e).due (s.firing i e 0) j = false) →
      (act = 9 → exec (.userEventTrigger i) s = .next (cutFault (s.comesTo i e))) ∧
      (act = 10 → exec (.ppsOut (some i)) s = .next (cutFault (s.comesTo i e)))) ∧
    (s.time.ppsOut ≠ .hiZ → startPulse s = { s with time := { s.time with
      ppsOut := .high (s.time.now + jget s 0x4020 2), ppsStart := some s.time.now } }) ∧
    (∀ t, s.time.ppsOut = .high t → exec .ppsOutPulseEnd s =
      .next { advanceTo s t with time := { (advanceTo s t).time with ppsOut := .low } })

/-- 02 R35: a direct compare waits for a target at most 2^31 ns ahead; one set further ahead counts as past and fires at once. Nothing else tells
the cases apart: the node time, the spent compare and its trigger are all that change. -/
def Obligations.FarTargetsFireAtOnce : Prop :=
  ∀ (s : State) (n : Fin 8) (x : Compare) (d : Nat), s.time.dc[n.val]? = some x → x.state = 1 → d < 4294967296 →
    x.ns = (s.time.now + d) % 4294967296 → s.firedEarly (.direct n.val) = false →
    let t := s.time.now + if d ≤ 2147483648 then d else 0
    s.nothingDue t n.val 0 →
    exec (.directCompareFire n) s = .next (raiseTrigger (setDc (advanceTo s t) n.val { x with state := 2 }) x.id)

/-- 02 R55 to R61: an edge of PPS_IN is accepted within 1 ms of the expected second, is then stamped and consumes the TAI second, and one that is
rejected counts in 4021.03; expected edges that did not come count there, and the third in succession loses the reference. A second not consumed
within 2 s is discarded; 60 s after the loss of the reference the correction is not valid; a leap second steps the UTC offset. -/
def Parts.OutsideTimeIsTaken : Prop :=
  ∀ s : State,
    (s.stampsPps = true → s.flows 22 → ∀ t,
      let u := passMissing (advanceTo (through s 22 (entriesOf 22 16)) t) t
      exec (.ppsInEdge t) s = .next (if u.edgeAccepted t then acceptEdge u t else jbump u 0x4021 3)) ∧
    (∀ t, (s.edgeAccepted t = true ↔ ∀ d, s.time.ppsDue = some d → d ≤ t + 1000000 ∧ t ≤ d + 1000000) ∧
      (s.time.ppsDue = none → passMissing s t = s) ∧
      (∀ d, s.time.ppsDue = some d → t ≤ d + 1000000 → passMissing s t = s) ∧
      (∀ d, s.time.ppsDue = some d → s.time.ppsMiss + 1 < 3 → d + 1000000 < t → t ≤ d + 1001000000 →
        passMissing s t = { jadd s 0x4021 3 1 with time := { s.time with ppsDue := some (d + 1000000000), ppsMiss := s.time.ppsMiss + 1 } })) ∧
    (∀ t, s.ppsReference = false → acceptEdge s t = { jset s 0x4021 2 (ofLe (timeBytes t)) with
      time := { s.time with ppsDue := some (t + 1000000000), taiSecond := none, ppsMiss := 0 } }) ∧
    (∀ (t : Nat) (p : Nat × Nat), s.timeSource = true → jget s 0x4003 2 = 2 → s.time.taiSecond = some p →
      acceptEdge s t = takeSample { jset s 0x4021 2 (ofLe (timeBytes t)) with
        time := { s.time with ppsDue := some (t + 1000000000), taiSecond := none, ppsMiss := 0 } } ((p.1 : Int) * 1000000000 - t)) ∧
    (∀ d, s.time.ppsDue = some d → s.stampsPps = true → exec .ppsInEdgeMissing s =
      .next (passMissing (advanceTo s (d + 1000001)) (d + 1000001))) ∧
    (∀ n, 3 ≤ s.time.ppsMiss + n → s.ppsReference = true → (edgesMissed s n).time.samples = [] ∧ (edgesMissed s n).time.refLocked = false ∧
      (edgesMissed s n).time.ppsDue = none ∧ (s.time.refLocked = true → (edgesMissed s n).time.lostAt = some s.time.now)) ∧
    (∀ p, s.time.taiSecond = some p → ∃ t, exec .taiSecondDiscard s = .next t ∧ t.time.taiSecond = none ∧
      t.jreg = (jbump s 0x4021 3).jreg ∧ t.time.tai = s.time.tai ∧ t.time.samples = s.time.samples) ∧
    (∀ t, s.time.lostAt = some t → exec .correctionInvalidated s = .next { advanceTo s (t + 60000000000) with
      time := { (advanceTo s (t + 60000000000)).time with taiValid := false, lostAt := none } }) ∧
    (jget s 0x4002 2 = 1 →
      let off := signedOf 16 (jget s 0x4002 1)
      let day : Int := 86400000000000
      let at_ := ((s.time.now : Int) + (day - (s.taiNow - off * 1000000000) % day) + 1000000000).toNat
      exec .leapSecondApplied s =
        .next (recordTai (jset (jset (advanceTo s at_) 0x4002 1 (wrapTo 16 (off + 1))) 0x4002 2 0) s.taiValues))

/-- 02 R49, R52 to R54, Table 02-8: a port in export mode answers requests, goes to PASSIVE when it hears a better master by the best master clock
algorithm and returns when that master disappears, and sends Sync and Announce at its intervals; a monitor port follows the best master that it
hears, and its samples enter the recorder. An unsupported message is counted only. Messages reach the time base over the queue of the ECN. -/
def Parts.PtpPortsServeTheirModes : Prop :=
  ∀ (s : State) (p : EcnPort), s.ptpOn p = true →
    (∀ m t, s.flows 32 →
      let u := jbump (advanceTo (through s 32 (entriesOf 32 64)) t) (ecnIndex p.num) 9
      (ptpUnsupported m = true → exec (.ptpMessage p m t) s = .next (jbump u (ptpIndex p) 14)) ∧
      (ptpUnsupported m = false → m.domain = ptpGet s p 5 → m.transport = ptpGet s p 4 →
        exec (.ptpMessage p m t) s = .next (if ptpGet s p 1 = 1 then ptpExport u p m t else ptpMonitor u p m t)) ∧
      (ptpUnsupported m = false → m.domain ≠ ptpGet s p 5 ∨ m.transport ≠ ptpGet s p 4 → exec (.ptpMessage p m t) s = .next u)) ∧
    (∀ m t,
      (∀ d, m.kind = .announce d → ptpGet s p 13 = 6 →
        ptpExport s p m t = if ptpBetter d (ptpDataset s p) then record
          (ptpState (s.modPtp p (fun x => { x with master := some m.source, data := some d })) p 7) 6 25 (leBytes 1 p.num ++ leBytes 1 7) else s) ∧
      (∀ n, m.kind = .delayReq n → ptpGet s p 13 = 6 → ptpGet s p 3 = 1 → ptpExport s p m t = ptpSend s p (.delayResp n (ptpArrival s p t))) ∧
      (∀ d, m.kind = .announce d → (s.ptp p).master = none → (s.ptp p).data = none → ∃ u, ptpMonitor s p m t = u ∧
        (u.ptp p).master = some m.source ∧ (u.ptp p).data = some d ∧ jget u (ptpIndex p) 13 = 9 ∧ u.time = s.time) ∧
      (∀ n t1 v, (s.ptp p).reqT = some (n, t1) → ptpGet s p 3 = 2 →
        (m.kind = .pdelayResp n false v → ptpMonitor s p m t = peerDelay s p ((ptpArrival s p t - t1 - v) / 2)) ∧
        (∀ t2 t4, (s.ptp p).respT = some (t2, t4) → m.kind = .pdelayRespFollowUp n v →
          ptpMonitor s p m t = peerDelay s p (((t4 - t1) - (v - t2)) / 2)))) ∧
    (∀ d e : PtpDataset, d.priority1 < e.priority1 → ptpBetter d e = true ∧ ptpBetter e d = false) ∧
    (ptpGet s p 1 = 1 → ptpGet s p 13 = 6 → (s.ptp p).syncAt = none → (s.ptp p).announceAt = none →
      (exec (.ptpSyncInterval p true) s = .next (ecnSend ((advanceTo s 0).modPtp p (fun x => { x with announceAt := some s.time.now })) p.num 2
        (ptpFrameLen s p 64) (decide (ptpGet s p 4 = 1))
        (.ptpAnnounce p (ptpDataset s p) (ptpQuality s p).2 (signedOf 16 (jget s 0x4002 1)) s.time.utcValid))) ∧
      (ptpGet s p 2 = 1 → exec (.ptpSyncInterval p false) s = .next (ptpSend
        ((advanceTo s 0).modPtp p (fun x => { x with syncAt := some s.time.now, seq := (x.seq + 1) % 65536 })) p
        (.sync (((s.ptp p).seq + 1) % 65536) (some (ptpDeparture s p)))))) ∧
    (ptpGet s p 1 = 1 → ptpGet s p 13 = 7 → exec (.foreignMasterDisappears p) s = .next (ptpResume s p)) ∧
    (ptpGet s p 1 = 2 → s.timeSource = false →
      let at_ := (s.ptp p).sampleAt.elim 0 (fun t => t + 1000000000)
      exec (.ptpMonitorSample p) s = .next (record ((advanceTo s at_).modPtp p (fun x => { x with sampleAt := some (advanceTo s at_).time.now }))
        6 9 (leBytes 1 p.num ++ leBytes 8 (ptpGet s p 11) ++ leBytes 8 (ptpGet s p 12))))

/-! ## The ring (chapters 09 and 10) -/

/-- 09 R244, R245, R253, R254, R256 to R258, R262, R264, 10 R269, R277, R278: at its deadline a slot locks the data of the latest release, at its
instant the entry sends it (or leaves the slot empty), and the buffer is free once the frame has left; receive and sync windows open for their
length, and a window that ends without a frame counts as a miss; a best-effort window sends notices, answers and queued frames in that order.
An entry with a bad check value is the junction time fault. -/
def Obligations.RingEntriesFire : Prop :=
  ∀ (s : State) (i : Nat) (e : CutEntry), s.cut i = some e →
    let fired := s.fires i e
    let id := CutEntry.tgt e
    (CutEntry.act e = 6 →
      exec (.slotDeadline i) s = .next ((advanceTo s (s.firing i e 4000 - 4000)).modTx id (TxCtx.lock i)) ∧
      exec (.frameLeftPort i) s = .next (s.modTx id (TxCtx.unlock i))) ∧
    (s.armed i 6 e →
      let bytes := fun (d : Bytes) => if s.v2ring then Nat.max 30 d.length else d.length
      let usable := s.transmits && !((s.port .east).wrapped && (s.port .west).wrapped)
      (s.mode ≠ .safe → Store.find? (s.txOf id).locked i = none → exec (.ringTransmitSlot i) s = .next (emptySlot fired id)) ∧
      (∀ d, (s.mode = .safe ∧ d = []) ∨ (s.mode ≠ .safe ∧ ∃ b, Store.find? (s.txOf id).locked i = some b ∧ d = withCvu fired 0 id b.data) →
        exec (.ringTransmitSlot i) s = .next (if !usable then emptySlot fired id
          else if fired.contends .east fired.time.now (bytes d) then emptySlot (jbump fired (portIndex (s.egress .east)) 8) id
          else sendFlow fired i e d))) ∧
    (s.armed i 7 e → exec (.ringReceiveWindow i true) s = .next ((closeWindow fired id).modRx id (fun x =>
      { x with opened := some (fired.time.now, fired.time.now + CutEntry.lenNs e) }))) ∧
    (CutEntry.act e = 7 → exec (.ringReceiveWindow i false) s = .next (closeWindow s id)) ∧
    ((s.rxOf id).opened = none → closeWindow s id = s) ∧
    (∀ w, (s.rxOf id).opened = some w →
      ((s.rxOf id).held = none → closeWindow s id = (jbump (advanceTo s w.2) (flowIndex id) 7).modRx id (fun x =>
        { x with opened := none, taken := false, held := none, west := none, windows := x.windows + 1, after := x.after + 1 })) ∧
      (∀ f, (s.rxOf id).held = some f → closeWindow s id =
        (if (s.rxOf id).frame.isSome then jbump (advanceTo s w.2) (flowIndex id) 18 else advanceTo s w.2).modRx id (fun x =>
          { x with opened := none, taken := false, held := none, west := none, windows := x.windows + 1, frame := some f, after := 0 }))) ∧
    (s.armed i 13 e → exec (.syncReceiveWindow i true) s = .next (fired.modRing (fun r =>
      { r with windows := Store.insert r.windows id (fired.time.now, fired.time.now + CutEntry.lenNs e, CutEntry.sync e) }))) ∧
    (CutEntry.act e = 13 → ∀ w, Store.find? s.ring.windows id = some w → exec (.syncReceiveWindow i false) s =
      .next ((advanceTo s w.2.1).modRing (fun r => { r with windows := Store.erase r.windows id }))) ∧
    (s.armed i 12 e → s.ring.state = .active → ((s.port .east).wrapped && (s.port .west).wrapped) = false →
      let f := ringFrame fired 1 ((if CutEntry.sync e then 1 else 0) + (if CutEntry.cstart e then 2 else 0) +
        (if s.mode = .safe then 16 else 0)) i 65535 0 (fired.time.now + 64) (syncPayload fired)
      exec (.syncSlot i) s = .next (if fired.contends .east fired.time.now f.len then jbump fired (portIndex (s.egress .east)) 8
        else (sendVia (occupy fired .east fired.time.now f.len) .east f fired.time.now).modRing (fun r =>
          { r with seen := r.seen.filter (fun x => decide (x.node ≠ s.pins.node)) ++ [seenOf fired f fired.time.now (some 0)] }))) ∧
    (s.ring.state ≠ .off → ∀ p, p = (if CutEntry.dir e then RingPort.west else RingPort.east) → s.armed i 11 e →
      exec (.bestEffortWindow p i) s = .next (sendQueue (sendAnswers (sendNotices
        { state := fired, at_ := fired.time.now, stop := fired.time.now + CutEntry.lenNs e, full := false } p) p) p).state) ∧
    (e.w3 ≠ cutCheck e i → s.firedEarly (.entry i) = false → (∀ j, j < i → (s.comesTo i e).due (s.firing i e 0) j = false) →
      let fault := Host.Outcome.next (cutFault (s.comesTo i e))
      (CutEntry.act e = 6 → exec (.ringTransmitSlot i) s = fault) ∧ (CutEntry.act e = 7 → exec (.ringReceiveWindow i true) s = fault) ∧
      (CutEntry.act e = 12 → exec (.syncSlot i) s = fault) ∧ (CutEntry.act e = 13 → exec (.syncReceiveWindow i true) s = fault) ∧
      (CutEntry.act e = 11 → s.ring.state ≠ .off → ∀ p, exec (.bestEffortWindow p i) s = fault))

/-- 09 R256, R260, R261, 10 R271, R273, R278, 15 R403: a frame that a port takes is heard, forwarded, crosses to the fabric and is judged: data in its
window wait for the window's end and others are counted; a sync frame of the ring is adopted from LISTEN and accepted in its window in ACTIVE; a
coldstart frame likewise, and in COLDSTART it decides the contest. -/
def Parts.RingFramesAreTaken : Prop :=
  ∀ (s : State) (p : RingPort) (f : RFrame) (t : Nat), s.hears p = true →
    let heard := hear s p f.len t
    let onw := forwardFrame heard p f t
    let got := through onw (27 + p.num) (entriesOf 27 (24 + f.len))
    let at_ := arrivalAt got p t
    let here : Adopt := { frame := f, at_ := t, port := p }
    (frameForeign heard.v2ring f || frameInvalid heard.v2ring f) = false → f.fcsOk = true → senderNamed f = true → strips heard p f = false →
    heard.hopLimit f = false → onw.flows (27 + p.num) →
    exec (.dataFrame p f t) s = .next (acceptData got p f at_) ∧
    (∀ c, consumedFlow got f.flow = some c →
      let x := got.rxOf f.flow
      (x.opened = none → acceptData got p f at_ = jbump got (flowIndex f.flow) 15) ∧
      (∀ w, x.opened = some w → w.1 ≤ at_ → at_ < w.2 → f.kind = 0 → f.sender = c.producer → f.cli = c.srcCli →
        f.len = c.aux → bitOf f.flags 4 = false → got.v2ring = false → x.taken = false → x.west = none →
        seqFollows x.seq f.seq = true → jbool got 0x4231 8 = false → unitOf got 0 f.flow = none →
        acceptData got p f at_ = (monitorTake (jset got (flowIndex f.flow) 5 f.seq) 4 f.flow ((at_ : Int) - w.1)).modRx f.flow (fun _ =>
          { x with taken := true, seq := some f.seq, west := if p = .west then some (at_, x.seq) else none
                   held := some { f with payload := f.payload.take c.aux, len := c.aux } }))) ∧
    (got.concerns f 1 = true →
      (got.ring.state = .listen → exec (.syncFrame p f t) s = .next (integrate got here)) ∧
      (∀ w, got.ring.state = .active → got.ring.follow = none → Store.find? got.ring.windows f.sender = some w → w.1 ≤ at_ → at_ < w.2.1 →
        payloadByte f 6 = ownNamed got → exec (.syncFrame p f t) s = .next (acceptSync got p f at_))) ∧
    (got.concerns f 2 = true →
      (got.ring.state = .listen → exec (.coldstartFrame p f t) s = .next (integrate got here)) ∧
      (got.ring.state = .coldstart → exec (.coldstartFrame p f t) s = .next
        (if contestLost (recordSync got 0) f at_ then integrate (jbump (recordSync got 0) 0x4230 7) here else recordSync got 0)) ∧
      (got.ring.state = .active → inSyncWindow got f at_ = true → exec (.coldstartFrame p f t) s = .next (acceptSync got p f at_)))

/-- 09 R249, R263, 02 R55, 10 R274, R291, R296, 16 R419: frames of one hop and of the best-effort services: a tick names the neighbour, a wrap notice
of a break is recorded, shown and passed on, a leave frame is counted and passed on, a datagram to this node goes to the dictionary, a time query
to this node is answered, the answer to the latest query resolves the time of an integrating node, and the announcement of the known source, or of
one with a lower node id, is taken. -/
def Parts.ServiceFramesAreServed : Prop :=
  ∀ (s : State) (p : RingPort) (f : RFrame), s.hears p = true →
    let heard := hear s p f.len s.time.now
    let got := through heard (27 + p.num) (entriesOf 27 (24 + f.len))
    (frameForeign heard.v2ring f || frameInvalid heard.v2ring f) = false → f.fcsOk = true → senderNamed f = true → f.sender ≠ s.pins.node →
    heard.flows (27 + p.num) →
    (f.kind = 3 → exec (.tick p f) s = .next (takeTick got p f) ∧ ((takeTick got p f).port p).neighbour = f.sender ∧
      (takeTick got p f).mode = s.mode ∧ (takeTick got p f).lanes = heard.lanes) ∧
    (heard.hopLimit f = false →
      (f.kind = 4 → ofLe (f.payload.take 4) = heard.ringIdent → heard.ring.breakKnown ≠ none → bitOf (jget got 0x4235 1) 9 = false →
        let node := ((f.payload.drop 4).headD 0).toNat
        let shown := fun (restored : Bool) => showBreak (record got 5 16 (f.payload.take 24)) node ((f.payload.drop 5).headD 0).toNat restored
        (node = 0 ∨ 64 < node → exec (.wrapNotice p f) s = .next got) ∧
        (1 ≤ node → node ≤ 64 → noticeCause f ≠ 3 → exec (.wrapNotice p f) s = .next (if got.wrapping (onward p) got.time.now
          then lostAtWrap (shown false) (onward p)
          else (shown false).modPort (onward p) (fun x => { x with notices := x.notices ++ [(0, { f with hop := f.hop + 1 })] })))) ∧
      (f.kind = 5 →
        let counted := jset (jbump got 0x2107 1) 0x2107 2 (f.sender + 256 * (((f.payload.drop 4).headD 0).toNat % 8))
        exec (.leaveFrame p f) s = .next (if got.wrapping (onward p) got.time.now then lostAtWrap counted (onward p)
          else if f.hop + 1 < got.nodes then sendVia counted (onward p) { f with hop := f.hop + 1 } (got.time.now + got.hopNs) else counted)) ∧
      (f.kind = 6 → bestDest f = s.pins.node →
        (bestService f = 1 → exec (.bestEffortIpv4 p f) s = .next (match takePacket got f with
          | some d => dictionaryDatagram got { path := .ring, carrier := p.num, ip := d.src, udpPort := d.srcPort, client := 0, txn := 0 } d.dstPort d.data
          | none => got)) ∧
        (bestService f = 2 → exec (.timeAnnouncementReceived p f) s = .next (judgeAnnouncement got f) ∧
          (got.timeSource = false → s.time.sourceSeen = some f.sender → judgeAnnouncement got f = takeAnnouncement got f.sender (bestBody f)) ∧
          (got.timeSource = true → s.time.sourceSeen = none → judgeAnnouncement got f =
            if f.sender < s.pins.node then takeAnnouncement (record got 5 10 (leBytes 1 f.sender)) f.sender (bestBody f)
            else record got 5 10 (leBytes 1 f.sender))) ∧
        (bestService f = 3 → ((bestBody f).headD 0).toNat = 1 → exec (.timeQuery p f) s = .next (got.modPort .west (fun x =>
          { x with answers := x.answers ++ [bestFrame got f.sender 3
              (leBytes 1 2 ++ leBytes 1 0 ++ ((bestBody f).drop 2).take 2 ++ leBytes 12 0)] }))) ∧
        (∀ id node sent ad t, bestService f = 3 → ((bestBody f).headD 0).toNat = 2 → ofLe (((bestBody f).drop 2).take 2) = id →
          s.ring.query = some (id, node, sent) → s.ring.adopting = some ad → s.ring.state = .integrate → s.hasRun = false →
          exec (.timeAnswer p f t) s = .next (adoptTime got ad (nearest32
            ((ofTimeBytes (((bestBody f).drop 4).take 10) : Int) - ((arrivalAt got p t : Int) - arrivalAt got ad.port ad.at_)) ad.frame.send)))))

/-- 09 R263, R249, 10 R272, R274, R287 to R292, R295, R297: breaks wrap their port once, a link that carries frames again for a round is announced, both
notices end the wrap, and the bypass opens 50 µs after a leave; a silent port sends ticks where they fit; a listening coldstart node starts after its
delay; an unanswered query is repeated; the time source announces each second. -/
def Obligations.RingStartsAndHeals : Prop :=
  ∀ (s : State) (p : RingPort),
    (s.ring.state ≠ .off → (s.port p).wrapped = false →
      exec (.breakDetected p) s = .next (wrapPort (advanceTo s ((s.port p).lastHeard + s.breakNs)) p 1) ∧
      ∃ t, exec (.ringLinkLoss p) s = .next t ∧ (t.port p).wrapped = true ∧ (t.port p).link = 0 ∧ (t.port p.other).wrapped = (s.port p.other).wrapped ∧
        t.ring.breakKnown = some (s.pins.node, p.num) ∧ t.ring.state = s.ring.state ∧ t.mode = s.mode) ∧
    (s.ring.state ≠ .off → (s.port p).wrapped = true →
      exec (.breakDetected p) s = .next (((advanceTo s ((s.port p).lastHeard + s.breakNs)).modPort p
        (fun x => { x with upAt := none, ownNotice := none, peerNotice := none })).modPort .west
          (fun x => { x with notices := x.notices.filter (fun q => !s.ownRestoration p q.2) })) ∧
      (∃ t, exec (.ringLinkLoss p) s = .next t ∧ (t.port p).wrapped = true ∧ (t.port p).link = 0 ∧ (t.port p).upAt = none) ∧
      (∀ t, (s.port p).upAt = some t → (s.port p).link ≠ 0 → (s.port p).ownNotice = none →
        (∀ q ∈ s.ring.west.notices, s.ownRestoration p q.2 = false) → exec (.linkRestored p) s = .next (queueNotice (advanceTo s (t + s.tRound)) p 3 (advanceTo s (t + s.tRound)).time.now)) ∧
      (∀ a b, (s.port p).ownNotice = some a → Nat.min ((s.port p).peerNotice.getD (a + 4 * s.tRound)) (a + 4 * s.tRound) = b → ∃ t, exec (.unwrap p) s = .next t ∧
        (t.port p).wrapped = false ∧ t.time.now = s.time.now + ((Nat.max a b / s.tRound + 2) * s.tRound - s.time.now) ∧
        (t.port p.other).wrapped = (s.port p.other).wrapped ∧ t.ring.state = s.ring.state ∧ t.mode = s.mode)) ∧
    (s.booted = true → exec (.ringLinkUp p) s = .next (jset (s.modPort p (fun x =>
      { x with link := if s.v2ring then 2 else 1, upAt := none })) 0x4202 (p.num + 1) (if s.v2ring then 2 else 1))) ∧
    (∀ t, s.ring.leaveAt = some t → exec .bypassRelease s =
      .next ((setBypass (advanceTo s (t + 50000)) false).modRing (fun r => { r with leaveAt := none }))) ∧
    (s.ring.state ≠ .off →
      let quiet := advanceTo s ((s.port p).lastSent + if s.v2ring then 40000 else 8000)
      let sent := putOnWire quiet p (ringFrame quiet 3 0 65535 65535 0 0 []) quiet.time.now
      (quiet.awaiting p = false → (s.egress .east = p → ∀ t, quiet.nextOwnSlot = some t → quiet.time.now + quiet.tWire 0 ≤ t) →
        exec (.tickTransmit p) s = .next sent) ∧
      (quiet.awaiting p = true → exec (.tickTransmit p) s = .next quiet) ∧
      (∀ t, s.egress .east = p → quiet.nextOwnSlot = some t → t < quiet.time.now + quiet.tWire 0 → exec (.tickTransmit p) s = .next quiet)) ∧
    (∀ d, coldDelay s s.pins.node = some d → s.ring.state = .listen → ∃ t, exec .listenTimeout s = .next t ∧ t.ring.state = .coldstart ∧
      t.ring.attempts = 0 ∧ t.ring.confirmed = false ∧ t.time.now = s.time.now + (s.ring.since + 2 * s.tRound + 1000 * d - s.time.now) ∧
      t.ring.since = (t.time.now / s.tRound + 1) * s.tRound ∧ t.ring.lastEnd = t.ring.since ∧ t.mode = s.mode ∧ t.ring.tx = s.ring.tx ∧
      t.ring.rx = s.ring.rx) ∧
    (∀ id node sent, s.ring.query = some (id, node, sent) → s.ring.state = .integrate →
      exec .timeQueryTimeout s = .next (sendQuery (advanceTo s (sent + 1000000000)) node) ∧
      ∃ t, exec .timeQueryTimeout s = .next t ∧ t.ring.query = some ((s.ring.queryNo + 1) % 65536, node, (advanceTo s (sent + 1000000000)).time.now) ∧
        t.ring.state = .integrate ∧ t.mode = s.mode ∧ t.lanes = (advanceTo s (sent + 1000000000)).lanes) ∧
    (s.timeSource = true → s.ring.state ≠ .off → s.time.taiValid = true ∨ s.time.announcedAt.isSome = true → ∃ t, exec .timeAnnouncement s = .next t ∧
      t.time.announcedAt = some t.time.now ∧ t.ring.east = s.ring.east ∧ t.time.tai = s.time.tai ∧
      t.time.now = s.time.now + (s.time.announcedAt.elim 0 (fun a => a + 1000000000) - s.time.now) ∧
      (s.ring.west.queue.length < 16 → ∃ f, t.ring.west.queue = s.ring.west.queue ++ [f] ∧ f.sender = s.pins.node ∧ bestService f = 2 ∧ bestDest f = 0))

/-- 10 R276, R281 to R285: in OFF and LISTEN the end of a round only forgets what was seen, and shows that nothing was accepted; in a running state with every deviation of the round at most 1 µs
and the foreign partitions quiet, an ACTIVE node stays ACTIVE, corrects its rate within ±150 ppm and slews within ±200 ppm. -/
def Parts.RoundEndCorrectsTheTime : Prop :=
  ∀ s : State,
    (s.ring.state = .listen ∨ s.ring.state = .off →
      let t := advanceTo s (gridFrom (Nat.max s.time.now (s.ring.lastEnd + 1)) 0 s.tRound)
      exec .roundEnd s = .next (latchLatency (showL (jset (jset (jset (t.modRing (fun r =>
        { r with lastEnd := t.time.now, seen := [], prev := [], key := ⟨255, 255⟩ })) 0x4231 1 0) 0x4231 2 0) 0x4231 3 0)))) ∧
    (s.ring.state = .active → (ftAverage (s.ring.seen.filterMap (fun x => x.dev))).natAbs ≤ 1000 → s.ring.foreign = none →
      s.coldstartNode = true → ∃ t, exec .roundEnd s = .next t ∧
      t.ring.state = .active ∧ t.ring.prev = s.ring.seen ∧ t.ring.seen = [] ∧ t.mode = s.mode ∧ t.lanes = (advanceTo s t.time.now).lanes) ∧
    (s.ring.state = .active → jbool s 0x4231 8 = false → s.flows 23 → ∃ t, exec .roundEnd s = .next t ∧
      (-200000 ≤ t.time.slew ∧ t.time.slew ≤ 200000) ∧ t.time.slewPrev = s.time.slew ∧
      (s.time.rc ≤ 150000 → -150000 ≤ s.time.rc → -150000 ≤ t.time.rc ∧ t.time.rc ≤ 150000))

/-- 10 R281: of three or more deviations the average drops the extremes (two on each side from eight deviations on), so that as many wrong clocks as
it drops on a side cannot carry it out of the range of the others. -/
def Parts.AveragesIgnoreWrongClocks : Prop :=
  ∀ (good bad : List Int) (d : List Int) (lo hi : Int), d.Perm (good ++ bad) → bad.length ≤ ftaDiscard d.length → good ≠ [] →
    (∀ x ∈ good, lo ≤ x ∧ x ≤ hi) → lo ≤ ftAverage d ∧ ftAverage d ≤ hi

/-! ## ECN ports, CAN, host link, SDO channels and check-value units (chapter 11) -/

/-- 11 R300 to R308: a telegram is locked at its deadline, queued at its entry with the sequence number advanced, and counted where nothing is
published; a received one enters the lowest matching context; ARP and ICMP are answered for the port's own address; the link's speed shows in
the port's register; the PHY reset ends 10 ms after boot. What a port receives crosses to the fabric over its queue. -/
def Obligations.EcnPortsServe : Prop :=
  ∀ (s : State) (port : EcnPort),
    let p := port.num
    (∀ i e, s.cut i = some e →
      let ctx := CutEntry.tgt e % 256
      let q := CutEntry.tgt e / 256 % 2
      let fired := s.fires i e
      (CutEntry.act e = 8 → exec (.telegramDeadline i) s = .next ((advanceTo s (s.firing i e 4000 - 4000)).modEcn q (fun x =>
        { x with tx := Store.insert x.tx ctx (TxCtx.lock i (Store.get x.tx TxCtx.blank ctx)) }))) ∧
      (s.armed i 8 e → s.booted = true →
        (∀ c y d, jbool s (ecnIndex q) 1 = true → s.inRun = true → s.config = some c →
          c.telegrams.find? (fun t => decide (t.port = q) && decide (t.ctx = ctx) && decide (t.role = 1)) = some y →
          Store.find? (Store.get (s.ecn q).tx TxCtx.blank ctx).locked i = some d →
          exec (.ecnTransmit i) s = .next (modTelTx (offerTelegram fired q y d) q ctx (TxCtx.unlock i))) ∧
        (jbool s (ecnIndex q) 1 = true → Store.find? (Store.get (s.ecn q).tx TxCtx.blank ctx).locked i = none →
          exec (.ecnTransmit i) s = .next (jbump fired (telBase q + 14) ctx)) ∧
        (jbool s (ecnIndex q) 1 = true → s.inRun = false → ∃ t, exec (.ecnTransmit i) s = .next t ∧
          t.jreg = (jbump fired (telBase q + 14) ctx).jreg ∧ t.wires = fired.wires ∧ t.lanes = fired.lanes ∧ t.mode = s.mode) ∧
        (jbool s (ecnIndex q) 1 = false → exec (.ecnTransmit i) s = .next fired))) ∧
    (s.ecnUp p = true → s.flows 32 →
      let heard := fun (n : Nat) => jbump (through s 32 (entriesOf 32 n)) (ecnIndex p) 9
      let own := jget s (ecnIndex p) 3
      (∀ f c y, portChecks f = true → ptpClaims (heard f.payload.length) p f.dstPort = false → s.config = some c → y ∈ c.telegrams → y.port = p →
        y.role = 2 →
        matchesContext (heard f.payload.length) p y f = true →
        (∀ z ∈ c.telegrams, z.port = p → z.role = 2 → matchesContext (heard f.payload.length) p z f = true → z = y ∨ y.ctx < z.ctx) →
        exec (.telegramReceived port f) s = .next (takeTelegramFrame (heard f.payload.length) p y f)) ∧
      (∀ f, portChecks f = false → exec (.telegramReceived port f) s = .next (ecnDiscard (heard f.payload.length) p)) ∧
      (∀ f, portChecks f = true → ptpClaims (heard f.payload.length) p f.dstPort = true →
        exec (.telegramReceived port f) s = .next (heard f.payload.length)) ∧
      (∀ target src, exec (.arpRequest port target src) s = .next
        (if jget (heard 64) (ecnIndex p) 3 = target ∧ target ≠ 0 then ecnSend (heard 64) p 2 64 false (.arp port src true) else ecnDiscard (heard 64) p)) ∧
      (∀ src dst,
        let recent := (s.ecn p).icmp.filter (fun t => decide (s.time.now < t + 1000000000))
        exec (.icmpEchoRequest port src dst) s = .next
          (if dst = jget (heard 64) (ecnIndex p) 3 ∧ dst ≠ 0 ∧ recent.length < 10 ∧ s.power.stage < 1 then
            ecnSend ((heard 64).modEcn p (fun x => { x with icmp := s.time.now :: recent })) p 2 64 true (.icmp port src) else ecnDiscard (heard 64) p)) ∧
      (∀ ip mac,
        let known := (heard 64).modEcn p (fun x => { x with arp := Store.insert x.arp ip (mac, s.time.now) })
        exec (.arpReply port ip mac) s = .next (sendAwaiting known p ip mac) ∧
        ((∀ q ∈ (s.ecn p).awaiting, q.1 ≠ ip) → sendAwaiting known p ip mac = known)) ∧
      jget (heard 64) (ecnIndex p) 3 = own) ∧
    (∀ ip x, Store.find? (s.ecn p).arp ip = some x → exec (.arpEntryExpiry port ip) s =
      .next ((advanceTo s (x.2 + 300000000000)).modEcn p (fun e => { e with arp := Store.erase e.arp ip }))) ∧
    (s.booted = true →
      (∀ speed full,
        let code := if full = false then 0 else if speed = 10 then 1 else if speed = 100 then 2 else if speed = 1000 then 3 else 0
        exec (.ecnLinkChange port speed full) s = .next (jset (s.modEcn p (fun x => { x with speed := code })) (ecnIndex p) 6 code)) ∧
      (s.power.phyReset = true → exec .phyResetRelease s = .next { advanceTo s (s.power.bootAt + 10000000) with
        power := { s.power with phyReset := false } }))

/-- 11 R309 to R312, Table 11-3: a frame enters the lowest matching object of an Operational controller; NMT commands change the state outside the
safe state, and the resets boot the controller; heartbeats are produced and supervised, the expiry judged
at the close of a batch; bus-off, its recovery and the error-passive limits are
reported by EMCY; a frame that wins arbitration leaves its object. What a controller receives crosses to the fabric over its queue. -/
def Obligations.CanControllersServe : Prop :=
  ∀ (s : State) (c : CanCtl),
    let got := through s 34 (entriesOf 34 16)
    (s.canUp c = true → s.flows 34 →
      (∀ k f, (s.can c).nmt = .operational → s.config = some k →
        (∀ r, sdoChannel got c f = none → matchRx k c f = some r → exec (.canFrameReceived c f) s =
          .next ((if (Store.find? (s.can c).rx r.obj).isSome then jbump got (canIndex c) 13 else got).modCan c (fun x =>
            { x with rx := Store.insert x.rx r.obj (padTo r.len f.data) }))) ∧
        (sdoChannel got c f = none → matchRx k c f = none → exec (.canFrameReceived c f) s = .next got)) ∧
      (∀ node, (node = 0 ∨ node = canNode s c) → (s.can c).nmt ≠ .bootUp →
        (s.mode ≠ .safe → exec (.nmtStart c node) s = .next (got.modCan c (fun x => { x with nmt := .operational })) ∧
          exec (.nmtStop c node) s = .next (got.modCan c (fun x => { x with nmt := .stopped })) ∧
          exec (.nmtEnterPreOperational c node) s = .next (got.modCan c (fun x => { x with nmt := .preOp }))) ∧
        (s.mode = .safe → exec (.nmtStart c node) s = .next got ∧ exec (.nmtStop c node) s = .next got ∧
          exec (.nmtEnterPreOperational c node) s = .next got)) ∧
      (∀ node, exec (.heartbeatReceived c node) s = .next ((List.range 32).foldl (fun t n => hearBeat t c node n) got))) ∧
    (s.canUp c = true →
      (∀ (obj : Fin 32) f, Store.find? (s.can c).tx obj.val = some f → s.flows 33 → exec (.canArbitrationWon c obj) s =
        .next ((through (s.modCan c (fun x => { x with tx := Store.erase x.tx obj.val })) 33 2).emit (.can c f))) ∧
      (jget s 0x1017 0 ≠ 0 → (s.can c).nmt ≠ .bootUp →
        let at_ := advanceTo s ((s.can c).hbAt + jget s 0x1017 0 * 1000000)
        exec (.heartbeatProducer c) s = .next (sendHeartbeat (at_.modCan c (fun x => { x with hbAt := at_.time.now })) c (s.can c).nmt.code)) ∧
      (let recent := s.time.now :: (s.can c).busOffs.filter (fun t => decide (s.time.now < t + 60000000000))
       exec (.busOff c) s = .next ((jset (jbump s (canIndex c) 11) (canIndex c) 10 (jget (jbump s (canIndex c) 11) (canIndex c) 10 / 256 * 256 + 255)).modCan c
         (fun x => { x with err := if 8 ≤ recent.length then 3 else 2, busOffs := recent }))) ∧
      (∀ tec rec_,
        let told := fun (n : Nat) => (jset s (canIndex c) 10 (Nat.min 255 tec + 256 * Nat.min 255 rec_)).modCan c (fun x => { x with err := n })
        ((127 < tec ∨ 127 < rec_) → exec (.controllerErrorPassive c tec rec_) s =
          .next (if (s.can c).err = 1 then told 1 else emcyOne (told 1) c 0x8120 0 0)) ∧
        (tec ≤ 127 → rec_ ≤ 127 → exec (.controllerErrorPassive c tec rec_) s =
          .next (if (s.can c).err = 1 then emcyOne (told 0) c 0 0 0 else told 0)))) ∧
    (∀ (t : State) code, t.flows 33 →
      sendHeartbeat t c code = (through t 33 2).emit (.can c { ident := 0x700 + canNode t c, data := leBytes 1 code })) ∧
    (∀ node, s.flows 34 → s.booted = true → jbool s (canIndex c) 1 = true → (s.can c).err ≠ 2 → (node = 0 ∨ node = canNode s c) →
      exec (.nmtResetCommunication c node) s = .next (canReset got c) ∧
      exec (.nmtResetNode c node) s = .next (canReset (jbump got (canIndex c) 15) c)) ∧
    ((s.can c).err = 2 → exec (.busOffRecovery c) s =
      .next (emcyOne (jset (s.modCan c (fun x => { x with err := 0 })) (canIndex c) 10 0) c 0x8140 0 0)) ∧
    (∀ (n : Fin 32) (t : Nat) (k : Container), Store.find? s.hbAt n.val = some (t + 1) → (consumer s n.val).1 ≠ 0 → s.config = some k →
      let at_ := advanceTo s (gridFrom (Nat.max s.time.now (t + (consumer s n.val).1)) k.phi (Nat.max 1 k.tBase))
      exec (.heartbeatConsumerExpiry n) s = .next (emcyOne
        { at_ with hbAt := Store.insert s.hbAt n.val 0, hbExpired := s.hbExpired ++ [n.val] }
        (if (consumer s n.val).2.2 = 0 then .c0 else .c1) 0x8130 (consumer s n.val).2.1 0))

/-- 11 R314 to R316, Table 11-7: with every byte clocked and a right check value a request arrives once, with fewer than 16 unread it is admitted and
a seventeenth sets the overrun bit; a response leaves the queue when all of its 7 + L bytes are clocked and not before; a status transaction
returns the status word and clears the sticky bits; other commands are counted. -/
def Obligations.HostLinkServes : Prop :=
  ∀ s : State, s.hostUp = true →
    (∀ b, s.flows 35 → s.flows 36 →
      let out := (clocked (through s 35 (entriesOf 35 b.length))).emit (.spi (List.replicate b.length 0))
      (∀ body, hostBody b = some body → exec (.hostRequest b) s = .next
        (if s.host.pending < 16 then arriveBody out hostSender body
         else jbump { out with host := { out.host with overrun := true } } 0x4900 4)) ∧
      (hostBody b = none → exec (.hostRequest b) s = .next (jbump { out with host := { out.host with discarded := true } } 0x4900 3))) ∧
    (∀ n, s.flows 36 →
      let ran := { s.host with ranAt := some s.time.now }
      let sent := fun (x : Bytes) => (through (clocked s) 36 (Nat.min n x.length)).emit (.spi (padTo n x))
      (s.host.queue = [] → exec (.readResponse n) s = .next (sent (hostFrame s))) ∧
      (∀ b q, s.host.queue = b :: q →
        (7 + b.length ≤ n → exec (.readResponse n) s = .next { sent (hostFrame s) with
          host := { ran with queue := q, pending := s.host.pending - 1 } }) ∧
        (n < 7 + b.length → exec (.readResponse n) s = .next (sent (hostFrame s)))) ∧
      exec (.hostStatus n) s = .next (if 2 ≤ n then { sent (0 :: leBytes 4 (hostWord s)) with
        host := { ran with overrun := false, discarded := false } } else sent (0 :: leBytes 4 (hostWord s)))) ∧
    (s.host.queue.length ≤ 16 → hostWord s % 32 = s.host.queue.length ∧ (hostWord s / 32 % 2 = 1 ↔ s.host.overrun = true) ∧
      (hostWord s / 64 % 2 = 1 ↔ s.host.discarded = true) ∧ (hostWord s / 128 % 2 = 1 ↔ s.inRun = true) ∧ hostWord s / 256 = s.mode.code) ∧
    (s.hostIrq = true ↔ s.host.queue ≠ []) ∧
    (∀ cmd : Byte, cmd ≠ 1 → cmd ≠ 2 → cmd ≠ 3 → s.flows 36 → exec (.unknownCommand cmd) s = .next (jbump ((clocked s).emit (.spi [0])) 0x4900 5))

/-- 11 R313, R319, 17 R443, R445 to R447, R442, R452, R455: an SDO initiate discards the channel's transfer and starts a new one, its segments are
gathered and answered, and the last forms the request under the channel's next transaction id; a segment without a transfer is aborted with 05040001,
one with the wrong toggle bit with 05030000, a block of a wrong size, sequence or CRC with 05040002 to 05040004, and after a second without a
segment the transfer with 05040000, in an abort frame on the channel's COB-ID; a datagram to the dictionary's port that no other consumer claims
arrives; claims, transfers, captures, bindings and history entries end after their times. The frames of CiA 301 are the model's presumption
(log entry 89). -/
def Obligations.TransfersAndTheirTimeouts : Prop :=
  ∀ s : State,
    (∀ (ch : Fin 8), s.sdoUp ch.val = true → s.flows 34 →
      (∀ index sub,
        let fresh := dropSdo (through s 34 (entriesOf 34 16)) ch.val
        let x := fun (u : Bool) => ({ upload := u, index := index, sub := sub, data := [], at_ := s.time.now } : SdoXfer)
        exec (.sdoInitiate ch false index sub none) s =
          .next (sdoSend (keepSdo fresh ch.val (x false)) ch.val (leBytes 1 0x60 ++ leBytes 2 index ++ leBytes 1 sub)) ∧
        (∀ d, exec (.sdoInitiate ch false index sub (some d)) s = .next (sdoJudge fresh ch.val { x false with data := d })) ∧
        ∀ d, exec (.sdoInitiate ch true index sub d) s = .next (sdoJudge fresh ch.val (x true))) ∧
      (∀ x d, Store.find? s.dict.sdo ch.val = some x → x.open_ = true →
        let got := through s 34 (entriesOf 34 d.length)
        let toggle := x.toggle ^^ decide (x.sent ≠ 0)
        let y := { x with data := x.data ++ d, at_ := s.time.now, sent := x.sent + 1, toggle := toggle }
        (x.upload = false →
          exec (.sdoSegment ch d false) s = .next (sdoSend (keepSdo got ch.val y) ch.val (leBytes 1 (0x20 + if toggle then 16 else 0))) ∧
          exec (.sdoSegment ch d true) s = .next (sdoJudge got ch.val y)) ∧
        (x.upload = true → ∀ last, exec (.sdoSegment ch d last) s = .next (sdoSend
          (if x.data.length ≤ x.sent + 7 then dropSdo got ch.val
           else keepSdo got ch.val { x with sent := x.sent + 7, toggle := !x.toggle, at_ := s.time.now }) ch.val
          (leBytes 1 ((if x.toggle then 16 else 0) + 2 * (7 - ((x.data.drop x.sent).take 7).length) + if x.data.length ≤ x.sent + 7 then 1 else 0) ++
            (x.data.drop x.sent).take 7)))) ∧
      (Store.find? s.dict.sdo ch.val = none → ∀ d last, exec (.sdoSegment ch d last) s =
        .next (sdoAbort (through s 34 (entriesOf 34 d.length)) ch.val 0 0 0x05040001))) ∧
    (∀ (ch : Nat) (x : SdoXfer),
      let txn := Store.get s.dict.sdoTxn 0 ch
      let q := if x.upload then sdoRead s ch x.index x.sub else sdoWrite s ch x.index x.sub x.data
      sdoJudge s ch x = arriveRequest (nextTxn (keepSdo s ch { x with txn := some txn }) ch) q ∧
      q.sender = { path := .can, carrier := ch, ip := 0, udpPort := 0, client := 16 + ch, txn := txn } ∧
      (∀ code, s.flows 33 → sdoFail s ch x code = (through (dropSdo s ch) 33 2).emit (.can (canOf (ch / 4))
        { ident := cobIdent (s.sdoOut ch), ext := bitOf (s.sdoOut ch) 29
          data := leBytes 1 0x80 ++ leBytes 2 x.index ++ leBytes 1 x.sub ++ leBytes 4 code })) ∧
      (∀ d last, sdoDownSegment s ch x (!(x.toggle ^^ decide (x.sent ≠ 0))) d last = sdoFail s ch x 0x05030000) ∧
      sdoUpSegment s ch x (!x.toggle) = sdoFail s ch x 0x05030000 ∧
      (∀ index sub size crc, size = 0 ∨ 127 < size → sdoBlockUp s ch index sub size crc = sdoAbort (dropSdo s ch) ch index sub 0x05040002) ∧
      (∀ b seq last d, seq = 0 ∨ b.size < seq → sdoTakeBlock s ch x b seq last d = sdoFail s ch x 0x05040003) ∧
      (∀ b n crc, b.crc = true → crcXmodem (x.data.take (x.data.length - n)) ≠ crc → sdoEndBlock s ch x b n crc = sdoFail s ch x 0x05040004)) ∧
    (∀ (c : CanCtl) (f : CFrame) (ch : Nat), s.flows 34 → sdoChannel (through s 34 (entriesOf 34 16)) c f = some ch →
      exec (.canFrameReceived c f) s = .next (sdoReceive (through s 34 (entriesOf 34 16)) ch f.data)) ∧
    (∀ (ch : Fin 8) x, Store.find? s.dict.sdo ch.val = some x → x.txn = none → exec (.sdoSegmentTimeout ch) s =
      .next (sdoFail (advanceTo s (x.at_ + 1000000000)) ch.val x 0x05040000)) ∧
    (∀ (r : Sender) b q, (r.path = .ecn ∧ s.ecnUp r.carrier = true ∧ r.carrier ≤ 1) ∨ r.path = .ring → s.booted = true → s.power.stage = 0 →
      s.udpPath r = true → s.flows (datagramCrossing r) → parseBody r b = some q →
      let got := through s (datagramCrossing r) (entriesOf (datagramCrossing r) b.length)
      let f := datagramFrame got r s.dict.port b
      (r.path = .ecn → portChecks f = true ∧ ptpClaims got r.carrier s.dict.port = false ∧ contextFor got r.carrier f = none) →
      exec (.dictionaryDatagram r s.dict.port b) s =
        .next (arriveRequest (if r.path = .ecn then jbump got (ecnIndex r.carrier) 9 else got) q)) ∧
    (∀ (n : Fin 8) v c, Store.find? s.cvu n.val = some v → v.client = some c → exec (.cvuClaimTimeout n) s =
      .next { advanceTo s (v.at_ + 10000000000) with cvu := Store.erase s.cvu n.val }) ∧
    (∀ client x, Store.find? s.dict.xfers client = some x →
      exec (.domainTransferTimeout client) s = .next (dropXfer (advanceTo s (x.at_ + 10000000000)) client)) ∧
    (∀ client x, Store.find? s.dict.captures client = some x → exec (.captureTimeout client) s =
      .next { advanceTo s (x.at_ + 10000000000) with dict := { s.dict with captures := Store.erase s.dict.captures client } }) ∧
    (∀ client b, Store.find? s.dict.bindings client = some b → bindingKept s client b = false → exec (.bindingExpiry client) s =
      .next { advanceTo s (b.at_ + 60000000000) with
        dict := { s.dict with bindings := Store.erase s.dict.bindings client, dups := Store.erase s.dict.dups client } }) ∧
    (∀ client txn d, (Store.get s.dict.dups [] client).find? (fun d => decide (d.txn = txn)) = some d →
      exec (.historyExpiry client txn) s = .next { advanceTo s (d.at_ + 10000000000) with
        dict := { s.dict with
          dups := Store.insert s.dict.dups client ((Store.get s.dict.dups [] client).filter (fun x => decide (x.txn ≠ txn))) } })

/-! ## Field side (chapter 07) -/

/-- 07 R190, R191, R193 to R197: the supply reports set and clear at their thresholds with the raw state that goes with them, the field die falls and
boots with its elements open, an input current gives its class (free within 2 % of a threshold) whatever its channel, a class held for the filter
time counts, and a pulse advances its counter and goes to its lane. -/
def Parts.FieldSupplyAndInputs : Prop :=
  ∀ (s : State) (l : LaneId),
    (∀ mV,
      let low := decide (mV < 18000)
      let seen := (s.modSec l (fun x => { x with raw := low, rawLow := if low || x.raw || x.under then some s.time.now else x.rawLow })).modLane l
        (fun ln => ln.rset 0x5000 2 mV)
      (mV < 18000 → exec (.fieldUndervoltage l mV) s = .next (seen.modSec l (fun x => { x with under := true }))) ∧
      (18500 ≤ mV → exec (.fieldUndervoltageClear l mV) s = .next (seen.modSec l (fun x => { x with under := false })))) ∧
    (∀ mV, mV < 16000 → s.field.operating = true →
      let quiet := LaneId.all.foldl quietSection { s with field := { s.field with operating := false } }
      (s.lowReport = true → ∃ t, exec (.fieldDieReset mV) s = .next t ∧ t.field.operating = false ∧ t.field.lost = true ∧
        (∀ ch m, ((t.chan ch).sec.get m).closed = false) ∧ t.mode = s.mode ∧
        ∀ m, t.lane m = (s.lane m).rset 0x5000 2 mV ∧ (t.sec m).alive = false ∧ (t.sec m).converting = [] ∧ (t.sec m).health = false) ∧
      (s.lowReport = false → exec (.fieldDieReset mV) s = .next
        (LaneId.all.foldl closeField ((LaneId.all.foldl judgeQuiet quiet).modLanes (fun _ ln => ln.rset 0x5000 2 mV))))) ∧
    (∀ mV, 18500 < mV → s.variantF = true → s.field.operating = false → ∃ t, exec (.fieldDieBoot mV) s = .next t ∧
      t.field.operating = true ∧ t.field.lost = false ∧ (∀ ch m, ((t.chan ch).sec.get m).closed = false) ∧
      (∀ m, (t.sec m).alive = !(s.lane m).hold ∧ (t.sec m).under = false ∧ (t.sec m).raw = false ∧ (t.lane m).recog = Recog.start ∧
        ∀ n, ((t.sec m).path n).count = 0 ∧ ((t.sec m).path n).since = none) ∧ t.mode = s.mode) ∧
    (∀ (n : Fin 32) (uA : Nat), s.field.operating = true →
      let took := fun (t : State) (band : Nat) =>
        let c := diClassOf ((s.lane l).rget 0x5002 (n.val + 1) != 0) band
        t.modSec l (fun x => x.modPath n.val (fun p =>
          { p with band := band, raw := c, since := if p.raw = c ∧ p.since.isSome then p.since else some s.time.now
                   filt := if (s.lane l).rget 0x5001 (n.val + 1) = 0 then c else p.filt }))
      ((diBand uA).2 = false → exec (.diRawClassChange l n uA) s = .next (took s (diBand uA).1)) ∧
      ((diBand uA).2 = true → exec (.diRawClassChange l n uA) s = .next (took s.drew ((diBand uA).1 + s.freeVal % 2)))) ∧
    (∀ (n : Fin 32) t, s.field.operating = true → ((s.sec l).path n.val).since = some t → exec (.filterExpiry l n) s = .next
      ((advanceTo s (t + filterNs ((s.lane l).rget 0x5001 (n.val + 1)))).modSec l (fun x =>
        x.modPath n.val (fun p => { p with filt := p.raw })))) ∧
    (∀ (n : Fin 8) c, s.config = some c → c.pulse.contains n.val = true → s.field.operating = true → exec (.pulseCount l n) s = .next
      (followCounts (s.modSec l (fun x => x.modPath n.val (fun p => { p with count := (p.count + 1) % 65536 }))) l))

/-- 07 R193, Table 07-2: outside the bands around its thresholds a current gives one class: off below 0.98 of 1 mA, on above 1.02 of 2 mA, and with wire
monitoring broken wire below 0.98 of 0.2 mA. -/
def Parts.InputCurrentsHaveTheirClass : Prop :=
  ∀ uA : Nat,
    (uA < 980 → 306 < uA → diBand uA = (2, false)) ∧ (2040 < uA → diBand uA = (4, false)) ∧ (uA < 196 → diBand uA = (0, false)) ∧
    (1020 < uA → uA < 1960 → diBand uA = (3, false)) ∧
    (∀ w, diClassOf w 2 = .off ∧ diClassOf w 4 = .on ∧ diClassOf w 3 = .indet ∧ diClassOf w 0 = if w then .wire else .off)

/-- 07 R200 to R203: overload, shutdown, restart, demagnetisation, open wire and supply loss of a channel: what each sets in which section, and which
elements open or follow the image again. -/
def Parts.OutputChannelsProtectThemselves : Prop :=
  ∀ (s : State) (l : LaneId) (ch : Fin 16), s.field.operating = true →
    let c := s.chan ch.val
    exec (.overload ch) s = .next (s.modChan ch.val (fun c => { c with mute := true, sec := c.sec.map (fun x => x.lasts 1) })) ∧
    (∃ t, exec (.thermalShutdown ch) s = .next t ∧ (t.chan ch.val).hot = true ∧ (t.chan ch.val).cool = false ∧
      (∀ m, ((t.chan ch.val).sec.get m).closed = false) ∧ ((t.chan ch.val).latch = true ↔ s.vget 0x5103 (ch.val + 1) = 0) ∧
      (t.chan ch.val).pulse = none ∧ (t.chan ch.val).tested = false ∧ (t.chan ch.val).mute = true ∧
      (∀ x, x ≠ ch.val → t.chan x = s.chan x) ∧ t.mode = s.mode ∧
      ∀ m, t.lane m = if (s.lane m).status = .active then (s.lane m).rbump 0x510A (ch.val + 1) else s.lane m) ∧
    (c.hot = true → (c.latch && !c.offSeen) = false → exec (.thermalRestart ch) s = .next
      (switching s (fun t => t.modChan ch.val (fun c => { c with hot := false, cool := true, latch := false }.followAll)))) ∧
    (c.hot = true → c.latch = true → c.offSeen = false → exec (.thermalRestart ch) s =
      .next (switching s (fun t => t.modChan ch.val (fun c => { c with hot := false, cool := true })))) ∧
    ((c.sec.get l).pend = false → exec (.demagnetisationEnd l ch) s = .next (switching s (fun t => t.modChan ch.val (fun c =>
      c.modSec l (fun x => { x.ends 9 with demag := none, pend := false }))))) ∧
    ((c.sec.get l).pend = true → (c.sec.get l).cmd = true → c.free = true → c.pulse = none →
      ∃ t, exec (.demagnetisationEnd l ch) s = .next t ∧ ((t.chan ch.val).sec.get l).demag = none ∧ ((t.chan ch.val).sec.get l).closed = true ∧
        ((t.chan ch.val).sec.get l).pend = false ∧ (∀ m, m ≠ l → ((t.chan ch.val).sec.get m).closed = (c.sec.get m).closed ∧
          ((t.chan ch.val).sec.get m).demag = (c.sec.get m).demag ∧ ((t.chan ch.val).sec.get m).pend = (c.sec.get m).pend)) ∧
    (∀ t, c.demagAt = some t → exec (.demagnetisationOverrun ch) s = .next ((advanceTo s (t + 25000000)).modChan ch.val (fun c =>
      { c with sec := c.sec.map (fun x => if x.demag.isSome then x.lasts 9 else x) }))) ∧
    (s.wireTest ch.val = true → ∀ uA mV,
      ((c.sec.get l).cmd = true → uA < 8000 → exec (.openWireOn l ch uA) s =
        .next ((s.modChan ch.val (fun c => c.seeCurrent l uA)).modChan ch.val (fun c => c.modSec l (fun x => x.lasts 2)))) ∧
      ((c.sec.get l).cmd = false → (s.lane l).rget 0x5104 (ch.val + 1) ≠ 0 → 4000 < mV → exec (.openWireOff l ch mV) s =
        .next ((s.modChan ch.val (fun c => c.seeVoltage l mV)).modChan ch.val (fun c => c.modSec l (fun x => x.lasts 3))))) ∧
    (∀ (g : Fin 4) (mV : Nat),
      (mV < 15000 → exec (.groupSupplyLoss g mV) s = .next ((List.range 4).foldl (fun t i => t.modChan (4 * g.val + i) (fun c => (c.event 6).endWire))
        { s with field := { s.field with groups := setBit s.field.groups g.val true }
                 power := { s.power with mV := Store.insert s.power.mV (5 + g.val) mV } })) ∧
      (17000 < mV → exec (.groupSupplyRestored g mV) s = .next
        { s with field := { s.field with groups := setBit s.field.groups g.val false }
                 power := { s.power with mV := Store.insert s.power.mV (5 + g.val) mV } }))

/-- 07 R205 to R208, R211, R212, R215: the standing check, the four instants of an element test step, the judged path, the off pulse and the HEALTH
toggle, each at its instant and on the elements that the rule names. -/
def Parts.OutputTestsRun : Prop :=
  ∀ (s : State) (l : LaneId) (ch : Fin 16), s.field.operating = true → (s.sec l).alive = true →
    let c := s.chan ch.val
    (∀ mids out, c.conducts = false → (c.sec.get l).demag = none → bitOf s.field.groups (groupOf ch.val) = false →
      exec (.standingCheck l ch mids out) s = .next ((List.range 3).foldl (fun t p => standingPath t l ch.val (Tri.path mids p) out p)
        ((advanceTo s (s.vote.oAt + 8000)).modChan ch.val (fun c => c.seeVoltage l out)))) ∧
    (∀ (path : Fin 3) total, c.conducts = true → c.tested = false → 8000 ≤ total →
      (c.sec.get (pathLanes path.val).1).closed = true → (c.sec.get (pathLanes path.val).2).closed = true →
      s.active (pathLanes path.val).1 = true → s.active (pathLanes path.val).2 = true → exec (.pathNotConducting l ch path total) s =
        .next ((s.modChan ch.val (fun c => c.seeCurrent l total)).modChan ch.val (fun c => c.find l 11 [2 * path.val, 2 * path.val + 1]))) ∧
    (∀ st, s.field.step = some st →
      (∀ paths, c.conducts = true → c.free = true → c.skip = none ∨ c.skip = some s.vote.oAt → c.pulse = none →
        bitOf s.field.groups (groupOf ch.val) = false → s.testSuspended = false →
        let total := paths.a + paths.b + paths.c
        let at_ := advanceTo s (s.vote.oAt + 8000)
        let ok := decide (total ≥ 8000) && decide (4 * Tri.path paths (remainingPath st) ≥ total)
        let judged := fun (c : DoChan) => if ok || c.mute then c.seeCurrent l total else (c.seeCurrent l total).find l 11 []
        (l = st → exec (.elementTestMeasure l ch paths) s = .next (at_.modChan ch.val (fun c => { judged c with tested := ok, skip := if ok then none else some s.vote.oAt }))) ∧
        (l ≠ st → exec (.elementTestMeasure l ch paths) s = .next (at_.modChan ch.val judged))) ∧
      exec .elementTestOpen s = .next (let at_ := advanceTo s (s.vote.oAt + 10000)
        if s.testSuspended then at_ else switching at_ (fun t => { t with field := { t.field with
          chan := t.field.chan.map (fun p => (p.1, if p.2.tested then p.2.modSec st (fun x => { x with closed := false }) else p.2)) } })) ∧
      (s.testSuspended = true → ∀ paths, exec (.elementTestMeasure l ch paths) s = .next (advanceTo s (s.vote.oAt + 8000)) ∧
        exec (.elementTestCheck l ch paths) s = .next (advanceTo s (s.vote.oAt + 50000))) ∧
      (∀ paths, (∀ p, p < 3 → Tri.path paths p < 1000) → exec (.elementTestCheck l ch paths) s = .next (advanceTo s (s.vote.oAt + 50000))) ∧
      (∀ paths, c.tested = true → c.mute = false → s.testSuspended = false →
        let bad := (List.range 3).filter (fun p =>
          (decide ((pathLanes p).1 = st) || decide ((pathLanes p).2 = st)) && decide (Tri.path paths p ≥ 1000))
        bad ≠ [] → exec (.elementTestCheck l ch paths) s =
          .next ((advanceTo s (s.vote.oAt + 50000)).modChan ch.val (fun c => c.find l 10 (bad.map (elementBit st))))) ∧
      (let closed := switching (advanceTo s (s.vote.oAt + 52000)) (fun t => { t with field := { t.field with
          step := none, chan := t.field.chan.map (fun p => (p.1, if p.2.tested then { p.2.reclose st with tested := false } else p.2)) } })
       exec .elementTestReclose s = .next (if st = .c ∧ s.testSuspended = false then
         closed.modLanes (fun _ ln => if ln.status = .active then ln.rbump 0x510B 0 else ln) else closed))) ∧
    (∀ k t cfg, s.config = some cfg → s.vote.k = some k → c.due = some t → s.pulseFit ch.val = true →
      let at_ := advanceTo s (s.vote.oAt + 10000)
      pulseBlocked at_ cfg (s.vote.relK.getD 0) = false → ∃ u, exec (.offPulseStart ch) s = .next u ∧
        (u.chan ch.val).pulse = some at_.time.now ∧ (u.chan ch.val).due = none ∧ (∀ m, ((u.chan ch.val).sec.get m).closed = false) ∧
        (∀ x, x ≠ ch.val → u.chan x = s.chan x) ∧ u.lanes = at_.lanes ∧ u.time = at_.time ∧ u.mode = s.mode) ∧
    (∀ t, c.pulse = some t →
      (∀ mV, c.mute = false → exec (.offPulseCheck l ch mV) s =
        .next (let at_ := (advanceTo s (t + 1000 * s.field.effWidth - 2000)).modChan ch.val (fun c => c.seeVoltage l mV)
               if 3000 ≤ mV then at_.modChan ch.val (fun c => c.find l 12 []) else at_)) ∧
      exec (.offPulseEnd ch) s = .next (switching (advanceTo s (t + 1000 * s.field.effWidth)) (fun t =>
        t.modChan ch.val (fun c => LaneId.all.foldl DoChan.reclose { c with pulse := none })))) ∧
    (let phase := if (s.sec l).health then 50000 else 0
     exec (.healthToggle l) s = .next ((advanceTo s (s.laneAt l (gridFrom (s.laneNow l - play) phase 100000))).modSec l (fun x =>
       { x with health := s.inRun && s.field.operating && x.alive && s.active l && decide (phase = 0) })))

/-! ## Journal, recorder, sessions, pins and sensors (chapters 13 and 14) -/

/-- 14 R371, R373, R382, R385, R387: a written record, sealed by its trailer, becomes a commit at the head of a journal that wraps over its oldest
records, behind carries of the blocks that the wrap would lose; a piece of at most 4 KiB is carried while no commit is written, the scrubber passes
over regions younger than five years, a staged record enters the areas when no freeze holds, and a freeze ends after 60 s. -/
def Obligations.JournalAndRecorderRun : Prop :=
  ∀ (s : State) (l : LaneId),
    (∀ r, (s.lane l).glue.writing = some r →
      let ahead := ((s.lane l).carryAhead l r.size).glue
      let written := { r with count := ahead.count + 1 }.seal
      written.complete = true ∧ written.seq = r.seq ∧ written.blocks = r.blocks ∧ written.fixed = r.fixed ∧
      ((s.lane l).glue.endangered r.size = [] → ahead = (s.lane l).glue) ∧
      ∃ t, exec (.commitWriteComplete l) s = .next t ∧
        (t.lane l).glue.writing = none ∧ (t.lane l).glue.journal = keepRing journalSize (written :: ahead.journal) ∧
        (t.lane l).glue.count = ahead.count + 1 ∧ (t.lane l).rget 0x3040 2 = r.seq ∧ (t.lane l).rget 0x3042 1 = r.sig ∧
        (t.lane l).m = (s.lane l).m ∧ (t.lane l).d = (s.lane l).d ∧ t.jreg = s.jreg ∧ t.mode = s.mode ∧
        ∀ m, m ≠ l → (t.lane m).glue.journal = (s.lane m).glue.journal) ∧
    (∀ r rs blocks, (s.lane l).glue.writing = none → (s.lane l).glue.commits = r :: rs → blocks ≠ [] → recordSize blocks.length ≤ 4096 →
      exec (.carryPiece l blocks) s = .next (stampRegions (s.modLane l (fun ln => ln.append (ln.carryRecord l r blocks))))) ∧
    (s.booted = true → exec .scrubEvaluation s = .next (((regionWrites s).filterMap (fun p =>
      if p.2 + 157788000000000000 ≤ s.regionClock then some p.1 else none)).foldl scrubRegion s)) ∧
    (∀ region, let t := scrubRegion s region
      Store.find? t.scrub region = some s.regionClock ∧ jget t 0x3046 0 = bump32 (jget s 0x3046 0) ∧ t.lanes = s.lanes ∧ t.mode = s.mode ∧
      ∀ other, other ≠ region → Store.find? t.scrub other = Store.find? s.scrub other) ∧
    (s.recorder.holder = none → ∀ e es, s.recorder.staged = e :: es →
      exec .stagingDrain s = .next { s with recorder :=
        (if s.recorder.sArm ≤ e.seq then { s.recorder with staged := es }.place e else { s.recorder with staged := es }).tellLost s.time.now }) ∧
    (∀ h, s.recorder.holder = some h → exec .freezeTimeout s = .next
      { advanceTo s (s.recorder.holdAt + 60000000000) with recorder := { s.recorder with holder := none } })

/-- 13 R353, R356, R357, R366, 14 R391, 16 R471: an idle session ends and is recorded, a lockout ends with the failure count at 0, the plug is read every
10 ms and takes effect after three agreeing readings, a JTAG instruction is executed or replaced by BYPASS, rails and dies are read into their
registers. -/
def Obligations.SessionsPinsAndSensors : Prop :=
  ∀ s : State,
    (∀ h, s.priv.holder = some h → exec .sessionIdleTimeout s = .next
      (let t := advanceTo s (s.priv.lastAt + 1000000000 * jget s 0x8010 5)
       recordSession { t with priv := { t.priv with holder := none } } 3 h.client h.path.code)) ∧
    (0 < s.priv.lockNs → ∃ t, exec .lockoutEnd s = .next t ∧ t.priv.fails = 0 ∧ t.priv.lockNs = 0 ∧ t.priv.holder = s.priv.holder ∧
      t.time.now = s.time.now + s.priv.lockNs) ∧
    (∀ (j : Fin 256) (ls : Tri (Fin 256)),
      (s.booted = false → exec (.plugReading j ls) s = .next { s with
        pins := { s.pins with escJ := j.val, escL := ls.map (fun x => x.val) } }) ∧
      (s.booted = true → ∃ t, exec (.plugReading j ls) s = .next t ∧
        t.time.now = s.time.now + (s.pins.readAt + 10000000 - s.time.now) ∧
        t.pins = { s.pins.read j.val (ls.map (fun x => x.val)) with readAt := t.time.now } ∧ t.mode = s.mode ∧
        ((s.pins.esc7Runs < 2 ∨ bitOf s.pins.escJ 7 ≠ bitOf j.val 7) → t.pins.esc7 = s.pins.esc7) ∧
        (2 ≤ s.pins.esc7Runs → bitOf s.pins.escJ 7 = bitOf j.val 7 → t.pins.esc7 = bitOf j.val 7))) ∧
    (let sel := fun (c : JtagCode) => { s with pins := { s.pins with jtag := c } }
     (∀ i ∈ [JtagCode.bypass, .idcode, .samplePreload], exec (.jtagInstruction i) s = .next (sel i)) ∧
     exec (.jtagInstruction .other) s = .next (sel .bypass) ∧
     (s.beforeRing7 = true → exec (.jtagInstruction .extest) s = .next (sel .extest) ∧
       ∀ i ∈ [JtagCode.takesLands, .factory], exec (.jtagInstruction i) s = .next (if s.pins.unsealedMode then sel i else sel .bypass)) ∧
     (s.beforeRing7 = false → exec (.jtagInstruction .factory) s = .next (sel .bypass) ∧
       ∀ i ∈ [JtagCode.takesLands, .extest], exec (.jtagInstruction i) s = .next
         (if s.mode = .startUp then sel .bypass else jbump (sel .bypass) 0x8030 2))) ∧
    (s.booted = true →
      (∀ (rail : Fin 9) mV,
        let took := fun (t : State) => monitorTake { t with power := { t.power with mV := Store.insert s.power.mV rail.val mV } } 6 rail.val mV
        (∀ l, LaneId.ofNum rail.val = some l → exec (.supplyRailSample rail mV) s = .next
          (took (s.modLane l (fun ln => ln.rset 0x2101 1 (mV % 65536))))) ∧
        (rail.val = 3 → exec (.supplyRailSample rail mV) s = .next (took (jset s 0x2101 4 (mV % 65536)))) ∧
        (rail.val = 4 → exec (.supplyRailSample rail mV) s = .next (took (if s.variantF then seeSupplyAll s (mV % 65536) else s))) ∧
        (5 ≤ rail.val → exec (.supplyRailSample rail mV) s = .next (took s))) ∧
      (∀ (die : Fin 5) t, (die.val = 4 → s.variantF = true ∧ s.field.operating = true) →
        let took := fun (u : State) => monitorTake (if 1250 ≤ t then jbump u 0x2108 (die.val + 6) else u) 7 die.val t
        (∀ l, LaneId.ofNum die.val = some l → exec (.dieTemperatureReading die t) s =
          .next (took (s.modLane l (fun ln => ln.rset 0x2108 1 (wrapTo 16 t))))) ∧
        (3 ≤ die.val → exec (.dieTemperatureReading die t) s = .next (took (jset s 0x2108 (die.val + 1) (wrapTo 16 t))))))

/-! ## Clock domains, supplies and resets (chapters 15 and 16) -/

/-- 15 R398, R399, R401 to R403, R405, R408: a source whose clock is stopped gives nothing; an event is delivered through its idle handshake, and one that
meets a busy or a closed crossing is merged or discarded, which the overrun flag and count say; towards a stopped clock a request stays pending and a queue
takes what it has room for, a source that can wait goes on offering the rest and one that cannot drops it, counted; a crossing that goes on gives out
what it holds and what is offered, in order; a count goes over as the difference of its Gray code. -/
def Parts.CrossingsHoldMergeAndDrop : Prop :=
  ∀ (s : State) (x : Nat),
    let c := s.crossing x
    (∀ r n (i : XItem) (f lost : State → State), s.crossingLive x = true → s.sourceRuns x = false →
      raiseEvent s x r i f = s ∧ carry s x n i lost f = s) ∧
    (s.sourceRuns x = true → ∀ r (i : XItem) (f : State → State),
      let t := raiseEvent s x r i f
      (c.open_ = false ∨ (c.flops r).busy x s.time.now = true →
        bitOf (t.crossing x).bits 2 = true ∧ jget t (crossingIndex x) 2 = satAdd 255 (jget s (crossingIndex x) 2) 1 ∧
        (t.crossing x).held = c.held ∧ (t.crossing x).events = c.events ∧ t.lanes = s.lanes ∧ t.vote = s.vote ∧ t.time = s.time ∧ t.mode = s.mode) ∧
      (c.open_ = true → (c.flops r).busy x s.time.now = false → s.destRuns x = true → ∃ u, t = f u ∧
        (u.crossing x).flops r = { req := !(c.flops r).req, ack := !(c.flops r).req, taken := !(c.flops r).req, at_ := some s.time.now } ∧
        (u.crossing x).held = c.held ∧ u.lanes = s.lanes ∧ u.vote = s.vote ∧ u.time = s.time ∧ u.mode = s.mode ∧ u.jreg = s.jreg) ∧
      (c.open_ = true → (c.flops r).busy x s.time.now = false → s.destRuns x = false → crossingKind x = .event →
        (t.crossing x).held = c.held ++ [(i, 0)] ∧ ((t.crossing x).flops r).req = !(c.flops r).req ∧ t.lanes = s.lanes ∧ t.mode = s.mode)) ∧
    (s.crossingLive x = true → s.sourceRuns x = true → crossingKind x = .queue → ∀ n (i : XItem) (lost f : State → State),
      let t := carry s x n i lost f
      (c.open_ = true → s.destRuns x = true → c.held = [] → c.offered = [] → t = f (through s x n)) ∧
      (c.open_ = true → s.destRuns x = false ∨ c.held ≠ [] → c.offered = [] → n ≤ c.room x →
        (t.crossing x).held = c.held ++ [(i, n)] ∧ (t.crossing x).wp = movePointer x c.rp (Nat.min (c.entries + n) (crossingDepth x)) ∧
        (t.crossing x).offered = [] ∧ (t.crossing x).bits = c.bits ∧ t.lanes = s.lanes ∧ t.mode = s.mode) ∧
      (c.open_ = false ∨ c.offered ≠ [] ∨ ((s.destRuns x = false ∨ c.held ≠ []) ∧ c.room x < n) →
        (crossingStalls x = true → (t.crossing x).offered = c.offered ++ [(i, n)] ∧ (t.crossing x).held = c.held ∧ (t.crossing x).bits = c.bits ∧
          t.lanes = s.lanes ∧ t.mode = s.mode ∧ t.jreg = s.jreg) ∧
        (crossingStalls x = false →
          let fits := if c.open_ then Nat.min n (c.room x) else 0
          ∃ u, t = lost u ∧ bitOf (u.crossing x).bits 2 = true ∧
            jget u (crossingIndex x) 2 = satAdd 255 (jget s (crossingIndex x) 2) (n - fits) ∧
            jget u (crossingIndex x) 3 = satAdd 4294967295 (jget s (crossingIndex x) 3) (n - fits) ∧
            (u.crossing x).held = (if fits = 0 then c.held else c.held ++ [(.refuse, fits)]) ∧ u.lanes = s.lanes ∧ u.mode = s.mode))) ∧
    (c.open_ = true → s.destRuns x = true → ∃ t, resume s x = (c.held ++ c.offered).foldl (deliver x) t ∧
      t.crossing x = { c with held := [], offered := [], wp := c.rp, stalled := false,
                              events := c.events.map (fun p => (p.1, { p.2 with ack := p.2.req, taken := p.2.req })) } ∧
      t.lanes = s.lanes ∧ t.vote = s.vote ∧ t.time = s.time ∧ t.jreg = s.jreg ∧ t.mode = s.mode) ∧
    (∀ cmd at_ n, deliver x s (.traffic cmd at_, n) = arriveFar (through s x n) at_ cmd) ∧
    (c.open_ = false ∨ s.destRuns x = false → resume s x = s) ∧
    (∀ n count, count < 65536 → Store.get c.refs 0 n < 65536 → Store.wf 0 c.counts = true →
      Store.get (c.follow n count).counts 0 n = (Store.get c.counts 0 n + (count + 65536 - Store.get c.refs 0 n)) % 65536)

/-- 15 R396, R405, R406, R408, R409: a domain without edges is lost once and its crossings go on when it runs again, a waiting handshake first; a stalled
crossing says so and counts; a flush opens it empty, turns its epoch and marks the side that was reset, and waits, the crossing closed, while the other
side's clock stands; crossings hold, merge and drop as their kind has it. -/
def Obligations.DomainsAndCrossings : Prop :=
  Parts.CrossingsHoldMergeAndDrop ∧
  ∀ s : State, s.booted = true →
    (∀ d : Fin 11, d ≠ 10 →
      (bitOf s.domains d.val = true → exec (.domainLost d) s =
        .next (jset { s with domains := setBit s.domains d.val false } 0x2201 (d.val + 1) 4)) ∧
      (bitOf s.domains d.val = false → s.clockOn d.val = true →
        let u := { s with domains := setBit s.domains d.val true }
        exec (.domainRunning d) s = .next (LaneId.all.foldl followCounts
          ((s.crossings.filter (fun p => (crossingDomains p.1).contains d.val)).foldl (fun t p => resume (completeFlush t p.1) p.1) u)))) ∧
    (∀ x : Fin 42, s.crossingLive x.val = true →
      let c := s.crossing x.val
      (canStall x.val = true → s.waits x.val = true → c.stalled = false → exec (.crossingStalled x) s = .next
        (jbump (s.setCrossing x.val { c with stalled := true, bits := setBit c.bits 6 true }) (crossingIndex x.val) 5)) ∧
      (crossingKind x.val ≠ .bit → s.sourceRuns x.val = true → s.destRuns x.val = true → ∀ src dst, (src || dst) = true →
        ∃ t, exec (.flushHandshake x src dst) s = .next (resume t x.val) ∧ (t.crossing x.val).open_ = true ∧ (t.crossing x.val).stalled = false ∧
          (t.crossing x.val).offered = c.offered ∧ (t.crossing x.val).flush = none ∧ (t.crossing x.val).resets = (false, false) ∧
          (t.crossing x.val).epoch = !c.epoch ∧ (t.crossing x.val).events = [] ∧ (t.crossing x.val).held = [] ∧ (t.crossing x.val).wp = 0 ∧
          (t.crossing x.val).rp = 0 ∧ (t.crossing x.val).counts = c.counts ∧
          (t.crossing x.val).bits = (if src && dst then c.bits else if src then setBit c.bits 4 true else setBit c.bits 3 true) ∧
          t.lanes = s.lanes ∧ t.mode = s.mode ∧ t.jreg = (jbump s (crossingIndex x.val) 6).jreg) ∧
      (crossingKind x.val ≠ .bit →
        (s.sourceRuns x.val = true → s.destRuns x.val = false → exec (.flushHandshake x true false) s =
          .next (s.setCrossing x.val { c with open_ := false, flush := some (true, false) })) ∧
        (s.sourceRuns x.val = false → s.destRuns x.val = true → exec (.flushHandshake x false true) s =
          .next (s.setCrossing x.val { c with open_ := false, flush := some (false, true) })) ∧
        (∀ a b, c.flush = some (a, b) →
          (s.sourceRuns x.val = true → s.destRuns x.val = true → completeFlush s x.val = handshake s x.val a b) ∧
          (s.sourceRuns x.val = false ∨ s.destRuns x.val = false → completeFlush s x.val = s))))

/-- The recorder after an event recorded with type 5: the stage and VIN_J (14 Table 14-4, 16 R414). -/
def Parts.stageRecorded (s : State) (stage mV : Nat) : Recorder :=
  (s.recorder.tellLost s.time.now).offer s.time.now 0 5 (leBytes 1 stage ++ leBytes 2 mV)

/-- 16 R414 to R418, R421, R423, R424: each stage of a sagging supply is entered and left at its voltage; every entry into stages 1 to 3 is counted in 2102,
and every entry and exit recorded with type 5; PFW_N enters the safe state with cause 9; below 8.0 V the lower stages' measures are taken, the module
resets, the reset counted, and stays off; a lane's supply silences its lane with cause 12 and its return starts the wait for reintegration. -/
def Obligations.SupplyStages : Prop :=
  ∀ s : State, s.booted = true →
    (∀ n mV, n = 1 ∨ n = 2 ∨ n = 3 → ∃ u, enterStage s n mV = recordStage u mV ∧ u.power.stage = n ∧ jget u 0x2102 n = bump32 (jget s 0x2102 n) ∧
      u.mode = s.mode ∧ u.time = s.time ∧ (n = 1 → u.lanes = s.lanes)) ∧
    (∀ u mV, (recordStage u mV).recorder = Parts.stageRecorded u u.power.stage mV ∧ (recordStage u mV).lanes = u.lanes ∧
      (recordStage u mV).power = u.power ∧ (recordStage u mV).mode = u.mode ∧ ∀ i, i < 256 → jget (recordStage u mV) 0x2102 i = jget u 0x2102 i) ∧
    (∀ mV, s.power.stage = 0 → mV < 10200 → exec (.stage1Entry mV) s = .next (enterStage (showVinJ s mV) 1 mV)) ∧
    (∀ mV, s.power.stage = 1 → 10500 ≤ mV → exec (.stage1Exit mV) s =
      .next (recordStage (showVinJ { s with power := { s.power with stage := 0 } } mV) mV)) ∧
    (∀ mV, s.power.stage < 2 → mV < 9400 → exec (.stage2Entry mV) s = .next (switchEcn (enterStage (showVinJ s mV) 2 mV) false) ∧
      ∀ t, switchEcn (enterStage (showVinJ s mV) 2 mV) false = t → t.power.stage = 2 ∧ t.ecn0.on = false ∧ t.ecn1.on = false ∧ t.mode = s.mode ∧
        jget t 0x2102 2 = bump32 (jget s 0x2102 2)) ∧
    (∀ mV, s.power.stage = 2 → 9700 ≤ mV → ∃ t, exec (.stage2Exit mV) s = .next t ∧ t.power.stage = 1 ∧ t.ecn0.on = true ∧ t.ecn1.on = true ∧
      t.mode = s.mode ∧ t.lanes = s.lanes ∧ t.recorder = Parts.stageRecorded s 1 mV) ∧
    (∀ mV, s.power.stage < 3 → mV < 8800 →
      exec (.powerFailWarning mV) s = .next (failSupply (enterStage (showVinJ (shedPorts s) mV) 3 mV)) ∧
      ∀ t, failSupply (enterStage (showVinJ (shedPorts s) mV) 3 mV) = t → t.power.pfw = true ∧ t.power.stage = 3 ∧
        (s.power.stage < 2 → t.ecn0.on = false ∧ t.ecn1.on = false) ∧ t.recorder.holder = none ∧ jget t 0x2102 3 = bump32 (jget s 0x2102 3) ∧
        (s.inRun = true → t.mode = .safe ∧ jget t 0x3002 0 = 9) ∧ (s.mode = .startUp → t.mode = .startUp ∧ t.power.stop = 11)) ∧
    (∀ mV, mV < 8000 → ∃ u t, exec (.stage4 mV) s = .next t ∧ t = resetModule u .stage4 ∧
      u = recordStage (if s.power.stage < 3 then failSupply (shedFrom (showVinJ (shedPorts s) mV) 4) else shedFrom (showVinJ (shedPorts s) mV) 4) mV ∧
      u.power.stage = 4 ∧ t.power.stage = 4 ∧ t.power.step = 0 ∧ t.power.domains = 0 ∧ t.booted = false ∧
      jget t 0x2000 8 = ResetSource.stage4.code ∧ jget t 0x2000 9 = bump32 (jget u 0x2000 9)) ∧
    (∀ mV, s.power.pfw = true → 9000 ≤ mV → exec (.supplyRestart mV) s = .next (resetModule (jbump (showVinJ s mV) 0x2105 0) .supplyRestart)) ∧
    (∀ l mV, mV < 7800 →
      let sagged := (showVin (jbump s 0x2103 0) l mV).modLane l (fun ln =>
        { ln.abandon s.time.now with glue := { (ln.abandon s.time.now).glue with fullDue := true } })
      sagged.ready (7 * l.num + 3) 3 → ∃ t, exec (.laneUndervoltage l mV) s = .next t ∧ (t.lane l).excludedAt = none ∧
        t = closeLane ((switchLane (exclude (sagged.evented (7 * l.num + 3) 3) l 12) l false).modLane l (fun ln =>
          { ln with excludedAt := none })) l) ∧
    (∀ l mV, 9000 ≤ mV → (s.lane l).status = .held → (s.lane l).excludedAt = none → exec (.laneSupplyRecovered l mV) s =
      .next ((showVin s l mV).modLane l (fun ln => { ln with excludedAt := some s.time.now })))

/-- 16 R412: a VIN input above 16.5 V (the event says that it lasted 10 µs) is counted in 2109.00 and recorded; nothing else changes. -/
def Obligations.OvervoltageIsCounted : Prop :=
  ∀ (s : State) (rail : Fin 4) (mV : Nat), s.booted = true → 16500 < mV →
    exec (.overvoltage rail mV) s = .next (recordStage (jbump s 0x2109 0) mV) ∧
    ∀ x, recordStage (jbump s 0x2109 0) mV = x → x.mode = s.mode ∧ x.lanes = s.lanes ∧ x.power = s.power ∧ x.field = s.field ∧
      x.time = s.time ∧ (jget s 0x2109 0 < 4294967295 → jget x 0x2109 0 = jget s 0x2109 0 + 1) ∧
      ∀ index sub, regKey index sub ≠ regKey 0x2109 0 → regKey index sub ≠ regKey 0x7011 4 → jget x index sub = jget s index sub

/-- 16 R425, R426, R431, R434, 13 R352: power-on starts an unpowered module at ROM boot; every reset source resets the module, counts the reset in
2000.09 and names itself in 2000.08; RESET_N and stage 4 last until VIN is good; a commanded restart comes 1 ms after its response, its final commits
made. What persists: the lanes' journals, with what was written of a record cut by the reset, and containers, the keys, the recorder's records, the change
log and the persistent forces. -/
def Parts.ResetsRestartTheModule : Prop :=
  ∀ s : State,
    (s.booted = false →
      let u := { s with power := { s.power with mV := s.power.mV.filter (fun p => decide (p.1 ≠ 3)) } }
      let waits := s.power.stage = 4 ∨ jget s 0x2000 8 = ResetSource.resetN.code
      (¬ waits → exec .powerOn s = .next (resetModule u .powerOn) ∧ exec (.moduleReset .powerOn) s = .next (resetModule u .powerOn)) ∧
      (waits → exec .powerOn s = .next (romBoot u) ∧ exec (.moduleReset .powerOn) s = .next (romBoot u))) ∧
    (s.booted = true →
      exec .resetN s = .next (resetModule s .resetN) ∧ exec (.moduleReset .resetN) s = .next (resetModule s .resetN) ∧
      exec (.moduleReset .stage4) s = .next (resetModule s .stage4) ∧
      (s.power.pfw = true → exec (.moduleReset .supplyRestart) s = .next (resetModule (jbump s 0x2105 0) .supplyRestart))) ∧
    (∀ t, s.power.restart = some t → exec (.moduleReset .commanded) s = exec .commandedRestartEffect s ∧ exec .commandedRestartEffect s =
      .next (resetModule (sendLeave (saveJunction (if s.inRun then stampRegions ((advanceTo s t).modLanes (fun l ln =>
        if ln.status = .active then ln.stopEngines.finalWhole l (advanceTo s t).pGlue (advanceTo s t).time.now else ln)) else advanceTo s t)) 2)
        .commanded)) ∧
    (∀ src, let t := resetModule s src
      t.mode = .startUp ∧ t.keys = s.keys ∧ t.revoked = s.revoked ∧ t.priv.digest = s.priv.digest ∧ t.priv.holder = none ∧
      jget t 0x2000 8 = src.code ∧ jget t 0x2000 9 = bump32 (jget s 0x2000 9) ∧
      (t.booted = true ↔ ¬ (src = .stage4 ∨ (src = .resetN ∧ s.vinIsGood = false))) ∧
      (∀ l, (t.lane l).glue.journal = ((s.lane l).abandon s.time.now).glue.journal ∧ (t.lane l).stored = (s.lane l).stored ∧
        ((s.lane l).glue.writing = none → ((s.lane l).abandon s.time.now).glue.journal = (s.lane l).glue.journal) ∧
        (t.lane l).m = [] ∧ (t.lane l).engines = []) ∧
      t.forces = s.forces.filter (fun p => p.2.persistent) ∧
      (t.log = s.log ∨ ∃ x, t.log = s.log ++ [x] ∧ x.kind = 4) ∧
      t.recorder.sArm = s.recorder.sArm ∧ s.recorder.head ≤ t.recorder.head ∧ (∃ more, t.recorder.staged = s.recorder.staged ++ more) ∧
      (∀ i, i < s.recorder.head - s.recorder.sArm → Store.find? t.recorder.keep i = Store.find? s.recorder.keep i))

/-- 16 R426 to R430, 03 R70, R71, R88, 14 R380, 10 R297: the steps of start-up. A module as delivered, powered on, stops at step 1 for its plug;
an admission in progress is waited for; copies that do not agree, the scribe test with and without a defect, the lane boot, the restore from empty journals, the integration of the ring and
its timeout lead to the next step or to the stop of the rule. -/
def Parts.StartUpSteps : Prop :=
  (∃ t, exec .powerOn State.reset = .next t ∧ t.power.step = 1 ∧ t.power.stop = 1 ∧ t.mode = .startUp) ∧
  ∀ (s : State) (c : Container),
    (s.cfg.gauge ≠ none → exec .containerLoad s = .next s) ∧
    (s.cfg.gauge = none → s.mode = .startUp → s.power.step = 2 → s.power.stop = 0 ∨ s.power.stop = 3 → s.booted = true →
      let fed := LaneId.all.foldl admitSupply s
      (fed.actives.length < 2 → exec .containerLoad s = .next (stopAt fed 10)) ∧
      (2 ≤ fed.actives.length → fed.copies = [] → exec .containerLoad s = .next (stopAt fed 3)) ∧
      (2 ≤ fed.actives.length → fed.copies ≠ [] → agreedCopy fed.copies = none → exec .containerLoad s = .next (stopAt fed 6)) ∧
      (2 ≤ fed.actives.length → agreedCopy fed.copies = some c → exec .containerLoad s =
        .next (admitStored (LaneId.all.foldl (fun u l => copyContainer u c l) fed) c))) ∧
    (s.inStep 3 = true →
      (∃ t, exec (.scribeTest none) s = .next t ∧ t.power.step = 4 ∧ t.power.stop = 0 ∧ jget t 0x3010 1 = 1 ∧ t.lanes = s.lanes ∧ t.mode = s.mode) ∧
      (∀ n u, n < 64 → u ∈ s.scribeUnits → ∃ t, exec (.scribeTest (some (n, u))) s = .next t ∧ t.power.step = 3 ∧ t.power.stop = 7 ∧
        jget t 0x3010 1 = 2 ∧ (n ≠ 0 → jget t 0x3010 2 = n) ∧ (u ≠ 0 → jget t 0x3010 3 = u) ∧ Store.find? t.power.latches u = some 255 ∧
        t.lanes = s.lanes ∧ t.mode = s.mode)) ∧
    (s.inStep 4 = true → s.config = some c → ∀ ok,
      let booted := LaneId.all.foldl (fun t l => bootLane t c ok l) s
      exec (.laneBoot ok) s = .next (if booted.actives.length < 2 then stopAt booted 8 else toStep (lockLanes booted) 5)) ∧
    (s.inStep 5 = true → s.config = some c →
      (∀ x, agreedCommit (offers s c) = some x → exec .stateRestore s = .next (restoreFrom s c (offers s c) x)) ∧
      ((∀ l, (s.lane l).glue.journal = []) → 2 ≤ s.actives.length → exec .stateRestore s = .next (startFresh s 0))) ∧
    (s.inStep 6 = true →
      ((s.ring.state = .active ∨ s.ring.state = .alone) → exec .ringIntegration s = .next (toStep s 7)) ∧
      (jbool s 0x4230 5 = true → exec .ringIntegrationTimeout s = .next (toStep
        { advanceTo s (s.power.stepAt + 2000000000) with
          time := { (advanceTo s (s.power.stepAt + 2000000000)).time with uncertain := true } } 7)))

/-! ## The object dictionary (chapters 17, 12, 06, 14 and 13) -/

/-- A command that is a write of the dictionary carries its write out at the end of the tick when every check lets it pass: history, record and log,
effect, response. -/
def Parts.carries (c : Instr) (q : Request) : Prop :=
  ∀ (s : State) (t : Target), s.writable q t → timingEntry q.index q.sub = false →
    exec c s = .next (carryOut (s.taken q) q .plain t q.data (s.taken q).tickNo)

/-- 17 R443, R444, R448, R449: each command that writes a register is the write of its entry, and an accepted write is carried out at the end of its
tick (that the command runs on to there is the model's choice, log 8). -/
def Obligations.WritesAreCarriedOut : Prop :=
  ∀ (r : Sender) (d : Bytes),
    (∀ index sub, Parts.carries (.registerWrite r index sub d) (writeReq r index sub d)) ∧
    Parts.carries (.reintegrateLane r d) (writeReq r 0x3006 2 d) ∧
    Parts.carries (.safeStateRelease r d) (writeReq r 0x3007 0 d) ∧
    (∀ n : Fin 8, Parts.carries (.dcTriggerIdWrite r n d) (writeReq r (0x4010 + n.val) 2 d)) ∧
    (∀ n : Fin 4, Parts.carries (.ecTriggerIdWrite r n d) (writeReq r (0x4018 + n.val) 3 d)) ∧
    Parts.carries (.taiSecondWrite r d) (writeReq r 0x4004 0 d) ∧
    Parts.carries (.controllerRestart r .c0 d) (writeReq r 0x4800 14 d) ∧
    Parts.carries (.controllerRestart r .c1 d) (writeReq r 0x4810 14 d) ∧
    (∀ n : Fin 8,
      Parts.carries (.cvuInitialise r n d) (writeReq r (0x4A00 + n.val) 5 d) ∧
      Parts.carries (.cvuFeedByte r n d) (writeReq r (0x4A00 + n.val) 6 d) ∧
      Parts.carries (.cvuFeedHalfWord r n d) (writeReq r (0x4A00 + n.val) 7 d) ∧
      Parts.carries (.cvuFeedWord r n d) (writeReq r (0x4A00 + n.val) 8 d) ∧
      Parts.carries (.cvuReleaseClaim r n d) (writeReq r (0x4A00 + n.val) 10 d)) ∧
    Parts.carries (.admitOnly r) (writeReq r 0x9000 2 [1]) ∧
    Parts.carries (.admitAndStore r) (writeReq r 0x9000 2 [2]) ∧
    Parts.carries (.admitDelta r) (writeReq r 0x6800 3 [1]) ∧
    Parts.carries (.activateChange r) (writeReq r 0x6800 3 [2]) ∧
    Parts.carries (.cancelChange r) (writeReq r 0x6800 3 [3]) ∧
    Parts.carries (.setForce r d) (writeReq r 0x6400 1 d) ∧
    Parts.carries (.releaseForce r d) (writeReq r 0x6400 2 d) ∧
    Parts.carries (.releaseAllForces r d) (writeReq r 0x6400 3 d) ∧
    Parts.carries (.discardState r d) (writeReq r 0x3044 0 d) ∧
    Parts.carries (.arm r d) (writeReq r 0x7001 1 d) ∧
    Parts.carries (.freezeBegin r) (writeReq r 0x7011 1 [1]) ∧
    Parts.carries (.freezeEnd r) (writeReq r 0x7011 1 [0]) ∧
    Parts.carries (.clearChangeLog r d) (writeReq r 0x7203 0 d) ∧
    (∀ n : Fin 64, Parts.carries (.monitorClear r n d) (writeReq r (0x7100 + n.val) 6 d)) ∧
    Parts.carries (.openSession r d) (writeReq r 0x8010 1 d) ∧
    Parts.carries (.closeSession r d) (writeReq r 0x8010 2 d) ∧
    Parts.carries (.newPassword r d) (writeReq r 0x8010 3 d) ∧
    Parts.carries (.clearPassword r d) (writeReq r 0x8010 4 d) ∧
    (∀ n : Fin 4, Parts.carries (.publicKey r n d) (writeReq r (0x8101 + n.val) 1 d) ∧
      Parts.carries (.revokeKey r n d) (writeReq r (0x8101 + n.val) 4 d)) ∧
    Parts.carries (.minimumContainerVersion r d) (writeReq r 0x8105 1 d) ∧
    (∀ x : Fin 42, Parts.carries (.crossingClear r x d) (writeReq r (0x2210 + x.val) 7 d)) ∧
    Parts.carries (.clearAllCrossingFlags r d) (writeReq r 0x2203 0 d) ∧
    Parts.carries (.commandedRestart r d) (writeReq r 0x2010 0 d)

/-- The device after an accepted write of a register of class J. -/
def Parts.wrote (u : State) (e : Entry) (r : Sender) (index sub : Nat) (d : Bytes) (tick : Nat) : State :=
  carryOut u (writeReq r index sub d) .plain (.row e) d tick

/-- 02 R33, R34, R36, 11 R308, R320, R321, 15 R406, 16 R434: what a write of a trigger identity, of the second of the next pulse, of a check value
unit, of a restart or of a clear does. -/
def Parts.WritesActOnUnits : Prop :=
  ∀ (u : State) (e : Entry) (r : Sender) (d : Bytes) (tick : Nat), e.cls = .j →
    (∀ n : Fin 8, n.val < u.time.dc.length → u.flows 23 → (Parts.wrote u e r (0x4010 + n.val) 2 d tick).time.dc[n.val]? =
      some { sec := 0, ns := jget u (0x4010 + n.val) 1, id := ofLe d, close := true, state := 1 }) ∧
    (∀ n : Fin 4, n.val < u.time.ec.length → u.flows 23 → (Parts.wrote u e r (0x4018 + n.val) 3 d tick).time.ec[n.val]? =
      some { sec := jget u (0x4018 + n.val) 1 % 2 ^ 48, ns := jget u (0x4018 + n.val) 2, id := ofLe d, close := false, state := 1 }) ∧
    (Parts.wrote u e r 0x4004 0 d tick).time.taiSecond = some (ofLe d % 2 ^ 48, u.time.now) ∧
    (Parts.wrote u e r 0x4800 14 d tick).can0.err = 0 ∧ (Parts.wrote u e r 0x4810 14 d tick).can1.err = 0 ∧
    (∀ n : Fin 8,
      (Parts.wrote u e r (0x4A00 + n.val) 5 d tick).cvu = Store.insert u.cvu n.val
        { unit := some { poly := ofLe d, reg := (crcParams (ofLe d)).init, owner := none }, client := some r.client, at_ := u.time.now } ∧
      (∀ sub ∈ [6, 7, 8], ∀ v x, Store.find? u.cvu n.val = some v → v.unit = some x →
        (Parts.wrote u e r (0x4A00 + n.val) sub d tick).cvu = Store.insert u.cvu n.val
          { v with unit := some { x with reg := crcFeed x.poly x.reg d }, at_ := u.time.now }) ∧
      (Parts.wrote u e r (0x4A00 + n.val) 10 d tick).cvu = Store.erase u.cvu n.val) ∧
    (Parts.wrote u e r 0x2010 0 d tick).power.restart = some (u.time.now + 1000000) ∧
    (∀ x : Fin 42, ((Parts.wrote u e r (0x2210 + x.val) 7 d tick).crossing x.val).bits = 0 ∧
      (∀ y, y ≠ x.val → y ≠ 31 → y ≠ 33 → (Parts.wrote u e r (0x2210 + x.val) 7 d tick).crossing y = u.crossing y) ∧
      ((Parts.wrote u e r 0x2203 0 d tick).crossing x.val).bits = 0)

/-- 03 R93, R95, 06 R170 to R173, 12 R324, 14 R379, R384, R387, R391, 13 R355 to R361: what a write does that starts a reintegration, releases the
safe state, discards the state, commands a change or a container, arms or freezes the recorder, clears a log or a monitor, or works on sessions,
passwords and keys. -/
def Parts.WritesActOnTheModule : Prop :=
  ∀ (u : State) (e : Entry) (r : Sender) (d : Bytes) (tick : Nat), e.cls = .j →
    (∀ l, LaneId.ofNum (ofLe d) = some l →
      (u.change.state = 6 → (Parts.wrote u e r 0x3006 2 d tick).vote.deferred = some l) ∧
      (u.change.state ≠ 6 → (Parts.wrote u e r 0x3006 2 d tick).vote.reint = some l ∧
        ((Parts.wrote u e r 0x3006 2 d tick).lane l).status = .restarting)) ∧
    ((Parts.wrote u e r 0x3007 0 d tick).mode = .startUp ∧ (Parts.wrote u e r 0x3007 0 d tick).power.step = 2) ∧
    ((Parts.wrote u e r 0x3044 0 d tick).forces = [] ∧ (Parts.wrote u e r 0x3044 0 d tick).power.step = 6) ∧
    (∀ k x, u.cfg.download = some (k, x) → ofLe d = 1 ∨ ofLe d = 2 →
      (Parts.wrote u e r 0x9000 2 d tick).cfg.gauge = some (.full (decide (ofLe d = 2))) ∧
      (Parts.wrote u e r 0x9000 2 d tick).cfg.gaugeK = some k) ∧
    (∀ x, u.change.delta = some x →
      (ofLe d = 1 → (Parts.wrote u e r 0x6800 3 d tick).change.state = 2 ∧ (Parts.wrote u e r 0x6800 3 d tick).cfg.gauge = some .delta) ∧
      (∀ c, ofLe d = 2 → u.config = some c → jbool u 0x6800 5 = true →
        (Parts.wrote u e r 0x6800 3 d tick).change.state = 6 ∧ (Parts.wrote u e r 0x6800 3 d tick).change.kAct = jget u 0x6800 4) ∧
      (ofLe d = 3 → u.vote.deferred = none → (Parts.wrote u e r 0x6800 3 d tick).change.state = 0 ∧
        (Parts.wrote u e r 0x6800 3 d tick).change.delta = none)) ∧
    ((Parts.wrote u e r 0x7001 1 d tick).recorder.keep = [] ∧ (Parts.wrote u e r 0x7001 1 d tick).recorder.circ = [] ∧
      (Parts.wrote u e r 0x7001 1 d tick).recorder.sizeN = jget u 0x7000 1 ∧
      (Parts.wrote u e r 0x7001 1 d tick).recorder.sizeM = jget u 0x7000 2) ∧
    (Parts.wrote u e r 0x7011 1 [1] tick).recorder.holder = some r.client ∧ (Parts.wrote u e r 0x7011 1 [0] tick).recorder.holder = none ∧
    (∃ x, (Parts.wrote u e r 0x7203 0 d tick).log = [x] ∧ x.index = 0x7203 ∧ x.kind = 5 ∧ x.client = r.client) ∧
    (∀ n : Fin 64, (Parts.wrote u e r (0x7100 + n.val) 6 d tick).monitors = Store.erase u.monitors n.val) ∧
    (openOutcome u r d = 0 → (Parts.wrote u e r 0x8010 1 d tick).priv.holder = some r) ∧
    (Parts.wrote u e r 0x8010 2 d tick).priv.holder = none ∧
    (Parts.wrote u e r 0x8010 3 d tick).priv.digest = some (sha256 ((Parts.wrote u e r 0x8010 3 d tick).priv.salt ++ d)) ∧
    ((Parts.wrote u e r 0x8010 4 d tick).priv.digest = none ∧ (Parts.wrote u e r 0x8010 4 d tick).priv.holder = none) ∧
    (∀ n : Fin 4,
      (Parts.wrote u e r (0x8101 + n.val) 1 d tick).keys = Store.insert u.keys n.val d ∧
      (∀ k, u.keyAt n.val = some k → (Parts.wrote u e r (0x8101 + n.val) 4 d tick).keys = Store.erase u.keys n.val ∧
        (Parts.wrote u e r (0x8101 + n.val) 4 d tick).revoked = u.revoked ++ [k])) ∧
    (ofLe d ≠ 0 → ∀ p ∈ [(0x8105, 1), (0x6800, 4), (0x4010, 1), (0x401B, 2), (0x4002, 1)], jget (Parts.wrote u e r p.1 p.2 d tick) p.1 p.2 = ofLe d)

/-- 17 R439, 06 R185, R186: a write of class V waits for the next cycle start with its lane; a force takes the slot of its target or a free one and
a release empties its slot, both going into the batch. -/
def Obligations.WritesWaitForTheCycle : Prop :=
  ∀ (u : State) (e : Entry) (r : Sender) (d : Bytes) (tick : Nat), e.cls = .v →
    (∀ index sub, index ≠ 0x6400 → index ≠ 0x3007 →
      (Parts.wrote u e r index sub d tick).batchIn.writes =
        u.batchIn.writes ++ [{ key := regKey index sub, val := ofLe d, lane := writeLane u (u.viewOf r) index }]) ∧
    (∀ n, (forceSlot u (forceRec d)).orElse (fun _ => freeSlot u) = some n →
      (Parts.wrote u e r 0x6400 1 d tick).forces = Store.insert u.forces n { rec_ := d, time := u.time.now, client := r.client } ∧
      (Parts.wrote u e r 0x6400 1 d tick).batchIn.forces = u.batchIn.forces ++ [.set n]) ∧
    (∀ f, Store.find? u.forces (ofLe d) = some f →
      (Parts.wrote u e r 0x6400 2 d tick).forces = Store.erase u.forces (ofLe d) ∧
      (Parts.wrote u e r 0x6400 2 d tick).batchIn.forces = u.batchIn.forces ++ [.release (ofLe d)]) ∧
    ((Parts.wrote u e r 0x6400 3 d tick).forces = [] ∧
      (Parts.wrote u e r 0x6400 3 d tick).batchIn.forces = u.batchIn.forces ++ u.forces.map (fun p => .release p.1))

/-- The refused answer of a write as its path carries it: queued on the host link, handed to the CANopen transfer, sent as a datagram of an ECN port
that is on, or queued on the ring (17 R443). -/
def Parts.answered (v : State) (r : Sender) (b : Bytes) : State :=
  match r.path with
  | .host => { v with host := { v.host with queue := v.host.queue ++ [b] } }
  | .can => sdoAnswer v r b
  | .ecn => if (v.ecn r.carrier).on = true ∧ v.power.stage = 0 then sendDatagram v r.carrier r.ip v.dict.port r.udpPort b else v
  | .ring => if v.power.stage = 0 then
      queueBest v .west (bestFrame v (nodeOfIp r.ip) 1 (udpPacket (jget v 0x4220 1) r.ip v.dict.port r.udpPort b)) else v

/-- What a refused write leaves as it was: everything that writes act on, and every register but the counts 1E00.06 of superseded writes and 7011.04 of
lost records and, where the answer leaves by a frame, those of the ports and the crossings. -/
def Parts.untouched (u t : State) (r : Sender) : Prop :=
  t.forces = u.forces ∧ t.batchIn = u.batchIn ∧ t.cfg = u.cfg ∧ t.change = u.change ∧ t.keys = u.keys ∧ t.mode = u.mode ∧ t.lanes = u.lanes ∧
  t.power = u.power ∧ t.time = u.time ∧ t.log = u.log ∧
  ∀ i j, j < 256 → regKey i j ≠ regKey 0x1E00 6 → regKey i j ≠ regKey 0x7011 4 →
    (r.path = .host ∨ ¬ ((0x2210 ≤ i ∧ i ≤ 0x2239) ∨ (0x4100 ≤ i ∧ i ≤ 0x4101) ∨ i = 0x4220)) → jget t i j = jget u i j

/-- 17 R441, R442, R449, 13 R354 to R356, R362: a write of an S entry on a sealed module is refused with 0A120002, one of a P entry without the session with
0A120003; the refused write is answered on its path, whichever it is, and nothing of what writes act on has changed. An attempt to open the session that
fails is refused with the code of Table 13-4 and leaves the session as it stood. -/
def Obligations.GuardedWritesAreRefused : Prop :=
  ∀ (s : State) (r : Sender) (index sub : Nat) (d : Bytes) (t : Target),
    let q := writeReq r index sub d
    let u := s.taken q
    s.reaches q t →
      (∀ code, (accessOf t index sub = .rwS ∧ u.unsealed = false ∧ code = 0x0A120002 ∨
          accessOf t index sub = .rwP ∧ u.holds r = false ∧ code = 0x0A120003) →
        exec (.registerWrite r index sub d) s = .next (refuse u q t d code) ∧
        Parts.untouched u (refuse u q t d code) r ∧ (refuse u q t d code).priv = u.priv ∧
        ∃ v, refuse u q t d code = Parts.answered v r (responseBody q 1 (leBytes 4 code)) ∧ v.host = u.host ∧ v.ring = u.ring ∧ v.ecn0 = u.ecn0 ∧
          v.ecn1 = u.ecn1 ∧ v.power = u.power ∧ v.dict.sdo = u.dict.sdo ∧ v.dict.port = u.dict.port) ∧
      (index = 0x8010 → sub = 1 → openOutcome u r d ≠ 0 →
        exec (.registerWrite r 0x8010 1 d) s = .next (refuse u q t d (openOutcome u r d)) ∧
        Parts.untouched u (refuse u q t d (openOutcome u r d)) r ∧ (refuse u q t d (openOutcome u r d)).priv.holder = u.priv.holder ∧
        (openOutcome u r d = 0x0A120007 → (refuse u q t d (openOutcome u r d)).priv.fails = u.priv.failCount + 1))

/-- 17 R443, R445, R446, R453, 14 R384 to R388, R391, 11 R321: a read answers what its entry reads as; the reads with an effect move their cursor or clear
their monitor; a block is read as a DOMAIN, captured at its first segment. -/
def Obligations.ReadsAreAnswered : Prop :=
  ∀ (s : State) (r : Sender),
    (∀ (n : Fin 8) t, s.readable (readReq r (0x4A00 + n.val) 9) t → exec (.cvuResultRead r n) s =
      .next (let o := readTarget (s.taken (readReq r (0x4A00 + n.val) 9)) r t (0x4A00 + n.val) 9
             finish o.1 (readReq r (0x4A00 + n.val) 9) o.2)) ∧
    (∀ t, s.readable (readReq r 0x7010 2) t → exec (.recordAtCursor r) s =
      .next (let o := readTarget (s.taken (readReq r 0x7010 2)) r t 0x7010 2
             finish o.1 (readReq r 0x7010 2) o.2)) ∧
    (∀ t, s.readable (readReq r 0x7202 2) t → exec (.entryAtCursor r) s =
      .next (let o := readTarget (s.taken (readReq r 0x7202 2)) r t 0x7202 2
             finish o.1 (readReq r 0x7202 2) o.2)) ∧
    (∀ (n : Fin 64) t, s.readable (readReq r (0x7140 + n.val) 2) t → exec (.contentsAndClear r n) s =
      .next (let o := readTarget (s.taken (readReq r (0x7140 + n.val) 2)) r t (0x7140 + n.val) 2
             finish o.1 (readReq r (0x7140 + n.val) 2) o.2)) ∧
    (∀ (e : Entry), e.cls = .j →
      (∀ (n : Fin 8) v x, Store.find? s.cvu n.val = some v → v.client = some r.client → v.unit = some x →
        readTarget s r (.row e) (0x4A00 + n.val) 9 =
          ({ s with cvu := Store.insert s.cvu n.val { v with at_ := s.time.now } }, .ok (leBytes 8 (crcFinish x.poly x.reg)))) ∧
      (∀ x, s.recorder.at_ (s.bindingOf r).recCursor = some x → readTarget s r (.row e) 0x7010 2 =
        (s.modBinding r (fun b => { b with recCursor := (s.bindingOf r).recCursor + 1 }), .ok x.bytes)) ∧
      (∀ b, s.logAt (s.bindingOf r).logCursor = some b → readTarget s r (.row e) 0x7202 2 =
        (s.modBinding r (fun x => { x with logCursor := ((s.bindingOf r).logCursor + 1) % 65536 }), .ok b)) ∧
      (∀ n : Fin 64, readTarget s r (.row e) (0x7140 + n.val) 2 =
        ({ s with monitors := Store.erase s.monitors n.val }, .ok ((s.monitor n.val).bytes s.time.now)))) ∧
    (∀ offset e, let q : Request := { readReq r 0x7010 3 with op := 3, offset := offset }
      s.takes q → entry? 0x7010 3 = some e →
      (offset = 0 → (Store.erase (s.taken q).dict.captures r.client).length < 4 →
        (s.taken q).recorder.blockLen ((s.taken q).bindingOf r).recCursor ≠ 0 →
        exec (.recordBlock r offset) s = .next (serveCapture
          ((s.taken q).modBinding r (fun b => { b with recCursor :=
            ((s.taken q).bindingOf r).recCursor + (s.taken q).recorder.blockLen ((s.taken q).bindingOf r).recCursor }))
          q ((s.taken q).recorder.block ((s.taken q).bindingOf r).recCursor))) ∧
      (∀ y, offset ≠ 0 → Store.find? (s.taken q).dict.captures r.client = some y → y.index = 0x7010 → y.sub = 3 →
        exec (.recordBlock r offset) s = .next (serveCapture (s.taken q) q y.data)))

/-- 17 R445, R446, 12 R324, 06 R170: a DOMAIN is written in segments that follow one another, the last one carrying the write out; a container and a delta
are downloaded so; a segment of a read is answered from the value captured at its start. -/
def Obligations.DomainsMoveInSegments : Prop :=
  ∀ (s : State) (r : Sender),
    (∀ index sub offset last d t, let q : Request := { writeReq r index sub d with op := 4, last := last, offset := offset }
      s.takes q → resolve (s.taken q) index sub = .ok t → t.typ = .domain → (accessOf t index sub).canWrite = true →
      exec (.domainWriteSegment r index sub offset last d) s = .next (writeSegment (s.taken q) q .plain t) ∧
      (last = false → offset = 0 → d.length ≤ 12582912 → openCode (s.taken q) q = 0 →
        Store.find? (writeSegment (s.taken q) q .plain t).dict.xfers r.client =
          some { index := index, sub := sub, data := d, at_ := (s.taken q).time.now }) ∧
      (∀ y, last = false → offset ≠ 0 → Store.find? (s.taken q).dict.xfers r.client = some y → y.index = index → y.sub = sub →
        y.data.length = offset → (y.data ++ d).length ≤ 12582912 →
        Store.find? (writeSegment (s.taken q) q .plain t).dict.xfers r.client =
          some { index := index, sub := sub, data := y.data ++ d, at_ := (s.taken q).time.now })) ∧
    (∀ index sub offset y t, let q : Request := { readReq r index sub with op := 3, offset := offset }
      s.takes q → resolve (s.taken q) index sub = .ok t → t.typ = .domain → (accessOf t index sub).canRead = true → offset ≠ 0 →
      Store.find? (s.taken q).dict.captures r.client = some y → y.index = index → y.sub = sub →
      exec (.domainReadSegment r index sub offset) s = .next (serveCapture (s.taken q) q y.data)) ∧
    (∀ k : Container, let q := wholeReq r 0x9000 1 (Config.containerBytes k.signed.digest)
      s.takes q → (s.taken q).unsealed = true → openCode (s.taken q) q = 0 →
      ∃ t, exec (.containerDownload r k) s = .next t ∧
        t.cfg.download = some (k, loadStatus (s.taken q) k.signed k.version k.nodeId)) ∧
    (∀ (k : Delta) c, let q := wholeReq r 0x6800 2 (Config.containerBytes k.signed.digest)
      s.takes q → (s.taken q).holds r = true → logRoom (s.taken q) 1 = true → (s.taken q).change.state = 0 → (s.taken q).change.delta = none →
      openCode (s.taken q) q = 0 → (s.taken q).config = some c → c.identity = k.base →
      loadStatus (s.taken q) k.signed k.version k.nodeId = 1 →
      let merged := { k.merged with signed := k.signed, version := k.version, nodeId := k.nodeId }
      (k.barred = [] → barredItems c merged = [] → k.sClass = false → changesSClass c merged = false →
        ∃ t, exec (.deltaDownload r k) s = .next t ∧ t.change.state = 1 ∧ t.change.delta = some { k with merged := merged } ∧
          jget t 0x8105 2 = 1 ∧ t.cfg = s.cfg) ∧
      (∀ i is, k.barred ++ barredItems c merged = i :: is →
        ∃ t, exec (.deltaDownload r k) s = .next t ∧ t.change.state = 0 ∧ t.change.delta = none ∧ jget t 0x6800 6 = 7 ∧ t.cfg = s.cfg))

/-- The recorder after an admission that finished: its verdict as 9010.01 to 9010.07 show it, with type 13 (14 Table 14-4, 12 R340). -/
def Parts.verdictRecorded (s u : State) : Recorder := (s.recorder.tellLost s.time.now).offer s.time.now 4 13 (verdictBytes u)

/-- 12 R340, R341, 06 R171, R172, 13 R354: a write of a timing-relevant entry waits for the Gauge; the verdict is shown in 9010 and recorded with type 13; a
passed container is stored when that was asked, a passed delta is distributed, a passed write is carried out, while the module is in RUN and ESC7 lets an S
entry be written, and a refused one is answered 0A120001. -/
def Obligations.TheGaugeJudges : Prop :=
  ∀ s : State,
    (∀ r index sub d t, let q := writeReq r index sub d
      s.writable q t → timingEntry index sub = true → (s.taken q).cfg.gauge = none →
      ∃ u, exec (.timingRelevantWrite r index sub d) s = .next u ∧ u.lanes = (s.taken q).lanes ∧ u.batchIn = s.batchIn ∧
        u.cfg.gauge = some (.entry r index sub (ofLe d) (s.taken q).tickNo) ∧ jget u 0x9010 1 = 3) ∧
    (∀ k store, s.cfg.gauge = some (.full store) → s.cfg.gaugeK = some k → ∃ u, exec .gaugeVerdict s = .next u ∧ u.cfg.gauge = none ∧
      jget u 0x9010 1 = (if (gaugeChecks (gaugeEnv s none) k).isSome then 2 else 1) ∧ u.recorder = Parts.verdictRecorded s u ∧
      ∀ l, (u.lane l).stored = if store = true ∧ gaugeChecks (gaugeEnv s none) k = none then some k else (s.lane l).stored) ∧
    (∀ k, s.cfg.gauge = some .delta → s.cfg.gaugeK = some k → ∃ u, exec .gaugeVerdict s = .next u ∧ u.cfg.gauge = none ∧
      (gaugeChecks (gaugeEnv s s.config) k = none → u.change = { s.change with state := 3 } ∧ jget u 0x9010 1 = 1 ∧
        u.recorder = Parts.verdictRecorded s u) ∧
      (gaugeChecks (gaugeEnv s s.config) k ≠ none → u.change.state = 0 ∧ u.change.delta = none ∧ jget u 0x6800 6 = 5 ∧ jget u 0x9010 1 = 2 ∧
        ∃ v, u = refuseDelta v 5 0 ∧ v.recorder = Parts.verdictRecorded s u)) ∧
    (∀ r index sub val tick t, s.cfg.gauge = some (.entry r index sub val tick) → s.cfg.gaugeQ = [] → resolve s index sub = .ok t →
      let w : BatchWrite := { key := regKey index sub, val := val, lane := writeLane s (s.viewOf r) index }
      let q := heldRequest r index sub val t.typ.len
      let v := reportGauge s (.entry r index sub val tick) (recheck s w) s.gaugeMs (if (recheck s w).isSome then index * 256 + sub else 0)
      v.recorder = Parts.verdictRecorded s v ∧ jget v 0x9010 1 = (if (recheck s w).isSome then 2 else 1) ∧
      ∃ u, exec .gaugeVerdict s = .next u ∧ u.cfg.gauge = none ∧
        ((recheck s w).isSome = true → u = finish (noteHistory v q t q.data 0x0A120001 tick) q (.error 0x0A120001) ∧
          u.batchIn = s.batchIn ∧ u.lanes = s.lanes ∧ u.recorder = v.recorder ∧
          (r.path = .host → u.host.queue = s.host.queue ++ [responseBody q 1 (leBytes 4 0x0A120001)])) ∧
        (recheck s w = none → s.inRun = true → (accessOf t index sub = .rwS → s.unsealed = true) →
            index ≠ 0x6400 → index ≠ 0x3007 → (∃ e, t = .row e ∧ e.cls = .v) →
          u.batchIn.writes = s.batchIn.writes ++ [{ key := regKey index sub, val := ofLe (leBytes t.typ.len val), lane := w.lane }])) ∧
    (∀ crcs d, s.change.delta = some d → s.change.state = 3 ∨ s.change.state = 4 → ∃ u, exec (.deltaDistributed crcs) s = .next u ∧
      u.change.delta = some d ∧
      ((∀ l, s.active l = true → crcs.get l = d.digest) → u.change.state = 5) ∧
      (∀ l, s.active l = true → crcs.get l ≠ d.digest → u.change.state = 4))

/-- 17 R443, R445 to R448, R452, 06 R172: requests that arrived are carried out at the next tick of 1 µs in the order host, CAN, ECN, ring, each path in its
order of arrival, and the request of a command with them (that the command runs on to the tick's end is the model's choice, log 8); a delta that passed
goes out to the lanes at a tick; a repeated request, on whatever path it comes, is answered from the kept response and carried out once; a timeout ends a
transfer and a capture. -/
def Obligations.TheTickServes : Prop :=
  ∀ s : State,
    (let u := advanceTo s ((s.time.now / 1000 + 1) * 1000)
     exec .junctionTick s = .next ((([Path.host, .can, .ecn, .ring].flatMap (fun p =>
       s.dict.arrived.filter (fun q => decide (q.sender.path = p))))).foldl (fun v q => execute v q .plain)
         { u with dict := { u.dict with arrived := [] }, change := if s.change.state = 3 then { s.change with state := 4 } else s.change })) ∧
    (∀ (q : Request) x, runTick s [(q, x)] = ([Path.host, .can, .ecn, .ring].flatMap (fun p =>
        (s.dict.arrived.filter (fun y => decide (y.sender.path = p))).map (fun y => (y, Payload.plain)) ++
          if q.sender.path = p then [(q, x)] else [])).foldl (fun v y => execute v y.1 y.2) s.tickEnd) ∧
    (∀ r index sub d, s.admits (writeReq r index sub d) →
      exec (.registerWrite r index sub d) s = .next (runTick (s.admitted (writeReq r index sub d)) [(writeReq r index sub d, .plain)])) ∧
    (∀ r index sub d x, r.path ≠ .can → (carrierTakes s r).2 = true → s.power.pfw = false → clientCode s r = 0 →
      s.dict.inFlight.contains (r.client, r.txn) = false →
      (Store.get s.dict.dups [] r.client).find? (fun y => decide (y.txn = r.txn)) = some x →
      let b := if x.crc = bodyCrc (writeReq r index sub d) then x.resp else responseBody (writeReq r index sub d) 1 (leBytes 4 0x0A110004)
      ∃ u, exec (.registerWrite r index sub d) s = .next u ∧ u.lanes = s.lanes ∧ u.batchIn = s.batchIn ∧ u.forces = s.forces ∧ u.mode = s.mode ∧
        u.dict.dups = s.dict.dups ∧ u.dict.history = s.dict.history ∧ u.dict.arrived = s.dict.arrived ∧
        (∃ v, u = Parts.answered v r b ∧ v.host.queue = s.host.queue ∧ v.ring = s.ring ∧ v.ecn0 = s.ecn0 ∧ v.ecn1 = s.ecn1 ∧ v.power = s.power ∧
          jget v 0x1E00 5 = bump32 (jget s 0x1E00 5))) ∧
    (∀ client x, Store.find? s.dict.xfers client = some x → (s.dict.xfers.map Prod.fst).Nodup → ∃ t, exec (.domainTransferTimeout client) s = .next t ∧
      Store.find? t.dict.xfers client = none ∧ t.time = (advanceTo s (x.at_ + 10000000000)).time ∧ t.batchIn = s.batchIn ∧
      (x.index = 0x6800 → x.sub = 2 → s.change.delta = none → s.change.state = 1 → t.change.state = 0)) ∧
    (∀ client x, Store.find? s.dict.captures client = some x → (s.dict.captures.map Prod.fst).Nodup → ∃ t, exec (.captureTimeout client) s = .next t ∧
      Store.find? t.dict.captures client = none ∧ t.time = (advanceTo s (x.at_ + 10000000000)).time ∧ t.dict.xfers = s.dict.xfers)

/-! ## Statements of several parts -/

/-- Undefined encodings are no instruction and stop the engine (R133, R135, R163): every part holds. -/
def Obligations.UndefinedEncodingsStopTheEngine : Prop :=
  Parts.UndefinedEncodingsAreRefused ∧ Parts.UndefinedEncodingStopsTheEngine

/-- Bit stores obey BA, edge detectors report edges (R138, R139, R141): every part holds. -/
def Obligations.BitStoresAndEdges : Prop :=
  Parts.BitStoresObeyBA ∧ Parts.EdgeDetectorsReportEdges

/-- Stores write their bytes, leave every other byte, and read back (R105, R138, R142): every part holds. -/
def Obligations.StoresWriteTheirBytes : Prop :=
  Parts.StoresWriteMemory ∧ Parts.StoresLeaveOtherBytes ∧ Parts.StoredBytesReadBack

/-- Signed and unsigned arithmetic (R143, R144): every part holds. -/
def Obligations.IntegerInstructionsDeliver : Prop :=
  Parts.IntInstructionsDeliver ∧ Parts.UintInstructionsDeliver

/-- Division corners and wrapping addition (R144): every part holds. -/
def Obligations.IntegerCorners : Prop :=
  Parts.DivisionCorners ∧ Parts.AdditionWraps

/-- Word logic, shifts and integer compares (R145, R146): every part holds. -/
def Obligations.LogicAndComparesDeliver : Prop :=
  Parts.LogicInstructionsDeliver ∧ Parts.ComparesSetBA

/-- Moves, index operations, publication and check values (R151, R152, R159, R160, R317): every part holds. -/
def Obligations.MovesPublicationsAndCheckValues : Prop :=
  Parts.MovesAndIndexOperations ∧ Parts.PublicationMarksItems ∧ Parts.CheckValueInstructions ∧ Parts.CheckValuesOfThePolynomials

/-- Loops begin and their bodies end (R154): every part holds. -/
def Obligations.LoopsIterate : Prop :=
  Parts.LoopBegins ∧ Parts.LoopBodyEnds

/-- Timers and counters (R156, R157, R158): every part holds. -/
def Obligations.TimersAndCountersRun : Prop :=
  Parts.TimersRun ∧ Parts.OnDelayElapses ∧ Parts.CountersRun

/-- Instructions stay in their lane and their two cores go on agreeing (R9, R62, R63, R64, R101): every part holds. -/
def Obligations.InstructionsStayInTheirLane : Prop :=
  Parts.InstructionsStayInTheirLane ∧ Parts.CoresKeepAgreeing ∧ Parts.ComparatorsCompare

/-- Sampling at S_k, conversions and their codes (R14, R220, R221, R223, R224): every part holds. -/
def Obligations.SamplesAndConversions : Prop :=
  Parts.SampleLatchesEveryField ∧ Parts.ConversionsEnterTheirCodes ∧ Parts.CodesRoundAndSaturate

/-- Recognition of the supply system and shunt protection (R222, R228, R230, R232): every part holds. -/
def Obligations.RecognitionAndShunts : Prop :=
  Parts.RecognitionRuns ∧ Parts.ShuntProtectionOpensAndRecloses

/-- Cycle starts and the exchange of vectors (R11, R16, R74, R75, R429): every part holds. -/
def Obligations.CyclesStartAndExchangeVectors : Prop :=
  Parts.CycleStartsFollowTheGrid ∧ Parts.VectorsAreExchanged

/-- Engines start with the agreed image; on an empty queue an executing engine runs its instruction, else the time base advances (the model's choice)
(R118, R123, R124, R163): every part holds. -/
def Obligations.EnginesStartWithTheAgreedImage : Prop :=
  Parts.EnginesStartWithTheAgreedImage ∧ Parts.IdleStepRunsEngine ∧ Parts.IdleEnginesRunNothing

/-- Vote outcomes, the release and the outputs that follow it (R21, R23, R82, R85, R198): every part holds. -/
def Obligations.VotesReleaseTheOutputs : Prop :=
  Parts.VoteOutcomes ∧ Parts.OutputsFollowTheRelease ∧ Parts.SectionsTakeTheReleasedImage

/-- Exclusion enters limp, limp ends in the safe state (R68, R90, R91, R97, R98, R209): every part holds. -/
def Obligations.ExclusionsLimpAndSafeState : Prop :=
  Parts.ExclusionEntersLimp ∧ Parts.LimpEndsInTheSafeState ∧ Parts.QuietSectionsExcludeTheirLane

/-- Lane time, outside time and the PTP ports (R43, R47, R52, R54, R55, R61): every part holds. -/
def Obligations.LaneAndOutsideTime : Prop :=
  Parts.LaneTimeFollowsTheMarks ∧ Parts.OutsideTimeIsTaken ∧ Parts.PtpPortsServeTheirModes

/-- Frames of the ring are taken (R249, R256, R260, R261, R263, R273, R274, R278, R291, R419): every part holds. -/
def Obligations.RingFramesAreTaken : Prop :=
  Parts.RingFramesAreTaken ∧ Parts.ServiceFramesAreServed

/-- Round ends correct the time within bounds, averages ignore wrong clocks (R276, R281, R285): every part holds. -/
def Obligations.RoundEndsCorrectTheTime : Prop :=
  Parts.RoundEndCorrectsTheTime ∧ Parts.AveragesIgnoreWrongClocks

/-- Field supply, field die and digital inputs (R190, R191, R193, R197): every part holds. -/
def Obligations.FieldSupplyAndInputs : Prop :=
  Parts.FieldSupplyAndInputs ∧ Parts.InputCurrentsHaveTheirClass

/-- Output channels protect and test themselves (R200, R203, R205, R208, R211, R212, R215): every part holds. -/
def Obligations.OutputChannelsAndTheirTests : Prop :=
  Parts.OutputChannelsProtectThemselves ∧ Parts.OutputTestsRun

/-- Resets and the steps of start-up (R70, R88, R297, R352, R380, R425, R426, R430, R431, R434): every part holds. -/
def Obligations.ResetsAndStartUpSteps : Prop :=
  Parts.ResetsRestartTheModule ∧ Parts.StartUpSteps

/-- What accepted writes of class J do (R33, R34, R36, R93, R95, R170, R173, R308, R320, R321, R324, R355, R361, R379, R384, R387, R391,
R406, R434): every part holds. -/
def Obligations.WritesActOnTheirTargets : Prop :=
  Parts.WritesActOnUnits ∧ Parts.WritesActOnTheModule
end

