-- ==== Sys2Proof/Laws/State.lean ====
section
/-! SUPPORT. What each shared update of the state leaves as it was, one lemma a field. -/

namespace Sys2Proof.Machine

open Sys2Proof

/-! ## emit -/

@[simp] theorem emit_pending (s : State) (w : Wire) : (s.emit w).pending = s.pending := rfl
@[simp] theorem emit_free (s : State) (w : Wire) : (s.emit w).free = s.free := rfl
@[simp] theorem emit_jreg (s : State) (w : Wire) : (s.emit w).jreg = s.jreg := rfl
@[simp] theorem emit_mode (s : State) (w : Wire) : (s.emit w).mode = s.mode := rfl
@[simp] theorem emit_lanes (s : State) (w : Wire) : (s.emit w).lanes = s.lanes := rfl
@[simp] theorem emit_vote (s : State) (w : Wire) : (s.emit w).vote = s.vote := rfl
@[simp] theorem emit_time (s : State) (w : Wire) : (s.emit w).time = s.time := rfl
@[simp] theorem emit_ptp0 (s : State) (w : Wire) : (s.emit w).ptp0 = s.ptp0 := rfl
@[simp] theorem emit_ptp1 (s : State) (w : Wire) : (s.emit w).ptp1 = s.ptp1 := rfl
@[simp] theorem emit_field (s : State) (w : Wire) : (s.emit w).field = s.field := rfl
@[simp] theorem emit_ring (s : State) (w : Wire) : (s.emit w).ring = s.ring := rfl
@[simp] theorem emit_ecn0 (s : State) (w : Wire) : (s.emit w).ecn0 = s.ecn0 := rfl
@[simp] theorem emit_ecn1 (s : State) (w : Wire) : (s.emit w).ecn1 = s.ecn1 := rfl
@[simp] theorem emit_can0 (s : State) (w : Wire) : (s.emit w).can0 = s.can0 := rfl
@[simp] theorem emit_can1 (s : State) (w : Wire) : (s.emit w).can1 = s.can1 := rfl
@[simp] theorem emit_host (s : State) (w : Wire) : (s.emit w).host = s.host := rfl
@[simp] theorem emit_cvu (s : State) (w : Wire) : (s.emit w).cvu = s.cvu := rfl
@[simp] theorem emit_dict (s : State) (w : Wire) : (s.emit w).dict = s.dict := rfl
@[simp] theorem emit_cfg (s : State) (w : Wire) : (s.emit w).cfg = s.cfg := rfl
@[simp] theorem emit_change (s : State) (w : Wire) : (s.emit w).change = s.change := rfl
@[simp] theorem emit_forces (s : State) (w : Wire) : (s.emit w).forces = s.forces := rfl
@[simp] theorem emit_priv (s : State) (w : Wire) : (s.emit w).priv = s.priv := rfl
@[simp] theorem emit_keys (s : State) (w : Wire) : (s.emit w).keys = s.keys := rfl
@[simp] theorem emit_revoked (s : State) (w : Wire) : (s.emit w).revoked = s.revoked := rfl
@[simp] theorem emit_recorder (s : State) (w : Wire) : (s.emit w).recorder = s.recorder := rfl
@[simp] theorem emit_log (s : State) (w : Wire) : (s.emit w).log = s.log := rfl
@[simp] theorem emit_monitors (s : State) (w : Wire) : (s.emit w).monitors = s.monitors := rfl
@[simp] theorem emit_power (s : State) (w : Wire) : (s.emit w).power = s.power := rfl
@[simp] theorem emit_pins (s : State) (w : Wire) : (s.emit w).pins = s.pins := rfl
@[simp] theorem emit_domains (s : State) (w : Wire) : (s.emit w).domains = s.domains := rfl
@[simp] theorem emit_crossings (s : State) (w : Wire) : (s.emit w).crossings = s.crossings := rfl
@[simp] theorem emit_batchIn (s : State) (w : Wire) : (s.emit w).batchIn = s.batchIn := rfl
@[simp] theorem emit_stationRun (s : State) (w : Wire) : (s.emit w).stationRun = s.stationRun := rfl
@[simp] theorem emit_hbAt (s : State) (w : Wire) : (s.emit w).hbAt = s.hbAt := rfl
@[simp] theorem emit_hbExpired (s : State) (w : Wire) : (s.emit w).hbExpired = s.hbExpired := rfl
@[simp] theorem emit_scrub (s : State) (w : Wire) : (s.emit w).scrub = s.scrub := rfl

/-! ## drew -/

@[simp] theorem drew_pending (s : State) : (s.drew).pending = s.pending := rfl
@[simp] theorem drew_wires (s : State) : (s.drew).wires = s.wires := rfl
@[simp] theorem drew_jreg (s : State) : (s.drew).jreg = s.jreg := rfl
@[simp] theorem drew_mode (s : State) : (s.drew).mode = s.mode := rfl
@[simp] theorem drew_lanes (s : State) : (s.drew).lanes = s.lanes := rfl
@[simp] theorem drew_vote (s : State) : (s.drew).vote = s.vote := rfl
@[simp] theorem drew_time (s : State) : (s.drew).time = s.time := rfl
@[simp] theorem drew_ptp0 (s : State) : (s.drew).ptp0 = s.ptp0 := rfl
@[simp] theorem drew_ptp1 (s : State) : (s.drew).ptp1 = s.ptp1 := rfl
@[simp] theorem drew_field (s : State) : (s.drew).field = s.field := rfl
@[simp] theorem drew_ring (s : State) : (s.drew).ring = s.ring := rfl
@[simp] theorem drew_ecn0 (s : State) : (s.drew).ecn0 = s.ecn0 := rfl
@[simp] theorem drew_ecn1 (s : State) : (s.drew).ecn1 = s.ecn1 := rfl
@[simp] theorem drew_can0 (s : State) : (s.drew).can0 = s.can0 := rfl
@[simp] theorem drew_can1 (s : State) : (s.drew).can1 = s.can1 := rfl
@[simp] theorem drew_host (s : State) : (s.drew).host = s.host := rfl
@[simp] theorem drew_cvu (s : State) : (s.drew).cvu = s.cvu := rfl
@[simp] theorem drew_dict (s : State) : (s.drew).dict = s.dict := rfl
@[simp] theorem drew_cfg (s : State) : (s.drew).cfg = s.cfg := rfl
@[simp] theorem drew_change (s : State) : (s.drew).change = s.change := rfl
@[simp] theorem drew_forces (s : State) : (s.drew).forces = s.forces := rfl
@[simp] theorem drew_priv (s : State) : (s.drew).priv = s.priv := rfl
@[simp] theorem drew_keys (s : State) : (s.drew).keys = s.keys := rfl
@[simp] theorem drew_revoked (s : State) : (s.drew).revoked = s.revoked := rfl
@[simp] theorem drew_recorder (s : State) : (s.drew).recorder = s.recorder := rfl
@[simp] theorem drew_log (s : State) : (s.drew).log = s.log := rfl
@[simp] theorem drew_monitors (s : State) : (s.drew).monitors = s.monitors := rfl
@[simp] theorem drew_power (s : State) : (s.drew).power = s.power := rfl
@[simp] theorem drew_pins (s : State) : (s.drew).pins = s.pins := rfl
@[simp] theorem drew_domains (s : State) : (s.drew).domains = s.domains := rfl
@[simp] theorem drew_crossings (s : State) : (s.drew).crossings = s.crossings := rfl
@[simp] theorem drew_batchIn (s : State) : (s.drew).batchIn = s.batchIn := rfl
@[simp] theorem drew_stationRun (s : State) : (s.drew).stationRun = s.stationRun := rfl
@[simp] theorem drew_hbAt (s : State) : (s.drew).hbAt = s.hbAt := rfl
@[simp] theorem drew_hbExpired (s : State) : (s.drew).hbExpired = s.hbExpired := rfl
@[simp] theorem drew_scrub (s : State) : (s.drew).scrub = s.scrub := rfl

/-! ## modLane -/

@[simp] theorem modLane_pending (s : State) (l : LaneId) (f : Lane → Lane) : (s.modLane l f).pending = s.pending := rfl
@[simp] theorem modLane_free (s : State) (l : LaneId) (f : Lane → Lane) : (s.modLane l f).free = s.free := rfl
@[simp] theorem modLane_wires (s : State) (l : LaneId) (f : Lane → Lane) : (s.modLane l f).wires = s.wires := rfl
@[simp] theorem modLane_jreg (s : State) (l : LaneId) (f : Lane → Lane) : (s.modLane l f).jreg = s.jreg := rfl
@[simp] theorem modLane_mode (s : State) (l : LaneId) (f : Lane → Lane) : (s.modLane l f).mode = s.mode := rfl
@[simp] theorem modLane_vote (s : State) (l : LaneId) (f : Lane → Lane) : (s.modLane l f).vote = s.vote := rfl
@[simp] theorem modLane_time (s : State) (l : LaneId) (f : Lane → Lane) : (s.modLane l f).time = s.time := rfl
@[simp] theorem modLane_ptp0 (s : State) (l : LaneId) (f : Lane → Lane) : (s.modLane l f).ptp0 = s.ptp0 := rfl
@[simp] theorem modLane_ptp1 (s : State) (l : LaneId) (f : Lane → Lane) : (s.modLane l f).ptp1 = s.ptp1 := rfl
@[simp] theorem modLane_field (s : State) (l : LaneId) (f : Lane → Lane) : (s.modLane l f).field = s.field := rfl
@[simp] theorem modLane_ring (s : State) (l : LaneId) (f : Lane → Lane) : (s.modLane l f).ring = s.ring := rfl
@[simp] theorem modLane_ecn0 (s : State) (l : LaneId) (f : Lane → Lane) : (s.modLane l f).ecn0 = s.ecn0 := rfl
@[simp] theorem modLane_ecn1 (s : State) (l : LaneId) (f : Lane → Lane) : (s.modLane l f).ecn1 = s.ecn1 := rfl
@[simp] theorem modLane_can0 (s : State) (l : LaneId) (f : Lane → Lane) : (s.modLane l f).can0 = s.can0 := rfl
@[simp] theorem modLane_can1 (s : State) (l : LaneId) (f : Lane → Lane) : (s.modLane l f).can1 = s.can1 := rfl
@[simp] theorem modLane_host (s : State) (l : LaneId) (f : Lane → Lane) : (s.modLane l f).host = s.host := rfl
@[simp] theorem modLane_cvu (s : State) (l : LaneId) (f : Lane → Lane) : (s.modLane l f).cvu = s.cvu := rfl
@[simp] theorem modLane_dict (s : State) (l : LaneId) (f : Lane → Lane) : (s.modLane l f).dict = s.dict := rfl
@[simp] theorem modLane_cfg (s : State) (l : LaneId) (f : Lane → Lane) : (s.modLane l f).cfg = s.cfg := rfl
@[simp] theorem modLane_change (s : State) (l : LaneId) (f : Lane → Lane) : (s.modLane l f).change = s.change := rfl
@[simp] theorem modLane_forces (s : State) (l : LaneId) (f : Lane → Lane) : (s.modLane l f).forces = s.forces := rfl
@[simp] theorem modLane_priv (s : State) (l : LaneId) (f : Lane → Lane) : (s.modLane l f).priv = s.priv := rfl
@[simp] theorem modLane_keys (s : State) (l : LaneId) (f : Lane → Lane) : (s.modLane l f).keys = s.keys := rfl
@[simp] theorem modLane_revoked (s : State) (l : LaneId) (f : Lane → Lane) : (s.modLane l f).revoked = s.revoked := rfl
@[simp] theorem modLane_recorder (s : State) (l : LaneId) (f : Lane → Lane) : (s.modLane l f).recorder = s.recorder := rfl
@[simp] theorem modLane_log (s : State) (l : LaneId) (f : Lane → Lane) : (s.modLane l f).log = s.log := rfl
@[simp] theorem modLane_monitors (s : State) (l : LaneId) (f : Lane → Lane) : (s.modLane l f).monitors = s.monitors := rfl
@[simp] theorem modLane_power (s : State) (l : LaneId) (f : Lane → Lane) : (s.modLane l f).power = s.power := rfl
@[simp] theorem modLane_pins (s : State) (l : LaneId) (f : Lane → Lane) : (s.modLane l f).pins = s.pins := rfl
@[simp] theorem modLane_domains (s : State) (l : LaneId) (f : Lane → Lane) : (s.modLane l f).domains = s.domains := rfl
@[simp] theorem modLane_crossings (s : State) (l : LaneId) (f : Lane → Lane) : (s.modLane l f).crossings = s.crossings := rfl
@[simp] theorem modLane_batchIn (s : State) (l : LaneId) (f : Lane → Lane) : (s.modLane l f).batchIn = s.batchIn := rfl
@[simp] theorem modLane_stationRun (s : State) (l : LaneId) (f : Lane → Lane) : (s.modLane l f).stationRun = s.stationRun := rfl
@[simp] theorem modLane_hbAt (s : State) (l : LaneId) (f : Lane → Lane) : (s.modLane l f).hbAt = s.hbAt := rfl
@[simp] theorem modLane_hbExpired (s : State) (l : LaneId) (f : Lane → Lane) : (s.modLane l f).hbExpired = s.hbExpired := rfl
@[simp] theorem modLane_scrub (s : State) (l : LaneId) (f : Lane → Lane) : (s.modLane l f).scrub = s.scrub := rfl

/-! ## modLanes -/

@[simp] theorem modLanes_pending (s : State) (f : LaneId → Lane → Lane) : (s.modLanes f).pending = s.pending := rfl
@[simp] theorem modLanes_free (s : State) (f : LaneId → Lane → Lane) : (s.modLanes f).free = s.free := rfl
@[simp] theorem modLanes_wires (s : State) (f : LaneId → Lane → Lane) : (s.modLanes f).wires = s.wires := rfl
@[simp] theorem modLanes_jreg (s : State) (f : LaneId → Lane → Lane) : (s.modLanes f).jreg = s.jreg := rfl
@[simp] theorem modLanes_mode (s : State) (f : LaneId → Lane → Lane) : (s.modLanes f).mode = s.mode := rfl
@[simp] theorem modLanes_vote (s : State) (f : LaneId → Lane → Lane) : (s.modLanes f).vote = s.vote := rfl
@[simp] theorem modLanes_time (s : State) (f : LaneId → Lane → Lane) : (s.modLanes f).time = s.time := rfl
@[simp] theorem modLanes_ptp0 (s : State) (f : LaneId → Lane → Lane) : (s.modLanes f).ptp0 = s.ptp0 := rfl
@[simp] theorem modLanes_ptp1 (s : State) (f : LaneId → Lane → Lane) : (s.modLanes f).ptp1 = s.ptp1 := rfl
@[simp] theorem modLanes_field (s : State) (f : LaneId → Lane → Lane) : (s.modLanes f).field = s.field := rfl
@[simp] theorem modLanes_ring (s : State) (f : LaneId → Lane → Lane) : (s.modLanes f).ring = s.ring := rfl
@[simp] theorem modLanes_ecn0 (s : State) (f : LaneId → Lane → Lane) : (s.modLanes f).ecn0 = s.ecn0 := rfl
@[simp] theorem modLanes_ecn1 (s : State) (f : LaneId → Lane → Lane) : (s.modLanes f).ecn1 = s.ecn1 := rfl
@[simp] theorem modLanes_can0 (s : State) (f : LaneId → Lane → Lane) : (s.modLanes f).can0 = s.can0 := rfl
@[simp] theorem modLanes_can1 (s : State) (f : LaneId → Lane → Lane) : (s.modLanes f).can1 = s.can1 := rfl
@[simp] theorem modLanes_host (s : State) (f : LaneId → Lane → Lane) : (s.modLanes f).host = s.host := rfl
@[simp] theorem modLanes_cvu (s : State) (f : LaneId → Lane → Lane) : (s.modLanes f).cvu = s.cvu := rfl
@[simp] theorem modLanes_dict (s : State) (f : LaneId → Lane → Lane) : (s.modLanes f).dict = s.dict := rfl
@[simp] theorem modLanes_cfg (s : State) (f : LaneId → Lane → Lane) : (s.modLanes f).cfg = s.cfg := rfl
@[simp] theorem modLanes_change (s : State) (f : LaneId → Lane → Lane) : (s.modLanes f).change = s.change := rfl
@[simp] theorem modLanes_forces (s : State) (f : LaneId → Lane → Lane) : (s.modLanes f).forces = s.forces := rfl
@[simp] theorem modLanes_priv (s : State) (f : LaneId → Lane → Lane) : (s.modLanes f).priv = s.priv := rfl
@[simp] theorem modLanes_keys (s : State) (f : LaneId → Lane → Lane) : (s.modLanes f).keys = s.keys := rfl
@[simp] theorem modLanes_revoked (s : State) (f : LaneId → Lane → Lane) : (s.modLanes f).revoked = s.revoked := rfl
@[simp] theorem modLanes_recorder (s : State) (f : LaneId → Lane → Lane) : (s.modLanes f).recorder = s.recorder := rfl
@[simp] theorem modLanes_log (s : State) (f : LaneId → Lane → Lane) : (s.modLanes f).log = s.log := rfl
@[simp] theorem modLanes_monitors (s : State) (f : LaneId → Lane → Lane) : (s.modLanes f).monitors = s.monitors := rfl
@[simp] theorem modLanes_power (s : State) (f : LaneId → Lane → Lane) : (s.modLanes f).power = s.power := rfl
@[simp] theorem modLanes_pins (s : State) (f : LaneId → Lane → Lane) : (s.modLanes f).pins = s.pins := rfl
@[simp] theorem modLanes_domains (s : State) (f : LaneId → Lane → Lane) : (s.modLanes f).domains = s.domains := rfl
@[simp] theorem modLanes_crossings (s : State) (f : LaneId → Lane → Lane) : (s.modLanes f).crossings = s.crossings := rfl
@[simp] theorem modLanes_batchIn (s : State) (f : LaneId → Lane → Lane) : (s.modLanes f).batchIn = s.batchIn := rfl
@[simp] theorem modLanes_stationRun (s : State) (f : LaneId → Lane → Lane) : (s.modLanes f).stationRun = s.stationRun := rfl
@[simp] theorem modLanes_hbAt (s : State) (f : LaneId → Lane → Lane) : (s.modLanes f).hbAt = s.hbAt := rfl
@[simp] theorem modLanes_hbExpired (s : State) (f : LaneId → Lane → Lane) : (s.modLanes f).hbExpired = s.hbExpired := rfl
@[simp] theorem modLanes_scrub (s : State) (f : LaneId → Lane → Lane) : (s.modLanes f).scrub = s.scrub := rfl

/-! ## jset -/

@[simp] theorem jset_pending (s : State) (index sub v : Nat) : (jset s index sub v).pending = s.pending := rfl
@[simp] theorem jset_free (s : State) (index sub v : Nat) : (jset s index sub v).free = s.free := rfl
@[simp] theorem jset_wires (s : State) (index sub v : Nat) : (jset s index sub v).wires = s.wires := rfl
@[simp] theorem jset_mode (s : State) (index sub v : Nat) : (jset s index sub v).mode = s.mode := rfl
@[simp] theorem jset_lanes (s : State) (index sub v : Nat) : (jset s index sub v).lanes = s.lanes := rfl
@[simp] theorem jset_vote (s : State) (index sub v : Nat) : (jset s index sub v).vote = s.vote := rfl
@[simp] theorem jset_time (s : State) (index sub v : Nat) : (jset s index sub v).time = s.time := rfl
@[simp] theorem jset_ptp0 (s : State) (index sub v : Nat) : (jset s index sub v).ptp0 = s.ptp0 := rfl
@[simp] theorem jset_ptp1 (s : State) (index sub v : Nat) : (jset s index sub v).ptp1 = s.ptp1 := rfl
@[simp] theorem jset_field (s : State) (index sub v : Nat) : (jset s index sub v).field = s.field := rfl
@[simp] theorem jset_ring (s : State) (index sub v : Nat) : (jset s index sub v).ring = s.ring := rfl
@[simp] theorem jset_ecn0 (s : State) (index sub v : Nat) : (jset s index sub v).ecn0 = s.ecn0 := rfl
@[simp] theorem jset_ecn1 (s : State) (index sub v : Nat) : (jset s index sub v).ecn1 = s.ecn1 := rfl
@[simp] theorem jset_can0 (s : State) (index sub v : Nat) : (jset s index sub v).can0 = s.can0 := rfl
@[simp] theorem jset_can1 (s : State) (index sub v : Nat) : (jset s index sub v).can1 = s.can1 := rfl
@[simp] theorem jset_host (s : State) (index sub v : Nat) : (jset s index sub v).host = s.host := rfl
@[simp] theorem jset_cvu (s : State) (index sub v : Nat) : (jset s index sub v).cvu = s.cvu := rfl
@[simp] theorem jset_dict (s : State) (index sub v : Nat) : (jset s index sub v).dict = s.dict := rfl
@[simp] theorem jset_cfg (s : State) (index sub v : Nat) : (jset s index sub v).cfg = s.cfg := rfl
@[simp] theorem jset_change (s : State) (index sub v : Nat) : (jset s index sub v).change = s.change := rfl
@[simp] theorem jset_forces (s : State) (index sub v : Nat) : (jset s index sub v).forces = s.forces := rfl
@[simp] theorem jset_priv (s : State) (index sub v : Nat) : (jset s index sub v).priv = s.priv := rfl
@[simp] theorem jset_keys (s : State) (index sub v : Nat) : (jset s index sub v).keys = s.keys := rfl
@[simp] theorem jset_revoked (s : State) (index sub v : Nat) : (jset s index sub v).revoked = s.revoked := rfl
@[simp] theorem jset_recorder (s : State) (index sub v : Nat) : (jset s index sub v).recorder = s.recorder := rfl
@[simp] theorem jset_log (s : State) (index sub v : Nat) : (jset s index sub v).log = s.log := rfl
@[simp] theorem jset_monitors (s : State) (index sub v : Nat) : (jset s index sub v).monitors = s.monitors := rfl
@[simp] theorem jset_power (s : State) (index sub v : Nat) : (jset s index sub v).power = s.power := rfl
@[simp] theorem jset_pins (s : State) (index sub v : Nat) : (jset s index sub v).pins = s.pins := rfl
@[simp] theorem jset_domains (s : State) (index sub v : Nat) : (jset s index sub v).domains = s.domains := rfl
@[simp] theorem jset_crossings (s : State) (index sub v : Nat) : (jset s index sub v).crossings = s.crossings := rfl
@[simp] theorem jset_batchIn (s : State) (index sub v : Nat) : (jset s index sub v).batchIn = s.batchIn := rfl
@[simp] theorem jset_stationRun (s : State) (index sub v : Nat) : (jset s index sub v).stationRun = s.stationRun := rfl
@[simp] theorem jset_hbAt (s : State) (index sub v : Nat) : (jset s index sub v).hbAt = s.hbAt := rfl
@[simp] theorem jset_hbExpired (s : State) (index sub v : Nat) : (jset s index sub v).hbExpired = s.hbExpired := rfl
@[simp] theorem jset_scrub (s : State) (index sub v : Nat) : (jset s index sub v).scrub = s.scrub := rfl

/-! ## jbump -/

@[simp] theorem jbump_pending (s : State) (index sub : Nat) : (jbump s index sub).pending = s.pending := rfl
@[simp] theorem jbump_free (s : State) (index sub : Nat) : (jbump s index sub).free = s.free := rfl
@[simp] theorem jbump_wires (s : State) (index sub : Nat) : (jbump s index sub).wires = s.wires := rfl
@[simp] theorem jbump_mode (s : State) (index sub : Nat) : (jbump s index sub).mode = s.mode := rfl
@[simp] theorem jbump_lanes (s : State) (index sub : Nat) : (jbump s index sub).lanes = s.lanes := rfl
@[simp] theorem jbump_vote (s : State) (index sub : Nat) : (jbump s index sub).vote = s.vote := rfl
@[simp] theorem jbump_time (s : State) (index sub : Nat) : (jbump s index sub).time = s.time := rfl
@[simp] theorem jbump_ptp0 (s : State) (index sub : Nat) : (jbump s index sub).ptp0 = s.ptp0 := rfl
@[simp] theorem jbump_ptp1 (s : State) (index sub : Nat) : (jbump s index sub).ptp1 = s.ptp1 := rfl
@[simp] theorem jbump_field (s : State) (index sub : Nat) : (jbump s index sub).field = s.field := rfl
@[simp] theorem jbump_ring (s : State) (index sub : Nat) : (jbump s index sub).ring = s.ring := rfl
@[simp] theorem jbump_ecn0 (s : State) (index sub : Nat) : (jbump s index sub).ecn0 = s.ecn0 := rfl
@[simp] theorem jbump_ecn1 (s : State) (index sub : Nat) : (jbump s index sub).ecn1 = s.ecn1 := rfl
@[simp] theorem jbump_can0 (s : State) (index sub : Nat) : (jbump s index sub).can0 = s.can0 := rfl
@[simp] theorem jbump_can1 (s : State) (index sub : Nat) : (jbump s index sub).can1 = s.can1 := rfl
@[simp] theorem jbump_host (s : State) (index sub : Nat) : (jbump s index sub).host = s.host := rfl
@[simp] theorem jbump_cvu (s : State) (index sub : Nat) : (jbump s index sub).cvu = s.cvu := rfl
@[simp] theorem jbump_dict (s : State) (index sub : Nat) : (jbump s index sub).dict = s.dict := rfl
@[simp] theorem jbump_cfg (s : State) (index sub : Nat) : (jbump s index sub).cfg = s.cfg := rfl
@[simp] theorem jbump_change (s : State) (index sub : Nat) : (jbump s index sub).change = s.change := rfl
@[simp] theorem jbump_forces (s : State) (index sub : Nat) : (jbump s index sub).forces = s.forces := rfl
@[simp] theorem jbump_priv (s : State) (index sub : Nat) : (jbump s index sub).priv = s.priv := rfl
@[simp] theorem jbump_keys (s : State) (index sub : Nat) : (jbump s index sub).keys = s.keys := rfl
@[simp] theorem jbump_revoked (s : State) (index sub : Nat) : (jbump s index sub).revoked = s.revoked := rfl
@[simp] theorem jbump_recorder (s : State) (index sub : Nat) : (jbump s index sub).recorder = s.recorder := rfl
@[simp] theorem jbump_log (s : State) (index sub : Nat) : (jbump s index sub).log = s.log := rfl
@[simp] theorem jbump_monitors (s : State) (index sub : Nat) : (jbump s index sub).monitors = s.monitors := rfl
@[simp] theorem jbump_power (s : State) (index sub : Nat) : (jbump s index sub).power = s.power := rfl
@[simp] theorem jbump_pins (s : State) (index sub : Nat) : (jbump s index sub).pins = s.pins := rfl
@[simp] theorem jbump_domains (s : State) (index sub : Nat) : (jbump s index sub).domains = s.domains := rfl
@[simp] theorem jbump_crossings (s : State) (index sub : Nat) : (jbump s index sub).crossings = s.crossings := rfl
@[simp] theorem jbump_batchIn (s : State) (index sub : Nat) : (jbump s index sub).batchIn = s.batchIn := rfl
@[simp] theorem jbump_stationRun (s : State) (index sub : Nat) : (jbump s index sub).stationRun = s.stationRun := rfl
@[simp] theorem jbump_hbAt (s : State) (index sub : Nat) : (jbump s index sub).hbAt = s.hbAt := rfl
@[simp] theorem jbump_hbExpired (s : State) (index sub : Nat) : (jbump s index sub).hbExpired = s.hbExpired := rfl
@[simp] theorem jbump_scrub (s : State) (index sub : Nat) : (jbump s index sub).scrub = s.scrub := rfl

/-! ## record -/

/-- A record changes only the recorder and, when it is lost, the count of lost records. -/
theorem record_eq (s : State) (source type : Nat) (payload : Bytes) :
    ∃ r j, record s source type payload = { s with recorder := r, jreg := j } := by
  by_cases h : (let r := s.recorder
      let r := if r.lost ≠ 0 ∧ r.staged.length < 4096 then
          { r.offer s.time.now 10 20 (leBytes 4 r.lost) with lost := 0 } else r
      (r.offer s.time.now source type payload).lost ≠ r.lost)
  · exact ⟨_, _, if_pos h⟩
  · exact ⟨_, _, if_neg h⟩

@[simp] theorem record_pending (s : State) (source type : Nat) (payload : Bytes) : (record s source type payload).pending = s.pending := by
  obtain ⟨r, j, h⟩ := record_eq s source type payload; rw [h]
@[simp] theorem record_free (s : State) (source type : Nat) (payload : Bytes) : (record s source type payload).free = s.free := by
  obtain ⟨r, j, h⟩ := record_eq s source type payload; rw [h]
@[simp] theorem record_wires (s : State) (source type : Nat) (payload : Bytes) : (record s source type payload).wires = s.wires := by
  obtain ⟨r, j, h⟩ := record_eq s source type payload; rw [h]
@[simp] theorem record_mode (s : State) (source type : Nat) (payload : Bytes) : (record s source type payload).mode = s.mode := by
  obtain ⟨r, j, h⟩ := record_eq s source type payload; rw [h]
@[simp] theorem record_lanes (s : State) (source type : Nat) (payload : Bytes) : (record s source type payload).lanes = s.lanes := by
  obtain ⟨r, j, h⟩ := record_eq s source type payload; rw [h]
@[simp] theorem record_vote (s : State) (source type : Nat) (payload : Bytes) : (record s source type payload).vote = s.vote := by
  obtain ⟨r, j, h⟩ := record_eq s source type payload; rw [h]
@[simp] theorem record_time (s : State) (source type : Nat) (payload : Bytes) : (record s source type payload).time = s.time := by
  obtain ⟨r, j, h⟩ := record_eq s source type payload; rw [h]
@[simp] theorem record_ptp0 (s : State) (source type : Nat) (payload : Bytes) : (record s source type payload).ptp0 = s.ptp0 := by
  obtain ⟨r, j, h⟩ := record_eq s source type payload; rw [h]
@[simp] theorem record_ptp1 (s : State) (source type : Nat) (payload : Bytes) : (record s source type payload).ptp1 = s.ptp1 := by
  obtain ⟨r, j, h⟩ := record_eq s source type payload; rw [h]
@[simp] theorem record_field (s : State) (source type : Nat) (payload : Bytes) : (record s source type payload).field = s.field := by
  obtain ⟨r, j, h⟩ := record_eq s source type payload; rw [h]
@[simp] theorem record_ring (s : State) (source type : Nat) (payload : Bytes) : (record s source type payload).ring = s.ring := by
  obtain ⟨r, j, h⟩ := record_eq s source type payload; rw [h]
@[simp] theorem record_ecn0 (s : State) (source type : Nat) (payload : Bytes) : (record s source type payload).ecn0 = s.ecn0 := by
  obtain ⟨r, j, h⟩ := record_eq s source type payload; rw [h]
@[simp] theorem record_ecn1 (s : State) (source type : Nat) (payload : Bytes) : (record s source type payload).ecn1 = s.ecn1 := by
  obtain ⟨r, j, h⟩ := record_eq s source type payload; rw [h]
@[simp] theorem record_can0 (s : State) (source type : Nat) (payload : Bytes) : (record s source type payload).can0 = s.can0 := by
  obtain ⟨r, j, h⟩ := record_eq s source type payload; rw [h]
@[simp] theorem record_can1 (s : State) (source type : Nat) (payload : Bytes) : (record s source type payload).can1 = s.can1 := by
  obtain ⟨r, j, h⟩ := record_eq s source type payload; rw [h]
@[simp] theorem record_host (s : State) (source type : Nat) (payload : Bytes) : (record s source type payload).host = s.host := by
  obtain ⟨r, j, h⟩ := record_eq s source type payload; rw [h]
@[simp] theorem record_cvu (s : State) (source type : Nat) (payload : Bytes) : (record s source type payload).cvu = s.cvu := by
  obtain ⟨r, j, h⟩ := record_eq s source type payload; rw [h]
@[simp] theorem record_dict (s : State) (source type : Nat) (payload : Bytes) : (record s source type payload).dict = s.dict := by
  obtain ⟨r, j, h⟩ := record_eq s source type payload; rw [h]
@[simp] theorem record_cfg (s : State) (source type : Nat) (payload : Bytes) : (record s source type payload).cfg = s.cfg := by
  obtain ⟨r, j, h⟩ := record_eq s source type payload; rw [h]
@[simp] theorem record_change (s : State) (source type : Nat) (payload : Bytes) : (record s source type payload).change = s.change := by
  obtain ⟨r, j, h⟩ := record_eq s source type payload; rw [h]
@[simp] theorem record_forces (s : State) (source type : Nat) (payload : Bytes) : (record s source type payload).forces = s.forces := by
  obtain ⟨r, j, h⟩ := record_eq s source type payload; rw [h]
@[simp] theorem record_priv (s : State) (source type : Nat) (payload : Bytes) : (record s source type payload).priv = s.priv := by
  obtain ⟨r, j, h⟩ := record_eq s source type payload; rw [h]
@[simp] theorem record_keys (s : State) (source type : Nat) (payload : Bytes) : (record s source type payload).keys = s.keys := by
  obtain ⟨r, j, h⟩ := record_eq s source type payload; rw [h]
@[simp] theorem record_revoked (s : State) (source type : Nat) (payload : Bytes) : (record s source type payload).revoked = s.revoked := by
  obtain ⟨r, j, h⟩ := record_eq s source type payload; rw [h]
@[simp] theorem record_log (s : State) (source type : Nat) (payload : Bytes) : (record s source type payload).log = s.log := by
  obtain ⟨r, j, h⟩ := record_eq s source type payload; rw [h]
@[simp] theorem record_monitors (s : State) (source type : Nat) (payload : Bytes) : (record s source type payload).monitors = s.monitors := by
  obtain ⟨r, j, h⟩ := record_eq s source type payload; rw [h]
@[simp] theorem record_power (s : State) (source type : Nat) (payload : Bytes) : (record s source type payload).power = s.power := by
  obtain ⟨r, j, h⟩ := record_eq s source type payload; rw [h]
@[simp] theorem record_pins (s : State) (source type : Nat) (payload : Bytes) : (record s source type payload).pins = s.pins := by
  obtain ⟨r, j, h⟩ := record_eq s source type payload; rw [h]
@[simp] theorem record_domains (s : State) (source type : Nat) (payload : Bytes) : (record s source type payload).domains = s.domains := by
  obtain ⟨r, j, h⟩ := record_eq s source type payload; rw [h]
@[simp] theorem record_crossings (s : State) (source type : Nat) (payload : Bytes) : (record s source type payload).crossings = s.crossings := by
  obtain ⟨r, j, h⟩ := record_eq s source type payload; rw [h]
@[simp] theorem record_batchIn (s : State) (source type : Nat) (payload : Bytes) : (record s source type payload).batchIn = s.batchIn := by
  obtain ⟨r, j, h⟩ := record_eq s source type payload; rw [h]
@[simp] theorem record_stationRun (s : State) (source type : Nat) (payload : Bytes) : (record s source type payload).stationRun = s.stationRun := by
  obtain ⟨r, j, h⟩ := record_eq s source type payload; rw [h]
@[simp] theorem record_hbAt (s : State) (source type : Nat) (payload : Bytes) : (record s source type payload).hbAt = s.hbAt := by
  obtain ⟨r, j, h⟩ := record_eq s source type payload; rw [h]
@[simp] theorem record_hbExpired (s : State) (source type : Nat) (payload : Bytes) : (record s source type payload).hbExpired = s.hbExpired := by
  obtain ⟨r, j, h⟩ := record_eq s source type payload; rw [h]
@[simp] theorem record_scrub (s : State) (source type : Nat) (payload : Bytes) : (record s source type payload).scrub = s.scrub := by
  obtain ⟨r, j, h⟩ := record_eq s source type payload; rw [h]

/-! ## advanceTo -/

@[simp] theorem advanceTo_pending (s : State) (t : Nat) : (advanceTo s t).pending = s.pending := rfl
@[simp] theorem advanceTo_free (s : State) (t : Nat) : (advanceTo s t).free = s.free := rfl
@[simp] theorem advanceTo_wires (s : State) (t : Nat) : (advanceTo s t).wires = s.wires := rfl
@[simp] theorem advanceTo_jreg (s : State) (t : Nat) : (advanceTo s t).jreg = s.jreg := rfl
@[simp] theorem advanceTo_mode (s : State) (t : Nat) : (advanceTo s t).mode = s.mode := rfl
@[simp] theorem advanceTo_ptp0 (s : State) (t : Nat) : (advanceTo s t).ptp0 = s.ptp0 := rfl
@[simp] theorem advanceTo_ptp1 (s : State) (t : Nat) : (advanceTo s t).ptp1 = s.ptp1 := rfl
@[simp] theorem advanceTo_field (s : State) (t : Nat) : (advanceTo s t).field = s.field := rfl
@[simp] theorem advanceTo_ring (s : State) (t : Nat) : (advanceTo s t).ring = s.ring := rfl
@[simp] theorem advanceTo_ecn0 (s : State) (t : Nat) : (advanceTo s t).ecn0 = s.ecn0 := rfl
@[simp] theorem advanceTo_ecn1 (s : State) (t : Nat) : (advanceTo s t).ecn1 = s.ecn1 := rfl
@[simp] theorem advanceTo_can0 (s : State) (t : Nat) : (advanceTo s t).can0 = s.can0 := rfl
@[simp] theorem advanceTo_can1 (s : State) (t : Nat) : (advanceTo s t).can1 = s.can1 := rfl
@[simp] theorem advanceTo_host (s : State) (t : Nat) : (advanceTo s t).host = s.host := rfl
@[simp] theorem advanceTo_cvu (s : State) (t : Nat) : (advanceTo s t).cvu = s.cvu := rfl
@[simp] theorem advanceTo_dict (s : State) (t : Nat) : (advanceTo s t).dict = s.dict := rfl
@[simp] theorem advanceTo_cfg (s : State) (t : Nat) : (advanceTo s t).cfg = s.cfg := rfl
@[simp] theorem advanceTo_change (s : State) (t : Nat) : (advanceTo s t).change = s.change := rfl
@[simp] theorem advanceTo_forces (s : State) (t : Nat) : (advanceTo s t).forces = s.forces := rfl
@[simp] theorem advanceTo_keys (s : State) (t : Nat) : (advanceTo s t).keys = s.keys := rfl
@[simp] theorem advanceTo_revoked (s : State) (t : Nat) : (advanceTo s t).revoked = s.revoked := rfl
@[simp] theorem advanceTo_recorder (s : State) (t : Nat) : (advanceTo s t).recorder = s.recorder := rfl
@[simp] theorem advanceTo_log (s : State) (t : Nat) : (advanceTo s t).log = s.log := rfl
@[simp] theorem advanceTo_monitors (s : State) (t : Nat) : (advanceTo s t).monitors = s.monitors := rfl
@[simp] theorem advanceTo_power (s : State) (t : Nat) : (advanceTo s t).power = s.power := rfl
@[simp] theorem advanceTo_pins (s : State) (t : Nat) : (advanceTo s t).pins = s.pins := rfl
@[simp] theorem advanceTo_domains (s : State) (t : Nat) : (advanceTo s t).domains = s.domains := rfl
@[simp] theorem advanceTo_crossings (s : State) (t : Nat) : (advanceTo s t).crossings = s.crossings := rfl
@[simp] theorem advanceTo_batchIn (s : State) (t : Nat) : (advanceTo s t).batchIn = s.batchIn := rfl
@[simp] theorem advanceTo_stationRun (s : State) (t : Nat) : (advanceTo s t).stationRun = s.stationRun := rfl
@[simp] theorem advanceTo_hbAt (s : State) (t : Nat) : (advanceTo s t).hbAt = s.hbAt := rfl
@[simp] theorem advanceTo_hbExpired (s : State) (t : Nat) : (advanceTo s t).hbExpired = s.hbExpired := rfl
@[simp] theorem advanceTo_scrub (s : State) (t : Nat) : (advanceTo s t).scrub = s.scrub := rfl

/-! ## What the updates set -/

@[simp] theorem emit_wires (s : State) (w : Wire) : (s.emit w).wires = w :: s.wires := rfl

@[simp] theorem drew_free (s : State) : s.drew.free = s.free + 1 := rfl

@[simp] theorem modLane_lane_self (s : State) (l : LaneId) (f : Lane → Lane) : (s.modLane l f).lane l = f (s.lane l) := by
  cases l <;> rfl

theorem modLane_lane_other (s : State) (l m : LaneId) (f : Lane → Lane) (h : m ≠ l) : (s.modLane l f).lane m = s.lane m := by
  cases l <;> cases m <;> first | rfl | exact absurd rfl h

@[simp] theorem modLanes_lane (s : State) (f : LaneId → Lane → Lane) (l : LaneId) : (s.modLanes f).lane l = f l (s.lane l) := by
  cases l <;> rfl

@[simp] theorem advanceTo_now (s : State) (t : Nat) : (advanceTo s t).time.now = Nat.max s.time.now t := by
  show s.time.now + (t - s.time.now) = Nat.max s.time.now t
  simp only [Nat.max_def]; split <;> omega

end Sys2Proof.Machine
end

