-- ==== Sys2Proof/Laws/Store.lean ====
section
/-! SUPPORT. The sorted finite maps: reading after a write, and that every write keeps the canonical form. -/

namespace Sys2Proof

/-- A canonical store from `lo` on is canonical from any lower bound. -/
theorem Store.wfFrom_le {α : Type} [DecidableEq α] (d : α) {lo lo' : Nat} (h : lo' ≤ lo) (m : Store α)
    (hm : Store.wfFrom d lo m = true) : Store.wfFrom d lo' m = true := by
  cases m with
  | nil => rfl
  | cons p m =>
    obtain ⟨k, v⟩ := p
    simp only [Store.wfFrom, Bool.and_eq_true, decide_eq_true_eq] at *
    exact ⟨⟨by omega, hm.1.2⟩, hm.2⟩

/-- A key below the bound is not listed. -/
theorem Store.find?_below {α : Type} [DecidableEq α] (d : α) (m : Store α) : ∀ {lo k : Nat}, k < lo →
    Store.wfFrom d lo m = true → Store.find? m k = none := by
  induction m with
  | nil => intros; rfl
  | cons p m ih =>
    intro lo k hk hm
    obtain ⟨k', v⟩ := p
    simp only [Store.wfFrom, Bool.and_eq_true, decide_eq_true_eq] at hm
    have hne : k' ≠ k := by omega
    simp only [Store.find?, hne, if_false]
    exact ih (by omega) hm.2

/-- Erasing keeps the form. -/
theorem Store.wfFrom_erase {α : Type} [DecidableEq α] (d : α) (m : Store α) : ∀ {lo k : Nat},
    Store.wfFrom d lo m = true → Store.wfFrom d lo (Store.erase m k) = true := by
  induction m with
  | nil => intros; rfl
  | cons p m ih =>
    intro lo k hm
    obtain ⟨k', v⟩ := p
    simp only [Store.wfFrom, Bool.and_eq_true, decide_eq_true_eq] at hm
    unfold Store.erase
    split
    · exact Store.wfFrom_le d (by omega) m hm.2
    · simp only [Store.wfFrom, Bool.and_eq_true, decide_eq_true_eq]
      exact ⟨hm.1, ih hm.2⟩

/-- Inserting a value other than the default keeps the form. -/
theorem Store.wfFrom_insert {α : Type} [DecidableEq α] (d : α) {v : α} (hv : v ≠ d) (m : Store α) : ∀ {lo k : Nat}, lo ≤ k →
    Store.wfFrom d lo m = true → Store.wfFrom d lo (Store.insert m k v) = true := by
  induction m with
  | nil =>
    intro lo k hk _
    simp [Store.insert, Store.wfFrom, hk, hv]
  | cons p m ih =>
    intro lo k hk hm
    obtain ⟨k', v'⟩ := p
    simp only [Store.wfFrom, Bool.and_eq_true, decide_eq_true_eq] at hm
    unfold Store.insert
    split
    · simp only [Store.wfFrom, Bool.and_eq_true, decide_eq_true_eq]
      exact ⟨⟨hk, hv⟩, ⟨by omega, hm.1.2⟩, hm.2⟩
    · split
      · simp only [Store.wfFrom, Bool.and_eq_true, decide_eq_true_eq]
        rename_i _ he
        subst he
        exact ⟨⟨hm.1.1, hv⟩, hm.2⟩
      · simp only [Store.wfFrom, Bool.and_eq_true, decide_eq_true_eq]
        exact ⟨hm.1, ih (by omega) hm.2⟩

/-- A write keeps the canonical form. -/
theorem Store.wf_put {α : Type} [DecidableEq α] (d : α) (m : Store α) (k : Nat) (v : α) (hm : Store.wf d m = true) :
    Store.wf d (Store.put m d k v) = true := by
  unfold Store.put
  split
  · exact Store.wfFrom_erase d m hm
  · exact Store.wfFrom_insert d (by assumption) m (Nat.zero_le k) hm

/-- A run of bytes written keeps the canonical form. -/
theorem Store.wf_putBytes (d : Byte) (bs : Bytes) : ∀ (m : Store Byte) (ofs : Nat), Store.wf d m = true →
    Store.wf d (Store.putBytes m d ofs bs) = true := by
  induction bs with
  | nil => intro m ofs h; exact h
  | cons b bs ih => intro m ofs h; exact ih _ _ (Store.wf_put d m ofs b h)

/-- Reading another key after an insertion. -/
theorem Store.find?_insert_other {α : Type} (m : Store α) {k j : Nat} (v : α) (h : j ≠ k) :
    Store.find? (Store.insert m k v) j = Store.find? m j := by
  induction m with
  | nil => simp [Store.insert, Store.find?, Ne.symm h]
  | cons p m ih =>
    obtain ⟨k', v'⟩ := p
    unfold Store.insert
    split
    · simp [Store.find?, Ne.symm h]
    · split
      · rename_i _ he; subst he; simp [Store.find?, Ne.symm h]
      · simp only [Store.find?, ih]

/-- Reading the key just inserted. -/
@[simp] theorem Store.find?_insert_self {α : Type} (m : Store α) (k : Nat) (v : α) :
    Store.find? (Store.insert m k v) k = some v := by
  induction m with
  | nil => simp [Store.insert, Store.find?]
  | cons p m ih =>
    obtain ⟨k', v'⟩ := p
    unfold Store.insert
    split
    · simp [Store.find?]
    · split
      · simp [Store.find?]
      · rename_i h1 h2; simp [Store.find?, h2, ih]

/-- Reading another key after an erasure. -/
theorem Store.find?_erase_other {α : Type} (m : Store α) {k j : Nat} (h : j ≠ k) :
    Store.find? (Store.erase m k) j = Store.find? m j := by
  induction m with
  | nil => rfl
  | cons p m ih =>
    obtain ⟨k', v'⟩ := p
    unfold Store.erase
    split
    · rename_i he; subst he; simp [Store.find?, Ne.symm h]
    · simp only [Store.find?, ih]

/-- A write leaves every other key as it was. -/
theorem Store.get_put_other {α : Type} [DecidableEq α] (m : Store α) (d : α) {k j : Nat} (v : α) (h : j ≠ k) :
    Store.get (Store.put m d k v) d j = Store.get m d j := by
  unfold Store.get Store.put
  split
  · rw [Store.find?_erase_other m h]
  · rw [Store.find?_insert_other m v h]

/-- An erased key of a canonical store reads as the default. -/
theorem Store.find?_erase_self {α : Type} [DecidableEq α] (d : α) (m : Store α) : ∀ {lo k : Nat},
    Store.wfFrom d lo m = true → Store.find? (Store.erase m k) k = none := by
  induction m with
  | nil => intros; rfl
  | cons p m ih =>
    intro lo k hm
    obtain ⟨k', v⟩ := p
    simp only [Store.wfFrom, Bool.and_eq_true, decide_eq_true_eq] at hm
    unfold Store.erase
    split
    · rename_i he; subst he; exact Store.find?_below d m (Nat.lt_succ_self _) hm.2
    · rename_i he; simp only [Store.find?, he, if_false]; exact ih hm.2

/-- A written key of a canonical store reads as the value written. -/
theorem Store.get_put_self {α : Type} [DecidableEq α] (m : Store α) (d : α) (k : Nat) (v : α) (hm : Store.wf d m = true) :
    Store.get (Store.put m d k v) d k = v := by
  unfold Store.get Store.put
  split
  · rename_i h; rw [Store.find?_erase_self d m hm, h]; rfl
  · rw [Store.find?_insert_self]; rfl

end Sys2Proof
end

