-- ==== Sys2Proof/Laws/Crossing.lean ====
section
/-! SUPPORT. What a clock-domain crossing does with its traffic while its clocks run and it is open (15 R396 to R405): the traffic arrives,
and nothing outside the crossings and their high-water marks changes. -/

namespace Sys2Proof.Machine

open Sys2Proof

/-- Entries that cross change the crossings, their marks and the draw of a free value, and nothing else. -/
theorem through_eq (s : State) (x n : Nat) : ∃ j c k, through s x n = { s with jreg := j, crossings := c, free := k } := by
  unfold through
  split
  · exact ⟨_, _, _, rfl⟩
  · exact ⟨_, _, _, rfl⟩

@[simp] theorem through_pending (s : State) (x n : Nat) : (through s x n).pending = s.pending := by
  obtain ⟨j, c, k, h⟩ := through_eq s x n; rw [h]

@[simp] theorem through_wires (s : State) (x n : Nat) : (through s x n).wires = s.wires := by
  obtain ⟨j, c, k, h⟩ := through_eq s x n; rw [h]

@[simp] theorem through_mode (s : State) (x n : Nat) : (through s x n).mode = s.mode := by
  obtain ⟨j, c, k, h⟩ := through_eq s x n; rw [h]

@[simp] theorem through_lanes (s : State) (x n : Nat) : (through s x n).lanes = s.lanes := by
  obtain ⟨j, c, k, h⟩ := through_eq s x n; rw [h]

@[simp] theorem through_vote (s : State) (x n : Nat) : (through s x n).vote = s.vote := by
  obtain ⟨j, c, k, h⟩ := through_eq s x n; rw [h]

@[simp] theorem through_time (s : State) (x n : Nat) : (through s x n).time = s.time := by
  obtain ⟨j, c, k, h⟩ := through_eq s x n; rw [h]

@[simp] theorem through_ptp0 (s : State) (x n : Nat) : (through s x n).ptp0 = s.ptp0 := by
  obtain ⟨j, c, k, h⟩ := through_eq s x n; rw [h]

@[simp] theorem through_ptp1 (s : State) (x n : Nat) : (through s x n).ptp1 = s.ptp1 := by
  obtain ⟨j, c, k, h⟩ := through_eq s x n; rw [h]

@[simp] theorem through_field (s : State) (x n : Nat) : (through s x n).field = s.field := by
  obtain ⟨j, c, k, h⟩ := through_eq s x n; rw [h]

@[simp] theorem through_ring (s : State) (x n : Nat) : (through s x n).ring = s.ring := by
  obtain ⟨j, c, k, h⟩ := through_eq s x n; rw [h]

@[simp] theorem through_ecn0 (s : State) (x n : Nat) : (through s x n).ecn0 = s.ecn0 := by
  obtain ⟨j, c, k, h⟩ := through_eq s x n; rw [h]

@[simp] theorem through_ecn1 (s : State) (x n : Nat) : (through s x n).ecn1 = s.ecn1 := by
  obtain ⟨j, c, k, h⟩ := through_eq s x n; rw [h]

@[simp] theorem through_can0 (s : State) (x n : Nat) : (through s x n).can0 = s.can0 := by
  obtain ⟨j, c, k, h⟩ := through_eq s x n; rw [h]

@[simp] theorem through_can1 (s : State) (x n : Nat) : (through s x n).can1 = s.can1 := by
  obtain ⟨j, c, k, h⟩ := through_eq s x n; rw [h]

@[simp] theorem through_host (s : State) (x n : Nat) : (through s x n).host = s.host := by
  obtain ⟨j, c, k, h⟩ := through_eq s x n; rw [h]

@[simp] theorem through_cvu (s : State) (x n : Nat) : (through s x n).cvu = s.cvu := by
  obtain ⟨j, c, k, h⟩ := through_eq s x n; rw [h]

@[simp] theorem through_dict (s : State) (x n : Nat) : (through s x n).dict = s.dict := by
  obtain ⟨j, c, k, h⟩ := through_eq s x n; rw [h]

@[simp] theorem through_cfg (s : State) (x n : Nat) : (through s x n).cfg = s.cfg := by
  obtain ⟨j, c, k, h⟩ := through_eq s x n; rw [h]

@[simp] theorem through_change (s : State) (x n : Nat) : (through s x n).change = s.change := by
  obtain ⟨j, c, k, h⟩ := through_eq s x n; rw [h]

@[simp] theorem through_forces (s : State) (x n : Nat) : (through s x n).forces = s.forces := by
  obtain ⟨j, c, k, h⟩ := through_eq s x n; rw [h]

@[simp] theorem through_priv (s : State) (x n : Nat) : (through s x n).priv = s.priv := by
  obtain ⟨j, c, k, h⟩ := through_eq s x n; rw [h]

@[simp] theorem through_keys (s : State) (x n : Nat) : (through s x n).keys = s.keys := by
  obtain ⟨j, c, k, h⟩ := through_eq s x n; rw [h]

@[simp] theorem through_revoked (s : State) (x n : Nat) : (through s x n).revoked = s.revoked := by
  obtain ⟨j, c, k, h⟩ := through_eq s x n; rw [h]

@[simp] theorem through_recorder (s : State) (x n : Nat) : (through s x n).recorder = s.recorder := by
  obtain ⟨j, c, k, h⟩ := through_eq s x n; rw [h]

@[simp] theorem through_log (s : State) (x n : Nat) : (through s x n).log = s.log := by
  obtain ⟨j, c, k, h⟩ := through_eq s x n; rw [h]

@[simp] theorem through_monitors (s : State) (x n : Nat) : (through s x n).monitors = s.monitors := by
  obtain ⟨j, c, k, h⟩ := through_eq s x n; rw [h]

@[simp] theorem through_power (s : State) (x n : Nat) : (through s x n).power = s.power := by
  obtain ⟨j, c, k, h⟩ := through_eq s x n; rw [h]

@[simp] theorem through_pins (s : State) (x n : Nat) : (through s x n).pins = s.pins := by
  obtain ⟨j, c, k, h⟩ := through_eq s x n; rw [h]

@[simp] theorem through_domains (s : State) (x n : Nat) : (through s x n).domains = s.domains := by
  obtain ⟨j, c, k, h⟩ := through_eq s x n; rw [h]

@[simp] theorem through_batchIn (s : State) (x n : Nat) : (through s x n).batchIn = s.batchIn := by
  obtain ⟨j, c, k, h⟩ := through_eq s x n; rw [h]

@[simp] theorem through_stationRun (s : State) (x n : Nat) : (through s x n).stationRun = s.stationRun := by
  obtain ⟨j, c, k, h⟩ := through_eq s x n; rw [h]

@[simp] theorem through_hbAt (s : State) (x n : Nat) : (through s x n).hbAt = s.hbAt := by
  obtain ⟨j, c, k, h⟩ := through_eq s x n; rw [h]

@[simp] theorem through_hbExpired (s : State) (x n : Nat) : (through s x n).hbExpired = s.hbExpired := by
  obtain ⟨j, c, k, h⟩ := through_eq s x n; rw [h]

@[simp] theorem through_scrub (s : State) (x n : Nat) : (through s x n).scrub = s.scrub := by
  obtain ⟨j, c, k, h⟩ := through_eq s x n; rw [h]

@[simp] theorem through_lane (s : State) (x n : Nat) (l : LaneId) : (through s x n).lane l = s.lane l := by
  obtain ⟨j, c, k, h⟩ := through_eq s x n; rw [h]; rfl

/-- A write of a register of class J leaves every other one. -/
theorem jget_jset_other (s : State) (i j i' j' v : Nat) (h : regKey i' j' ≠ regKey i j) : jget (jset s i j v) i' j' = jget s i' j' := by
  have hd : jDefault (jset s i j v) (regKey i' j') = jDefault s (regKey i' j') := rfl
  unfold jget
  rw [hd]
  unfold jset
  simp only []
  split
  · simp [Store.get, Store.find?_insert_other _ _ h]
  · unfold Store.put
    split
    · simp [Store.get, Store.find?_erase_other _ h]
    · simp [Store.get, Store.find?_insert_other _ _ h]

/-- Of the registers of class J, only the high-water mark of the crossing changes. -/
theorem through_jget (s : State) (x n i j : Nat) (h : regKey i j ≠ regKey (crossingIndex x) 4) : jget (through s x n) i j = jget s i j := by
  unfold through
  split
  · rfl
  · exact (jget_jset_other _ _ _ _ _ _ h).trans rfl

/-- Traffic offered to a crossing that flows does what it does on the far side. -/
theorem carry_flows (s : State) (x n : Nat) (i : XItem) (lost f : State → State) (h : s.flows x) : carry s x n i lost f = f (through s x n) := by
  unfold carry
  by_cases hl : s.crossingLive x = true
  · obtain ⟨h1, h2, h3, h4, h5⟩ := h hl
    simp [hl, h1, h2, h3, h4, h5]
  · simp [hl, through]

/-- A command whose crossing flows acts where it arrives. -/
theorem crossing_flows (s : State) (x n : Nat) (c : Instr) (h : s.flows x) :
    crossing s x n c = arriveFar (through s x (entriesOf x n)) s.time.now c := by
  unfold crossing
  rw [carry_flows s x _ _ _ _ h]

/-- An event at a crossing that is ready reaches its receiver. -/
theorem raiseEvent_ready (s : State) (x r : Nat) (i : XItem) (f : State → State) (h : s.ready x r) :
    raiseEvent s x r i f = f (s.evented x r) := by
  obtain ⟨h1, h2, h3, h4⟩ := h
  unfold raiseEvent State.evented
  simp [h1, h2, h3, h4]

/-- A queue whose destination stands still keeps its traffic while there is room: nothing happens on the far side. -/
theorem carry_waits (s : State) (x n : Nat) (i : XItem) (lost f : State → State) (hl : s.crossingLive x = true) (hs : s.sourceRuns x = true)
    (hd : s.destRuns x = false) (ho : (s.crossing x).open_ = true) (he : (s.crossing x).offered = []) (hr : n ≤ (s.crossing x).room x) :
    carry s x n i lost f = holdItem s x n i := by
  unfold carry; simp [*]

/-- A source that can wait offers what does not fit until it does. -/
theorem carry_offers (s : State) (x n : Nat) (i : XItem) (lost f : State → State) (hl : s.crossingLive x = true) (hs : s.sourceRuns x = true)
    (hd : s.destRuns x = false) (hr : (s.crossing x).room x < n) (hc : crossingStalls x = true) :
    carry s x n i lost f = offer s x n i := by
  unfold carry; simp [*, Nat.not_le.mpr hr]

/-- What an open crossing brings a lane from its section. -/
theorem fromField_flows (s : State) (l : LaneId) (n : Nat) (r : FieldReport) (f : State → State) (ho : s.field.operating = true)
    (h : s.flows (7 * l.num + 5)) : fromField s l n r f = f (through s (7 * l.num + 5) n) := by
  unfold fromField
  simp only [ho, Bool.not_true, Bool.false_eq_true, if_false]
  exact carry_flows s _ n _ _ f h

/-- A frame that a lane sends its section over an idle channel. -/
theorem toField_flows (s : State) (l : LaneId) (i : FieldFrame) (f : State → State) (ho : s.field.operating = true)
    (h : s.flows (7 * l.num + 4)) : toField s l i f = f (through s (7 * l.num + 4) 1) := by
  unfold toField
  simp only [ho, Bool.true_or, if_true]
  exact carry_flows s _ 1 _ _ f h

end Sys2Proof.Machine
end

