-- ==== Sys2Proof/Laws/Cutting.lean ====
section
/-! SUPPORT. What the command of a trigger does when nothing else is due with it (02 R39, 09 R244, R245). -/

namespace Sys2Proof.Machine

open Sys2Proof

/-- A trigger that has not fired ahead of its command fires with it. -/
theorem once_first (s : State) (x : Trig) (f : State → State) (h : s.firedEarly x = false) : once s x f = f s := by
  unfold once; simp [h]

/-- Entries of which none is due leave the state as it is. -/
theorem fireBefore_none (s : State) (t n : Nat) (h : ∀ j, j < n → s.due t j = false) : fireBefore s t n = s := by
  unfold fireBefore
  induction n with
  | zero => rfl
  | succ n ih =>
    rw [List.range_succ, List.foldl_append, ih (fun j hj => h j (by omega))]
    have h0 := h n (by omega)
    unfold State.due at h0
    simp only [Bool.or_eq_false_iff] at h0
    simp [turn, fireInTurn, h0.1, h0.2]

/-- A trigger that has not fired ahead of its command has not at a later instant either. -/
theorem firedEarly_advanceTo (s : State) (x : Trig) (t : Nat) (h : s.firedEarly x = false) : (advanceTo s t).firedEarly x = false := by
  unfold State.firedEarly at *
  rw [List.any_eq_false] at *
  intro p hp
  have h0 := h p hp
  have hn : s.time.now ≤ (advanceTo s t).time.now := by rw [advanceTo_now]; exact Nat.le_max_left _ _
  simp only [Bool.and_eq_true, decide_eq_true_eq, not_and, Nat.not_le] at h0 ⊢
  intro hx
  have := h0 hx
  omega

/-- The command of an armed entry does what the entry does, at its instant. -/
theorem entryCommand_armed (s : State) (i act : Nat) (e : CutEntry) (f : State → State) (h : s.armed i act e) :
    entryCommand s i act f = f (s.comesTo i e) := by
  obtain ⟨h1, h2, _, h4, h5⟩ := h
  unfold entryCommand
  rw [once_first s _ _ h4]
  simp only [h1, h2, if_true]
  rw [show advanceTo s (s.firing i e 0) = s.comesTo i e from rfl, fireBefore_none _ _ _ h5,
    once_first _ _ _ (show (s.comesTo i e).firedEarly (.entry i) = false from firedEarly_advanceTo _ _ _ h4)]

/-- What an entry with a good check value does at its firing. -/
theorem atEntry_fires (s : State) (i act : Nat) (e : CutEntry) (f : State → CutEntry → State) (h1 : s.cut i = some e)
    (h2 : CutEntry.act e = act) (h3 : e.w3 = cutCheck e i) : atEntry s i act f = f (s.fires i e) e := by
  unfold atEntry; simp [h1, h2, ← h3]; rfl

/-- An entry with a wrong check value is a junction time fault. -/
theorem atEntry_bad (s : State) (i act : Nat) (e : CutEntry) (f : State → CutEntry → State) (h1 : s.cut i = some e)
    (h2 : CutEntry.act e = act) (h3 : e.w3 ≠ cutCheck e i) : atEntry s i act f = cutFault s := by
  unfold atEntry; simp [h1, h2, h3]

/-- An instant that has passed leaves a lane counter as it is. -/
theorem LaneTime.advance_zero (x : LaneTime) : x.advance 0 = x := by
  cases x; simp [LaneTime.advance, clampInt]

/-- An instant that has passed moves nothing on. -/
theorem advanceTo_past (s : State) (t : Nat) (h : t ≤ s.time.now) : advanceTo s t = s := by
  cases s; simp_all [advanceTo, Nat.sub_eq_zero_of_le h, LaneTime.advance_zero, Tri.map, Priv.advance]

/-- Direct compares of which none is due leave the state as it is. -/
theorem fireDirect_none (s : State) (n : Nat) (h : ∀ j, j < n → s.dueDc j = false) : fireDirect s n = s := by
  unfold fireDirect
  induction n with
  | zero => rfl
  | succ n ih =>
    rw [List.range_succ, List.foldl_append, ih (fun j hj => h j (by omega))]
    simp [h n (by omega)]

/-- Epoch compares of which none is due leave the state as it is. -/
theorem fireEpoch_none (s : State) (n : Nat) (h : ∀ j, j < n → s.dueEc j = false) : fireEpoch s n = s := by
  unfold fireEpoch
  induction n with
  | zero => rfl
  | succ n ih =>
    rw [List.range_succ, List.foldl_append, ih (fun j hj => h j (by omega))]
    simp [h n (by omega)]

/-- A direct compare that is the first thing due at its target does what it does there. -/
theorem directCompareFire_alone (s : State) (n t : Nat) (h1 : s.firedEarly (.direct n) = false) (h2 : s.dcAt n = some t)
    (h3 : s.nothingDue t n 0) : directCompareFire s n = directCompareDue (advanceTo s t) n := by
  unfold directCompareFire
  rw [once_first _ _ _ h1]
  simp only [h2]
  rw [fireBefore_none _ _ _ h3.1, fireDirect_none _ _ h3.2.1, once_first _ _ _ (firedEarly_advanceTo _ _ _ h1)]

/-- An epoch compare that is the first thing due at its target does what it does there. -/
theorem epochCompareFire_alone (s : State) (n t : Nat) (h1 : s.firedEarly (.epoch n) = false) (h2 : s.ecAt n = some t)
    (h3 : s.nothingDue t 8 n) : epochCompareFire s n = epochCompareDue (advanceTo s t) n := by
  unfold epochCompareFire
  rw [once_first _ _ _ h1]
  simp only [h2]
  rw [fireBefore_none _ _ _ h3.1, fireDirect_none _ _ h3.2.1, fireEpoch_none _ _ h3.2.2, once_first _ _ _ (firedEarly_advanceTo _ _ _ h1)]

/-- A grid with a step reaches an instant at or after the one asked for. -/
theorem le_gridFrom (n b p : Nat) (hp : 0 < p) : n ≤ gridFrom n b p := by
  unfold gridFrom ceilDiv
  split
  · assumption
  · have h := Nat.div_add_mod (n - b % p + p - 1) p
    have h2 := Nat.mod_lt (n - b % p + p - 1) hp
    have h3 := Nat.mul_comm p ((n - b % p + p - 1) / p)
    omega

/-- The first instant of a grid at or after `x` is also the first at or after any instant between `x` and it. -/
theorem gridFrom_between (x y b p : Nat) (h1 : x ≤ y) (h2 : 0 < p → y ≤ gridFrom x b p) : gridFrom y b p = gridFrom x b p := by
  rcases Nat.eq_zero_or_pos p with rfl | hp
  · unfold gridFrom; simp only [Nat.mod_zero, Nat.mul_zero, Nat.add_zero]; split <;> split <;> rfl
  · have h2 := h2 hp
    unfold gridFrom at *
    split at h2
    · have : y ≤ b % p := h2
      simp [this, show x ≤ b % p from by assumption]
    · rename_i hx
      have hy : ¬ y ≤ b % p := by omega
      simp only [hx, hy, if_false]
      have hle : y - b % p ≤ ceilDiv (x - b % p) p * p := by omega
      have hc : ceilDiv (y - b % p) p = ceilDiv (x - b % p) p := by
        apply Nat.le_antisymm
        · unfold ceilDiv at *
          rw [Nat.div_le_iff_le_mul_add_pred hp]
          have := Nat.mul_comm p ((x - b % p + p - 1) / p)
          omega
        · unfold ceilDiv
          exact Nat.div_le_div_right (by omega)
      rw [hc]

/-- At its instant an entry's next firing is that instant. -/
theorem comesTo_firing (s : State) (i : Nat) (e : CutEntry) : (s.comesTo i e).firing i e 0 = s.firing i e 0 := by
  have hp : (s.comesTo i e).period e = s.period e := rfl
  have hf : (s.comesTo i e).ring.fired = s.ring.fired := rfl
  have hn : (s.comesTo i e).time.now = Nat.max s.time.now (s.firing i e 0) := advanceTo_now _ _
  rcases Nat.le_total (s.firing i e 0) s.time.now with h | h
  · rw [State.comesTo, advanceTo_past _ _ h]
  · unfold State.firing at *
    rw [hp, hf, hn]
    apply gridFrom_between
    · have h3 : s.time.now ≤ Nat.max s.time.now (gridFrom (Nat.max (s.time.now + 0 - play) (Store.get s.ring.fired 0 i)) e.w0 (s.period e)) :=
        Nat.le_max_left _ _
      exact Nat.max_le.mpr ⟨Nat.le_trans (by omega) (Nat.le_max_left _ _), Nat.le_max_right _ _⟩
    · intro hp
      have h4 := Nat.le_trans (Nat.le_max_right (s.time.now + 0 - play) (Store.get s.ring.fired 0 i)) (le_gridFrom _ e.w0 _ hp)
      have h5 : Nat.max s.time.now (gridFrom (Nat.max (s.time.now + 0 - play) (Store.get s.ring.fired 0 i)) e.w0 (s.period e)) ≤
        gridFrom (Nat.max (s.time.now + 0 - play) (Store.get s.ring.fired 0 i)) e.w0 (s.period e) := Nat.max_le.mpr ⟨h, Nat.le_refl _⟩
      exact Nat.max_le.mpr ⟨by omega, h4⟩

/-- An entry that comes to its instant fires there. -/
theorem comesTo_fires (s : State) (i : Nat) (e : CutEntry) : (s.comesTo i e).fires i e = s.fires i e := by
  have h1 := comesTo_firing s i e
  have h2 : (s.comesTo i e).comesTo i e = s.comesTo i e := by
    rw [State.comesTo, h1]
    apply advanceTo_past
    rw [State.comesTo, advanceTo_now]; exact Nat.le_max_right _ _
  unfold State.fires
  rw [h1, h2]

/-- What the command of an armed entry does: what the entry does at its firing. -/
theorem entryCommand_fires (s : State) (i act : Nat) (e : CutEntry) (f : State → CutEntry → State) (h : s.armed i act e) :
    entryCommand s i act (fun s => atEntry s i act f) = f (s.fires i e) e := by
  rw [entryCommand_armed _ _ _ _ _ h, atEntry_fires (s.comesTo i e) i act e f h.1 h.2.1 h.2.2.1, comesTo_fires]

@[simp] theorem comesTo_cut (s : State) (i j : Nat) (e : CutEntry) : (s.comesTo i e).cut j = s.cut j := rfl

end Sys2Proof.Machine
end

