-- ==== Sys2Proof/Laws/Journal.lean ====
section
/-! SUPPORT. Laws of the journal's records: their header and trailer (14 R371, Table 14-2). -/

namespace Sys2Proof.Machine

open Sys2Proof

@[simp] theorem leBytes_length (n v : Nat) : (leBytes n v).length = n := by
  induction n generalizing v with
  | zero => rfl
  | succ n ih => simp [leBytes, ih]

/-- A number that fits reads back from its bytes. -/
theorem ofLe_leBytes (n v : Nat) (h : v < 256 ^ n) : ofLe (leBytes n v) = v := by
  induction n generalizing v with
  | zero => simp [leBytes, ofLe]; omega
  | succ n ih =>
    have h' : v / 256 < 256 ^ n := Nat.div_lt_of_lt_mul (by rw [Nat.pow_succ] at h; omega)
    simp only [leBytes, ofLe, ih _ h', BitVec.toNat_ofNat]
    omega

/-- A bit of a reflected register of 32 bits stays in it. -/
theorem crcBitLow_lt (p reg : Nat) (hp : p < 2 ^ 32) (h : reg < 2 ^ 32) : crcBitLow p reg < 2 ^ 32 := by
  unfold crcBitLow
  split
  · exact Nat.xor_lt_two_pow (by omega) hp
  · omega

/-- CRC-32C is a number of 32 bits. -/
theorem crc32c_lt (bs : Bytes) : crc32c bs < 2 ^ 32 := by
  have feed : ∀ (bs : Bytes) reg, reg < 2 ^ 32 → crcFeed 3 reg bs < 2 ^ 32 := by
    intro bs
    induction bs with
    | nil => exact fun _ h => h
    | cons b bs ih =>
      intro reg h
      refine ih _ ?_
      have hb : Nat.xor reg (b.toNat % 256) < 2 ^ 32 := Nat.xor_lt_two_pow h (by omega)
      have hp : (crcParams 3).poly < 2 ^ 32 := by decide
      iterate 8 apply crcBitLow_lt _ _ hp
      exact hb
  exact Nat.xor_lt_two_pow (feed bs _ (by decide)) (by decide)

/-- A record's header is 60 bytes long, and its trailer 64. -/
@[simp] theorem Record.header_length (r : Record) : r.header.length = 60 := by simp [Record.header]

/-- A record that has received its trailer is complete. -/
theorem Record.complete_seal (r : Record) : r.seal.complete = true := by
  have h4 : ofLe (leBytes 4 (crc32c (r.front ++ r.header))) = crc32c (r.front ++ r.header) := ofLe_leBytes 4 _ (crc32c_lt _)
  have hh : r.seal.header = r.header := rfl
  have hf : r.seal.front = r.front := rfl
  have ht : r.seal.trailer = r.header ++ leBytes 4 (crc32c (r.front ++ r.header)) := rfl
  have h60 : r.header.length = 60 := r.header_length
  simp only [Record.complete, hh, hf, ht, List.take_left' h60, List.drop_left' h60, h4, List.length_append, h60, leBytes_length]
  simp

end Sys2Proof.Machine
end

