-- ==== Sys2Proof/Laws/Serzel.lean ====
section
/-! SUPPORT. What one instruction of an engine does, once for all instructions (05 R153, R154, R161 to R163), and that two cores that agree
go on agreeing (03 R62, R63). -/

namespace Sys2Proof.Machine

open Sys2Proof

/-- The engine of an instruction's start is the engine of the state. -/
@[simp] theorem start_en (s : State) (e : EngineId) : (Exec.start s e).en = s.engineOf e := rfl

@[simp] theorem start_ln (s : State) (e : EngineId) : (Exec.start s e).ln = s.lane e.lane := rfl

@[simp] theorem start_slot (s : State) (e : EngineId) : (Exec.start s e).slot = e.slot := rfl

@[simp] theorem start_fault (s : State) (e : EngineId) : (Exec.start s e).fault = 0 := rfl

@[simp] theorem start_seq (s : State) (e : EngineId) : (Exec.start s e).seq = 0 := rfl

@[simp] theorem start_cost (s : State) (e : EngineId) : (Exec.start s e).cost = 0 := rfl

@[simp] theorem start_out (s : State) (e : EngineId) : (Exec.start s e).out = [] := rfl

@[simp] theorem start_ends (s : State) (e : EngineId) : (Exec.start s e).ends = false := rfl

@[simp] theorem start_pc (s : State) (e : EngineId) : (Exec.start s e).pc = (s.engineOf e).pc + 1 := rfl

/-- An engine that does not execute runs nothing. -/
theorem serzel_idle (s : State) (e : EngineId) (f : Exec → Exec) (h : s.executes e = false) : serzel s e f = s := by
  unfold serzel; simp [h]

/-- An instruction that raises a sequence fault stops its engine and does nothing else. -/
theorem serzel_seq (s : State) (e : EngineId) (f : Exec → Exec) (h : s.executes e = true) (hf : (f (Exec.start s e)).seq ≠ 0) :
    serzel s e f = s.seqStopped e (f (Exec.start s e)).seq := by
  unfold serzel State.seqStopped; simp [h, hf]

/-- What an instruction leaves its engine at. -/
theorem core_settled (x : Exec) : x.core = x.en.settled x.pc x.cost := rfl

/-- A trailing core that has reached the registers of the leading one takes the instruction as that one does. -/
theorem trailing_same (s : State) (e : EngineId) (h : s.coresAgree e = true) : (Exec.start s e).trailing = Exec.start s e := by
  unfold State.coresAgree at h
  simp only [Bool.and_eq_true, decide_eq_true_eq] at h
  obtain ⟨⟨⟨⟨_, _⟩, hh⟩, _⟩, _⟩ := h
  by_cases hp : (Exec.start s e).en = ((s.lane e.lane).pair e.slot).lead
  · have hq : ((s.lane e.lane).pair e.slot).head = (Exec.start s e).en := hh.trans hp.symm
    have h0 : (Exec.start s e).trailing = if (Exec.start s e).en = ((s.lane e.lane).pair e.slot).lead then
      { Exec.start s e with en := ((s.lane e.lane).pair e.slot).head } else Exec.start s e := rfl
    rw [h0, if_pos hp, hq]
  · exact if_neg hp

/-- An instruction that ends no task, whatever pc and loops it leaves. -/
theorem serzel_went (s : State) (e : EngineId) (f : Exec → Exec) (x : Exec) (hs : s.executes e = true) (ha : s.coresAgree e = true)
    (hx : f (Exec.start s e) = x) (h1 : x.seq = 0) (h2 : x.ends = false) (h4 : x.codeSize = (Exec.start s e).codeSize)
    (h5 : x.ln = s.lane e.lane) (h6 : x.fault = 0) (h7 : x.out = []) (h8 : x.slot = e.slot) (h9 : x.ins = []) :
    serzel s e f = if (x.en.settled x.pc x.cost).pc < (Exec.start s e).codeSize then s.went e x.en x.pc x.cost else s.seqStopped e 37 := by
  unfold serzel State.went State.follows State.seqStopped Exec.shown Exec.runsOut Exec.close
  simp only [hs, if_true, trailing_same s e ha, hx, h1, h2, core_settled, h4, h5, h6, h7, h8, h9, Lane.latch]
  by_cases h : (x.en.settled x.pc x.cost).pc < (Exec.start s e).codeSize
  · simp [h, Nat.not_le.mpr h, State.modLane]; rfl
  · simp [h, Nat.le_of_not_lt h]

/-- An instruction that goes on to PC + 1 leaves the lane `x.ln` with the engine `x.en`, its clocks and its fault. -/
theorem serzel_ran (s : State) (e : EngineId) (f : Exec → Exec) (x : Exec) (hs : s.steady e = true) (hx : f (Exec.start s e) = x)
    (h1 : x.seq = 0) (h2 : x.ends = false) (h3 : x.pc = (s.engineOf e).pc + 1) (h4 : x.codeSize = (Exec.start s e).codeSize)
    (h5 : x.en.loops = (s.engineOf e).loops) (h6 : x.en.calls = (s.engineOf e).calls) (h7 : x.en.clock = (s.engineOf e).clock)
    (h8 : x.en.ctx = (s.engineOf e).ctx) (h9 : x.slot = e.slot) :
    serzel s e f = s.ranOut e x.ln x.en x.cost x.fault x.ins x.out := by
  unfold State.steady at hs
  simp only [Bool.and_eq_true, decide_eq_true_eq] at hs
  obtain ⟨⟨⟨ha, hg⟩, hb⟩, hc⟩ := hs
  have hset : settleLoops 5 { x.en with pc := x.pc } = { x.en with pc := x.pc } := by
    unfold settleLoops
    simp only [h5, h6, h3]
    cases hl : (s.engineOf e).loops with
    | nil => rfl
    | cons g rest =>
      rw [hl] at hc
      simp only [List.head?_cons, Option.all_some, Bool.not_eq_true', Bool.and_eq_false_iff, decide_eq_false_iff_not] at hc
      simp only
      rw [if_neg]
      rintro ⟨u, v⟩
      rcases hc with h | h
      · exact h u
      · exact h v
  have hlc : ∀ en : Engine, loopClocks en en = 0 := by
    intro en; cases h : en.loops <;> simp [loopClocks, h]
  have hcore : x.core = { x.en with pc := (s.engineOf e).pc + 1, clock := (s.engineOf e).clock + x.cost } := by
    unfold Exec.core
    rw [h3] at hset
    simp only [h3]
    rw [hset, hlc]
    simp only [h7, Nat.add_zero]
  have hro : x.runsOut = false := by
    unfold Exec.runsOut
    simp only [h2, hcore, h4, Bool.not_false, Bool.true_and, decide_eq_false_iff_not]; omega
  unfold serzel Exec.shown
  simp only [ha, if_true, trailing_same s e hg, hx, h1, hro, h2]
  unfold State.ranOut State.follows Exec.close
  rw [hcore, h9]
  simp [h8]

/-- Equal words and equal signatures leave the comparators as they are, and the signatures equal. -/
theorem compare_equal (p : Pair) (x : Shim) (h : x.give = x.lead) (hs : p.sigLead = p.sigTrail) :
    (p.compare x).bitwise = p.bitwise ∧ (p.compare x).signature = p.signature ∧ (p.compare x).shims = p.shims ∧
      (p.compare x).sigLead = (p.compare x).sigTrail ∧ (p.compare x).head = p.head ∧ (p.compare x).lead = p.lead := by
  unfold Pair.compare; simp [h, hs]

/-- A pair whose outputs agree goes on without a report. -/
theorem advance_agrees (p : Pair) (clock : Nat) (hb : p.bitwise = false) (hs : p.signature = false) (hg : p.sigLead = p.sigTrail)
    (ha : p.shims.all (fun x => decide (x.give = x.lead)) = true) :
    (p.advance clock).bitwise = false ∧ (p.advance clock).signature = false ∧ (p.advance clock).sigLead = (p.advance clock).sigTrail ∧
      (p.advance clock).head = p.head ∧ (p.advance clock).lead = p.lead ∧
      (p.advance clock).shims.all (fun x => decide (x.give = x.lead)) = true := by
  have key : ∀ (xs : List Shim) (q : Pair), xs.all (fun x => decide (x.give = x.lead)) = true → q.sigLead = q.sigTrail →
      (xs.foldl Pair.compare q).bitwise = q.bitwise ∧ (xs.foldl Pair.compare q).signature = q.signature ∧
        (xs.foldl Pair.compare q).shims = q.shims ∧ (xs.foldl Pair.compare q).sigLead = (xs.foldl Pair.compare q).sigTrail ∧
        (xs.foldl Pair.compare q).head = q.head ∧ (xs.foldl Pair.compare q).lead = q.lead := by
    intro xs
    induction xs with
    | nil => intro q _ hq; exact ⟨rfl, rfl, rfl, hq, rfl, rfl⟩
    | cons x xs ih =>
      intro q h hq
      simp only [List.all_cons, Bool.and_eq_true, decide_eq_true_eq] at h
      obtain ⟨a, b, c, d, e, f⟩ := compare_equal q x h.1 hq
      obtain ⟨a', b', c', d', e', f'⟩ := ih (q.compare x) h.2 d
      exact ⟨a'.trans a, b'.trans b, c'.trans c, d', e'.trans e, f'.trans f⟩
  unfold Pair.advance
  have hf : ∀ (g : Shim → Bool), (p.shims.filter g).all (fun x => decide (x.give = x.lead)) = true := by
    intro g
    simp only [List.all_eq_true] at ha ⊢
    intro x hx; exact ha x (List.mem_of_mem_filter hx)
  obtain ⟨a, b, c, d, e, f⟩ := key _ { p with shims := p.shims.filter (fun x => decide (clock < x.clock + 2)) } (hf _) hg
  exact ⟨a.trans hb, b.trans hs, d, e, f, by rw [c]; exact hf _⟩

/-- Outputs that agree pair up with themselves. -/
theorem pairUp_same (l : List (BitVec 128)) : pairUp l l = l.map (fun w => (w, w)) := by
  induction l with
  | nil => rfl
  | cons a l ih => simp [pairUp, ih]

/-- With agreeing cores an instruction changes nothing through its trailing core but the pair itself. -/
theorem lockstep_agrees (s : State) (e : EngineId) (a : Exec) (ins : Bytes) (core : Engine) (out : List (BitVec 128)) (h : s.coresAgree e = true) :
    lockstep s e a ins core core (pairUp out out) = s ∨ ∃ p : Pair, p.bitwise = false ∧ p.signature = false ∧ p.head = p.lead ∧
      p.sigLead = p.sigTrail ∧ p.shims.all (fun x => decide (x.give = x.lead)) = true ∧
      lockstep s e a ins core core (pairUp out out) = s.modLane e.lane (fun ln => { ln with pairs := Store.insert ln.pairs e.slot p }) := by
  unfold lockstep
  split
  · exact Or.inl rfl
  · unfold State.coresAgree at h
    simp only [Bool.and_eq_true, Bool.not_eq_true', decide_eq_true_eq] at h
    obtain ⟨⟨⟨⟨hb, hs⟩, _⟩, hg⟩, ha⟩ := h
    have hx : (shimsOf a ins core core (pairUp out out)).all (fun x => decide (x.give = x.lead)) = true := by
      unfold shimsOf; simp [pairUp_same, List.all_map, Function.comp_def]
    obtain ⟨b1, b2, b3, b4, b5, b6⟩ := advance_agrees
      { (s.lane e.lane).pair e.slot with
        shims := ((s.lane e.lane).pair e.slot).shims ++ shimsOf a ins core core (pairUp out out), head := core, lead := core }
      core.clock hb hs hg (by simp only [List.all_append, ha, hx, Bool.and_self])
    refine Or.inr ⟨_, b1, b2, b4.trans b5.symm, b3, b6, ?_⟩
    simp [b1, b2]

end Sys2Proof.Machine
end

