-- ==== Sys2Proof/Tests/Slice0.lean ====
section
/-! SUPPORT. Tests: ill-formed commands are refused by the form check, words of the manual decode, single steps on small states, and for every
statement with hypotheses states and operands that meet them. Expected values are worked out from the rules named in the comments. -/

namespace Sys2Proof.Tests

set_option Elab.async false

open Sys2Proof Sys2Proof.Machine

/-! ## Small states -/

/-- A ring schedule with no slots. -/
def ring0 : RingSched :=
  { order := [4, 5], links := [(500, 500), (250, 250)], relays := [], tRound := 1000000, nR := 1, slots := [], syncs := [], identity := 9,
    digest := 0 }

/-- A container with no tasks: T_base 1 ms, C_k at whole milliseconds, V at 900 µs, O at 40 µs. -/
def conf0 : Container :=
  { formOk := true, revision := 1, variantC := false, level := 0, nodeId := 4, version := 1, identity := 7,
    signed := { keyId := 0, r := 0, s := 0, digest := 0 }, tBase := 1000000, phi := 0, sOff := -15000, vOff := 900000, oOff := 40000, pGlue := 10,
    bIn := 0, bOut := 0, qExt := 0, ringIdent := 9, splits := Tri.all [], tasks := [], orders := [], programs := [], groups := [], symbols := [],
    links := [], lcv := Tri.all [some 0, none], fields := [], doMap := [], pulse := [], params := [], cut := [], ring := ring0, flows := [],
    telegrams := [], minSpeed := [3, 3], canRx := [], canTx := [], stations := [], cvus := [], windows := [], chains := [], safety := [],
    triggersOpen := [] }

/-- One voted task on engine 0, with 64 bytes of L, 8 fenced bytes of M at 64, 64 fenced bytes of S at 0, and ring flow 12 to publish. -/
def task0 : Task :=
  { ctx := 0, id := 0, scope := 0, kind := .cyclic 1 0, group := 0, entry := 0, lBase := 0, lLen := 64,
    fences := [{ area := 2, base := 64, len := 8 }, { area := 4, base := 0, len := 64 }], pubs := [{ kind := 0, id := 12 }], sheddable := false }

/-- A container with that task. -/
def conf1 : Container :=
  { conf0 with tasks := [task0], orders := [{ lanes := 0, slot := 0, list := [.task 0] }],
               programs := [{ lanes := 0, slot := 0, words := [0x68000200, 0xD8000000], routines := [(0, 2)] }] }

/-- A module under power at start-up step `n`, nothing admitted. -/
def atStep (n : Nat) : State := { State.reset with power := { State.reset.power with step := n, domains := 8191 } }

/-- A module in RUN with three active lanes that hold a container, both ring links up. -/
def running (c : Container) : State :=
  { atStep 8 with mode := .run2oo3, cfg := { State.reset.cfg with inForce := some c }, lanes := Tri.all { Lane.blank with container := some c }
                  ring := { State.reset.ring with east := { RingPortState.down with link := 1 }, west := { RingPortState.down with link := 1 } } }

/-- Engine 0 of lane A, in the task of `conf1`, at instruction 0. -/
def e0 : EngineId := { lane := .a, num := 0, half := false }

/-- The engine at work. -/
def en0 : Engine := { Engine.blank with phase := .running, ctx := some 0 }

/-- RUN with the engine `en` as engine 0 of lane A. -/
def withEngine (en : Engine) : State :=
  (running conf1).modLane .a (fun ln => { ln.setEngine 0 en with istore := [(0, [(0, 0x68000200), (1, 0xD8000000)])] })

/-- The host as a sender. -/
def host : Sender := { path := .host, carrier := 0, ip := 0, udpPort := 0, client := 1, txn := 1 }

/-! ## Form of the commands -/

theorem test_wf_jump : (Instr.jmp e0 0).wf = false ∧ (Instr.jmp e0 1).wf = true := by decide
theorem test_wf_loop : (Instr.loop e0 0 0 1).wf = false ∧ (Instr.loop e0 0 1 1).wf = true := by decide
theorem test_wf_timer : (Instr.ton e0 false 1).wf = false ∧ (Instr.ton e0 false 2).wf = true := by decide
theorem test_wf_pub : (Instr.pubTelegram e0 .e0 256).wf = false ∧ (Instr.pubTelegram e0 .e0 255).wf = true := by decide
theorem test_wf_entry_number : (Instr.ringTransmitSlot 16384).wf = false ∧ (Instr.ringTransmitSlot 16383).wf = true := by decide
theorem test_wf_own_vector : (Instr.forwardedVector .a .a []).wf = false ∧ (Instr.forwardedVector .a .b []).wf = true := by decide
theorem test_wf_own_alarm : (Instr.sectionAlarm .b .b).wf = false ∧ (Instr.sectionAlarm .b .a).wf = true := by decide
theorem test_wf_client : (Instr.admitOnly { host with client := 256 }).wf = false ∧ (Instr.admitOnly host).wf = true := by decide
theorem test_wf_transaction : (Instr.admitOnly { host with txn := 65536 }).wf = false := by decide
theorem test_wf_sdo_channel : (Instr.admitOnly { host with path := .can, carrier := 8 }).wf = false := by decide
theorem test_wf_ecn_port : (Instr.admitOnly { host with path := .ecn, carrier := 2 }).wf = false := by decide
theorem test_wf_address : (Instr.arpEntryExpiry .e0 (2 ^ 32)).wf = false ∧ (Instr.arpEntryExpiry .e0 1).wf = true := by decide
theorem test_wf_mac : (Instr.arpReply .e0 1 (2 ^ 48)).wf = false ∧ (Instr.arpReply .e0 1 1).wf = true := by decide
theorem test_wf_arp_addresses : (Instr.arpRequest .e0 1 (2 ^ 32)).wf = false ∧ (Instr.icmpEchoRequest .e0 1 2).wf = true := by decide
theorem test_wf_index : (Instr.registerWrite host 65536 0 []).wf = false ∧ (Instr.registerWrite host 65535 255 []).wf = true := by decide
theorem test_wf_subindex : (Instr.registerWrite host 0 256 []).wf = false := by decide
theorem test_wf_segment : (Instr.domainWriteSegment host 0x9000 1 0 false (List.replicate 1025 0)).wf = false ∧
    (Instr.domainWriteSegment host 0x9000 1 0 false [0]).wf = true := by decide +kernel
theorem test_wf_offset : (Instr.recordBlock host (2 ^ 32)).wf = false ∧ (Instr.domainReadSegment host 0x7010 3 0).wf = true := by decide
theorem test_wf_udp_port : (Instr.dictionaryDatagram host 65536 []).wf = false ∧ (Instr.dictionaryDatagram host 65535 []).wf = true := by decide
theorem test_wf_expedited : (Instr.sdoInitiate 0 false 1 0 (some [])).wf = false ∧ (Instr.sdoInitiate 0 false 1 0 (some [1])).wf = true := by decide
theorem test_wf_sdo_segment : (Instr.sdoSegment 0 (List.replicate 890 0) true).wf = false := by decide +kernel
theorem test_wf_node : (Instr.nmtStart .c0 128).wf = false ∧ (Instr.nmtStart .c0 127).wf = true := by decide
theorem test_wf_client_number : (Instr.bindingExpiry 256).wf = false ∧ (Instr.historyExpiry 255 65536).wf = false := by decide
theorem test_wf_carry : (Instr.carryPiece .a (List.replicate 4097 0)).wf = false ∧ (Instr.carryPiece .a [1]).wf = true := by decide +kernel
theorem test_wf_block : (Instr.stateTransferBlock .a 1281 [] 0 0).wf = false ∧ (Instr.stateTransferBlock .a 1280 [] 0 0).wf = true := by decide

/-! ## Words written out from Tables 05-1 to 05-9 -/

/-- Format B: OP 16#0A STN, AREA 1, OFS 16#155, BIT 6. -/
theorem test_decode_bit : decodeWord e0 0b00101000100000000000101010101110 = some (.stn e0 { area := .q, ofs := 0x155, bit := 6 }) := by decide

/-- Format B: OP 16#0E OR(, AREA 2, OFS 4, BIT 0. -/
theorem test_decode_bracket : decodeWord e0 0b00111001000000000000000000100000 = some (.orBracket e0 { area := .m, ofs := 4, bit := 0 }) := by decide

/-- Format N: OP 16#12, FN 1. -/
theorem test_decode_close : decodeWord e0 0b01001000010000000000000000000000 = some (.bracketClose e0) := by decide

/-- Format B: OP 16#10 EDGR, AREA 4, OFS 16#77, BIT 2 (05 R141). -/
theorem test_decode_edge : decodeWord e0 0b01000010000000000000001110111010 = some (.edgr e0 0x77 1) := by decide

/-- Format W: OP 16#20 ST16, AREA 2, IDX 2#10 (X2), REG 1, OFS 16#40. -/
theorem test_decode_word : decodeWord e0 0b10000001010100000000000001000000 = some (.st16 e0 { area := .m, idx := 2, ofs := 0x40 } .wb) := by decide

/-- Format A: OP 16#24, FN 8 DIV, WID 2#01, DST 0, SRC 1 (WB). -/
theorem test_decode_int : decodeWord e0 0b10010010000100010000000000000000 = some (.intDiv e0 .w16 .wa (.acc .wb)) := by decide

/-- Format A: OP 16#25, FN 0 ADD, WID 2#11, DST 1, SRC 2#110 (IMM). -/
theorem test_decode_uint : decodeWord e0 0b10010100001111101111111111111111 = some (.uintAdd e0 .w64 .wb (.imm 0xFFFF)) := by decide

/-- Format A: OP 16#26, FN 6 SAR, WID 2#00, SRC 2#010 (X0). -/
theorem test_decode_logic : decodeWord e0 0b10011001100000100000000000000000 = some (.sar e0 .w8 .wa (.x 0)) := by decide

/-- Format A: OP 16#28 CMPU, FN 5 GE, SRC 2#111 (K constant 3). -/
theorem test_decode_compare : decodeWord e0 0b10100001011001110000000000000011 = some (.cmpuGe e0 .w32 .wa (.k 3)) := by decide

/-- Format A: OP 16#29, FN 3 DIV, WID 2#11. -/
theorem test_decode_real : decodeWord e0 0b10100100111100010000000000000000 = some (.realDiv e0 .f64 .wa (.acc .wb)) := by decide

/-- R147: WID 2#01 of REAL is an undefined encoding. -/
theorem test_decode_real_width : decodeWord e0 0b10100100110100010000000000000000 = none := by decide

/-- Format A: OP 16#2B, FN 12 SNARROW, WID 2#00, DST 1. -/
theorem test_decode_conv : decodeWord e0 0b10101111000010000000000000000000 = some (.snarrow e0 .w8 .wb (.acc .wa)) := by decide

/-- Format A: OP 16#2C, FN 1 SWAP. -/
theorem test_decode_move : decodeWord e0 0b10110000010000000000000000000000 = some (.swap e0) := by decide

/-- Format X: OP 16#2D, FN 1 XADD, XN 3, IMM 16#8000. -/
theorem test_decode_index : decodeWord e0 0b10110100011100001000000000000000 = some (.xadd e0 3 0x8000) := by decide

/-- Format C: OP 16#2E, FN 0 CRCI, UNIT 1, POLY 4. -/
theorem test_decode_crc : decodeWord e0 0b10111000001001000000000000000000 = some (.crci e0 1 4) := by decide

/-- Table 05-9: POLY 5 names no polynomial. -/
theorem test_decode_crc_poly : decodeWord e0 0b10111000001001010000000000000000 = none := by decide

/-- Format P: OP 16#2F, KIND 2, ID 9. -/
theorem test_decode_pub : decodeWord e0 0b10111110000000000000000000001001 = some (.pubTelegram e0 .e1 9) := by decide

/-- Format J: OP 16#32 JMPCN, TGT 16#1234. -/
theorem test_decode_jump : decodeWord e0 0b11001000000000000001001000110100 = some (.jmpcn e0 0x1234) := by decide

/-- Format L: OP 16#37, XN 2, LEN 5, MAX 100. -/
theorem test_decode_loop : decodeWord e0 0b11011110000000010100000001100100 = some (.loop e0 2 5 100) := by decide

/-- Format T: OP 16#3B TONM, WALL 1, INST 6. -/
theorem test_decode_timer : decodeWord e0 0b11101110000000000000000000000110 = some (.tonm e0 true 6) := by decide

/-- Format T: OP 16#3E CTUD, INST 7. -/
theorem test_decode_counter : decodeWord e0 0b11111000000000000000000000000111 = some (.ctud e0 7) := by decide

/-- R135: the all-zero word is an undefined encoding. -/
theorem test_decode_all_zero : decodeWord e0 0 = none := by decide

/-- 05 R161, first word of its example. -/
theorem test_decode_manual_first : decodeWord e0 0x68000200 = some (.ld32 e0 { area := .i, idx := 0, ofs := 0x200 } .wa) := by decide

/-- R133: a ZERO field that is not zero. -/
theorem test_decode_zero_field : decodeWord e0 0b01001000010000000000000000000001 = none := by decide

/-- No row of the opcode table gives bits: no command is spelt by a word of the table. -/
theorem test_table_words : decodeTableWord 32 0x68000200 = none := by decide

/-! ## Single steps of an engine -/

/-- What a step leaves in engine 0 of lane A. -/
def after (i : Instr) (en : Engine) : Option Engine :=
  match exec i (withEngine en) with
  | .next t => some (t.engineOf e0)
  | _ => none

/-- 05 Table 05-4: 16#FFFFFFFF + 1 at 32 bits is 0 with carry and no signed overflow. -/
theorem test_uint_add_wraps : (after (.intAdd e0 .w32 .wa (.imm 1)) { en0 with wa := 0xFFFFFFFF }).map
    (fun en => (en.wa, en.z, en.n, en.c, en.v, en.pc)) = some (0, true, false, true, false, 1) := by decide +kernel

/-- 05 Table 05-4: the greatest positive value + 1 overflows; 7FH + 1 at 8 bits, sign-extended. -/
theorem test_int_add_overflows : (after (.intAdd e0 .w8 .wa (.imm 1)) { en0 with wa := 0x7F }).map
    (fun en => (en.wa, en.z, en.n, en.c, en.v)) = some (0xFFFFFFFFFFFFFF80, false, true, false, true) := by decide +kernel

/-- 05 R144: −7 DIV 2 is −3, truncated toward zero, in 34 clocks. -/
theorem test_int_div_truncates : (after (.intDiv e0 .w16 .wa (.imm 2)) { en0 with wa := 0xFFF9 }).map
    (fun en => (en.wa, en.v, en.clock)) = some (0xFFFFFFFFFFFFFFFD, false, 34) := by decide +kernel

/-- 05 R144: division by zero delivers 0 with V. -/
theorem test_uint_div_by_zero : (after (.uintDiv e0 .w16 .wa (.imm 0)) { en0 with wa := 5 }).map
    (fun en => (en.wa, en.v, en.z)) = some (0, true, true) := by decide +kernel

/-- 05 Table 05-5: SAR by the width or more fills with the sign; the amount is S mod 64. -/
theorem test_sar_beyond_width : (after (.sar e0 .w8 .wa (.imm 9)) { en0 with wa := 0x80 }).map (fun en => (en.wa, en.n)) = some (0xFF, true) := by
  decide +kernel

/-- 05 R146: CMPS reads −1 < 0, CMPU does not. -/
theorem test_compare_signs : (after (.cmpsLt e0 .w8 .wa (.imm 0)) { en0 with wa := 0xFF }).map (fun en => en.ba) = some true ∧
    (after (.cmpuLt e0 .w8 .wa (.imm 0)) { en0 with wa := 0xFF, ba := true }).map (fun en => en.ba) = some false := by decide +kernel

/-- 05 R147: 1.0 + 1.0 = 2.0 in binary32. -/
theorem test_real_add : (after (.realAdd e0 .f32 .wa (.acc .wb)) { en0 with wa := 0x3F800000, wb := 0x3F800000 }).map
    (fun en => (en.wa, en.z, en.n, en.v, en.c)) = some (0x40000000, false, false, false, false) := by decide +kernel

/-- 05 R149: a NaN is unequal to itself and not equal. -/
theorem test_cmpr_nan : (after (.cmprNe e0 .f32 .wa (.acc .wa)) { en0 with wa := 0x7FC00000 }).map (fun en => en.ba) = some true ∧
    (after (.cmprGe e0 .f32 .wa (.acc .wa)) { en0 with wa := 0x7FC00000 }).map (fun en => en.ba) = some false := by decide +kernel

/-- 05 R150: 2.5 rounds to 2, ties to even, and truncates to 2. -/
theorem test_f32_to_int : (after (.f32toi e0 .w16 .wa (.acc .wb)) { en0 with wb := 0x40200000 }).map (fun en => en.wa) = some 2 ∧
    (after (.f32trunc e0 .w16 .wa (.acc .wb)) { en0 with wb := 0xC0200000 }).map (fun en => en.wa) = some 0xFFFFFFFFFFFFFFFE := by decide +kernel

/-- 05 R142, 04 R122: a store inside the fence is least significant byte first; one outside latches fault 16 and stores nothing. -/
theorem test_store_and_fence :
    (match exec (.st16 e0 { area := .m, idx := 0, ofs := 66 } .wa) (withEngine { en0 with wa := 0x1234 }) with
      | .next t => (t.byteAt .a .m 0 66, t.byteAt .a .m 0 67) | _ => (0, 0)) = (0x34, 0x12) ∧
    (match exec (.st16 e0 { area := .m, idx := 0, ofs := 62 } .wa) (withEngine { en0 with wa := 0x1234 }) with
      | .next t => (t.byteAt .a .m 0 62, (t.lane .a).ctxs.map (fun p => p.2.first)) | _ => (1, [])) = (0, [16]) := by decide +kernel

/-- 05 R142, R138: a misaligned load delivers 0. -/
theorem test_load_misaligned : (after (.ld32 e0 { area := .m, idx := 0, ofs := 2 } .wa) { en0 with wa := 9 }).map (fun en => (en.wa, en.pc)) =
    some (0, 1) := by decide +kernel

/-- 05 R154: LOOP runs MIN(Xn, MAX) times and starts Xn at 0. -/
theorem test_loop_begins : (after (.loop e0 1 3 10) { en0 with x1 := 4 }).map (fun en => (en.x1, en.loops.map (fun f => f.iters), en.clock)) =
    some (0, [4], 4) := by decide +kernel

/-- 05 R153: CAL pushes PC + 1, RET takes it back. -/
theorem test_call_and_return : (after (.cal e0 0x20) { en0 with pc := 5 }).map (fun en => (en.pc, en.calls)) = some (0x20, [6]) ∧
    (after (.ret e0) { en0 with pc := 0x20, calls := [6] }).map (fun en => (en.pc, en.calls, en.clock)) = some (6, [], 3) := by decide +kernel

/-- 05 R140: ninth push is a sequence fault that stops the engine. -/
theorem test_bracket_overflow : (after (.andBracket e0 { area := .m, ofs := 0, bit := 0 })
    { en0 with brackets := List.replicate 8 (true, .and) }).map (fun en => en.phase) = some .stopped := by decide +kernel

/-- 05 R157: TON with a preset of 0 delivers q on the call that starts it, in 6 clocks when the store is free. -/
theorem test_ton_zero : (after (.ton e0 false 0) { en0 with ba := true, wa := 0 }).map (fun en => (en.ba, en.wb, en.clock)) =
    some (true, 0, 6) := by decide +kernel

/-- 05 R158: CTU counts a rising edge. -/
theorem test_ctu_counts : (after (.ctu e0 0) { en0 with ba := true, wa := 1 }).map (fun en => (en.ba, en.wb)) = some (true, 1) := by decide +kernel

/-- 11 Table 11-6: CRC-32 of the nine digits by bytes, after CRCI. -/
theorem test_crc_feed : crcFinish 2 (crcFeed 2 (crcParams 2).init [0x31, 0x32, 0x33, 0x34, 0x35, 0x36, 0x37, 0x38, 0x39]) = 0xCBF43926 := by
  decide +kernel

/-- FIPS 180-4 example: the SHA-256 digest of "abc". -/
theorem test_sha256 : sha256 [0x61, 0x62, 0x63] = 0xBA7816BF8F01CFEA414140DE5DAE2223B00361A396177A9CB410FF61F20015AD := by decide +kernel

/-- 05 R160: PUB of an assigned flow marks it; of another one it raises fault 19. -/
theorem test_pub : (match exec (.pubFlow e0 12) (withEngine en0) with | .next t => (t.lane .a).pubs | _ => []) = [(0, 12)] ∧
    (match exec (.pubFlow e0 13) (withEngine en0) with | .next t => (t.lane .a).ctxs.map (fun p => p.2.first) | _ => []) = [19] := by decide +kernel

/-! ## States and operands that meet the hypotheses of the statements about engines -/

/-- An engine that executes with an instruction after its own. -/
theorem witness_steady : (withEngine en0).steady e0 = true ∧ (withEngine en0).executes e0 = true ∧
    (withEngine { en0 with pc := 65534 }).steady e0 = true ∧ (withEngine { en0 with pc := 65535 }).steady e0 = false := by decide +kernel

theorem witness_idle_step : (withEngine en0).pending = [] ∧ (withEngine en0).running = some e0 ∧ State.reset.running = none ∧
    State.reset.pending = [] := by decide +kernel

/-- Every class of undefined encoding has a word. -/
theorem witness_undefined : (0 < 2 ^ 32 ∧ 0 / 2 ^ 26 ∈ [0x00, 0x13]) ∧ (0xFFFFFFFF / 2 ^ 26 = 0x3F) ∧ (0xC0000000 / 2 ^ 26 = 0x30 ∧ 0xC0000000 % 2 ^ 16 = 0) ∧
    (0xDC000001 / 2 ^ 26 = 0x37 ∧ 0xDC000001 / 2 ^ 14 % 2 ^ 10 = 0) ∧ (0xE0000001 / 2 ^ 26 = 0x38 ∧ 0xE0000001 % 2 = 1) ∧
    (0xF2000000 / 2 ^ 26 = 0x3C ∧ 0xF2000000 / 2 ^ 25 % 2 = 1) ∧ (0xBF000000 / 2 ^ 26 = 0x2F ∧ 0xBF000000 / 2 ^ 24 % 4 = 3) := by decide

/-- A well-formed instruction of an engine has a word, at the ends of its fields. -/
theorem witness_encode : (Instr.st64 e0 { area := .res, idx := 3, ofs := 0xFFFFF } .wb).wf = true ∧
    encodeSerzel (.st64 e0 { area := .res, idx := 3, ofs := 0xFFFFF } .wb) = some 0x8BFFFFFF ∧
    encodeSerzel (.jmp e0 1) = some 0xC0000001 := by decide

theorem witness_brackets : (withEngine { en0 with brackets := List.replicate 7 (true, .or) }).steady e0 = true ∧
    ((withEngine { en0 with brackets := List.replicate 7 (true, .or) }).engineOf e0).brackets.length < 8 ∧
    8 ≤ ((withEngine { en0 with brackets := List.replicate 8 (true, .or) }).engineOf e0).brackets.length ∧
    (withEngine { en0 with brackets := List.replicate 8 (true, .or) }).steady e0 = true ∧
    ((withEngine { en0 with brackets := [(false, .xor)] }).engineOf e0).brackets = [(false, .xor)] ∧
    ((withEngine en0).engineOf e0).brackets = [] := by decide +kernel

/-- A canonical memory, a fenced store and its address, on an engine whose cores agree. -/
theorem witness_stores : (withEngine en0).memoryWf = true ∧ (withEngine en0).coresAgree e0 = true ∧
    ((Exec.start (withEngine en0) e0).storeFault .m 64 8 = 0) ∧ ((Exec.start (withEngine en0) e0).storeFault .l 56 8 = 0) ∧
    (match exec (.st64 e0 { area := .m, idx := 0, ofs := 64 } .wa) (withEngine en0) with | .next t => t.memoryWf | _ => false) = true := by
  decide +kernel

theorem witness_register_instructions : (match exec (.intAdd e0 .w8 .wa (.imm 1)) (withEngine en0) with | .next _ => true | _ => false) = true ∧
    (match exec (.bLd e0 { area := .i, ofs := 0, bit := 0 }) (withEngine en0) with | .next _ => true | _ => false) = true := by decide +kernel

/-- The ends of the ranges of a division and of an addition. -/
theorem witness_integer_corners : (-(2 ^ (Wid.w8.bits - 1) : Int) ≤ -128 ∧ (-128 : Int) < 2 ^ (Wid.w8.bits - 1)) ∧ (127 : Int) < 2 ^ (Wid.w8.bits - 1) ∧
    ((-1 : Int) ≠ 0 ∧ ¬ ((127 : Int) = -(2 ^ (Wid.w8.bits - 1) : Int) ∧ (-1 : Int) = -1)) ∧ 255 < 2 ^ Wid.w8.bits := by decide

/-- A NaN operand, and two ordered ones. -/
theorem witness_real_compare : f32.isNan 0x7FC00000 = true ∧ (f32.cmp 0x3F800000 0x40000000).isSome = true := by decide +kernel

/-- A loop frame. -/
def frame (n : Fin 4) (iter iters : Nat) : LoopFrame := { first := 1, past := 5, iters := iters, iter := iter, xn := n, depth := 0 }

theorem witness_jumps :
    (withEngine en0).executes e0 = true ∧ (Exec.start (withEngine en0) e0).routine = (0, 2) ∧ (Exec.start (withEngine en0) e0).body = none ∧
    (0 + 1 < 0 + 2 ∧ 0 + 2 ≤ 0 + 65535) ∧
    (withEngine { en0 with loops := [frame 0 0 2], pc := 1 }).executes e0 = true ∧
    (Exec.start (withEngine { en0 with loops := [frame 0 0 2], pc := 1 }) e0).body = some (frame 0 0 2) ∧ 1 + 4 ≤ (frame 0 0 2).past ∧
    ¬ (1 + 5 ≤ (frame 0 0 2).past) ∧ ((withEngine { en0 with ba := true }).engineOf e0).ba = true ∧ ((withEngine en0).engineOf e0).ba = false ∧
    ((withEngine { en0 with calls := [9] }).engineOf e0).calls = [9] ∧ (Exec.start (withEngine { en0 with calls := [9] }) e0).body = none ∧
    ((withEngine en0).engineOf e0).calls = [] ∧ ((withEngine en0).engineOf e0).brackets = [] ∧
    ((withEngine { en0 with brackets := [(true, .and)] }).engineOf e0).brackets ≠ [] ∧
    8 ≤ ((withEngine { en0 with calls := List.replicate 8 9 }).engineOf e0).calls.length ∧
    (en0.settled 1 1).pc < (Exec.start (withEngine en0) e0).codeSize ∧
    ¬ ((({ en0 with pc := 65535 } : Engine).settled 65536 1).pc < (Exec.start (withEngine { en0 with pc := 65535 }) e0).codeSize) := by decide +kernel

theorem witness_loops :
    4 ≤ ((withEngine { en0 with loops := List.replicate 4 (frame 0 0 2) }).engineOf e0).loops.length ∧
    (withEngine { en0 with loops := List.replicate 4 (frame 0 0 2) }).executes e0 = true ∧
    (∃ f ∈ ((withEngine { en0 with loops := [frame 1 0 2] }).engineOf e0).loops, f.xn = 1) ∧
    (((withEngine en0).engineOf e0).loops.length < 4 ∧ ∀ f ∈ ((withEngine en0).engineOf e0).loops, f.xn ≠ 1) ∧
    Nat.min (({ en0 with x1 := 1 } : Engine).xreg 1).toNat 1 ≠ 0 ∧ Nat.min ((en0.xreg 1)).toNat 1 = 0 ∧
    (frame 1 0 2).iter + 1 < (frame 1 0 2).iters ∧ (frame 1 1 2).iters ≤ (frame 1 1 2).iter + 1 ∧
    ({ en0 with pc := 5, loops := [frame 1 1 2] } : Engine).pc = (frame 1 1 2).past ∧
    ({ en0 with pc := 5, loops := [frame 1 1 2] } : Engine).loops = frame 1 1 2 :: [] ∧
    (frame 1 1 2).depth = ({ en0 with pc := 5, loops := [frame 1 1 2] } : Engine).calls.length := by decide +kernel

/-- A stopped, a started and a running TON. -/
theorem witness_timers : (0 : Fin 131072).val % 2 = 0 ∧ (timerOf []).tStart ≤ 5 ∧ (timerOf []).inPrev = false ∧
    (((timerOf []).call .ton true 5 7).inPrev = true ∧ ((timerOf []).call .ton true 5 7).run = true ∧
      ((timerOf []).call .ton true 5 7).q = false ∧ ((timerOf []).call .ton true 5 7).tStart ≤ 6) := by decide +kernel

theorem witness_isolation : decodeWord e0 0x68000200 = some (.ld32 e0 { area := .i, idx := 0, ofs := 0x200 } .wa) ∧
    (match exec (.ld32 e0 { area := .i, idx := 0, ofs := 0x200 } .wa) (withEngine en0) with | .next _ => true | _ => false) = true ∧
    State.reset.executes e0 = false := by decide +kernel

/-- A pair of shim registers with equal words, and one with different words. -/
def shim (x : BitVec 128) : Shim := { clock := 0, word := 0, loads := [], grant := 0, poll := [], core := en0, give := 7, lead := x }

theorem witness_comparators : (shim 7).lead = (shim 7).give ∧ (shim 8).lead ≠ (shim 8).give ∧ Pair.blank.signature = false ∧
    (Pair.blank.compare (shim 8)).bitwise = true ∧ (withEngine en0).coresAgree e0 = true ∧ (withEngine en0).memoryWf = true := by decide +kernel

/-! ## The cycle, the votes and the time base -/

/-- RUN with the field die operating and its sections alive. -/
def fieldUp (s : State) : State :=
  { s with field := { s.field with operating := true, sec := s.field.sec.map (fun x => { x with alive := true }) } }

/-- RUN on `conf1` with the field die operating. -/
def run : State := fieldUp (running conf1)

/-- That state as of cycle 5, begun at 5 ms. -/
def cycle5 : State := { run with vote := { run.vote with k := some 5, cK := 5000000 }, time := { run.time with now := 5000000 } }

/-- A cutting-list entry 0 with its check value, or a wrong one. -/
def entry0 (act tgt len w2 : Nat) (ok : Bool) : CutEntry :=
  let e : CutEntry := { w0 := 1000, w1 := act + 16 * tgt + 65536 * len, w2 := w2, w3 := 0 }
  { e with w3 := cutCheck e 0 + (if ok then 0 else 1) }

/-- A running module whose cutting list holds one entry. -/
def withCut (e : CutEntry) : State := fieldUp (running { conf1 with cut := [e] })

theorem witness_samples : run.config = some conf1 ∧ run.runs .a = true ∧ (run.sec .a).alive = true ∧ run.field.operating = true ∧
    run.firedEarly (.sample .a) = false ∧ run.badAt 2 (run.sampleAt .a) = false ∧ (run.crossing (7 * LaneId.num .a + 5)).open_ = true ∧
    (run.crossing (7 * LaneId.num .c + 5)).open_ = true := by decide +kernel

theorem witness_conversions : run.converts .a = true ∧ run.converts .c = true ∧ (run.crossing 5).open_ = true ∧
    (∀ tgt ∈ [8, 11], (withCut (entry0 3 tgt 0 0 true)).cut 0 = some (entry0 3 tgt 0 0 true) ∧ CutEntry.act (entry0 3 tgt 0 0 true) = 3 ∧
      (entry0 3 tgt 0 0 true).w3 = cutCheck (entry0 3 tgt 0 0 true) 0 ∧ (withCut (entry0 3 tgt 0 0 true)).firedEarly (.conv .a 0) = false ∧
      8 ≤ CutEntry.tgt (entry0 3 tgt 0 0 true)) ∧
    CutEntry.tgt (entry0 3 7 0 0 true) = 7 ∧ ((withCut (entry0 3 7 0 0 true)).modLane .a (fun ln => ln.rset 0x5200 8 1)).aiMode .a 7 ≠ 0 ∧
    ((run.modSec .a (fun x => { x with converting := [1000, 2003] })).sec .a).converting.contains 1000 = true ∧
    (((withCut (entry0 3 7 0 0 true)).modSec .a (fun x => { x with converting := [2000] })).sec .a).converting.contains (2000 + 0) = true ∧
    ((run.modSec .a (fun x => { x with converting := [1011] })).sec .a).converting.contains (1008 + 3) = true := by decide +kernel

/-- Codes inside the range and at its end. -/
theorem witness_codes : (aiCode 1 1000 < 32767 ∧ -32768 < aiCode 1 1000) ∧ (aiCode 2 (-1000) < 32767 ∧ -32768 < aiCode 2 (-1000)) ∧
    aiCode 1 100000000 = 32767 := by decide +kernel

theorem witness_recognition : ((run.modLane .a (fun ln => { ln with recog := { ln.recog with uBlock := List.replicate 40 0 } })).lane
      .a).recog.uBlock.length = 40 ∧ ((run.modLane .a (fun ln => ln.rset 0x5310 2 255)).lane .a).rget 0x5310 2 = 255 ∧
    run.firedEarly (.block .a) = false ∧ (run.lane .a).recog.uBlock.length ≠ 40 ∧ run.converts .b = true := by decide +kernel

theorem witness_shunt : 25000 < 25001 ∧ run.field.operating = true ∧
    2 ≤ (run.modLane .a (fun ln => ln.rset 0x5200 1 2)).vget 0x5200 1 ∧ Store.find? [(7, 9)] 7 = some 9 := by decide +kernel

/-- `s` with one entry in its cutting list. -/
def cutting (e : CutEntry) (s : State) : State := { s with cfg := { s.cfg with inForce := s.config.map (fun c => { c with cut := [e] }) } }

/-- A module at step 7 with a container admitted, its first cycle start at `c1`. -/
def atSeven (c1 : Option Nat) : State :=
  { atStep 7 with cfg := run.cfg, lanes := run.lanes, power := { (atStep 7).power with c1 := c1 } }

theorem witness_cycle_start : cycle5.config = some conf1 ∧ cycle5.inRun = true ∧ cycle5.inStep 7 = false ∧ cycle5.vote.k = some 5 ∧
    cycle5.firedEarly .cycle = false ∧ cycle5.ready 21 0 ∧ cycle5.badAt 1 (nextC cycle5 conf1) = false ∧
    (advanceTo cycle5 (nextC cycle5 conf1)).vote.limpNs ≠ some 0 ∧
    (rejoinStep (transferStep (beforeBatch (advanceTo (cycle5.evented 21 0) (nextC cycle5 conf1)) (nextC cycle5 conf1)) 6)).inRun = true ∧
    (cutting { entry0 1 0 0 0 false with w0 := 0 } cycle5).badAt 1 (nextC cycle5 conf1) = true ∧
    (atSeven none).inStep 7 = true ∧ (atSeven none).config = some conf1 ∧ (atSeven none).ready 21 0 ∧ (atSeven none).power.c1 = none ∧
    (atSeven (some 1000000)).inStep 7 = true ∧ (atSeven (some 1000000)).power.c1 = some 1000000 ∧ (atSeven none).badAt 1 1000000 = false ∧
    (beforeBatch (advanceTo (atSeven none) 1000000) 1000000).config = some conf1 := by
  unfold State.ready; decide +kernel

/-- The empty vector of a container with no fields, and one of the wrong length. -/
def vec0 : Bytes := run.lanes.a.vector .a

theorem witness_vectors : vectorOk conf1 vec0 = true ∧ vectorOk conf1 [] = false ∧ cycle5.config = some conf1 ∧ cycle5.inRun = true ∧
    cycle5.vote.k.isSome = true ∧ (∀ x ∈ [0, 7, 14], cycle5.flows x) ∧ (∀ x ∈ [1, 8, 15], cycle5.flows x) ∧
    ({ cycle5 with vote := { cycle5.vote with hub := Tri.all .awaited } } : State).vote.hub.get .a = .awaited ∧
    outstanding { cycle5 with vote := { cycle5.vote with hub := Tri.all (.accepted vec0) } } = [] ∧
    outstanding { cycle5 with vote := { cycle5.vote with hub := { a := .accepted vec0, b := .awaited, c := .accepted vec0 } } } = [.b] ∧
    ({ cycle5 with vote := { cycle5.vote with hub := Tri.all (.accepted vec0) } } : State).vote.hub.get .b = .accepted vec0 ∧
    ((run.lane .a).vecs.get .b = .awaited ∧ run.runs .a = true) := by unfold State.flows; decide +kernel

theorem witness_engine_start : run.inRun = true ∧
    ((run.modLane .a (fun ln => { ln with exchanged := true })).lane .a).exchanged = true ∧ (run.lane .a).executing = false ∧ run.runs .a = true ∧
    ((withEngine { en0 with phase := .waiting }).engineOf e0).phase = .waiting ∧ (withEngine { en0 with phase := .waiting }).inRun = true ∧
    ((walkEngine ((withEngine en0).modLane .a (fun ln => ln.setEngine 0 { en0 with phase := .running, ctx := none })) .a 0).engineOf e0).phase
      ≠ .waiting := by decide +kernel

/-- A complete submission of 16 bytes, the flags in byte 12. -/
def sub16 (x : Byte) : Bytes := List.replicate 12 0 ++ [1, x, 0, 0]

theorem witness_submissions : removed 16 (some { data := sub16 1, sigma := crc64 (sub16 1) }) = false ∧
    removed 16 (some { data := sub16 2, sigma := 5 }) = false ∧ (5 : Nat) ≠ crc64 (sub16 1) ∧ sub16 1 ≠ sub16 2 := by decide +kernel

/-- A cycle in the vote: V_k of cycle 5 taken, three equal submissions. -/
def voted (f : Tri (Option Submission)) (m : Mode) : State :=
  { cycle5 with
    mode := m
    vote := { cycle5.vote with agreed := some 5, kV := some 5, cV := 5000000, voting := true, partsV := LaneId.all, modeV := m, subs := f }
    power := { cycle5.power with domains := 8191 }
    cfg := { cycle5.cfg with inForce := some { conf1 with bOut := 16 } } }

/-- The submission of `sub16 x` with its check value. -/
def good (x : Byte) : Option Submission := some { data := sub16 x, sigma := crc64 (sub16 x) }

/-- What the voters of `voted` find. -/
def verdictOf (s : State) : Verdicts := judge 16 s.vote.partsV (fun l => if s.active l then s.vote.subs.get l else none)

theorem witness_votes : cycle5.vote.kV ≠ cycle5.vote.k ∧ cycle5.vote.k.isSome = true ∧ cycle5.firedEarly .vote = false ∧
    cycle5.badAt 4 (cycle5.vote.cK + conf1.vOff) = false ∧
    ((voted (Tri.all (good 1)) .run2oo3).vote.kV = some 5 ∧ (voted (Tri.all (good 1)) .run2oo3).vote.voting = true ∧
      bitOf (voted (Tri.all (good 1)) .run2oo3).power.domains 7 = true ∧ (voted (Tri.all (good 1)) .run2oo3).domainRuns 3 = true) ∧
    ((verdictOf (voted (Tri.all (good 1)) .run2oo3)).agree = true ∧ (verdictOf (voted (Tri.all (good 1)) .run2oo3)).db = []) ∧
    (verdictOf (voted { a := good 1, b := good 1, c := some { data := sub16 1, sigma := 5 } } .run2oo3)).agree = false ∧
    ((verdictOf (voted { a := good 1, b := none, c := none } .run2oo3)).agree = true ∧
      2 ≤ (verdictOf (voted { a := good 1, b := none, c := none } .run2oo3)).db.length) ∧
    ((verdictOf (voted { a := good 1, b := good 1, c := good 2 } .run2oo3)).agree = true ∧
      (verdictOf (voted { a := good 1, b := good 1, c := good 2 } .run2oo3)).db = [.c]) ∧
    ((verdictOf (voted { a := good 1, b := good 1, c := good 2 } .run2oo2)).db ≠ [] ∧
      (voted { a := good 1, b := good 1, c := good 2 } .run2oo2).vote.modeV = .run2oo2) := by decide +kernel

/-- A cycle whose image is released, its vote taken. -/
def released5 : State := { cycle5 with vote := { cycle5.vote with relK := some cycle5.applyNext.2, kV := some 5 } }

/-- A cycle with its release, and one whose agreed cycle has none. -/
theorem witness_release :
    released5.vote.relK = some released5.applyNext.2 ∧ released5.field.operating = true ∧ released5.badAt 5 released5.applyNext.1 = false ∧
    released5.vote.kV = released5.vote.k ∧ released5.vote.cK + conf1.vOff ≠ released5.applyNext.1 ∧
    nextC (advanceTo released5 released5.applyNext.1) conf1 ≠ released5.applyNext.1 ∧
    ({ released5 with vote := { released5.vote with relK := none, agreedLast := some released5.applyNext.2 } } : State).released
      released5.applyNext.2 = false ∧
    run.active .a = true ∧ (run.sec .a).alive = true ∧ (running conf1).active .b = true ∧ ((running conf1).sec .b).alive = false := by decide +kernel

theorem witness_exclusion : (true || false) = true ∧ run.paired e0 = true ∧ (run.lane .a).hold = false ∧ run.ready (7 * LaneId.num .a + 3) 0 ∧
    run.active .a = true ∧ run.mode = .run2oo3 ∧ (run.lane .a).rget 0x3001 1 = 0 ∧ ({ run with mode := .run2oo2 } : State).active .a = true ∧
    ({ run with mode := .run2oo2, vote := { run.vote with limpNs := some 7 } } : State).vote.limpNs = some 7 := by
  unfold State.ready; decide +kernel

/-- Every section quiet, its supply reported low. -/
def allLow : State :=
  LaneId.all.foldl quietSection (LaneId.all.foldl (fun s l => s.modSec l (fun x => { x with under := true, raw := true, rawLow := some 0 })) run)

/-- A quiet section, one that hears its alarm, and all of them with low reports. -/
theorem witness_quiet : run.field.lost = false ∧ (quietSection run .b).lowReport = false ∧ (LaneId.a ≠ .b) ∧
    ((quietSection run .b).sec .b).alarm = true ∧ (quietSection run .b).field.step ≠ some .a ∧ (quietSection run .b).active .b = true ∧
    (quietSection { run with field := { run.field with step := some .a } } .b).field.step = some .a ∧
    (quietSection allLow .a).field.lost = false ∧ (quietSection allLow .a).lowReport = true ∧ (quietSection allLow .a).allQuiet = true := by decide +kernel

/-- Lane C out of the vote since 1 µs, reintegration automatic. -/
def outC (st : LaneStatus) : State :=
  jset ({ run with mode := .run2oo2, vote := { run.vote with reint := if st = LaneStatus.held then none else some .c, blocksDue := [0, 1280], passEnd := some 9,
                                                             shadowOk := 16 } }.modLane .c
    (fun ln => { ln with status := st, excludedAt := some 1000, time := { ln.time with marks := 17 } })) 0x3006 1 1

theorem witness_reintegration : ((outC .held).lane .c).excludedAt = some 1000 ∧ (outC .held).mode = .run2oo2 ∧
    ((outC .held).lane .c).status = .held ∧ jget (outC .held) 0x3006 1 = 1 ∧ (outC .held).change.state ≠ 6 ∧
    reintBarred (advanceTo (outC .held) (1000 + 100000000)) .c = false ∧
    ((outC .restarting).vote.reint = some .c ∧ ((outC .restarting).lane .c).status = .restarting ∧
      ((outC .restarting).lane .c).container = some conf1 ∧ (outC .restarting).config = some conf1 ∧ (outC .restarting).v2serzel = false ∧
      (outC .restarting).field.operating = true ∧ engineUnits conf1 .c ≠ []) ∧
    (17 ≤ ((outC .held).lane .c).time.marks ∧ (outC .held).vote.reint ≠ some .c) ∧
    ((outC .scribe).vote.reint = some .c ∧ ((outC .scribe).lane .c).status = .scribe) ∧
    ((outC .transferring).vote.blocksDue.contains 1280 = true ∧ ((outC .transferring).lane .c).status = .transferring ∧
      (outC .transferring).flows (7 * LaneId.num .c + 1) ∧ (outC .transferring).vote.passEnd = some 9 ∧ (outC .transferring).vote.blocksDue ≠ [] ∧
      ({ outC .transferring with vote := { (outC .transferring).vote with blocksDue := [] } } : State).vote.blocksDue = []) ∧
    ((outC .shadow).vote.reint = some .c ∧ ((outC .shadow).lane .c).status = .shadow ∧ (outC .shadow).vote.shadowOk = 16 ∧
      (outC .shadow).mode = .run2oo2) ∧
    ((1 : Nat) ≠ 2 ∧ crc32c [1] ≠ 0 ∧ crc32c [] = 0) := by unfold State.flows; decide +kernel

theorem witness_agreement : (0 : Nat) < 65536 ∧ 65535 < 65536 ∧ (15 < 16 ∧ 16 ≤ 16) ∧
    2 ≤ (([3, 3, 4] : List Nat).filter (fun y => decide (y = 3))).length := by decide

/-- Lane A with a locked time. -/
def locked (w : List Mark) (r : Option Nat) : State :=
  run.modLane .a (fun ln => { ln with time := { ln.time with locked := true, lastMark := some 5, window := w, reported := r } })

/-- Seventeen marks 125 µs apart, the lane's crystal `ppm` millionths fast. -/
def marks (ppm : Nat) : List Mark :=
  (List.range 17).map (fun i => { node := 125000 * (16 - i), crystal := (125000 * 1000000 + 125000 * ppm) * (16 - i) * 1000, rate := 0 })

theorem witness_lane_time : ((locked [] none).lane .a).hold = false ∧ ((locked [] none).lane .a).time.lastMark = some 5 ∧
    ((locked [] none).lane .a).time.locked = true ∧ (run.lane .a).time.lastMark = none ∧ run.domainRuns 4 = true ∧
    run.flows (7 * LaneId.num .a + 1) ∧ (locked [] none).ready (7 * LaneId.num .a + 3) 1 ∧
    (17 ≤ ((locked (marks 100) none).lane .a).time.window.length ∧ (rateDeviation (((locked (marks 100) none).lane .a).time.window.take 17)).natAbs ≤ 200000) ∧
    (17 ≤ ((locked (marks 300) none).lane .a).time.window.length ∧ 200000 < (rateDeviation (((locked (marks 300) none).lane .a).time.window.take 17)).natAbs ∧
      (locked (marks 300) none).ready (7 * LaneId.num .a + 3) 2) ∧
    (locked [] (some 9)).reports = [(.a, 9)] ∧
    ((locked [] (some 9)).modLane .b (fun ln => { ln with time := { ln.time with reported := some 4000009 } })).reports =
      [(.a, 9), (.b, 4000009)] := by unfold State.flows State.ready; decide +kernel

/-- A module with a compare set. -/
def armed (dc ec : Compare) : State := { run with time := { run.time with dc := List.replicate 8 dc, ec := [Compare.idle, Compare.idle, Compare.idle, ec] } }

theorem witness_compares :
    (let s := armed Compare.idle { sec := 3, ns := 4, id := 5, close := true, state := 1 }
     s.time.ec[3]? = some { sec := 3, ns := 4, id := 5, close := true, state := 1 } ∧ s.ppsSecond = false ∧ s.firedEarly (.epoch 3) = false ∧
       s.nothingDue 3000000004 8 3) ∧
    (armed Compare.idle { sec := 3, ns := 4, id := 5, close := false, state := 1 }).time.ec[3]? =
      some { sec := 3, ns := 4, id := 5, close := false, state := 1 } ∧
    (let s := jset run 0x4020 1 1
     s.ppsSecond = true ∧ s.firedEarly (.epoch 3) = false ∧ s.nothingDue s.nextSecond 8 3 ∧ s.time.now ≤ s.nextSecond) ∧
    (let s := armed { sec := 0, ns := 9, id := 5, close := true, state := 1 } Compare.idle
     s.time.dc[0]? = some { sec := 0, ns := 9, id := 5, close := true, state := 1 } ∧ s.firedEarly (.direct 0) = false ∧
       s.nothingDue (s.time.now + waitFor s.time.now 9) 0 0) ∧
    (∀ act ∈ [9, 10], (withCut (entry0 act 0 0 0 true)).armed 0 act (entry0 act 0 0 0 true) ∧
      (withCut (entry0 act 0 0 0 false)).cut 0 = some (entry0 act 0 0 0 false) ∧ CutEntry.act (entry0 act 0 0 0 false) = act ∧
      (entry0 act 0 0 0 false).w3 ≠ cutCheck (entry0 act 0 0 0 false) 0 ∧ (withCut (entry0 act 0 0 0 false)).firedEarly (.entry 0) = false) ∧
    run.flows 22 ∧ jget (jset run 0x4020 1 2) 0x4020 1 = 2 ∧ ({ run with time := { run.time with ppsOut := .low } } : State).time.ppsOut ≠ .hiZ ∧
    ({ run with time := { run.time with ppsOut := .high 7 } } : State).time.ppsOut = .high 7 := by
  unfold State.flows State.armed State.nothingDue; decide +kernel

/-- Targets at the ends of the range of R35, and the first one past it, in a direct compare of lane time 0. -/
theorem witness_far_targets : ∀ d ∈ [0, 2147483648, 2147483649, 4294967295],
    (armed { sec := 0, ns := d, id := 5, close := true, state := 1 } Compare.idle).time.dc[0]? =
      some { sec := 0, ns := d, id := 5, close := true, state := 1 } ∧ d < 4294967296 ∧
    d = ((armed { sec := 0, ns := d, id := 5, close := true, state := 1 } Compare.idle).time.now + d) % 4294967296 ∧
    (armed { sec := 0, ns := d, id := 5, close := true, state := 1 } Compare.idle).firedEarly (.direct 0) = false ∧
    (armed { sec := 0, ns := d, id := 5, close := true, state := 1 } Compare.idle).nothingDue (if d ≤ 2147483648 then d else 0) 0 0 := by
  unfold State.nothingDue; decide +kernel

/-- Node 4 as a coldstart node, hence a possible time source. -/
def source (b : Bool) : State :=
  let s := fieldUp (running { conf1 with ring := { ring0 with syncs := [{ node := 4, delay := some 100, offset := 0 }] } })
  let s := jset (jset { s with pins := { s.pins with node := 4 } } 0x4021 1 1) 0x4003 2 2
  if b then jset s 0x4003 1 1 else s

/-- The source with its next edge expected at `due`, after `miss` missed ones. -/
def expecting (due : Option Nat) (miss : Nat) : State :=
  { source true with time := { (source true).time with ppsDue := due, ppsMiss := miss, taiSecond := some (5, 0), lostAt := some 4, refLocked := true } }

theorem witness_outside_time : (source false).stampsPps = true ∧ (source false).timeSource = false ∧ (source false).ppsReference = false ∧
    (source true).timeSource = true ∧ (source true).ppsReference = true ∧ (source false).flows 22 ∧ jget (source true) 0x4003 2 = 2 ∧
    (source true).time.ppsDue = none ∧ (expecting (some 1000000000) 0).time.ppsDue = some 1000000000 ∧ (expecting (some 1000000000) 0).stampsPps = true ∧
    (1000000000 + 1000000 < 1001000001 ∧ 2001000000 ≤ 1000000000 + 1001000000 ∧ (expecting (some 1000000000) 1).time.ppsMiss + 1 < 3) ∧
    3 ≤ (expecting (some 1000000000) 2).time.ppsMiss + 1 ∧ (expecting (some 1000000000) 2).time.refLocked = true ∧
    (expecting none 0).time.taiSecond = some (5, 0) ∧ (expecting none 0).time.lostAt = some 4 ∧ jget (jset run 0x4002 2 1) 0x4002 2 = 1 ∧
    (expecting (some 1000000000) 0).edgeAccepted 999000000 = true ∧ (expecting (some 1000000000) 0).edgeAccepted 998999999 = false ∧
    (expecting (some 1000000000) 0).edgeAccepted 1001000000 = true ∧ (expecting (some 1000000000) 0).edgeAccepted 1001000001 = false := by
  unfold State.flows; decide +kernel

/-- Port ECN0 under PTP in mode `m`, port state `st`. -/
def ptpIn (m st : Nat) : State :=
  let s := jset (jset { run with ecn0 := { run.ecn0 with on := true } } (ptpIndex .e0) 1 m) (ptpIndex .e0) 13 st
  jset (jset (jset (jset s (ptpIndex .e0) 2 1) (ptpIndex .e0) 3 1) (ptpIndex .e0) 4 1) 0x4100 1 1

/-- What a clock of priority `p` announces. -/
def clockOf (p : Nat) : PtpDataset := { priority1 := p, clockClass := 6, accuracy := 33, variance := 0, priority2 := 128, identity := 9 }

/-- A PTP message of kind `k` in the port's domain and transport. -/
def ptpMsg (k : PtpKind) : PtpMsg := { kind := k, domain := 0, transport := 1, source := 2, zeroSum := true }

theorem witness_ptp : (ptpIn 1 6).ptpOn .e0 = true ∧ (ptpIn 2 9).ptpOn .e0 = true ∧ (ptpIn 1 6).flows 32 ∧ ptpUnsupported (ptpMsg .unsupported) = true ∧
    ptpUnsupported (ptpMsg (.delayReq 3)) = false ∧ ptpUnsupported (ptpMsg (.announce (clockOf 1))) = false ∧
    (ptpGet (ptpIn 1 6) .e0 5 = (ptpMsg (.delayReq 3)).domain ∧ ptpGet (ptpIn 1 6) .e0 4 = (ptpMsg (.delayReq 3)).transport ∧
      ({ ptpMsg (.delayReq 3) with domain := 1 } : PtpMsg).domain ≠ ptpGet (ptpIn 1 6) .e0 5) ∧
    (ptpGet (ptpIn 1 6) .e0 1 = 1 ∧ ptpGet (ptpIn 1 6) .e0 13 = 6 ∧ ptpGet (ptpIn 1 6) .e0 3 = 1 ∧ ptpGet (ptpIn 1 6) .e0 2 = 1) ∧
    ((ptpIn 2 9).ptp .e0).master = none ∧ ((ptpIn 2 9).ptp .e0).data = none ∧ (clockOf 1).priority1 < (clockOf 2).priority1 ∧
    ptpBetter (clockOf 1) (ptpDataset (ptpIn 1 6) .e0) = true ∧
    (((ptpIn 1 6).ptp .e0).syncAt = none ∧ ((ptpIn 1 6).ptp .e0).announceAt = none) ∧ ptpGet (ptpIn 1 7) .e0 13 = 7 ∧
    ptpGet (ptpIn 2 9) .e0 1 = 2 ∧ (ptpIn 2 9).timeSource = false := by unfold State.flows; decide +kernel

/-! ## The ring and the ports -/

/-- A running node 4 in ring state `st`. -/
def ringIn (st : RingState) (s : State) : State := { s with pins := { s.pins with node := 4 }, ring := { s.ring with state := st } }

/-- Node 4 in ring state `st`, flow 12 with the buffer that entry 0 has locked, and a window of it open. -/
def ringSlots (st : RingState) (e : CutEntry) (h : Option RFrame) : State :=
  ((ringIn st (withCut e)).modTx 12 (fun x => { x with locked := [(0, { data := [1, 2], k := 5 })] })).modRx 12 (fun x =>
    { x with opened := some (5, 9), held := h })

theorem witness_ring_entries :
    (∀ act ∈ [6, 7, 11, 12, 13], (withCut (entry0 act 12 2 0 true)).armed 0 act (entry0 act 12 2 0 true) ∧
      (withCut (entry0 act 12 2 0 false)).cut 0 = some (entry0 act 12 2 0 false) ∧ CutEntry.act (entry0 act 12 2 0 false) = act ∧
      (entry0 act 12 2 0 false).w3 ≠ cutCheck (entry0 act 12 2 0 false) 0 ∧ (withCut (entry0 act 12 2 0 false)).firedEarly (.entry 0) = false) ∧
    CutEntry.tgt (entry0 6 12 2 0 true) = 12 ∧
    ((withCut (entry0 6 12 2 0 true)).mode ≠ .safe ∧ Store.find? ((withCut (entry0 6 12 2 0 true)).txOf 12).locked 0 = none) ∧
    (ringSlots .active (entry0 6 12 2 0 true) none).armed 0 6 (entry0 6 12 2 0 true) ∧
    Store.find? ((ringSlots .active (entry0 6 12 2 0 true) none).txOf 12).locked 0 = some { data := [1, 2], k := 5 } ∧
    withCvu (ringSlots .active (entry0 6 12 2 0 true) none) 0 12 [1, 2] = [1, 2] ∧
    ({ ringIn .alone run with mode := .safe } : State).mode = .safe ∧
    ((withCut (entry0 7 12 2 0 true)).rxOf 12).opened = none ∧
    (((ringSlots .active (entry0 7 12 2 0 true) none).rxOf 12).opened = some (5, 9) ∧
      ((ringSlots .active (entry0 7 12 2 0 true) none).rxOf 12).held = none) ∧
    ({ run.ring with windows := [(4, (5, 9, true))] } : Ring).windows = [(4, (5, 9, true))] ∧ Store.find? [(4, (5, 9, true))] 4 = some (5, 9, true) ∧
    ((ringIn .active (withCut (entry0 12 4 2 0 true))).ring.state = .active ∧
      (((ringIn .active run).port .east).wrapped && ((ringIn .active run).port .west).wrapped) = false) ∧
    (ringIn .active run).ring.state ≠ .off ∧ (if CutEntry.dir (entry0 11 0 2 0 true) then RingPort.west else RingPort.east) = .east ∧
    (if CutEntry.dir (entry0 11 0 2 16 true) then RingPort.west else RingPort.east) = .west := by
  unfold State.armed; decide +kernel

/-- A node of two with a flow to consume, produced by node 5. -/
def confR : Container :=
  { conf1 with ring := { ring0 with syncs := [{ node := 4, delay := some 100, offset := 0 }, { node := 5, delay := some 200, offset := 9 }] }
               flows := [{ id := 12, role := 2, producer := 5, safe := false, aux := 2, srcCli := 1, aMax := 3, dMaxUs := 0, iOfs := 0, area := 0, ofs := 0,
                           substs := [], prodBase := 1000000, prodPhi := 0, prodRel := 0 }] }

/-- A frame of node 5, of kind `k`. -/
def frame5 (k hop : Nat) (pl : Bytes) : RFrame :=
  { etype := 0x88B5, dst := 0x035953000000 + k, src := 0x025953000005, fcsOk := true, ver := 3, kind := k, flags := if k = 1 ∨ k = 2 then 1 else 0, sender := 5,
    hop := hop, round := 0, cli := 1, flow := 12, seq := 1, send := 0, len := pl.length, res := 0, reserved := 0, payload := pl }

/-- That node with a window of flow 12 and one of node 5's sync slot open. -/
def ringR (st : RingState) : State :=
  let s := ringIn st (fieldUp (running confR))
  let s := s.modRx 12 (fun x => { x with opened := some (0, 1000000) })
  s.modRing (fun r => { r with windows := [(5, (0, 1000000, true))], breakKnown := some (5, 0), query := some (7, 5, 0),
                               adopting := some { frame := frame5 1 1 [], at_ := 0, port := .east } })

/-- A sync payload of the ring with identity 9 whose coldstart named is 4. -/
def syncPl : Bytes := leBytes 4 9 ++ [0, 0, 4, 0, 0, 0, 0, 0, 0, 0, 0, 0, 0, 0, 0, 0]

/-- Node 4 with a frame heard from the west at 500 ns, an own frame being on the wire ahead of it. -/
def onwAt (st : RingState) (f : RFrame) : State :=
  let s := (ringR st).modPort .east (fun x => { x with busyFrom := 0, busyTo := 1000000 })
  forwardFrame (hear s .west f.len 500) .west f 500

/-- What the fabric of that node is in when the frame has crossed. -/
def gotAt (st : RingState) (f : RFrame) : State := through (onwAt st f) (27 + RingPort.num .west) (entriesOf 27 (24 + f.len))

/-- What a frame's judgement reads is as before the frame crossed. -/
theorem gotAt_reads (st : RingState) (f : RFrame) : (gotAt st f).ring = (onwAt st f).ring ∧ (gotAt st f).pins = (onwAt st f).pins ∧
    (gotAt st f).cfg = (onwAt st f).cfg ∧ (gotAt st f).time = (onwAt st f).time ∧ jbool (gotAt st f) 0x4231 8 = jbool (onwAt st f) 0x4231 8 ∧
    (gotAt st f).v2ring = (onwAt st f).v2ring := by
  refine ⟨through_ring .., through_pins .., through_cfg .., through_time .., ?_, ?_⟩
  · unfold gotAt jbool; rw [through_jget _ _ _ _ _ (by decide)]
  · unfold gotAt State.v2ring; rw [through_jget _ _ _ _ _ (by decide)]

theorem witness_ring_data :
    (ringR .active).hears .west = true ∧ (ringR .active).hears .east = true ∧
    (frameForeign (hear (ringR .active) .west 2 500).v2ring (frame5 0 1 [1, 2]) || frameInvalid (hear (ringR .active) .west 2 500).v2ring (frame5 0 1 [1, 2])) = false ∧
    (frame5 0 1 [1, 2]).fcsOk = true ∧ senderNamed (frame5 0 1 [1, 2]) = true ∧
    strips (hear (ringR .active) .west 2 500) .west (frame5 0 1 [1, 2]) = false ∧ (hear (ringR .active) .west 2 500).hopLimit (frame5 0 1 [1, 2]) = false ∧
    (onwAt .active (frame5 0 1 [1, 2])).flows (27 + RingPort.num .west) ∧
    (let got := onwAt .active (frame5 0 1 [1, 2])
     (consumedFlow got 12).any (fun c => decide (c.producer = 5) && decide (c.srcCli = 1) && decide (c.aux = 2)) = true ∧
       (got.rxOf 12).opened = some (0, 1000000) ∧ arrivalAt got .west 500 < 1000000 ∧ (got.rxOf 12).taken = false ∧ (got.rxOf 12).west = none ∧
       seqFollows (got.rxOf 12).seq 1 = true ∧ jbool got 0x4231 8 = false ∧ unitOf got 0 12 = none ∧ got.v2ring = false ∧
       bitOf (frame5 0 1 [1, 2]).flags 4 = false) ∧
    (onwAt .active (frame5 0 1 [1, 2])).ring.state = .active ∧ ((onwAt .active (frame5 0 1 [1, 2])).rxOf 13).opened = none := by
  unfold State.flows; decide +kernel

theorem witness_ring_sync :
    (∀ k ∈ [1, 2], (frameForeign false (frame5 k 1 syncPl) || frameInvalid false (frame5 k 1 syncPl)) = false ∧
      (∀ st ∈ [RingState.listen, .active, .coldstart], (onwAt st (frame5 k 1 syncPl)).concerns (frame5 k 1 syncPl) k = true ∧
        (onwAt st (frame5 k 1 syncPl)).ring.state = st ∧ (onwAt st (frame5 k 1 syncPl)).flows 28)) ∧
    (let got := onwAt .active (frame5 1 1 syncPl)
     got.ring.follow = none ∧ Store.find? got.ring.windows 5 = some (0, 1000000, true) ∧ arrivalAt got .west 500 < 1000000 ∧
       payloadByte (frame5 1 1 syncPl) 6 = ownNamed got) ∧
    inSyncWindow (onwAt .active (frame5 2 1 syncPl)) (frame5 2 1 syncPl) (arrivalAt (onwAt .active (frame5 2 1 syncPl)) .west 500) = true := by
  unfold State.flows; decide +kernel

/-- A best-effort payload to node 4: service, and a body of 14 bytes starting with `x`. -/
def bestPl (service : Nat) (x : Byte) : Bytes := [4] ++ leBytes 1 service ++ leBytes 2 14 ++ leBytes 4 0 ++ ([x, 0, 7, 0] ++ leBytes 10 0)

theorem witness_services :
    (∀ k ∈ [3, 4, 5, 6], (frameForeign false (frame5 k 1 (bestPl 3 2)) || frameInvalid false (frame5 k 1 (bestPl 3 2))) = false) ∧
    (ringR .active).hears .east = true ∧ (hear (ringR .active) .east 22 (ringR .active).time.now).v2ring = false ∧
    (frame5 4 1 []).fcsOk = true ∧ senderNamed (frame5 4 1 []) = true ∧ (frame5 4 1 []).sender ≠ (ringR .active).pins.node ∧
    (hear (ringR .active) .east 22 (ringR .active).time.now).flows 27 ∧
    (hear (ringR .active) .east 22 (ringR .active).time.now).hopLimit (frame5 4 1 syncPl) = false ∧
    (ofLe ((syncPl).take 4) = (hear (ringR .active) .east 22 0).ringIdent ∧ ((syncPl.drop 6).headD 0).toNat ≠ 3 ∧
      (hear (ringR .active) .east 22 0).ring.breakKnown ≠ none ∧ bitOf (jget (hear (ringR .active) .east 22 0) 0x4235 1) 9 = false) ∧
    (hear (ringR .active) .east 22 0).nodes ≤ 1 + 1 ∧
    (bestDest (frame5 6 1 (bestPl 3 2)) = (ringR .active).pins.node ∧ bestService (frame5 6 1 (bestPl 3 2)) = 3 ∧
      ((bestBody (frame5 6 1 (bestPl 3 2))).headD 0).toNat = 2 ∧ ofLe (((bestBody (frame5 6 1 (bestPl 3 2))).drop 2).take 2) = 7) ∧
    (bestService (frame5 6 1 (bestPl 1 0)) = 1 ∧ bestService (frame5 6 1 (bestPl 2 0)) = 2 ∧
      ((bestBody (frame5 6 1 (bestPl 3 1))).headD 0).toNat = 1) ∧
    (ringR .active).timeSource = false ∧ (source true).timeSource = true ∧ (source true).time.sourceSeen = none ∧
    ({ ringR .active with time := { (ringR .active).time with sourceSeen := some 5 } } : State).time.sourceSeen = some (frame5 6 1 []).sender ∧
    (let s := { ringR .integrate with mode := .startUp }
     s.ring.query = some (7, 5, 0) ∧ s.ring.adopting.isSome = true ∧ s.ring.state = .integrate ∧ s.inRun = false) := by unfold State.flows; decide +kernel

theorem witness_ring_healing : (run.port .east).wrapped = false ∧ (RingPort.east ≠ .west) ∧
    (let s := (ringIn .active run).modPort .east (fun x => { x with wrapped := true, link := 1, upAt := some 5, ownNotice := none })
     s.ring.state ≠ .off ∧ (s.port .east).wrapped = true ∧ (s.port .east).upAt = some 5 ∧ (s.port .east).link ≠ 0 ∧ (s.port .east).ownNotice = none) ∧
    (let s := (ringIn .active run).modPort .east (fun x => { x with wrapped := true, ownNotice := some 4, peerNotice := some 6 })
     (s.port .east).ownNotice = some 4 ∧ Nat.min ((s.port .east).peerNotice.getD (4 + 4 * s.tRound)) (4 + 4 * s.tRound) = 6) ∧ run.booted = true ∧
    ((ringIn .active run).modRing (fun r => { r with leaveAt := some 3 })).ring.leaveAt = some 3 ∧
    ((advanceTo (ringIn .active run) 8000).awaiting .east = false ∧ (advanceTo (ringIn .active run) 8000).nextOwnSlot = none ∧
      run.egress .east = .east) ∧
    (advanceTo ((ringIn .active run).modPort .east (fun x => { x with busyFrom := 8001, busyTo := 9000 })) 8000).awaiting .east = true ∧
    (let s := advanceTo (ringIn .active (withCut { entry0 6 12 2 0 true with w0 := 8001 })) 8000
     s.nextOwnSlot = some 8001 ∧ 8001 < s.time.now + s.tWire 0) ∧
    coldDelay (ringR .listen) (ringR .listen).pins.node = some 100 ∧ (ringR .listen).ring.state = .listen ∧
    ((ringR .integrate).ring.state = .integrate ∧ (ringR .integrate).ring.query = some (7, 5, 0)) ∧
    ((ringIn .active (source true)).timeSource = true ∧ (ringIn .active (source true)).ring.state ≠ .off ∧
      ({ source true with time := { (source true).time with taiValid := true } } : State).time.taiValid = true ∧
      (source true).ring.west.queue.length < 16) := by decide +kernel

theorem witness_round_end : (ringIn .listen run).ring.state = .listen ∧
    (ringR .active).ring.state = .active ∧ (ftAverage ((ringR .active).ring.seen.filterMap (fun x => x.dev))).natAbs ≤ 1000 ∧
    (ringR .active).ring.foreign = none ∧ (ringR .active).coldstartNode = true ∧ jbool (ringR .active) 0x4231 8 = false ∧
    (run.time.rc ≤ 150000 ∧ -150000 ≤ run.time.rc) := by decide +kernel

theorem witness_average : ([1, 9, 2] : List Int).Perm ([1, 2] ++ [9]) ∧ ([9] : List Int).length ≤ ftaDiscard ([1, 9, 2] : List Int).length ∧
    (∀ x ∈ ([1, 2] : List Int), 1 ≤ x ∧ x ≤ 2) := by decide

/-- A telegram of context 3 on ECN0, of role `r`. -/
def tel (r : Nat) : Telegram :=
  { port := 0, ctx := 3, role := r, tagged := false, vid := 0, pcp := 0, mac := 0, dstIp := 0, srcIp := 0, srcPort := 0, dstPort := 5000, tos := 0,
    ttl := 64, header := [], inserts := [], dLen := 2, aMax := 3, iOfs := 0, area := 0, ofs := 0, substs := [] }

/-- ECN0 up with the address 10.0.0.4, a telegram and a cutting-list entry for it. -/
def ecnUp (r : Nat) : State :=
  let s := fieldUp (running { conf1 with telegrams := [tel r], cut := [entry0 8 3 0 0 true] })
  jset (jset ({ s with power := { s.power with phyReset := true } }.modEcn 0 (fun x =>
    { x with on := true, arp := [(7, (8, 9))], tx := [(3, { TxCtx.blank with locked := [(0, { data := [1, 2], k := 5 })] })] })) (ecnIndex 0) 1 1) (ecnIndex 0) 3 0x0A000004

/-- A frame to that telegram. -/
def eframe : EFrame :=
  { fcsOk := true, mac := 1, tags := 0, vid := 0, pcp := 0, etype := 0x0800, ipVer := 4, tos := 0, ttl := 64, ident := 0, df := false, hdrCk := true,
    frag := false, proto := 17, srcIp := 1, dstIp := 0x0A000004, udpCk := true, srcPort := 1, dstPort := 5000, payload := [1, 2] }

/-- What the port is in when a frame of `n` bytes has crossed and been counted. -/
def heard (r n : Nat) : State := jbump (through (ecnUp r) 32 (entriesOf 32 n)) (ecnIndex 0) 9

/-- The port's address is as before the frame. -/
theorem heard_address (r n : Nat) : jget (heard r n) (ecnIndex 0) 3 = jget (ecnUp r) (ecnIndex 0) 3 := by
  unfold heard jbump
  rw [jget_jset_other _ _ _ _ _ _ (by decide), through_jget _ _ _ _ _ (by decide)]

theorem witness_ecn : (ecnUp 1).armed 0 8 (entry0 8 3 0 0 true) ∧ (ecnUp 1).ecnUp 0 = true ∧ (ecnUp 1).inRun = true ∧
    (CutEntry.tgt (entry0 8 3 0 0 true) % 256 = 3 ∧ CutEntry.tgt (entry0 8 3 0 0 true) / 256 % 2 = 0) ∧
    ((ecnUp 1).config.bind (fun c => c.telegrams.find? (fun t => decide (t.port = 0) && decide (t.ctx = 3) && decide (t.role = 1)))) = some (tel 1) ∧
    Store.find? (Store.get ((ecnUp 1).ecn 0).tx TxCtx.blank 3).locked 0 = some { data := [1, 2], k := 5 } ∧
    Store.find? (Store.get ((ecnUp 1).ecn 0).tx TxCtx.blank 4).locked 0 = none ∧ (ecnUp 1).ecnUp 1 = false ∧
    (ecnUp 2).ecnUp 0 = true ∧ (ecnUp 2).flows 32 ∧ portChecks eframe = true ∧ (ecnUp 2).config.any (fun c => c.telegrams.contains (tel 2)) = true ∧
    (tel 2).port = 0 ∧ (tel 2).role = 2 ∧ matchesContext (jbump (ecnUp 2) (ecnIndex 0) 9) 0 (tel 2) eframe = true ∧
    portChecks { eframe with udpCk := false } = false ∧ jget (ecnUp 2) (ecnIndex 0) 3 ≠ 0 ∧
    ((ecnUp 1).ecn 0).icmp = [] ∧ Store.find? ((ecnUp 1).ecn 0).arp 7 = some (8, 9) ∧ (ecnUp 1).booted = true ∧
    (jbool (ecnUp 1) (ecnIndex 0) 1 = true ∧ jbool (ecnUp 1) (ecnIndex 1) 1 = false) ∧ ({ ecnUp 1 with mode := .safe } : State).inRun = false ∧
    ({ ecnUp 1 with mode := .safe } : State).armed 0 8 (entry0 8 3 0 0 true) ∧ (ecnUp 1).power.phyReset = true := by unfold State.flows State.armed; decide +kernel

/-- CAN0 up as node 4 in a state, with one receive object, a frame to send, and a heartbeat of node 9 supervised. -/
def canUp (n : Nmt) (e : Nat) : State :=
  let s := running { conf1 with canRx := [{ ctl := 0, obj := 2, ident := 0x181, mask := 0x7FF, iOfs := 0, len := 8, station := 0 }] }
  let s := s.modCan .c0 (fun x => { x with nmt := n, err := e, tx := [(31, { ident := 0x201, data := [1] })] })
  let s := jset (jset (jset (jset s (canIndex .c0) 1 1) (canIndex .c0) 2 4) 0x1017 0 100) 0x1016 32 (200 + 65536 * 9)
  { s with hbAt := [(31, 6)] }

theorem witness_can : (canUp .operational 0).canUp .c0 = true ∧ (canUp .operational 0).flows 34 ∧ ((canUp .operational 0).can .c0).nmt = .operational ∧
    ((canUp .operational 0).config.bind (fun k => matchRx k .c0 { ident := 0x181, data := [1] })).isSome = true ∧
    ((canUp .operational 0).config.any (fun k => decide (matchRx k .c0 { ident := 0x182, data := [1] } = none))) = true ∧
    (Store.find? ((canUp .operational 0).can .c0).tx 31).isSome = true ∧ canNode (canUp .operational 0) .c0 = 4 ∧
    ((canUp .preOp 0).can .c0).nmt ≠ .bootUp ∧ (canUp .operational 0).mode ≠ .safe ∧
    (({ canUp .operational 0 with mode := .safe } : State).canUp .c0 = true ∧ ({ canUp .operational 0 with mode := .safe } : State).flows 34) ∧
    jget (canUp .operational 0) 0x1017 0 ≠ 0 ∧ 127 < 128 ∧ 127 ≤ 127 ∧ (canUp .operational 0).booted = true ∧
    jbool (canUp .operational 0) (canIndex .c0) 1 = true ∧ (canUp .operational 3).flows 34 ∧
    ((canUp .operational 3).can .c0).err ≠ 2 ∧ ((canUp .operational 2).can .c0).err = 2 ∧
    (Store.find? (canUp .operational 0).hbAt 31 = some (5 + 1) ∧ (consumer (canUp .operational 0) 31).1 ≠ 0) := by unfold State.flows; decide +kernel

/-- A request on the host link: a body of one read of 1008.00, framed with its length and check value. -/
def hostBytes : Bytes :=
  let body := [1, 1, 5, 0, 1, 0, 8, 16, 0, 0, 0, 0, 0, 0, 0, 0]
  let f := leBytes 2 16 ++ body
  f ++ leBytes 4 (crc32c f)

theorem witness_host_link : run.hostUp = true ∧ run.flows 35 ∧ (hostBody hostBytes).isSome = true ∧ hostBody [] = none ∧
    (hostBody hostBytes).bind (fun b => parseBody hostSender b) =
      some { sender := { hostSender with client := 1, txn := 5 }, op := 1, last := false, index := 0x1008, sub := 0, offset := 0, data := [] } ∧
    run.host.pending < 16 ∧ ({ run with host := { run.host with pending := 16, queue := [[1], [2]] } } : State).host.pending = 16 ∧
    (run.host.queue = [] ∧ ({ run with host := { run.host with queue := [[1], [2]] } } : State).host.queue = [1] :: [[2]]) ∧
    (7 + [(1 : Byte)].length ≤ 8 ∧ 7 < 7 + [(1 : Byte)].length) ∧ run.host.queue.length ≤ 16 ∧ ((4 : Byte) ≠ 1 ∧ (4 : Byte) ≠ 2 ∧ (4 : Byte) ≠ 3) := by
  unfold State.flows; decide +kernel

/-- A ring client at address 10.0.0.9. -/
def ringClient : Sender := { path := .ring, carrier := 0, ip := 0x0A000009, udpPort := 4000, client := 3, txn := 1 }

/-- Transfers, captures, a binding, a kept response and a claimed unit. -/
def dictState : State :=
  let s := canUp .preOp 0
  let s := jset s 0x1E00 2 7
  { s with
    cvu := [(2, { unit := some { poly := 0, reg := 0, owner := none }, client := some 3, at_ := 4 })]
    dict := { s.dict with
      sdo := [(0, { upload := false, index := 0x1008, sub := 0, data := [], at_ := 1 })]
      xfers := [(1, { index := 0x9000, sub := 1, data := [1], at_ := 2 })]
      captures := [(1, { index := 0x7010, sub := 3, data := [1, 2], at_ := 3 })]
      bindings := [(5, { path := .host, carrier := 0, ip := 0, udpPort := 0, at_ := 6, recCursor := 0, logCursor := 1, view := 0 })]
      dups := [(5, [{ txn := 8, crc := 9, resp := [1], at_ := 10 }])] } }

theorem witness_transfers : dictState.sdoUp 0 = true ∧ dictState.flows 34 ∧
    (let s := { dictState with dict := { dictState.dict with sdo := [] } }
     s.sdoUp 0 = true ∧ Store.find? s.dict.sdo 0 = none) ∧ Store.find? dictState.dict.sdo 0 = some { upload := false, index := 0x1008, sub := 0, data := [], at_ := 1 } ∧
    (let s := { dictState with dict := { dictState.dict with sdo := [(0, { upload := true, index := 0x1008, sub := 0, data := [], at_ := 1 })] } }
     s.sdoUp 0 = true ∧ (Store.find? s.dict.sdo 0).any (fun x => x.upload) = true) ∧
    (ringClient.path = .ring ∧ dictState.booted = true ∧ dictState.power.stage = 0 ∧ dictState.udpPath ringClient = true ∧
      dictState.flows (datagramCrossing ringClient)) ∧ (parseBody ringClient [1, 1, 5, 0, 1, 0, 8, 16, 0, 0, 0, 0, 0, 0, 0, 0]).isSome = true ∧
    (Store.find? dictState.cvu 2).any (fun v => v.client.isSome) = true ∧ (Store.find? dictState.dict.xfers 1).isSome = true ∧
    (Store.find? dictState.dict.captures 1).isSome = true ∧
    (Store.find? dictState.dict.bindings 5).any (fun b => !bindingKept dictState 5 b) = true ∧
    ((Store.get dictState.dict.dups [] 5).find? (fun d => decide (d.txn = 8))).isSome = true := by unfold State.flows; decide +kernel

/-! ## The field side, the stores and the supplies -/

/-- RUN with channel 0 changed. -/
def chan0 (f : DoChan → DoChan) : State := run.modChan 0 f

/-- A section part whose elements follow the image. -/
def secOn : DoSection := { DoSection.blank with cmd := true, closed := true }

theorem witness_field_inputs : (17999 < 18000 ∧ 18500 ≤ 18500 ∧ 15999 < 16000 ∧ 18500 < 18501) ∧ run.field.operating = true ∧
    (running conf1).field.operating = false ∧ run.lowReport = false ∧ (running conf1).variantF = true ∧
    (LaneId.all.foldl (fun s l => s.modSec l (fun x => { x with under := true, raw := true, rawLow := some 0 })) run).lowReport = true ∧
    (diBand 0).2 = false ∧ (diBand 3000).2 = false ∧ (diBand 1000).2 = true ∧
    (((run.modSec .a (fun x => x.modPath 31 (fun p => { p with since := some 5 }))).sec .a).path 31).since = some 5 ∧
    ({ conf1 with pulse := [7] } : Container).pulse.contains 7 = true ∧
    (fieldUp (running { conf1 with pulse := [7] })).config = some { conf1 with pulse := [7] } ∧
    (fieldUp (running { conf1 with pulse := [7] })).field.operating = true := by decide +kernel

theorem witness_input_currents : (979 < 980 ∧ 306 < 979) ∧ 2040 < 2041 ∧ 195 < 196 ∧ (1020 < 1021 ∧ 1959 < 1960) := by decide

theorem witness_channels : run.field.operating = true ∧
    (((chan0 (fun c => { c with hot := true })).chan 0).hot = true ∧ ((chan0 (fun c => { c with hot := true })).chan 0).latch = false) ∧
    (((chan0 (fun c => { c with hot := true, latch := true })).chan 0).latch = true ∧
      ((chan0 (fun c => { c with hot := true, latch := true })).chan 0).offSeen = false) ∧
    ((run.chan 0).sec.get .a).pend = false ∧
    (let c := (chan0 (fun c => { c with sec := { c.sec with a := { secOn with closed := false, pend := true, demag := some 4 } } })).chan 0
     (c.sec.get .a).pend = true ∧ (c.sec.get .a).cmd = true ∧ c.free = true ∧ c.pulse = none ∧ c.demagAt = some 4) ∧
    run.wireTest 0 = true ∧ 7999 < 8000 ∧ (((chan0 (fun c => { c with sec := Tri.all secOn })).chan 0).sec.get .a).cmd = true ∧
    ((run.chan 0).sec.get .a).cmd = false ∧ ((run.modLane .a (fun ln => ln.rset 0x5104 1 1)).lane .a).rget 0x5104 1 ≠ 0 ∧ 4000 < 4001 ∧
    14999 < 15000 ∧ 17000 < 17001 := by decide +kernel

theorem witness_output_tests : run.field.operating = true ∧ (run.sec .a).alive = true ∧ (run.chan 15).conducts = false ∧
    ((run.chan 15).sec.get .a).demag = none ∧ bitOf run.field.groups (groupOf 15) = false ∧ bitOf run.field.groups (groupOf 0) = false ∧
    (let s := chan0 (fun c => { c with sec := Tri.all secOn })
     (s.chan 0).conducts = true ∧ (s.chan 0).tested = false ∧ ((s.chan 0).sec.get (pathLanes 2).1).closed = true ∧
       ((s.chan 0).sec.get (pathLanes 2).2).closed = true ∧ s.active (pathLanes 2).1 = true ∧ s.active (pathLanes 2).2 = true ∧
       (s.chan 0).free = true ∧ (s.chan 0).skip = none ∧ (s.chan 0).mute = false ∧ (s.chan 0).pulse = none ∧ s.pulseFit 0 = true) ∧
    ({ run with field := { run.field with step := some .b } } : State).field.step = some .b ∧
    (∀ p, p < 3 → Tri.path { a := 999, b := 0, c := 1 } p < 1000) ∧
    (let c := (chan0 (fun c => { c with tested := true, due := some 5, pulse := some 6, mute := false })).chan 0
     c.tested = true ∧ c.mute = false ∧ c.due = some 5 ∧ c.pulse = some 6) ∧
    ((List.range 3).filter (fun p => (decide ((pathLanes p).1 = .b) || decide ((pathLanes p).2 = .b)) &&
      decide (Tri.path { a := 1000, b := 1000, c := 1000 } p ≥ 1000))) ≠ [] ∧
    (LaneId.b ≠ .c) ∧ cycle5.config = some conf1 ∧ cycle5.vote.k = some 5 ∧
    pulseBlocked (advanceTo cycle5 (cycle5.vote.oAt + 10000)) conf1 (cycle5.vote.relK.getD 0) = false := by decide +kernel

/-- A record of lane A that is being written, and the commit that it becomes. -/
def rec0 : Record :=
  { seq := 4, count := 1, config := 7, kind := .delta, blocks := [(0, List.replicate 64 1)], fixed := FixedPart.empty, sig := 0, trailer := [], cut := none }

/-- That commit. -/
def rec1 : Record := rec0.seal

/-- The commit is complete, and the newest one of a journal that holds it. -/
theorem witness_commit : rec1.complete = true ∧
    ((run.modLane .a (fun ln => { ln with glue := { ln.glue with journal := [rec1] } })).lane .a).glue.commits = [rec1] := by
  have h : rec1.complete = true := Record.complete_seal rec0
  refine ⟨h, ?_⟩
  show [rec1].filter _ = [rec1]
  rw [List.filter_cons]
  simp only [h, Bool.true_and]
  rfl

theorem witness_journal :
    (let s := run.modLane .a (fun ln => { ln with glue := { ln.glue with writing := some rec0 } })
     (s.lane .a).glue.writing = some rec0 ∧ (s.lane .a).glue.endangered rec0.size = []) ∧ (run.lane .a).glue.writing = none ∧ recordSize [0].length ≤ 4096 ∧
    run.booted = true ∧
    (({ run with scrub := [(3, 0)], time := { run.time with now := 157788000000000000 } } : State).regionClock = 157788000000000000) ∧
    run.recorder.holder = none ∧ ({ run with recorder := { run.recorder with staged := [⟨0, 1, 2, 3, []⟩] } } : State).recorder.staged ≠ [] ∧
    ({ run with recorder := { run.recorder with holder := some 3 } } : State).recorder.holder = some 3 := by decide +kernel

theorem witness_sessions_and_pins : ({ run with priv := { run.priv with holder := some host, lockNs := 5 } } : State).priv.holder = some host ∧ 0 < 5 ∧
    State.reset.booted = false ∧ run.booted = true ∧ run.beforeRing7 = false ∧ (atStep 3).beforeRing7 = true ∧ run.pins.esc7Runs < 2 ∧
    ({ run with pins := { run.pins with esc7Runs := 2, escJ := 128 } } : State).pins.esc7Runs = 2 ∧ bitOf 128 7 = bitOf 255 7 ∧ bitOf 128 7 ≠ bitOf 4 7 ∧
    LaneId.ofNum 2 = some .c ∧ run.variantF = true ∧ run.field.operating = true := by decide +kernel

/-- A module whose fabric domain has stopped. -/
def fabricStopped : State := { run with domains := setBit run.domains 3 false }

/-- A crossing that holds an event of a lane, or a command. -/
def holding (x : Nat) (h : List (XItem × Nat)) (s : State) : State := s.setCrossing x { Crossing.fresh with held := h }

theorem witness_crossings : run.sourceRuns 21 = true ∧ (run.crossing 21).open_ = true ∧ run.destRuns 21 = true ∧
    (let s := run.evented 21 0
     ((s.crossing 21).flops 0).busy 21 s.time.now = true ∧ s.sourceRuns 21 = true ∧ (s.crossing 21).open_ = true) ∧
    (∀ x ∈ [3, 10, 17, 21], crossingKind x = .event ∧ fabricStopped.destRuns x = false ∧ fabricStopped.sourceRuns x = true ∧
      (fabricStopped.crossing x).open_ = true ∧ ((fabricStopped.crossing x).flops 0).busy x fabricStopped.time.now = false) ∧
    (∀ x ∈ [0, 22, 25, 27, 32, 34, 35], crossingKind x = .queue ∧ run.crossingLive x = true ∧ run.sourceRuns x = true ∧ (run.crossing x).open_ = true) ∧
    (crossingKind 0 = .queue ∧ fabricStopped.crossingLive 0 = true ∧ fabricStopped.destRuns 0 = false ∧ crossingStalls 0 = true) ∧
    (crossingKind 32 = .queue ∧ fabricStopped.destRuns 32 = false ∧ crossingStalls 32 = false ∧ (fabricStopped.crossing 32).entries + 64 ≤ crossingDepth 32 ∧
      crossingDepth 32 < (fabricStopped.crossing 32).entries + 65) ∧
    (∀ x ∈ [21, 22], ({ run with domains := setBit run.domains 4 false } : State).sourceRuns x = false) ∧
    (∀ x ∈ [22, 24], ((run.setCrossing x { Crossing.fresh with open_ := false }).crossing x).open_ = false) ∧ crossingStalls 24 = true ∧ crossingStalls 22 = false ∧
    (run.crossing 32).held = [] ∧ (run.crossing 32).offered = [] ∧ ((holding 35 [(.traffic (.hostRequest [1]) 4, 2)] run).crossing 35).held = [(.traffic (.hostRequest [1]) 4, 2)] ∧
    (65535 < 65536 ∧ Store.get Crossing.fresh.refs 0 9 < 65536 ∧ Store.wf 0 Crossing.fresh.counts = true) := by decide +kernel

theorem witness_domains : run.booted = true ∧ (0 : Fin 11) ≠ 10 ∧ bitOf run.domains 0 = true ∧
    (bitOf fabricStopped.domains 3 = false ∧ fabricStopped.clockOn 3 = true) ∧
    (let s := holding 32 [(.traffic (.hostRequest [1]) 4, 2)] fabricStopped
     s.booted = true ∧ s.crossingLive 32 = true ∧ canStall 32 = true ∧ s.waits 32 = true ∧ (s.crossing 32).stalled = false) ∧
    (crossingKind 0 ≠ .bit ∧ fabricStopped.sourceRuns 0 = true ∧ fabricStopped.destRuns 0 = false ∧
      fabricStopped.sourceRuns 1 = false ∧ fabricStopped.destRuns 1 = true) ∧
    (∀ s ∈ [run, fabricStopped], ((s.setCrossing 0 { Crossing.fresh with open_ := false, flush := some (true, false) }).crossing 0).flush = some (true, false)) ∧
    (∀ x : Fin 42, run.crossingLive x.val = true ∧ run.sourceRuns x.val = true ∧ run.destRuns x.val = true) ∧
    (∃ x : Fin 42, crossingKind x.val ≠ .bit) ∧ fabricStopped.booted = true := by decide +kernel

theorem witness_supply : run.booted = true ∧ run.power.stage = 0 ∧ (10199 < 10200 ∧ 10500 ≤ 10500 ∧ 9399 < 9400 ∧ 9700 ≤ 9700 ∧ 8799 < 8800 ∧ 7999 < 8000) ∧
    run.inRun = true ∧ (atStep 6).mode = .startUp ∧ (atStep 6).booted = true ∧ 16500 < 16501 ∧
    (∀ n ∈ [1, 2], ({ run with power := { run.power with stage := n } } : State).booted = true) ∧
    ({ run with power := { run.power with pfw := true } } : State).power.pfw = true ∧ 9000 ≤ 9000 ∧ 7799 < 7800 ∧
    ((run.modLane .a (fun ln => { ln with status := .held })).lane .a).status = .held ∧ (run.lane .a).excludedAt = none ∧
    ((showVin (jbump run 0x2103 0) .a 7799).modLane .a (fun ln => { ln with glue := { ln.glue with writing := none, fullDue := true } })).ready
      (7 * LaneId.num .a + 3) 3 := by unfold State.ready; decide +kernel

/-- A module as delivered with its plug in place: node 4 on every die, compatibility agreed. -/
def plugged : State := { State.reset with pins := { State.reset.pins with escJ := 4, escL := Tri.all 4, compat := [0, 0, 0] } }

/-- 16 R426, 13 R352: power-on with a plug that agrees goes on to step 2. -/
theorem test_power_on : (match exec .powerOn plugged with | .next t => (t.power.step, t.power.stop, t.pins.node) | _ => (0, 0, 0)) = (2, 0, 4) ∧
    (match exec .powerOn State.reset with | .next t => (t.power.step, t.power.stop) | _ => (0, 0)) = (1, 1) := by decide +kernel

theorem witness_resets : (State.reset.booted = false ∧ State.reset.power.stage ≠ 4) ∧
    (({ State.reset with power := { State.reset.power with stage := 4 } } : State).booted = false) ∧ run.booted = true ∧
    ({ atStep 2 with power := { (atStep 2).power with restart := some 5 } } : State).power.restart = some 5 ∧ (atStep 2).inRun = false := by
  decide +kernel

/-- A module in step `n` with a container admitted. -/
def startAt (n : Nat) : State := { atStep n with cfg := run.cfg, lanes := run.lanes }

theorem witness_start_up : ((atStep 2).mode = .startUp ∧ (atStep 2).power.step = 2 ∧ (atStep 2).power.stop = 0 ∧ (atStep 2).booted = true) ∧
    (LaneId.all.foldl admitSupply (atStep 2)).copies = [] ∧
    2 ≤ (LaneId.all.foldl admitSupply ({ atStep 2 with power := { (atStep 2).power with mV := [(0, 12000), (1, 12000), (2, 12000)] } } : State)).actives.length ∧
    (LaneId.all.foldl admitSupply ({ atStep 2 with power := { (atStep 2).power with mV := [(0, 5000), (1, 5000), (2, 5000)] } } : State)).actives.length < 2 ∧
    agreedCopy (LaneId.all.foldl admitSupply ((atStep 2).modLanes (fun _ ln => { ln with stored := some conf1 }))).copies = some conf1 ∧
    (startAt 3).inStep 3 = true ∧ ((startAt 4).inStep 4 = true ∧ (startAt 4).config = some conf1) ∧
    ((startAt 5).inStep 5 = true ∧ (LaneId.all.all (fun l => ((startAt 5).lane l).glue.journal.isEmpty) = true) ∧ 2 ≤ (startAt 5).actives.length) ∧
    ((ringIn .alone (startAt 6)).inStep 6 = true ∧ (ringIn .alone (startAt 6)).ring.state = .alone) ∧ jbool (jset (startAt 6) 0x4230 5 1) 0x4230 5 = true ∧
    (agreedCommit [(.a, [⟨4, 7, 5⟩]), (.b, [⟨4, 7, 5⟩]), (.c, [])]).isSome = true := by decide +kernel

/-- Three lanes with three different copies, and units that the scribe test reaches. -/
theorem witness_start_up_more :
    (let fed := LaneId.all.foldl admitSupply ((atStep 2).modLanes (fun l ln => { ln with stored := some { conf1 with signed := { conf1.signed with digest := l.num } } }))
     2 ≤ fed.actives.length ∧ fed.copies ≠ [] ∧ agreedCopy fed.copies = none) ∧
    0 ∈ (startAt 3).scribeUnits ∧ 0x8001 ∈ (startAt 3).scribeUnits ∧ 63 < 64 ∧ (startAt 4).config = some conf1 := by decide +kernel

/-- 16 R412: an overvoltage only counts. -/
theorem test_overvoltage : (match exec (.overvoltage 3 16501) run with | .next t => (jget t 0x2109 0, t.mode) | _ => (0, .safe)) = (1, .run2oo3) ∧
    (match exec (.overvoltage 3 16500) run with | .next t => jget t 0x2109 0 | _ => 9) = 0 := by decide +kernel

/-- 16 R418: below 8.8 V the module in RUN is in the safe state with cause 9. -/
theorem test_power_fail : (match exec (.powerFailWarning 8799) run with | .next t => (t.mode.code, jget t 0x3002 0, t.power.stage) | _ => (0, 0, 0)) =
    (Mode.safe.code, 9, 3) := by decide +kernel

/-! ## The object dictionary -/

/-- Whether the device takes a write and every check lets it pass. -/
def allows (s : State) (q : Request) : Bool :=
  (carrierTakes s q.sender).2 && (admitRequest (carrierTakes s q.sender).1 q).2 && decide (s.dict.arrived = []) && decide (q.op = 2) &&
  (match resolve (s.taken q) q.index q.sub with
    | .error _ => false
    | .ok t =>
      (accessOf t q.index q.sub).canWrite && decide (t.typ ≠ .domain) && decide (lengthCode t q.index q.sub q.data.length = 0) &&
      stateRule (s.taken q) q.sender t q.index q.sub q.data &&
      (decide (accessOf t q.index q.sub ≠ .rwS) || (s.taken q).unsealed) && (decide (accessOf t q.index q.sub ≠ .rwP) || (s.taken q).holds q.sender) &&
      decide (valueRule (s.taken q) q.sender t q.index q.sub q.data = 0) &&
      (decide (accessOf t q.index q.sub ≠ .rwP) || logRoom (s.taken q) (logNeed (s.taken q) q.index q.sub)))

/-- Such a write meets the premise of the statements. -/
theorem writable_of_allows (s : State) (q : Request) (h : allows s q = true) : ∃ t, s.writable q t := by
  unfold allows at h
  split at h
  · simp at h
  · rename_i t ht
    refine ⟨t, ⟨⟨⟨⟨?_, ?_⟩, ?_⟩, ?_, ht, ?_, ?_, ?_, ?_⟩, ⟨?_, ?_⟩, ?_, ?_⟩⟩ <;> simp_all <;> tauto

/-- Whether the device takes a read and every check lets it pass. -/
def answers (s : State) (q : Request) : Bool :=
  (carrierTakes s q.sender).2 && (admitRequest (carrierTakes s q.sender).1 q).2 && decide (s.dict.arrived = []) && decide (q.op = 1) &&
  (match resolve (s.taken q) q.index q.sub with
    | .error _ => false
    | .ok t => (accessOf t q.index q.sub).canRead && decide (t.typ ≠ .domain))

/-- Such a read meets the premise of the statements. -/
theorem readable_of_answers (s : State) (q : Request) (h : answers s q = true) : ∃ t, s.readable q t := by
  unfold answers at h
  split at h
  · simp at h
  · rename_i t ht
    refine ⟨t, ⟨⟨⟨?_, ?_⟩, ?_⟩, ?_, ht, ?_, ?_⟩⟩ <;> simp_all

/-- A delta on `conf1` that changes nothing barred. -/
def delta1 : Delta :=
  { base := 7, signed := conf1.signed, nodeId := 4, version := 2, digest := 5, barred := [], sClass := false, removed := [], merged := conf1 }

/-- An external symbol: the 16-bit output word at offset 2 of Q. -/
def out5 : Sys2Proof.Symbol :=
  { id := 5, type := 1, kind := .plain, area := 1, slot := 0, ofs := 2, bit := 0, bool := false, elemSize := 2, elems := 1, init := [0, 0],
    cross := false, writer := 0, single := 0, external := true }

/-- A module in RUN, unsealed, with the host in session, a container downloaded, a delta received, a unit claimed and a freeze held. -/
def served : State :=
  { jset (fieldUp (running { conf1 with symbols := [out5], windows := [], triggersOpen := [1, 7, 255] })) 0x7000 3 0 with
    pins := { run.pins with esc7 := true }
    priv := { run.priv with holder := some host }
    cvu := [(0, { unit := some { poly := 2, reg := 0xFFFFFFFF, owner := none }, client := some 1, at_ := 0 })]
    cfg := { run.cfg with inForce := some { conf1 with symbols := [out5], windows := [], triggersOpen := [1, 7, 255] }, download := some (conf1, 1) }
    change := { run.change with state := 1, delta := some delta1 }
    vote := { run.vote with k := some 5 }
    recorder := { run.recorder with holder := some 1 }
    forces := [(0, { rec_ := List.replicate 20 0, time := 0, client := 1 })] }

/-- The same with a change admitted and distributed, its activation in cycle 7. -/
def ready : State := jset { served with change := { served.change with state := 5 } } 0x6800 4 7

theorem witness_carried_out :
    ([writeReq host 0x3007 0 [0xA5]].all (allows { served with mode := .safe }) &&
     [writeReq host 0x3006 2 [2]].all (allows ({ served with mode := .run2oo2 }.modLane .c (fun ln => { ln with status := .held }))) &&
     [writeReq host 0x3044 0 [0xA5]].all (allows { served with mode := .startUp, power := { served.power with step := 5, stop := 9 } }) &&
     [writeReq host 0x6800 3 [2]].all (allows ready) &&
     [writeReq host 0x4010 2 [1, 0], writeReq host 0x4017 2 [255, 0], writeReq host 0x4018 3 [1, 0], writeReq host 0x401B 3 [1, 0],
      writeReq host 0x4800 14 [1], writeReq host 0x4810 14 [1], writeReq host 0x4A07 5 [4], writeReq host 0x4A00 6 [1], writeReq host 0x4A00 7 [1, 2],
      writeReq host 0x4A00 8 [1, 2, 3, 4], writeReq host 0x4A00 10 [0], writeReq host 0x9000 2 [1], writeReq host 0x9000 2 [2],
      writeReq host 0x6800 3 [1], writeReq host 0x6800 3 [3], writeReq host 0x6400 2 [0], writeReq host 0x6400 3 [0xA5], writeReq host 0x7001 1 [0xA5],
      writeReq host 0x7011 1 [1], writeReq host 0x7011 1 [0], writeReq host 0x7203 0 [0xA5], writeReq host 0x7100 6 [1], writeReq host 0x713F 6 [1],
      writeReq host 0x8010 2 [0], writeReq host 0x8010 3 [0x21, 0x22, 0x23, 0x24, 0x25, 0x26, 0x27, 0x7E], writeReq host 0x8010 4 [0xA5],
      writeReq host 0x8105 1 [1, 0, 0, 0], writeReq host 0x2210 7 [1], writeReq host 0x2239 7 [1], writeReq host 0x2203 0 [1],
      writeReq host 0x2010 0 [0xA5]].all (allows served)) = true := by decide +kernel

/-- A force of 1 on that word: symbol 5, area Q, width 2, value 1. -/
def force5 : Bytes := leBytes 4 5 ++ [1, 2, 0, 0] ++ leBytes 8 1 ++ leBytes 4 0

/-- The generator of P-256 as an uncompressed public key (FIPS 186-4, D.1.2.3). -/
def keyG : Bytes :=
  4 :: (leBytes 32 0x6B17D1F2E12C4247F8BCE6E563A440F277037D812DEB33A0F4A13945D898C296).reverse ++ (leBytes 32 0x4FE342E2FE1A7F9B8EE7EB4A7C0F9E162BCE33576B315ECECBB6406837BF51F5).reverse

theorem witness_force_allowed : allows served (writeReq host 0x6400 1 force5) = true := by decide +kernel

theorem witness_carried_out_more :
    (allows served (writeReq host 0x8101 1 keyG) &&
     allows { served with priv := { served.priv with holder := none } } (writeReq host 0x8010 1 []) &&
     allows { served with keys := [(0, keyG), (3, 4 :: keyG.tail.reverse)] } (writeReq host 0x8104 4 [0xA5]) &&
     allows served (writeReq host 0x4004 0 (leBytes 8 5))) = true := by decide +kernel

theorem witness_units : run.time.dc.length = 8 ∧ run.time.ec.length = 4 ∧
    (entry? 0x4A00 5).any (fun e => decide (e.cls = .j)) = true ∧ ((Store.find? served.cvu 0).bind (fun v => v.unit)).isSome = true := by decide +kernel

theorem witness_module_writes : LaneId.ofNum (ofLe [2]) = some .c ∧ served.change.state ≠ 6 ∧
    ({ served with change := { served.change with state := 6 } } : State).change.state = 6 ∧
    served.cfg.download = some (conf1, 1) ∧ served.change.delta = some delta1 ∧ served.config.isSome = true ∧ jbool (jset served 0x6800 5 1) 0x6800 5 = true ∧
    served.vote.deferred = none ∧
    openOutcome { served with priv := { served.priv with holder := none } } host [] = 0 ∧
    (({ served with keys := [(3, keyG)] } : State).keyAt 3).isSome = true ∧ ofLe [1, 0] ≠ 0 := by decide +kernel

theorem witness_cycle_writes : (entry? 0x3004 0).any (fun e => decide (e.cls = .v)) = true ∧
    (forceSlot served (forceRec force5)).orElse (fun _ => freeSlot served) = some 1 ∧ (Store.find? served.forces 0).isSome = true := by decide +kernel

/-- A sealed module without a session. -/
def closed : State := { served with pins := { served.pins with esc7 := false }, priv := { served.priv with holder := none } }

theorem witness_guarded :
    (match resolve (closed.taken (writeReq host 0x7000 1 [0, 0, 0, 0])) 0x7000 1 with
      | .ok t => decide (accessOf t 0x7000 1 = .rwS) && stateRule (closed.taken (writeReq host 0x7000 1 [0, 0, 0, 0])) host t 0x7000 1 [0, 0, 0, 0] &&
          decide (lengthCode t 0x7000 1 4 = 0) && !(closed.taken (writeReq host 0x7000 1 [0, 0, 0, 0])).unsealed
      | .error _ => false) = true ∧
    (match resolve (closed.taken (writeReq host 0x7001 1 [0xA5])) 0x7001 1 with
      | .ok t => decide (accessOf t 0x7001 1 = .rwP) && stateRule (closed.taken (writeReq host 0x7001 1 [0xA5])) host t 0x7001 1 [0xA5] &&
          decide (lengthCode t 0x7001 1 1 = 0) && !(closed.taken (writeReq host 0x7001 1 [0xA5])).holds host
      | .error _ => false) = true ∧ (carrierTakes closed host).2 = true ∧
    (admitRequest closed (writeReq host 0x7001 1 [0xA5])).2 = true := by decide +kernel

/-- Records and a log entry to read, with cursors at them. -/
def readable1 : State :=
  { served with
    recorder := { served.recorder with holder := none, sArm := 0, head := 1, keep := [(0, ⟨0, 1, 2, 3, []⟩)], sizeN := 8, sizeM := 8 }
    log := [{ time := 0, client := 1, path := 0, index := 0x3004, sub := 0, kind := 1, oldVal := [], newVal := [] }] }

theorem witness_reads : ([readReq host 0x4A00 9, readReq host 0x7010 2, readReq host 0x7202 2, readReq host 0x7140 2, readReq host 0x717F 2].all
      (answers readable1)) = true ∧ (readable1.recorder.at_ (readable1.bindingOf host).recCursor).isSome = true ∧
    (readable1.logAt (readable1.bindingOf host).logCursor).isSome = true ∧ (entry? 0x7010 3).isSome = true ∧
    (let q : Request := { readReq host 0x7010 3 with op := 3 }
     (carrierTakes readable1 host).2 = true ∧ (admitRequest readable1 q).2 = true ∧
       (Store.erase (readable1.taken q).dict.captures 1).length < 4 ∧
       (readable1.taken q).recorder.blockLen ((readable1.taken q).bindingOf host).recCursor ≠ 0) ∧
    (let s := { readable1 with dict := { readable1.dict with captures := [(1, { index := 0x7010, sub := 3, data := [1, 2], at_ := 0 })] } }
     let q : Request := { readReq host 0x7010 3 with op := 3, offset := 1 }
     (admitRequest s q).2 = true ∧ Store.find? (s.taken q).dict.captures 1 = some { index := 0x7010, sub := 3, data := [1, 2], at_ := 0 }) := by decide +kernel

theorem witness_domains_move :
    (let q : Request := { writeReq host 0x9000 1 [1, 2] with op := 4, last := false, offset := 0 }
     (admitRequest served q).2 = true ∧ openCode (served.taken q) q = 0 ∧
       (match resolve (served.taken q) 0x9000 1 with | .ok t => decide (t.typ = .domain) && (accessOf t 0x9000 1).canWrite | .error _ => false) = true) ∧
    (let s := { served with dict := { served.dict with xfers := [(1, { index := 0x9000, sub := 1, data := [7], at_ := 0 })] } }
     let q : Request := { writeReq host 0x9000 1 [1, 2] with op := 4, last := false, offset := 1 }
     (admitRequest s q).2 = true ∧ Store.find? (s.taken q).dict.xfers 1 = some { index := 0x9000, sub := 1, data := [7], at_ := 0 }) ∧
    (let s := { served with change := { served.change with state := 0, delta := none } }
     s.change.state = 0 ∧ s.unsealed = true ∧ s.holds host = true ∧ logRoom s 1 = true ∧ s.config.any (fun c => decide (c.identity = delta1.base)) = true ∧
       openCode s (wholeReq host 0x6800 2 []) = 0 ∧ openCode s (wholeReq host 0x9000 1 []) = 0 ∧ delta1.barred = [] ∧
       delta1.sClass = false) := by decide +kernel

/-- A signature of the digest 0 by the private key 1, whose public key is the generator, with the nonce 1: r = s = x(G)
(FIPS 186-4, 6.4). -/
def signedG : Signed := { keyId := keyIdentity keyG, r := 0x6B17D1F2E12C4247F8BCE6E563A440F277037D812DEB33A0F4A13945D898C296, s := 0x6B17D1F2E12C4247F8BCE6E563A440F277037D812DEB33A0F4A13945D898C296, digest := 0 }

theorem witness_signature : loadStatus { served with keys := [(0, keyG)] } signedG 2 served.pins.node = 1 := by decide +kernel

/-- Deltas on `conf1`: one that changes nothing barred, and one that changes T_base. -/
theorem witness_deltas : barredItems conf1 { delta1.merged with signed := signedG, version := 2, nodeId := 4 } = [] ∧ changesSClass conf1 conf1 = false ∧
    delta1.barred ++ barredItems conf1 { conf1 with tBase := 2000000 } = 9 :: [] ∧ delta1.base = conf1.identity := by decide +kernel

theorem witness_gauge : allows served (writeReq host 0x5001 1 [3]) = true ∧ timingEntry 0x5001 1 = true ∧ served.cfg.gauge = none ∧
    (∀ x ∈ [Subject.full true, .delta], ({ served with cfg := { served.cfg with gauge := some x, gaugeK := some conf1 } } : State).cfg.gauge = some x) ∧
    (gaugeChecks (gaugeEnv served none) conf1).isSome = true ∧
    (match resolve served 0x5001 1 with | .ok (.row e) => decide (e.cls = .v) | _ => false) = true ∧
    ({ served with change := { served.change with state := 3 } } : State).change.state = 3 ∧ served.active .a = true ∧
    (Tri.all 5 : Tri Nat).get .a = delta1.digest ∧ (Tri.all 6 : Tri Nat).get .a ≠ delta1.digest := by decide +kernel

/-- A client whose request of transaction 1 was answered before. -/
def repeated (crc : Nat) : State :=
  { served with dict := { served.dict with dups := [(1, [{ txn := 1, crc := crc, resp := [9], at_ := 0 }])] } }

theorem witness_tick : served.change.state ≠ 3 ∧ served.dict.arrived = [] ∧ host.path = .host ∧ (carrierTakes (repeated 0) host).2 = true ∧
    (repeated 0).power.pfw = false ∧ clientCode (repeated 0) host = 0 ∧ (repeated 0).dict.inFlight.contains (1, 1) = false ∧
    ((Store.get (repeated 0).dict.dups [] 1).find? (fun y => decide (y.txn = 1))).isSome = true ∧
    (0 : Nat) ≠ bodyCrc (writeReq host 0x3004 0 [1]) := by decide +kernel

/-- 17 R443: a repeated request with the same bytes is answered again and not carried out again. -/
theorem test_repeat : (match exec (.registerWrite host 0x3127 0 [1]) (repeated (bodyCrc (writeReq host 0x3127 0 [1]))) with
    | .next t => (t.host.queue, (Store.find? t.dict.bindings 1).isSome) | _ => ([], true)) = ([[9]], false) := by decide +kernel

/-- 17 R444, 02 R34: a write of 4013.02 is answered with the status 0 and arms compare 3 with its target. -/
theorem test_write_answered : (match exec (.dcTriggerIdWrite host 3 [7, 0]) (jset served 0x4013 1 99) with
    | .next t => (t.host.queue.map (fun b => b.drop 4), t.time.dc[3]?) | _ => ([], none)) =
    ([[0x82, 0, 0x13, 0x40, 2, 0, 0, 0, 0, 0, 0, 0]], some { sec := 0, ns := 99, id := 7, close := true, state := 1 }) := by decide +kernel

/-- 11 R321: fed "1", "23", "4567" and then "8", "9", unit 0 gives the CRC-32 of Table 11-6. -/
theorem test_cvu : (match exec (.cvuFeedWord host 0 [0x31, 0x32, 0x33, 0x34]) served with
    | .next t => (Store.find? t.cvu 0).bind (fun v => v.unit.map (fun u => crcFinish u.poly (crcFeed u.poly u.reg [0x35, 0x36, 0x37, 0x38, 0x39])))
    | _ => none) = some 0xCBF43926 := by decide +kernel

/-! ## Further witnesses -/

/-- A canonical state in which an instruction runs, and one that stores nothing. -/
theorem witness_canonical : State.reset.canonical = true ∧ (withEngine en0).canonical = true ∧
    (match step (withEngine en0) with | .next t => t.canonical | _ => false) = true ∧
    Parts.stores (.ld32 e0 { area := .i, idx := 0, ofs := 0x200 } .wa) = false ∧
    ((frame 1 0 2).iters ≤ 2 ∧ (frame 1 0 2).iter + 1 < (frame 1 0 2).iters) := by decide +kernel

/-- Every queue of a running module takes its traffic at once. -/
theorem witness_flows : ∀ x ∈ [0, 1, 4, 5, 7, 8, 11, 12, 14, 15, 18, 19, 22, 23, 24, 25, 26, 27, 28, 31, 32, 33, 34, 35, 36], run.flows x := by
  unfold State.flows; decide +kernel

/-- Lane C in its restart, with the copy `c` in its MRAM under the configuration `conf1`. -/
def restarting (c : Option Container) : State := (outC .restarting).modLane .c (fun ln => { ln with stored := c })

theorem witness_lane_boot : (restarting none).vote.reint = some .c ∧ ((restarting none).lane .c).status = .restarting ∧
    (restarting none).config = some conf1 ∧ ((restarting none).lane .c).ownCopy conf1 = none ∧
    ((restarting (some conf1)).lane .c).ownCopy conf1 = some conf1 ∧ (restarting (some conf1)).pins.mayBoot conf1 .c = true ∧
    ((restarting (some { conf1 with splits := Tri.all [0] })).lane .c).ownCopy conf1 = some { conf1 with splits := Tri.all [0] } ∧
    (restarting (some { conf1 with splits := Tri.all [0] })).pins.mayBoot { conf1 with splits := Tri.all [0] } .c = false ∧
    engineUnits conf1 .c ≠ [] := by decide +kernel

/-- A monitor with a path delay request of number 3 on its way, answered in one step or in two. -/
theorem witness_peer_delay :
    (let s := (jset (ptpIn 2 9) (ptpIndex .e0) 3 2).modPtp .e0 (fun x => { x with reqT := some (3, 7), respT := some (8, 9) })
     (s.ptp .e0).reqT = some (3, 7) ∧ (s.ptp .e0).respT = some (8, 9) ∧ ptpGet s .e0 3 = 2) ∧
    (ptpMsg (.pdelayResp 3 false 40)).kind = .pdelayResp 3 false 40 ∧ (ptpMsg (.pdelayRespFollowUp 3 40)).kind = .pdelayRespFollowUp 3 40 ∧
    ptpClaims (ecnUp 2) 0 5000 = false ∧ ptpClaims (ptpIn 1 6) 0 319 = true ∧ portChecks { eframe with dstPort := 319 } = true := by decide +kernel

/-- A wrap notice of the ring with identity 9 that names node `n`. -/
def noticePl (n : Byte) : Bytes := leBytes 4 9 ++ [n, 0, 1] ++ leBytes 17 0

theorem witness_notices :
    (let got := hear (ringR .active) .east 22 0
     ∀ n ∈ [(0 : Byte), 1, 64, 65], (frame5 4 1 (noticePl n)).kind = 4 ∧ ofLe ((noticePl n).take 4) = got.ringIdent ∧ noticeCause (frame5 4 1 (noticePl n)) ≠ 3 ∧
       ((noticePl n).drop 4).headD 0 = n ∧ got.ring.breakKnown ≠ none ∧ bitOf (jget got 0x4235 1) 9 = false) ∧
    (∀ q ∈ run.ring.west.notices, run.ownRestoration .east q.2 = false) ∧ (ringR .integrate).hasRun = true ∧
    ({ ringR .integrate with mode := .startUp, ring := { (ringR .integrate).ring with ran := false } } : State).hasRun = false ∧
    (∀ q ∈ ((ecnUp 1).ecn 0).awaiting, q.1 ≠ 7) := by decide +kernel

/-- An SDO frame on channel 0, one that no channel takes, and open transfers. -/
theorem witness_sdo_frames : sdoChannel (canUp .preOp 0) .c0 { ident := 0x604, data := leBytes 8 0 } = some 0 ∧
    sdoChannel (canUp .operational 0) .c0 { ident := 0x181, data := [1] } = none ∧
    (∀ u ∈ [true, false], ({ upload := u, index := 0x1008, sub := 0, data := [], at_ := 1 } : SdoXfer).open_ = true) ∧
    (({ upload := true, index := 0x1008, sub := 0, data := [], at_ := 1 } : SdoXfer).txn = none) ∧ (0 = 0 ∨ 127 < 0) ∧ (127 < 128) ∧
    crcXmodem [] ≠ 1 ∧ dictState.sdoUp 0 = true := by decide +kernel

/-- A client of the dictionary at ECN port 0. -/
def ecnClient : Sender := { path := .ecn, carrier := 0, ip := 1, udpPort := 4000, client := 3, txn := 1 }

theorem witness_ecn_datagram :
    (let s := jset (jset (ecnUp 2) 0x1E00 2 7) 0x1E00 1 6000
     let s := { s with dict := { s.dict with port := 6000 } }
     ecnClient.path = .ecn ∧ s.ecnUp ecnClient.carrier = true ∧ ecnClient.carrier ≤ 1 ∧ s.booted = true ∧ s.power.stage = 0 ∧ s.udpPath ecnClient = true ∧
       (parseBody ecnClient [1, 1, 5, 0, 1, 0, 8, 16, 0, 0, 0, 0, 0, 0, 0, 0]).isSome = true ∧ ptpClaims s 0 s.dict.port = false ∧
       portChecks (datagramFrame s ecnClient s.dict.port [1]) = true ∧ contextFor s 0 (datagramFrame s ecnClient s.dict.port [1]) = none) := by decide +kernel

/-- A step of the element test that a lane's loss has interrupted, and one that nothing has. -/
theorem witness_suspended : ({ run with mode := .run2oo2 } : State).testSuspended = true ∧ run.testSuspended = false ∧ (run.chan 0).skip = none := by decide +kernel

/-- Resets that wait for VIN and resets that do not, a supply that is good and one that is not. -/
theorem witness_reset_sources : jget State.reset 0x2000 8 ≠ ResetSource.resetN.code ∧
    jget (jset State.reset 0x2000 8 ResetSource.resetN.code) 0x2000 8 = ResetSource.resetN.code ∧ run.vinIsGood = true ∧
    ({ run with power := { run.power with mV := [(3, 8999)] } } : State).vinIsGood = false ∧ (run.lane .a).glue.writing = none ∧
    ({ run with power := { run.power with restart := some 5 } } : State).inRun = true ∧
    ({ atStep 2 with cfg := { (atStep 2).cfg with gauge := some .delta } } : State).cfg.gauge ≠ none ∧ (atStep 2).cfg.gauge = none := by decide +kernel

/-- A write that reaches the checks of Table 17-6 from the access class on. -/
def reached (s : State) (q : Request) (a : Access) : Bool :=
  (carrierTakes s q.sender).2 && (admitRequest (carrierTakes s q.sender).1 q).2 && decide (s.dict.arrived = []) && decide (q.op = 2) &&
  (match resolve (s.taken q) q.index q.sub with
    | .error _ => false
    | .ok t => (accessOf t q.index q.sub).canWrite && decide (t.typ ≠ .domain) && decide (lengthCode t q.index q.sub q.data.length = 0) &&
        stateRule (s.taken q) q.sender t q.index q.sub q.data && decide (accessOf t q.index q.sub = a))

theorem witness_guarded_more : reached closed (writeReq host 0x8010 4 [0xA5]) .rwS = true ∧ (closed.taken (writeReq host 0x8010 4 [0xA5])).unsealed = false ∧
    reached closed (writeReq host 0x8010 5 [60, 0]) .rwP = true ∧ (closed.taken (writeReq host 0x8010 5 [60, 0])).holds host = false ∧
    reached closed (writeReq host 0x8010 1 [0x41]) .wo = true ∧ openOutcome (closed.taken (writeReq host 0x8010 1 [0x41])) host [0x41] ≠ 0 ∧
    (let s := jset { closed with ring := { closed.ring with state := .active } } 0x1E00 2 7
     reached s (writeReq ringClient 0x7001 1 [0xA5]) .rwP = true ∧ (s.taken (writeReq ringClient 0x7001 1 [0xA5])).holds ringClient = false) := by
  decide +kernel

/-- A re-check that passes in RUN, and one that fails; writes that the device lets in. -/
theorem witness_gauge_more :
    (let w : BatchWrite := { key := regKey 0x5001 1, val := 3, lane := writeLane served (served.viewOf host) 0x5001 }
     served.cfg.gaugeQ = [] ∧ served.inRun = true ∧ served.unsealed = true ∧
       ((recheck served w).isSome = true ∨ recheck served w = none)) ∧
    (carrierTakes served host).2 = true ∧ (admitRequest (carrierTakes served host).1 (writeReq host 0x3127 0 [1])).2 = true ∧
    (dictState.dict.xfers.map Prod.fst).Nodup ∧ (dictState.dict.captures.map Prod.fst).Nodup ∧ (Store.find? dictState.dict.xfers 1).isSome = true ∧
    ringClient.path ≠ .can := by decide +kernel

end Sys2Proof.Tests
end

section
/-! Direct compares and the reach of their 32-bit targets (02 R34, R35). -/

namespace Sys2Proof.Machine

open Sys2Proof

/-! ## The wait for a 32-bit target (02 R34) -/

/-- The low 32 bits of an integer, read as two's complement. -/
theorem signedOf_wrapTo_32 (i : Int) :
    signedOf 32 (wrapTo 32 i) = if i % 4294967296 < 2147483648 then i % 4294967296 else i % 4294967296 - 4294967296 := by
  have hm : wrapTo 32 i % 2 ^ 32 = (i % 4294967296).toNat := by simp only [wrapTo]; omega
  simp only [signedOf, hm]
  split <;> split <;> omega

/-- The wait as the difference of R34 gives it: none in the lower half of its range, what is missing to 2^32 in the upper half. -/
theorem waitFor_eq (now target : Nat) :
    (waitFor now target : Int) =
      if ((now : Int) - target) % 4294967296 < 2147483648 then 0 else 4294967296 - ((now : Int) - target) % 4294967296 := by
  simp only [waitFor, signedOf_wrapTo_32]
  split
  case isTrue => rw [if_pos (by omega), Nat.cast_zero]
  case isFalse => rw [if_neg (by omega)]; omega

/-- A target `d` ahead is waited for if `d` is at most 2^31, and counts as past beyond that (02 R35). -/
theorem waitFor_ahead (now d : Nat) (hd : d < 4294967296) :
    waitFor now ((now + d) % 4294967296) = if d ≤ 2147483648 then d else 0 := by
  have h := waitFor_eq now ((now + d) % 4294967296)
  split at h <;> split <;> omega

/-- Once waited for, a target is due. -/
theorem waitFor_at_target (now target : Nat) : waitFor (now + waitFor now target) target = 0 := by
  have h1 := waitFor_eq now target
  have h2 := waitFor_eq (now + waitFor now target) target
  split at h1 <;> split at h2 <;> omega

/-! ## DIRECT_COMPARE_FIRE (02 R38) -/

theorem exec_directCompareFire (n : Fin 8) (s : State) : exec (.directCompareFire n) s = .next (directCompareFire s n) := rfl

@[simp] theorem advanceTo_dc (s : State) (t : Nat) : (advanceTo s t).time.dc = s.time.dc := rfl

/-- The instant at which an armed direct compare is due. -/
theorem dcAt_armed (s : State) (n : Nat) (x : Compare) (hx : s.time.dc[n]? = some x) (ha : x.state = 1) :
    s.dcAt n = some (s.time.now + waitFor s.time.now x.ns) := by
  simp [State.dcAt, hx, ha]

/-- A direct compare whose target has come is spent and raises its trigger. -/
theorem directCompareDue_at_target (s : State) (n : Nat) (x : Compare) (hx : s.time.dc[n]? = some x) (ha : x.state = 1)
    (hw : waitFor s.time.now x.ns = 0) :
    directCompareDue s n = raiseTrigger (setDc s n { x with state := 2 }) x.id := by
  have hp : advanceTo s s.time.now = s := advanceTo_past s _ (Nat.le_refl _)
  simp [directCompareDue, hx, ha, hw, hp]

/-- An armed direct compare before which nothing is due fires at its target, wherever that lies (02 R38, R39). -/
theorem directCompareFire_armed (s : State) (n : Nat) (x : Compare) (hx : s.time.dc[n]? = some x) (ha : x.state = 1)
    (hf : s.firedEarly (.direct n) = false) (hn : s.nothingDue (s.time.now + waitFor s.time.now x.ns) n 0) :
    directCompareFire s n =
      raiseTrigger (setDc (advanceTo s (s.time.now + waitFor s.time.now x.ns)) n { x with state := 2 }) x.id := by
  rw [directCompareFire_alone s n _ hf (dcAt_armed s n x hx ha) hn]
  have hnow : (advanceTo s (s.time.now + waitFor s.time.now x.ns)).time.now = s.time.now + waitFor s.time.now x.ns := by
    rw [advanceTo_now]
    exact Nat.max_eq_right (Nat.le_add_right _ _)
  exact directCompareDue_at_target _ n x hx ha (by rw [hnow, waitFor_at_target])

/-- Settles O36: the wait for a target `d` ahead is `d` up to 2^31 and 0 beyond, and the compare fires after that wait. -/
theorem farTargetsFireAtOnce : Obligations.FarTargetsFireAtOnce := by
  unfold Obligations.FarTargetsFireAtOnce
  intro s n x d hx ha hd hns hf t hn
  have hw : waitFor s.time.now x.ns = if d ≤ 2147483648 then d else 0 := by rw [hns, waitFor_ahead _ _ hd]
  have ht : t = s.time.now + waitFor s.time.now x.ns := by rw [hw]
  rw [ht] at hn ⊢
  rw [exec_directCompareFire, directCompareFire_armed s n x hx ha hf hn]

end Sys2Proof.Machine
end

section
/-! The bit operand of an instruction and the bracket stack (05 R138 to R140). -/

namespace Sys2Proof.Machine

open Sys2Proof

/-! ## The checked load of a bit operand (05 R138) -/

/-- A bit whose byte passes the checks of a load. -/
theorem Exec.loadBit_of_ok (x : Exec) (b : BitAddr) (h : x.loadFault b.area b.ofs.val 1 = 0) :
    x.loadBit b = (bitOf (x.readByte b.area b.ofs.val).toNat b.bit.val, x.fetch b.area b.ofs.val 1) := by
  simp [Exec.loadBit, Exec.loadVal, h, Exec.readBytes, ofLe]

/-- A bit whose byte fails them: 0, with the fault raised. -/
theorem Exec.loadBit_of_fault (x : Exec) (b : BitAddr) (h : x.loadFault b.area b.ofs.val 1 ≠ 0) :
    x.loadBit b = (false, x.raise (x.loadFault b.area b.ofs.val 1)) := by
  simp [Exec.loadBit, Exec.loadVal, h, bitOf]

/-- The first fault of an instruction is latched as it is. -/
theorem Exec.raise_first (x : Exec) (code : Nat) (h : x.fault = 0) : x.raise code = { x with fault := code } := by
  by_cases hc : code = 0 <;> simp [Exec.raise, h, hc]

/-! ## An instruction under way that has left memory alone -/

/-- An instruction of the engine `e` that has taken `clk` clocks: the registers `en`, the fault `code`, the data `ins` loaded, and `out` put on
the compared bus. The lane is as it was, and the instruction goes on to PC + 1. -/
def State.midway (s : State) (e : EngineId) (en : Engine) (clk code : Nat) (ins : Bytes) (out : List (BitVec 128)) : Exec :=
  { Exec.start s e with en := en, cost := clk, fault := code, ins := ins, out := out }

/-- An instruction that ends so, its loops, return addresses, clock and task context untouched. -/
theorem serzel_midway (s : State) (e : EngineId) (f : Exec → Exec) (en : Engine) (clk code : Nat) (ins : Bytes) (out : List (BitVec 128))
    (hs : s.steady e = true) (hf : f (Exec.start s e) = s.midway e en clk code ins out) (hl : en.loops = (s.engineOf e).loops)
    (hc : en.calls = (s.engineOf e).calls) (hk : en.clock = (s.engineOf e).clock) (hx : en.ctx = (s.engineOf e).ctx) :
    serzel s e f = s.ranOut e (s.lane e.lane) en clk code ins out :=
  serzel_ran s e f (s.midway e en clk code ins out) hs hf rfl rfl rfl rfl hl hc hk hx rfl

/-- The clocks of an access, which no register but the clock of the engine decides (05 R161). -/
theorem access_start (s : State) (e : EngineId) (g : Engine → Engine) (a : Area) (n : Nat)
    (hk : (g (s.engineOf e)).clock = (s.engineOf e).clock) :
    (((Exec.start s e).mapEn g).access a).clocks n = s.midway e (g (s.engineOf e)) (n + s.slotWait e a) 0 [] [] := by
  have hw : ((Exec.start s e).mapEn g).wait = (Exec.start s e).wait := by
    simp only [Exec.wait, Exec.mapEn, start_en, hk]; rfl
  unfold Exec.access State.slotWait
  split
  case isTrue =>
    have hcost : 0 + (Exec.start s e).wait + n = n + (Exec.start s e).wait := by omega
    rw [hw, ← hcost]; rfl
  case isFalse =>
    rw [Nat.add_comm]; rfl

/-- The fault that the load of a bit operand raises, 0 when its checks pass (05 R138). -/
def State.bitFault (s : State) (e : EngineId) (b : BitAddr) : Nat := (Exec.start s e).loadFault b.area b.ofs.val 1

/-- The bit operand as it is delivered: 0 when a check fails (05 R138). -/
def State.bitOperand (s : State) (e : EngineId) (b : BitAddr) : Bool :=
  if s.bitFault e b = 0 then bitOf ((Exec.start s e).readByte b.area b.ofs.val).toNat b.bit.val else false

/-- The checked load of a bit after `clk` clocks (05 R138). -/
theorem loadBit_midway (s : State) (e : EngineId) (en : Engine) (clk : Nat) (b : BitAddr) :
    (s.midway e en clk 0 [] []).loadBit b =
      (s.bitOperand e b, s.midway e en clk (s.bitFault e b) (s.loadedIn e b.area b.ofs.val 1 (s.bitFault e b)).1
        (s.loadedIn e b.area b.ofs.val 1 (s.bitFault e b)).2) := by
  by_cases h0 : s.bitFault e b = 0
  · rw [Exec.loadBit_of_ok (s.midway e en clk 0 [] []) b h0, State.bitOperand, State.loadedIn, if_pos h0, if_pos h0, h0]; rfl
  · rw [Exec.loadBit_of_fault (s.midway e en clk 0 [] []) b h0, State.bitOperand, State.loadedIn, if_neg h0, if_neg h0,
      Exec.raise_first _ _ rfl]; rfl

/-! ## Bit logic on an engine (05 R139, R140) -/

/-- An instruction that changes registers of its engine by `g` and then sets BA to `f` of BA and its bit operand. -/
theorem serzel_bitLogic (s : State) (e : EngineId) (b : BitAddr) (f : Bool → Bool → Bool) (g : Engine → Engine) (i : Exec → Exec)
    (hs : s.steady e = true) (hi : i (Exec.start s e) = bitLogic b f ((Exec.start s e).mapEn g))
    (hl : (g (s.engineOf e)).loops = (s.engineOf e).loops) (hc : (g (s.engineOf e)).calls = (s.engineOf e).calls)
    (hk : (g (s.engineOf e)).clock = (s.engineOf e).clock) (hx : (g (s.engineOf e)).ctx = (s.engineOf e).ctx) :
    serzel s e i =
      s.ranLoad e { g (s.engineOf e) with ba := f (g (s.engineOf e)).ba (s.bitOperand e b) } (1 + s.slotWait e b.area)
        (s.bitFault e b) b.area b.ofs.val 1 := by
  refine serzel_midway s e i _ _ _ _ _ hs ?_ hl hc hk hx
  rw [hi, bitLogic, access_start s e g b.area 1 hk, loadBit_midway]
  rfl

/-- A steady engine executes. -/
theorem executes_of_steady (s : State) (e : EngineId) (hs : s.steady e = true) : s.executes e = true := by
  unfold State.steady at hs
  simp only [Bool.and_eq_true] at hs
  obtain ⟨⟨⟨hx, _⟩, _⟩, _⟩ := hs
  exact hx

/-- An instruction that does nothing but raise a sequence fault stops its engine with that fault (05 R163). -/
theorem serzel_seqFault (s : State) (e : EngineId) (f : Exec → Exec) (code : Nat) (hs : s.steady e = true) (hc : code ≠ 0)
    (hf : f (Exec.start s e) = (Exec.start s e).seqFault code) : serzel s e f = s.seqStopped e code := by
  have hq : (f (Exec.start s e)).seq = code := by rw [hf]; rfl
  rw [serzel_seq s e f (executes_of_steady s e hs) (by rwa [hq]), hq]

/-! ## The bracket stack (05 R140) -/

/-- An open bracket with room on the stack: (BA, operator) is pushed, and BA takes the operand. -/
theorem serzel_bracketOpen (s : State) (e : EngineId) (b : BitAddr) (op : BrOp) (hs : s.steady e = true)
    (hr : (s.engineOf e).brackets.length < 8) :
    serzel s e (bracketOpen b op) =
      s.ranLoad e { s.engineOf e with ba := s.bitOperand e b, brackets := ((s.engineOf e).ba, op) :: (s.engineOf e).brackets }
        (1 + s.slotWait e b.area) (s.bitFault e b) b.area b.ofs.val 1 :=
  serzel_bitLogic s e b (fun _ a => a) (fun en => { en with brackets := ((s.engineOf e).ba, op) :: en.brackets }) _ hs
    (if_neg (Nat.not_le.mpr hr)) rfl rfl rfl rfl

/-- An open bracket on a full stack. -/
theorem serzel_bracketOpen_full (s : State) (e : EngineId) (b : BitAddr) (op : BrOp) (hs : s.steady e = true)
    (hr : 8 ≤ (s.engineOf e).brackets.length) : serzel s e (bracketOpen b op) = s.seqStopped e 33 :=
  serzel_seqFault s e _ 33 hs (by decide) (if_pos hr)

/-- A close bracket with an entry on the stack: the entry is popped, and its operator applied to its value and BA. -/
theorem serzel_bracketClose (s : State) (e : EngineId) (v : Bool) (op : BrOp) (rest : List (Bool × BrOp)) (hs : s.steady e = true)
    (hb : (s.engineOf e).brackets = (v, op) :: rest) :
    serzel s e bracketClose =
      s.ran e (s.lane e.lane) { s.engineOf e with ba := op.apply v (s.engineOf e).ba, brackets := rest } 1 0 := by
  refine serzel_midway s e _ _ _ _ _ _ hs ?_ rfl rfl rfl rfl
  simp only [bracketClose, start_en, hb]
  rfl

/-- A close bracket on an empty stack. -/
theorem serzel_bracketClose_empty (s : State) (e : EngineId) (hs : s.steady e = true) (hb : (s.engineOf e).brackets = []) :
    serzel s e bracketClose = s.seqStopped e 33 :=
  serzel_seqFault s e _ 33 hs (by decide) (by simp only [bracketClose, start_en, hb])

/-- Settles O8: an open bracket is bit logic after a push, a close bracket a pop, and the full and the empty stack raise fault 33. -/
theorem bracketsPushAndPop : Obligations.BracketsPushAndPop := by
  unfold Obligations.BracketsPushAndPop
  intro s e b hs x en f a
  refine ⟨fun p hp => ?_, fun v op rest hb => ?_, fun hb => ?_⟩
  · have hop : exec (p.1 e b) s = .next (serzel s e (bracketOpen b p.2)) := by
      simp only [List.mem_cons, List.not_mem_nil, or_false] at hp
      rcases hp with rfl | rfl | rfl <;> rfl
    rw [hop]
    exact ⟨fun hr => congrArg _ (serzel_bracketOpen s e b p.2 hs hr), fun hr => congrArg _ (serzel_bracketOpen_full s e b p.2 hs hr)⟩
  · exact congrArg Host.Outcome.next (serzel_bracketClose s e v op rest hs hb)
  · exact congrArg Host.Outcome.next (serzel_bracketClose_empty s e hs hb)

end Sys2Proof.Machine
end

section
/-! The source of a REAL instruction and the REAL compares (05 R147, R149). -/

namespace Sys2Proof.Machine

open Sys2Proof

/-! ## The source of a REAL instruction (05 R143, R147) -/

/-- A REAL source as an instruction reads it after `n` clocks: its bits, and the fault of a constant beyond K raised. -/
theorem rsrc_start (s : State) (e : EngineId) (n : Nat) (x : RSrc) :
    ((Exec.start s e).clocks n).rsrc x =
      ((Parts.sourceOf s e (Parts.realSource x)).1, s.midway e (s.engineOf e) n (Parts.sourceOf s e (Parts.realSource x)).2 [] []) := by
  have hclk : (Exec.start s e).clocks n = s.midway e (s.engineOf e) n 0 [] [] := by
    simp only [Exec.clocks, start_cost, Nat.zero_add]; rfl
  rw [hclk]
  cases x with
  | acc r => rfl
  | k v =>
    simp only [Parts.realSource, Parts.sourceOf]
    split
    case isTrue hv => exact if_pos hv
    case isFalse hv => exact if_neg hv

/-! ## The IEEE 754 order (05 R149) -/

/-- A NaN has no place in the order. -/
theorem FFmt.cmp_of_isNan (f : FFmt) (a b : Nat) (h : f.isNan a = true ∨ f.isNan b = true) : f.cmp a b = none := by
  simp [FFmt.cmp, h]

/-- Unordered operands satisfy NE alone. -/
theorem Cmp.holdsReal_none (k : Cmp) : k.holdsReal none = decide (k = .ne) := by cases k <;> rfl

/-- A REAL compare of ordered operands holds as the function does of −1, 0 or 1 and 0. -/
theorem Cmp.holdsReal_some (k : Cmp) :
    k.holdsReal (some .lt) = k.holds (-1) 0 ∧ k.holdsReal (some .eq) = k.holds 0 0 ∧ k.holdsReal (some .gt) = k.holds 1 0 := by
  cases k <;> decide

/-! ## CMPR (05 R149) -/

/-- A REAL compare changes BA alone, takes one clock and raises no fault but that of its source. -/
theorem serzel_compareReal (s : State) (e : EngineId) (k : Cmp) (w : RWid) (d : Acc) (x : RSrc) (hs : s.steady e = true) :
    serzel s e (compareReal k w d x) =
      s.ran e (s.lane e.lane)
        { s.engineOf e with
          ba := k.holdsReal ((realFmt w).cmp (realLow w ((s.engineOf e).acc d).toNat)
            (realLow w (Parts.sourceOf s e (Parts.realSource x)).1)) }
        1 (Parts.sourceOf s e (Parts.realSource x)).2 :=
  serzel_midway s e _ _ _ _ _ _ hs (by rw [compareReal, rsrc_start]; rfl) rfl rfl rfl rfl

/-- Settles O16: CMPR sets BA to its function of the order, which no NaN is in. -/
theorem realComparesSetBA : Obligations.RealComparesSetBA := by
  unfold Obligations.RealComparesSetBA
  intro p hp s e w d x hs en f a b
  have hop : exec (p.1 e w d x) s = .next (serzel s e (compareReal p.2 w d x)) := by
    simp only [List.mem_cons, List.not_mem_nil, or_false] at hp
    rcases hp with rfl | rfl | rfl | rfl | rfl | rfl <;> rfl
  obtain ⟨hlt, heq, hgt⟩ := p.2.holdsReal_some
  refine ⟨p.2.holdsReal (f.cmp a b), ?_, fun hnan => ?_, fun o ho => ?_⟩
  · rw [hop, serzel_compareReal s e p.2 w d x hs]; rfl
  · rw [f.cmp_of_isNan a b hnan, Cmp.holdsReal_none]
  · rw [ho]
    cases o with
    | lt => exact hlt
    | eq => exact heq
    | gt => exact hgt

end Sys2Proof.Machine
end

section
/-! What a register of class J reads as after a count and after a record (14 R385), and the record of an overvoltage (16 R412). -/

namespace Sys2Proof.Machine

open Sys2Proof

/-! ## A register of class J after a write, a count and a record -/

/-- A written register reads as the value written, the default of its table aside, which is held by its absence. -/
theorem jget_jset_self (s : State) (i j v : Nat) (hv : v ≠ tableDefault (regKey i j)) : jget (jset s i j v) i j = v := by
  have hfound : Store.find? (jset s i j v).jreg (regKey i j) = some v := by
    unfold jset
    dsimp only
    split
    case isTrue => exact Store.find?_insert_self ..
    case isFalse => rw [Store.put, if_neg hv, Store.find?_insert_self]
  rw [jget, Store.get, hfound, Option.getD_some]

/-- A count is one more, up to saturation. -/
theorem bump32_of_lt (n : Nat) (h : n < 4294967295) : bump32 n = n + 1 := Nat.min_eq_right h

theorem bump32_ne_zero (n : Nat) : bump32 n ≠ 0 := by
  simp only [bump32, satAdd]; omega

/-- A counter of class J, which starts at 0, reads one more once it is bumped, up to saturation. -/
theorem jget_jbump_self (s : State) (i j : Nat) (hd : tableDefault (regKey i j) = 0) :
    jget (jbump s i j) i j = bump32 (jget s i j) :=
  jget_jset_self s i j _ (hd ▸ bump32_ne_zero _)

/-- A bumped counter leaves every other register. -/
theorem jget_jbump_other (s : State) (i j i' j' : Nat) (h : regKey i' j' ≠ regKey i j) :
    jget (jbump s i j) i' j' = jget s i' j' :=
  jget_jset_other s i j i' j' _ h

/-- Of the registers of class J, a record changes at most the count of lost records (14 R385). -/
theorem jget_record_other (s : State) (source type : Nat) (payload : Bytes) (i j : Nat) (h : regKey i j ≠ regKey 0x7011 4) :
    jget (record s source type payload) i j = jget s i j := by
  unfold record
  dsimp only
  split
  case isTrue => exact jget_jbump_other _ _ _ _ _ h
  case isFalse => rfl

/-! ## OVERVOLTAGE (16 R412) -/

/-- 2109.00 starts at 0. -/
theorem tableDefault_overvoltages : tableDefault (regKey 0x2109 0) = 0 := by decide +kernel

/-- An overvoltage that counts (16 R412). -/
theorem exec_overvoltage_above (s : State) (rail : Fin 4) (mV : Nat) (hb : s.booted = true) (hv : 16500 < mV) :
    exec (.overvoltage rail mV) s = .next (recordStage (jbump s 0x2109 0) mV) :=
  congrArg Host.Outcome.next (if_pos ⟨hb, hv⟩)

/-- Settles O51: 2109.00 takes one count, and the record touches the recorder and its count of lost records alone. The record itself, of
type 5 with the stage and the voltage, is the model's choice (log 46). -/
theorem overvoltageIsCounted : Obligations.OvervoltageIsCounted := by
  unfold Obligations.OvervoltageIsCounted
  intro s rail mV hb hv
  refine ⟨exec_overvoltage_above s rail mV hb hv, ?_⟩
  rintro _ rfl
  simp only [recordStage, record_mode, record_lanes, record_power, record_field, record_time,
    jbump_mode, jbump_lanes, jbump_power, jbump_field, jbump_time, true_and]
  constructor
  · intro hroom
    rw [jget_record_other _ _ _ _ _ _ (by decide), jget_jbump_self s _ _ tableDefault_overvoltages, bump32_of_lt _ hroom]
  · intro index sub hcount hlost
    rw [jget_record_other _ _ _ _ _ _ hlost, jget_jbump_other _ _ _ _ _ hcount]

end Sys2Proof.Machine
end

section
/-! The words of the engines read back as the instructions that they were written from (05 R133 to R135). -/

namespace Sys2Proof

/-! ## Fields of a word -/

/-- A field that holds the number of an index is that index. -/
theorem fieldFin_eq {w lo n : Nat} {v : Fin (2 ^ n)} (h : field w lo n = v.val) : fieldFin w lo n = v := Fin.ext h

/-- An accumulator is read from its bit. -/
theorem accAt_eq {w lo : Nat} {r : Acc} (h : field w lo 1 = accBit r) : accAt w lo = r := by
  have hbit : w.testBit lo = decide (accBit r = 1) := by rw [Nat.testBit_eq_decide_div_mod_eq, ← h]; rfl
  cases r <;> simp [accAt, hbit, accBit]

theorem accBit_lt (r : Acc) : accBit r < 2 := by cases r <;> decide

theorem widBits_lt (n : Wid) : widBits n < 4 := by cases n <;> decide

theorem rwidBits_lt (n : RWid) : rwidBits n < 4 := by cases n <;> decide

theorem Area.code_lt (a : Area) : a.code < 8 := by cases a <;> decide

theorem Area.ofCode_code (a : Area) : Area.ofCode a.code = a := by cases a <;> rfl

/-- A width is read from its bits. -/
theorem widAt_eq {w : Nat} {n : Wid} (h : field w 20 2 = widBits n) : widAt w = n := by
  cases n <;> simp [widAt, h, widBits]

theorem rwidAt_eq {w : Nat} {n : RWid} (h : field w 20 2 = rwidBits n) : rwidAt w = some n := by
  cases n <;> simp [rwidAt, h, rwidBits]

/-! ## Format B (05 Table 05-1) -/

theorem formB_lt (op : Nat) (x : BitAddr) (h : op < 64) : formB op x < 2 ^ 32 := by
  have := x.area.code_lt
  unfold formB; omega

theorem opcode_formB (op : Nat) (x : BitAddr) (h : op < 64) : field (formB op x) 26 6 = op := by
  have := x.area.code_lt
  simp only [field, formB]; omega

theorem area_formB (op : Nat) (x : BitAddr) : field (formB op x) 23 3 = x.area.code := by
  have := x.area.code_lt
  simp only [field, formB]; omega

theorem ofs_formB (op : Nat) (x : BitAddr) : field (formB op x) 3 20 = x.ofs.val := by
  have := x.area.code_lt
  simp only [field, formB]; omega

theorem bit_formB (op : Nat) (x : BitAddr) : field (formB op x) 0 3 = x.bit.val := by
  simp only [field, formB]; omega

theorem bitAddrAt_formB (op : Nat) (x : BitAddr) : bitAddrAt (formB op x) = x := by
  simp only [bitAddrAt, area_formB, Area.ofCode_code, fieldFin_eq (n := 20) (ofs_formB op x), fieldFin_eq (n := 3) (bit_formB op x)]


/-! ## Format W (05 Table 05-1) -/

section
variable (op : Nat) (x : WordAddr) (r : Acc)

theorem formW_lt (h : op < 64) : formW op x r < 2 ^ 32 := by
  have := x.area.code_lt
  have := accBit_lt r
  unfold formW; omega

theorem opcode_formW (h : op < 64) : field (formW op x r) 26 6 = op := by
  have := x.area.code_lt
  have := accBit_lt r
  simp only [field, formW]; omega

theorem area_formW : field (formW op x r) 23 3 = x.area.code := by
  have := x.area.code_lt
  have := accBit_lt r
  simp only [field, formW]; omega

theorem idx_formW : field (formW op x r) 21 2 = x.idx.val := by
  have := accBit_lt r
  simp only [field, formW]; omega

theorem reg_formW : field (formW op x r) 20 1 = accBit r := by
  have := accBit_lt r
  simp only [field, formW]; omega

theorem ofs_formW : field (formW op x r) 0 20 = x.ofs.val := by
  have := accBit_lt r
  simp only [field, formW]; omega

theorem wordAddrAt_formW : wordAddrAt (formW op x r) = x := by
  simp only [wordAddrAt, area_formW, Area.ofCode_code, fieldFin_eq (n := 2) (idx_formW op x r),
    fieldFin_eq (n := 20) (ofs_formW op x r)]

end

/-! ## Format A and its sources (05 Table 05-1, R143) -/

theorem srcBits_lt (x : Src) : srcBits x < 524288 := by
  cases x with
  | acc r => have := accBit_lt r; simp only [srcBits]; omega
  | x n => simp only [srcBits]; omega
  | imm v => simp only [srcBits]; omega
  | k v => simp only [srcBits]; omega

/-- The source of a REAL instruction as a source of any instruction. -/
def RSrc.toSrc : RSrc → Src
  | .acc r => .acc r
  | .k v => .k v

/-- The source of a conversion as a source of any instruction. -/
def ConvSrc.toSrc : ConvSrc → Src
  | .acc r => .acc r
  | .x n => .x n
  | .k v => .k v

theorem rsrcBits_eq (x : RSrc) : rsrcBits x = srcBits x.toSrc := by cases x <;> rfl

theorem csrcBits_eq (x : ConvSrc) : csrcBits x = srcBits x.toSrc := by cases x <;> rfl

/-- SRC and IMM are read from their 19 bits. -/
theorem srcAt_eq {w : Nat} {x : Src} (h : field w 0 19 = srcBits x) : srcAt w = x := by
  have hsrc : field w 16 3 = srcBits x / 65536 := by simp only [field] at *; omega
  have himm : field w 0 16 = srcBits x % 65536 := by simp only [field] at *; omega
  cases x with
  | acc r => cases r <;> simp [srcAt, hsrc, srcBits, accBit]
  | x n =>
    have hn : srcBits (.x n) / 65536 = 2 + n.val := by simp only [srcBits]; omega
    fin_cases n <;> simp [srcAt, hsrc, srcBits]
  | imm v =>
    have hv : srcBits (.imm v) / 65536 = 6 ∧ srcBits (.imm v) % 65536 = v.val := by simp only [srcBits]; omega
    simp only [srcAt, hsrc, hv.1, fieldFin_eq (n := 16) (himm.trans hv.2)]
  | k v =>
    have hv : srcBits (.k v) / 65536 = 7 ∧ srcBits (.k v) % 65536 = v.val := by simp only [srcBits]; omega
    simp only [srcAt, hsrc, hv.1, fieldFin_eq (n := 16) (himm.trans hv.2)]

theorem rsrcAt_eq {w : Nat} {x : RSrc} (h : field w 0 19 = srcBits x.toSrc) : rsrcAt w = some x := by
  rw [rsrcAt, srcAt_eq h]; cases x <;> rfl

theorem csrcAt_eq {w : Nat} {x : ConvSrc} (h : field w 0 19 = srcBits x.toSrc) : csrcAt w = some x := by
  rw [csrcAt, srcAt_eq h]; cases x <;> rfl

section
variable (op fn wid : Nat) (d : Acc) (src : Nat)

theorem formA_lt (ho : op < 64) (hf : fn < 16) (hw : wid < 4) (hs : src < 524288) : formA op fn wid d src < 2 ^ 32 := by
  have := accBit_lt d
  unfold formA; omega

theorem opcode_formA (ho : op < 64) (hf : fn < 16) (hw : wid < 4) (hs : src < 524288) : field (formA op fn wid d src) 26 6 = op := by
  have := accBit_lt d
  simp only [field, formA]; omega

theorem fn_formA (hf : fn < 16) (hw : wid < 4) (hs : src < 524288) : field (formA op fn wid d src) 22 4 = fn := by
  have := accBit_lt d
  simp only [field, formA]; omega

theorem wid_formA (hw : wid < 4) (hs : src < 524288) : field (formA op fn wid d src) 20 2 = wid := by
  have := accBit_lt d
  simp only [field, formA]; omega

theorem dst_formA (hs : src < 524288) : field (formA op fn wid d src) 19 1 = accBit d := by
  have := accBit_lt d
  simp only [field, formA]; omega

theorem src_formA (hs : src < 524288) : field (formA op fn wid d src) 0 19 = src := by
  simp only [field, formA]; omega

end

/-! ## Formats X, C and T (05 Table 05-1) -/

theorem formX_fields (fn : Nat) (n : Fin 4) (r imm : Nat) (hf : fn < 16) (hr : r < 2) (hi : imm < 65536) :
    formX fn n r imm < 2 ^ 32 ∧ field (formX fn n r imm) 26 6 = 0x2D ∧ field (formX fn n r imm) 22 4 = fn ∧
      field (formX fn n r imm) 20 2 = n.val ∧ field (formX fn n r imm) 19 1 = r ∧ field (formX fn n r imm) 16 3 = 0 ∧
      field (formX fn n r imm) 0 16 = imm ∧ field (formX fn n r imm) 3 13 = imm / 8 ∧ field (formX fn n r imm) 0 3 = imm % 8 := by
  simp only [field, formX]; omega

theorem formC_fields (fn : Nat) (u : Fin 2) (r : Acc) (poly : Nat) (hf : fn < 16) (hp : poly < 8) :
    formC fn u r poly < 2 ^ 32 ∧ field (formC fn u r poly) 26 6 = 0x2E ∧ field (formC fn u r poly) 22 4 = fn ∧
      field (formC fn u r poly) 21 1 = u.val ∧ field (formC fn u r poly) 20 1 = accBit r ∧ field (formC fn u r poly) 19 1 = 0 ∧
      field (formC fn u r poly) 16 3 = poly ∧ field (formC fn u r poly) 0 16 = 0 := by
  have := accBit_lt r
  simp only [field, formC]; omega

theorem formT_fields (op : Nat) (wall : Bool) (inst : Fin 131072) (ho : op < 64) :
    formT op wall inst < 2 ^ 32 ∧ field (formT op wall inst) 26 6 = op ∧ field (formT op wall inst) 25 1 = wall.toNat ∧
      field (formT op wall inst) 17 8 = 0 ∧ field (formT op wall inst) 0 17 = inst.val ∧ field (formT op wall inst) 0 1 = inst.val % 2 := by
  cases wall <;> simp [field, formT] <;> omega

/-! ## Decode of encode

A format is read back by whatever decoder looks at its fields alone: one lemma a format, which takes the instruction to its word's fields. -/

section
variable {i : Instr} {op fn : Nat} (e : EngineId)

/-- An instruction of format B. -/
theorem readsBack_formB {x : BitAddr} (ho : op < 64)
    (h : ∀ w, field w 26 6 = op → bitAddrAt w = x → decodeWord e w = some i) :
    formB op x < 2 ^ 32 ∧ ∃ e, decodeWord e (formB op x) = some i :=
  ⟨formB_lt op x ho, e, h _ (opcode_formB op x ho) (bitAddrAt_formB op x)⟩

/-- An edge detector, whose operand is a pair of bits of S. -/
theorem readsBack_edge {o : Fin 1048576} {p : Fin 4} {b : Fin 8} (hb : b.val = 2 * p.val) (ho : op < 64)
    (h : ∀ w, field w 26 6 = op → field w 23 3 = 4 → field w 0 1 = 0 → fieldFin w 3 20 = o → fieldFin w 1 2 = p → decodeWord e w = some i) :
    formB op { area := .s, ofs := o, bit := b } < 2 ^ 32 ∧ ∃ e, decodeWord e (formB op { area := .s, ofs := o, bit := b }) = some i := by
  have heven : field (formB op { area := .s, ofs := o, bit := b }) 0 1 = 0 := by simp only [field, formB]; omega
  have hpair : field (formB op { area := .s, ofs := o, bit := b }) 1 2 = p.val := by simp only [field, formB]; omega
  exact ⟨formB_lt _ _ ho, e, h _ (opcode_formB _ _ ho) (area_formB _ _) heven (fieldFin_eq (n := 20) (ofs_formB _ _))
    (fieldFin_eq (n := 2) hpair)⟩

/-- An instruction of format W. -/
theorem readsBack_formW {x : WordAddr} {r : Acc} (ho : op < 64)
    (h : ∀ w, field w 26 6 = op → wordAddrAt w = x → accAt w 20 = r → decodeWord e w = some i) :
    formW op x r < 2 ^ 32 ∧ ∃ e, decodeWord e (formW op x r) = some i :=
  ⟨formW_lt op x r ho, e, h _ (opcode_formW op x r ho) (wordAddrAt_formW op x r) (accAt_eq (reg_formW op x r))⟩

/-- An instruction of format A. -/
theorem readsBack_formA {wid : Nat} {d : Acc} {src : Nat} (ho : op < 64) (hf : fn < 16) (hw : wid < 4) (hs : src < 524288)
    (h : ∀ w, field w 26 6 = op → field w 22 4 = fn → field w 20 2 = wid → accAt w 19 = d → field w 0 19 = src → decodeWord e w = some i) :
    formA op fn wid d src < 2 ^ 32 ∧ ∃ e, decodeWord e (formA op fn wid d src) = some i :=
  ⟨formA_lt _ _ _ _ _ ho hf hw hs, e, h _ (opcode_formA _ _ _ _ _ ho hf hw hs) (fn_formA _ _ _ _ _ hf hw hs) (wid_formA _ _ _ _ _ hw hs)
    (accAt_eq (dst_formA _ _ _ _ _ hs)) (src_formA _ _ _ _ _ hs)⟩

/-- An instruction of format A on integers. -/
theorem readsBack_int {n : Wid} {d : Acc} {x : Src} (ho : op < 64) (hf : fn < 16)
    (h : ∀ w, field w 26 6 = op → field w 22 4 = fn → widAt w = n → accAt w 19 = d → srcAt w = x → decodeWord e w = some i) :
    formA op fn (widBits n) d (srcBits x) < 2 ^ 32 ∧ ∃ e, decodeWord e (formA op fn (widBits n) d (srcBits x)) = some i :=
  readsBack_formA e ho hf (widBits_lt n) (srcBits_lt x) fun w hop hfn hw hd hs => h w hop hfn (widAt_eq hw) hd (srcAt_eq hs)

/-- An instruction of format A on REAL numbers. -/
theorem readsBack_real {n : RWid} {d : Acc} {x : RSrc} (ho : op < 64) (hf : fn < 16)
    (h : ∀ w, field w 26 6 = op → field w 22 4 = fn → rwidAt w = some n → accAt w 19 = d → rsrcAt w = some x → decodeWord e w = some i) :
    formA op fn (rwidBits n) d (rsrcBits x) < 2 ^ 32 ∧ ∃ e, decodeWord e (formA op fn (rwidBits n) d (rsrcBits x)) = some i := by
  rw [rsrcBits_eq]
  exact readsBack_formA e ho hf (rwidBits_lt n) (srcBits_lt _) fun w hop hfn hw hd hs => h w hop hfn (rwidAt_eq hw) hd (rsrcAt_eq hs)

/-- A conversion from REAL. -/
theorem readsBack_conv {n : Wid} {d : Acc} {x : ConvSrc} (ho : op < 64) (hf : fn < 16)
    (h : ∀ w, field w 26 6 = op → field w 22 4 = fn → widAt w = n → accAt w 19 = d → csrcAt w = some x → decodeWord e w = some i) :
    formA op fn (widBits n) d (csrcBits x) < 2 ^ 32 ∧ ∃ e, decodeWord e (formA op fn (widBits n) d (csrcBits x)) = some i := by
  rw [csrcBits_eq]
  exact readsBack_formA e ho hf (widBits_lt n) (srcBits_lt _) fun w hop hfn hw hd hs => h w hop hfn (widAt_eq hw) hd (csrcAt_eq hs)

/-- An index operation. -/
theorem readsBack_formX {n : Fin 4} {r imm : Nat} (hf : fn < 16) (hr : r < 2) (hi : imm < 65536)
    (h : ∀ w, field w 26 6 = 0x2D → field w 22 4 = fn → fieldFin w 20 2 = n → field w 19 1 = r → field w 16 3 = 0 → field w 0 16 = imm →
      decodeWord e w = some i) :
    formX fn n r imm < 2 ^ 32 ∧ ∃ e, decodeWord e (formX fn n r imm) = some i := by
  obtain ⟨hlt, hop, hfn, hn, hreg, hz, himm, -⟩ := formX_fields fn n r imm hf hr hi
  exact ⟨hlt, e, h _ hop hfn (fieldFin_eq (n := 2) hn) hreg hz himm⟩

/-- A check-value instruction. -/
theorem readsBack_formC {u : Fin 2} {r : Acc} {p : Fin 5} (hf : fn < 16)
    (h : ∀ w, field w 26 6 = 0x2E → field w 22 4 = fn → fieldFin w 21 1 = u → accAt w 20 = r → field w 19 1 = 0 → field w 0 16 = 0 →
      polyAt w = some p → decodeWord e w = some i) :
    formC fn u r p.val < 2 ^ 32 ∧ ∃ e, decodeWord e (formC fn u r p.val) = some i := by
  obtain ⟨hlt, hop, hfn, hu, hreg, hz, hpoly, hlow⟩ := formC_fields fn u r p.val hf (by omega)
  have hp : polyAt (formC fn u r p.val) = some p := by rw [polyAt, hpoly]; fin_cases p <;> rfl
  exact ⟨hlt, e, h _ hop hfn (fieldFin_eq (n := 1) hu) (accAt_eq hreg) hz hlow hp⟩

/-- A timer or a counter. -/
theorem readsBack_formT {wall : Bool} {inst : Fin 131072} (ho : op < 64)
    (h : ∀ w, field w 26 6 = op → w.testBit 25 = wall → field w 17 8 = 0 → fieldFin w 0 17 = inst → field w 0 1 = inst.val % 2 →
      decodeWord e w = some i) :
    formT op wall inst < 2 ^ 32 ∧ ∃ e, decodeWord e (formT op wall inst) = some i := by
  obtain ⟨hlt, hop, hwall, hz, hinst, heven⟩ := formT_fields op wall inst ho
  have hbit : (formT op wall inst).testBit 25 = wall := by
    rw [Nat.testBit_eq_decide_div_mod_eq]
    have hbit : formT op wall inst / 2 ^ 25 % 2 = wall.toNat := hwall
    rw [hbit]; cases wall <;> rfl
  exact ⟨hlt, e, h _ hop hbit hz (fieldFin_eq (n := 17) hinst) heven⟩

/-- A jump, a call or a return. -/
theorem readsBack_jump {t : Nat} (ho : op < 64) (ht : t < 65536)
    (h : ∀ w, field w 26 6 = op → field w 16 10 = 0 → field w 0 16 = t → decodeWord e w = some i) :
    op * 67108864 + t < 2 ^ 32 ∧ ∃ e, decodeWord e (op * 67108864 + t) = some i :=
  ⟨by omega, e, h _ (by simp only [field]; omega) (by simp only [field]; omega) (by simp only [field]; omega)⟩

/-- A publication. -/
theorem readsBack_pub {kind : Nat} {id : Fin 1024} (hk : kind < 3)
    (h : ∀ w, field w 26 6 = 0x2F → field w 24 2 = kind → field w 10 14 = 0 → fieldFin w 0 10 = id → decodeWord e w = some i) :
    0x2F * 67108864 + kind * 16777216 + id.val < 2 ^ 32 ∧ ∃ e, decodeWord e (0x2F * 67108864 + kind * 16777216 + id.val) = some i :=
  ⟨by omega, e, h _ (by simp only [field]; omega) (by simp only [field]; omega) (by simp only [field]; omega)
    (fieldFin_eq (n := 10) (by simp only [field]; omega))⟩

include e in
/-- LOOP. -/
theorem readsBack_loop (n : Fin 4) (len : Fin 1024) (max : Fin 16384) (hlen : len.val ≠ 0) :
    0x37 * 67108864 + n.val * 16777216 + len.val * 16384 + max.val < 2 ^ 32 ∧
      ∃ e', decodeWord e' (0x37 * 67108864 + n.val * 16777216 + len.val * 16384 + max.val) = some (.loop e n len max) := by
  generalize hw : 0x37 * 67108864 + n.val * 16777216 + len.val * 16384 + max.val = w
  have hop : field w 26 6 = 0x37 := by simp only [field]; omega
  have hl : field w 14 10 = len.val := by simp only [field]; omega
  have hx : fieldFin w 24 2 = n := fieldFin_eq (n := 2) (by simp only [field]; omega)
  have hm : fieldFin w 0 14 = max := fieldFin_eq (n := 14) (by simp only [field]; omega)
  have hlf : fieldFin w 14 10 = len := fieldFin_eq (n := 10) hl
  exact ⟨by omega, e, by simp [decodeWord, hop, decodeLoop, hl, hlen, hx, hm, hlf]⟩

end

/-- Settles O5: an instruction is read back by the decoder of its format. -/
theorem decodeOfEncodeIsTheInstruction : Obligations.DecodeOfEncodeIsTheInstruction := by
  unfold Obligations.DecodeOfEncodeIsTheInstruction
  intro i w hwf h
  cases i with
  | bLd e x | ldn e x | bAnd e x | andn e x | bOr e x | orn e x | bXor e x | xorn e x | bSt e x | stn e x | bSet e x | rst e x
  | andBracket e x | orBracket e x | xorBracket e x =>
    cases h
    exact readsBack_formB e (by decide) fun w hop hx => by simp [decodeWord, hop, decodeBit, hx]
  | edgr e o p | edgf e o p =>
    cases h
    exact readsBack_edge e rfl (by decide) fun w hop ha hz ho hp => by simp [decodeWord, hop, decodeEdge, ha, hz, ho, hp]
  | bNot e | bracketClose e => cases h; exact ⟨by decide, e, rfl⟩
  | ld8 e x r | ld16 e x r | ld32 e x r | ld64 e x r | lds8 e x r | lds16 e x r | lds32 e x r | st8 e x r | st16 e x r | st32 e x r | st64 e x r =>
    cases h
    exact readsBack_formW e (by decide) fun w hop hx hr => by simp [decodeWord, hop, decodeWordAccess, hx, hr]
  | intAdd e n d x | intSub e n d x | intNeg e n d x | intAbs e n d x | intMin e n d x | intMax e n d x | intLimit e n d x | intMul e n d x
  | intDiv e n d x | intMod e n d x =>
    cases h
    exact readsBack_int e (by decide) (by decide) fun w hop hf hn hd hx => by simp [decodeWord, hop, decodeInt, hf, hn, hd, hx]
  | uintAdd e n d x | uintSub e n d x | uintMin e n d x | uintMax e n d x | uintLimit e n d x | uintMul e n d x | uintDiv e n d x
  | uintMod e n d x =>
    cases h
    exact readsBack_int e (by decide) (by decide) fun w hop hf hn hd hx => by simp [decodeWord, hop, decodeUint, hf, hn, hd, hx]
  | logicAnd e n d x | logicOr e n d x | logicXor e n d x | logicNot e n d x | shl e n d x | shr e n d x | sar e n d x | rol e n d x
  | ror e n d x =>
    cases h
    exact readsBack_int e (by decide) (by decide) fun w hop hf hn hd hx => by simp [decodeWord, hop, decodeLogic, hf, hn, hd, hx]
  | cmpsEq e n d x | cmpsNe e n d x | cmpsLt e n d x | cmpsLe e n d x | cmpsGt e n d x | cmpsGe e n d x | cmpuEq e n d x | cmpuNe e n d x
  | cmpuLt e n d x | cmpuLe e n d x | cmpuGt e n d x | cmpuGe e n d x =>
    cases h
    exact readsBack_int e (by decide) (by decide) fun w hop hf hn hd hx => by simp [decodeWord, hop, decodeCompare, hf, hn, hd, hx]
  | realAdd e n d x | realSub e n d x | realMul e n d x | realDiv e n d x | realSqrt e n d x | realNeg e n d x | realAbs e n d x
  | realMin e n d x | realMax e n d x =>
    cases h
    exact readsBack_real e (by decide) (by decide) fun w hop hf hn hd hx => by simp [decodeWord, hop, decodeReal, hf, hn, hd, hx]
  | cmprEq e n d x | cmprNe e n d x | cmprLt e n d x | cmprLe e n d x | cmprGt e n d x | cmprGe e n d x =>
    cases h
    exact readsBack_real e (by decide) (by decide) fun w hop hf hn hd hx => by simp [decodeWord, hop, decodeCompareReal, hf, hn, hd, hx]
  | itof32 e n d x | itof64 e n d x | utof32 e n d x | utof64 e n d x | snarrow e n d x | unarrow e n d x =>
    cases h
    exact readsBack_int e (by decide) (by decide) fun w hop hf hn hd hx => by simp [decodeWord, hop, decodeConv, hf, hn, hd, hx]
  | f32toi e n d x | f64toi e n d x | f32trunc e n d x | f64trunc e n d x | f32tou e n d x | f64tou e n d x =>
    cases h
    exact readsBack_conv e (by decide) (by decide) fun w hop hf hn hd hx => by
      simp [decodeWord, hop, decodeConv, decodeConvReal, hf, hn, hd, hx]
  | f32tof64 e d x | f64tof32 e d x =>
    cases h
    exact readsBack_conv (n := .w64) e (by decide) (by decide) fun w hop hf hn hd hx => by
      simp [decodeWord, hop, decodeConv, decodeConvReal, hf, hn, hd, hx]
  | mov e n d x =>
    cases h
    exact readsBack_int e (by decide) (by decide) fun w hop hf hn hd hx => by simp [decodeWord, hop, decodeMove, hf, hn, hd, hx]
  | swap e => cases h; exact ⟨by decide, e, rfl⟩
  | ba2w e n d =>
    cases h
    exact readsBack_formA e (by decide) (by decide) (widBits_lt n) (by decide) fun w hop hf hn hd hx => by
      simp [decodeWord, hop, decodeMove, hf, widAt_eq hn, hd, hx]
  | w2ba e n x =>
    cases h
    refine ⟨formA_lt _ _ _ _ _ (by decide) (by decide) (widBits_lt n) (srcBits_lt x), e, ?_⟩
    simp [decodeWord, opcode_formA, decodeMove, fn_formA, widBits_lt, srcBits_lt, dst_formA, accBit,
      widAt_eq (wid_formA _ _ _ _ _ (widBits_lt n) (srcBits_lt x)), srcAt_eq (src_formA _ _ _ _ _ (srcBits_lt x))]
  | xli e n v | xadd e n v =>
    cases h
    exact readsBack_formX e (by decide) (by decide) v.isLt fun w hop hf hn hr hz hv => by
      simp [decodeWord, hop, decodeIndex, hf, hn, hr, hz, fieldFin_eq (n := 16) hv]
  | xfrom e n r | xto e n r =>
    cases h
    exact readsBack_formX e (by decide) (accBit_lt r) (by decide) fun w hop hf hn hr hz hv => by
      simp [decodeWord, hop, decodeIndex, hf, hn, accAt_eq hr, hz, hv]
  | xshl e n v =>
    cases h
    refine readsBack_formX e (by decide) (by decide) (by omega) fun w hop hf hn hr hz hv => ?_
    have hhigh : field w 3 13 = 0 := by simp only [field] at *; omega
    have hlow : field w 0 3 = v.val := by simp only [field] at *; omega
    simp [decodeWord, hop, decodeIndex, hf, hn, hr, hz, hhigh, fieldFin_eq (n := 3) hlow]
  | crci e u p =>
    cases h
    exact readsBack_formC e (by decide) fun w hop hf hu hr hz hl hp => by simp [decodeWord, hop, decodeCrc, hf, hu, hz, hl, hp]
  | crcb e u r | crch e u r | crcw e u r | crcr e u r =>
    cases h
    exact readsBack_formC (p := 0) e (by decide) fun w hop hf hu hr hz hl hp => by simp [decodeWord, hop, decodeCrc, hf, hu, hr, hz, hl, hp]
  | pubFlow e id =>
    cases h
    exact readsBack_pub (kind := 0) e (by decide) fun w hop hk hz hid => by simp [decodeWord, hop, decodePub, hk, hz, hid]
  | pubTelegram e p id =>
    cases h
    refine readsBack_pub (kind := 1 + p.num) e (by cases p <;> decide) fun w hop hk hz hid => ?_
    cases p <;> simp [decodeWord, hop, decodePub, hk, hz, hid, EcnPort.num]
  | jmp e t | jmpc e t | jmpcn e t =>
    cases h
    have ht : t.val ≠ 0 := of_decide_eq_true hwf
    exact readsBack_jump e (by decide) t.isLt fun w hop hz hv => by simp [decodeWord, hop, decodeJump, hz, hv, ht, fieldFin_eq (n := 16) hv]
  | cal e t | calcn e t =>
    cases h
    exact readsBack_jump e (by decide) t.isLt fun w hop hz hv => by simp [decodeWord, hop, decodeJump, hz, fieldFin_eq (n := 16) hv]
  | ret e => cases h; exact ⟨by decide, e, rfl⟩
  | loop e n len max => cases h; exact readsBack_loop e n len max (of_decide_eq_true hwf)
  | ton e wall k | tof e wall k | tp e wall k | tonm e wall k =>
    cases h
    have hk : k.val % 2 = 0 := of_decide_eq_true hwf
    exact readsBack_formT e (by decide) fun w hop hw hz hi he => by simp [decodeWord, hop, decodeTimer, hw, hz, hi, he, hk]
  | ctu e k | ctd e k | ctud e k =>
    cases h
    exact readsBack_formT e (by decide) fun w hop hw hz hi _ => by simp [decodeWord, hop, decodeTimer, hw, hz, hi]
  -- The conditional call has the name of a keyword, which no alternative can spell; the other commands left have no word.
  | _ =>
    cases h <;> rename_i e t <;>
      exact readsBack_jump e (by decide) t.isLt fun w hop hz hv => by simp [decodeWord, hop, decodeJump, hz, fieldFin_eq (n := 16) hv]

/-! ## Undefined encodings (05 R133, R135) -/

/-- The opcode of a word of 32 bits. -/
theorem opcode_eq {w : Nat} (hw : w < 2 ^ 32) : field w 26 6 = w / 2 ^ 26 := by simp only [field]; omega

section
variable (e : EngineId) {w : Nat} (hw : w < 2 ^ 32)
include hw

theorem decodeWord_undefinedOpcode (h : w / 2 ^ 26 ∈ [0x00, 0x13, 0x14, 0x15, 0x16, 0x17, 0x23, 0x3F]) : decodeWord e w = none := by
  rw [← opcode_eq hw] at h
  simp only [List.mem_cons, List.not_mem_nil, or_false] at h
  rcases h with h | h | h | h | h | h | h | h <;> simp [decodeWord, h, decodeBit, decodeWordAccess]

theorem decodeWord_jump_zero (h : w / 2 ^ 26 ∈ [0x30, 0x31, 0x32]) (ht : w % 2 ^ 16 = 0) : decodeWord e w = none := by
  rw [← opcode_eq hw] at h
  have hz : field w 0 16 = 0 := by simp only [field]; omega
  simp only [List.mem_cons, List.not_mem_nil, or_false] at h
  rcases h with h | h | h <;> simp [decodeWord, h, decodeJump, hz]

theorem decodeWord_loop_zero (h : w / 2 ^ 26 = 0x37) (hl : w / 2 ^ 14 % 2 ^ 10 = 0) : decodeWord e w = none := by
  rw [← opcode_eq hw] at h
  have hz : field w 14 10 = 0 := hl
  simp [decodeWord, h, decodeLoop, hz]

theorem decodeWord_timer_odd (h : w / 2 ^ 26 ∈ [0x38, 0x39, 0x3A, 0x3B]) (ho : w % 2 = 1) : decodeWord e w = none := by
  rw [← opcode_eq hw] at h
  have hz : field w 0 1 = 1 := by simp only [field]; omega
  simp only [List.mem_cons, List.not_mem_nil, or_false] at h
  rcases h with h | h | h | h <;> simp [decodeWord, h, decodeTimer, hz]

theorem decodeWord_counter_wall (h : w / 2 ^ 26 ∈ [0x3C, 0x3D, 0x3E]) (ho : w / 2 ^ 25 % 2 = 1) : decodeWord e w = none := by
  rw [← opcode_eq hw] at h
  have hz : w.testBit 25 = true := by rw [Nat.testBit_eq_decide_div_mod_eq, ho]; rfl
  simp only [List.mem_cons, List.not_mem_nil, or_false] at h
  rcases h with h | h | h <;> simp [decodeWord, h, decodeTimer, hz]

theorem decodeWord_pub_kind3 (h : w / 2 ^ 26 = 0x2F) (hk : w / 2 ^ 24 % 4 = 3) : decodeWord e w = none := by
  rw [← opcode_eq hw] at h
  have hz : field w 24 2 = 3 := hk
  simp [decodeWord, h, decodePub, hz]

end

/-- The undefined encodings are no instruction. -/
theorem undefinedEncodingsAreRefused : Parts.UndefinedEncodingsAreRefused := fun e _ hw =>
  ⟨decodeWord_undefinedOpcode e hw, decodeWord_jump_zero e hw, decodeWord_loop_zero e hw, decodeWord_timer_odd e hw,
    decodeWord_counter_wall e hw, decodeWord_pub_kind3 e hw⟩

/-- Settles O3: an undefined opcode decodes as nothing whatever stands below it, and the manual's words as their instructions. -/
theorem wordsOfTheManualDecode : Obligations.WordsOfTheManualDecode := by
  unfold Obligations.WordsOfTheManualDecode
  refine fun e => ⟨fun op hop low hlow => ?_, rfl, rfl, rfl, rfl, rfl⟩
  have hdiv : (op * 2 ^ 26 + low) / 2 ^ 26 = op := by omega
  have hle : op ≤ 0x3F := by
    simp only [List.mem_cons, List.not_mem_nil, or_false] at hop
    omega
  exact decodeWord_undefinedOpcode e (by omega) (by rwa [hdiv])

end Sys2Proof
end

section
/-! The byte stores of a lane: what a write reads back as, what it leaves, and that it keeps the canonical form (04 R105, 14 R376). -/

namespace Sys2Proof

/-! ## Nested stores -/

/-- A property of every entry survives an insertion that has it. -/
theorem Store.all_insert {α : Type} {p : Nat × α → Bool} {k : Nat} {v : α} (hv : p (k, v) = true) :
    ∀ m : Store α, m.all p = true → (Store.insert m k v).all p = true
  | [], _ => by simp [Store.insert, hv]
  | (k', v') :: m, h => by
    simp only [List.all_cons, Bool.and_eq_true] at h
    unfold Store.insert
    split
    · simp [hv, h]
    · split
      · simp [hv, h]
      · simp [h, Store.all_insert hv m h.2]

/-- A property of every entry survives an erasure. -/
theorem Store.all_erase {α : Type} {p : Nat × α → Bool} (k : Nat) : ∀ m : Store α, m.all p = true → (Store.erase m k).all p = true
  | [], h => h
  | (k', v') :: m, h => by
    simp only [List.all_cons, Bool.and_eq_true] at h
    unfold Store.erase
    split
    · exact h.2
    · simp [h, Store.all_erase k m h.2]

theorem Store.all_put {α : Type} [DecidableEq α] {p : Nat × α → Bool} {d : α} {k : Nat} {v : α} (hv : p (k, v) = true) (m : Store α)
    (h : m.all p = true) : (Store.put m d k v).all p = true := by
  unfold Store.put
  split
  · exact Store.all_erase k m h
  · exact Store.all_insert hv m h

/-- What a key reads as, where every entry and the default have a property. -/
theorem Store.get_of_all {α : Type} {p : α → Bool} {d : α} (hd : p d = true) (k : Nat) :
    ∀ m : Store α, m.all (fun q => p q.2) = true → p (Store.get m d k) = true
  | [], _ => hd
  | (k', v') :: m, h => by
    simp only [List.all_cons, Bool.and_eq_true] at h
    by_cases hk : k' = k
    · simpa [Store.get, Store.find?, hk] using h.1
    · have ih := Store.get_of_all hd k m h.2
      simpa [Store.get, Store.find?, hk] using ih

end Sys2Proof

namespace Sys2Proof.Machine

open Sys2Proof

/-! ## The areas of a lane -/

/-- Copy-on-write notes the old content of blocks in the glue-up controller and changes nothing else. -/
theorem Lane.touchAll_eq (bs : List Nat) : ∀ ln : Lane, ∃ g, bs.foldl Lane.touch ln = { ln with glue := g } := by
  induction bs with
  | nil => exact fun ln => ⟨ln.glue, rfl⟩
  | cons b bs ih =>
    intro ln
    obtain ⟨g, h⟩ := ih (ln.touch b)
    exact ⟨g, by rw [List.foldl_cons, h]; rfl⟩

/-- A write to a working copy is the write of its area, besides what the glue-up controller notes. -/
theorem Lane.store_eq (ln : Lane) (a : Area) (eng ofs : Nat) (bs : Bytes) :
    ∃ g, ln.store a eng ofs bs = { ln with glue := g }.setArea a eng (Store.putBytes (ln.area a eng) 0 ofs bs) := by
  obtain ⟨g, h⟩ := Lane.touchAll_eq (blocksOf a eng ofs bs.length) ln
  refine ⟨g, ?_⟩
  rw [Lane.store, h]
  cases a <;> rfl

/-! ## The canonical form -/

theorem Lane.memoryWf_iff (ln : Lane) : ln.memoryWf = true ↔
    Memory.wf ln.i = true ∧ Memory.wf ln.q = true ∧ Memory.wf ln.m = true ∧ Memory.wf ln.d = true ∧ Memory.wf ln.s = true ∧
      Store.wf ([] : Store Byte) ln.locals = true ∧ ln.locals.all (fun p => Memory.wf p.2) = true := by
  simp only [Lane.memoryWf, Bool.and_eq_true, and_assoc]

/-- The store of an area of a canonical lane is canonical. -/
theorem Lane.wf_area {ln : Lane} (h : ln.memoryWf = true) (a : Area) (eng : Nat) : Memory.wf (ln.area a eng) = true := by
  obtain ⟨hi, hq, hm, hd, hs, _, hl⟩ := ln.memoryWf_iff.1 h
  cases a with
  | i => exact hi
  | q => exact hq
  | m => exact hm
  | d => exact hd
  | s => exact hs
  | l => exact Store.get_of_all (p := fun m => Memory.wf m) rfl eng ln.locals hl
  | k => rfl
  | res => rfl

/-- A canonical store put in the place of an area leaves the lane canonical. -/
theorem Lane.memoryWf_setArea {ln : Lane} (h : ln.memoryWf = true) (a : Area) (eng : Nat) {m : Store Byte} (hm : Memory.wf m = true) :
    (ln.setArea a eng m).memoryWf = true := by
  obtain ⟨hi, hq, hmm, hd, hs, hw, hl⟩ := ln.memoryWf_iff.1 h
  rw [Lane.memoryWf_iff]
  cases a with
  | i => exact ⟨hm, hq, hmm, hd, hs, hw, hl⟩
  | q => exact ⟨hi, hm, hmm, hd, hs, hw, hl⟩
  | m => exact ⟨hi, hq, hm, hd, hs, hw, hl⟩
  | d => exact ⟨hi, hq, hmm, hm, hs, hw, hl⟩
  | s => exact ⟨hi, hq, hmm, hd, hm, hw, hl⟩
  | l => exact ⟨hi, hq, hmm, hd, hs, Store.wf_put _ _ _ _ hw, Store.all_put hm _ hl⟩
  | k => exact ⟨hi, hq, hmm, hd, hs, hw, hl⟩
  | res => exact ⟨hi, hq, hmm, hd, hs, hw, hl⟩

/-- A write to a working copy keeps the canonical form. -/
theorem Lane.memoryWf_store {ln : Lane} (h : ln.memoryWf = true) (a : Area) (eng ofs : Nat) (bs : Bytes) :
    (ln.store a eng ofs bs).memoryWf = true := by
  obtain ⟨g, hg⟩ := Lane.store_eq ln a eng ofs bs
  rw [hg]
  exact Lane.memoryWf_setArea (ln := { ln with glue := g }) h a eng (Store.wf_putBytes 0 bs _ ofs (Lane.wf_area h a eng))

end Sys2Proof.Machine
end

section
/-! What the instructions of an engine do to the lane: the families of chapter 05, the words that decode to them, and their effect on what
the lane holds. -/

namespace Sys2Proof.Machine

open Sys2Proof

/-! ## The lane of an instruction in progress -/

@[simp] theorem Exec.clocks_ln (x : Exec) (n : Nat) : (x.clocks n).ln = x.ln := rfl

@[simp] theorem Exec.mapEn_ln (x : Exec) (g : Engine → Engine) : (x.mapEn g).ln = x.ln := rfl

@[simp] theorem Exec.raise_ln (x : Exec) (c : Nat) : (x.raise c).ln = x.ln := rfl

@[simp] theorem Exec.seqFault_ln (x : Exec) (c : Nat) : (x.seqFault c).ln = x.ln := rfl

@[simp] theorem Exec.fetch_ln (x : Exec) (a : Area) (ofs n : Nat) : (x.fetch a ofs n).ln = x.ln := rfl

@[simp] theorem Exec.access_ln (x : Exec) (a : Area) : (x.access a).ln = x.ln := by
  unfold Exec.access; split <;> rfl

@[simp] theorem Exec.loadVal_ln (x : Exec) (a : Area) (ofs n : Nat) : (x.loadVal a ofs n).2.ln = x.ln := by
  unfold Exec.loadVal; dsimp only; split <;> rfl

@[simp] theorem Exec.loadBit_ln (x : Exec) (b : BitAddr) : (x.loadBit b).2.ln = x.ln := x.loadVal_ln _ _ _

@[simp] theorem Exec.konst_ln (x : Exec) (v : Nat) : (x.konst v).2.ln = x.ln := by
  unfold Exec.konst; split <;> rfl

@[simp] theorem Exec.src_ln (x : Exec) (y : Src) : (x.src y).2.ln = x.ln := by
  cases y with
  | k v => exact x.konst_ln v.val
  | acc r => rfl
  | x n => rfl
  | imm v => rfl

@[simp] theorem Exec.rsrc_ln (x : Exec) (y : RSrc) : (x.rsrc y).2.ln = x.ln := by
  cases y with
  | k v => exact x.konst_ln v.val
  | acc r => rfl

@[simp] theorem Exec.csrc_ln (x : Exec) (y : ConvSrc) : (x.csrc y).2.ln = x.ln := by
  cases y with
  | k v => exact x.konst_ln v.val
  | acc r => rfl
  | x n => rfl

@[simp] theorem Exec.deliver_ln (x : Exec) (w : Nat) (sgn : Bool) (d : Acc) (a : Alu) : (x.deliver w sgn d a).ln = x.ln := rfl

@[simp] theorem Exec.deliverReal_ln (x : Exec) (w : RWid) (d : Acc) (r : FRes) : (x.deliverReal w d r).ln = x.ln := rfl

@[simp] theorem Exec.deliverInt_ln (x : Exec) (w : Nat) (sgn : Bool) (d : Acc) (i : Int) (f : Nat) :
    (x.deliverInt w sgn d i f).ln = x.ln := rfl

@[simp] theorem Exec.deliverConv_ln (x : Exec) (f : FFmt) (d : Acc) (r : FRes) : (x.deliverConv f d r).ln = x.ln := rfl

/-! ## The families of instructions -/

/-- What the instructions of an engine do to an instruction in progress, family by family of chapter 05; the flag tells those that store to
memory. -/
inductive EngineOp : Bool → (Exec → Exec) → Prop
  | bitLogic (b : BitAddr) (g : Bool → Bool → Bool) : EngineOp false (bitLogic b g)
  | bitStore (b : BitAddr) (g : Bool → Bool) : EngineOp true (bitStore b g)
  | bitStoreIf (b : BitAddr) (v : Bool) : EngineOp true (bitStoreIf b v)
  | bracketOpen (b : BitAddr) (op : BrOp) : EngineOp false (bracketOpen b op)
  | bracketClose : EngineOp false bracketClose
  | edge (rising : Bool) (ofs pair : Nat) : EngineOp true (edge rising ofs pair)
  | loadWord (n : Nat) (sgn : Bool) (w : WordAddr) (r : Acc) : EngineOp false (loadWord n sgn w r)
  | storeWord (n : Nat) (w : WordAddr) (r : Acc) : EngineOp true (storeWord n w r)
  | intOp (w : Wid) (d : Acc) (y : Src) (n : Nat) (g : Int → Int → Int → Alu) : EngineOp false (intOp w d y n g)
  | uintOp (w : Wid) (d : Acc) (y : Src) (n : Nat) (g : Nat → Nat → Nat → Alu) : EngineOp false (uintOp w d y n g)
  | logicOp (w : Wid) (d : Acc) (y : Src) (g : Nat → Nat → Alu) : EngineOp false (logicOp w d y g)
  | compareOp (sgn : Bool) (k : Cmp) (w : Wid) (d : Acc) (y : Src) : EngineOp false (compareOp sgn k w d y)
  | realOp (w : RWid) (d : Acc) (y : RSrc) (n : Nat) (g : FFmt → Nat → Nat → FRes) : EngineOp false (realOp w d y n g)
  | compareReal (k : Cmp) (w : RWid) (d : Acc) (y : RSrc) : EngineOp false (compareReal k w d y)
  | intToReal (f : FFmt) (sgn : Bool) (w : Wid) (d : Acc) (y : Src) : EngineOp false (intToReal f sgn w d y)
  | realToInt (f : FFmt) (rne sgn : Bool) (w : Wid) (d : Acc) (y : ConvSrc) : EngineOp false (realToInt f rne sgn w d y)
  | realToReal (f g : FFmt) (d : Acc) (y : ConvSrc) : EngineOp false (realToReal f g d y)
  | narrowOp (sgn : Bool) (w : Wid) (d : Acc) (y : Src) : EngineOp false (narrowOp sgn w d y)
  | movOp (w : Wid) (d : Acc) (y : Src) : EngineOp false (movOp w d y)
  | w2baOp (w : Wid) (y : Src) : EngineOp false (w2baOp w y)
  | indexOp (n : Fin 4) (g : Engine → BitVec 32) : EngineOp false (indexOp n g)
  | registers (g : Engine → Engine) : EngineOp false (fun x => (x.clocks 1).mapEn g)
  | crcInit (u : Fin 2) (poly : Nat) : EngineOp false (crcInit u poly)
  | crcFeedOp (u : Fin 2) (n : Nat) (r : Acc) : EngineOp false (crcFeedOp u n r)
  | crcRead (u : Fin 2) (r : Acc) : EngineOp false (crcRead u r)
  | publishOp (kind id : Nat) : EngineOp false (publishOp kind id)
  | jumpTo (t : Nat) : EngineOp false (jumpTo t)
  | jumpIf (take : Exec → Bool) (t : Nat) : EngineOp false (fun x => jumpIf (take x) t x)
  | callTo (t : Nat) : EngineOp false (callTo t)
  | callIf (take : Exec → Bool) (t : Nat) : EngineOp false (fun x => callIf (take x) t x)
  | retOp : EngineOp false retOp
  | loopOp (n : Fin 4) (len max : Nat) : EngineOp false (loopOp n len max)
  | timerOp (k : TimerKind) (ms wall : Bool) (inst : Nat) : EngineOp true (timerOp k ms wall inst)
  | counterOp (inst : Nat) (g : CounterInst → Bool → Nat → Int → CounterInst × Bool × Option Bool) : EngineOp true (counterOp inst g)
  | undefinedEncoding : EngineOp false (fun x => x.seqFault 32)

/-- An instruction that an engine runs as one of the families. -/
def RunsAs (e : EngineId) (i : Instr) : Prop := ∃ f, EngineOp (Parts.stores i) f ∧ ∀ s, exec i s = .next (serzel s e f)

/-! ## Every word of an engine is of a family (05 R133 to R135) -/

section Decoders

variable {e : EngineId} {op w : Nat} {i : Instr}

theorem runsAs_decodeBit (h : decodeBit e op w = some i) : RunsAs e i := by
  unfold decodeBit at h
  dsimp only at h
  repeat' split at h
  all_goals cases h
  all_goals exact ⟨_, by constructor, fun _ => rfl⟩

theorem runsAs_decodeEdge (h : decodeEdge e op w = some i) : RunsAs e i := by
  unfold decodeEdge at h
  repeat' split at h
  all_goals cases h
  all_goals exact ⟨_, .edge _ _ _, fun _ => rfl⟩

theorem runsAs_decodeGroup (h : decodeGroup e w = some i) : RunsAs e i := by
  unfold decodeGroup at h
  repeat' split at h
  all_goals cases h
  all_goals exact ⟨_, by constructor, fun _ => rfl⟩

theorem runsAs_decodeWordAccess (h : decodeWordAccess e op w = some i) : RunsAs e i := by
  unfold decodeWordAccess at h
  dsimp only at h
  repeat' split at h
  all_goals cases h
  all_goals exact ⟨_, by constructor, fun _ => rfl⟩

theorem runsAs_decodeInt (h : decodeInt e w = some i) : RunsAs e i := by
  unfold decodeInt at h
  dsimp only at h
  repeat' split at h
  all_goals cases h
  all_goals exact ⟨_, .intOp _ _ _ _ _, fun _ => rfl⟩

theorem runsAs_decodeUint (h : decodeUint e w = some i) : RunsAs e i := by
  unfold decodeUint at h
  dsimp only at h
  repeat' split at h
  all_goals cases h
  all_goals exact ⟨_, .uintOp _ _ _ _ _, fun _ => rfl⟩

theorem runsAs_decodeLogic (h : decodeLogic e w = some i) : RunsAs e i := by
  unfold decodeLogic at h
  dsimp only at h
  repeat' split at h
  all_goals cases h
  all_goals exact ⟨_, .logicOp _ _ _ _, fun _ => rfl⟩

theorem runsAs_decodeCompare (h : decodeCompare e op w = some i) : RunsAs e i := by
  unfold decodeCompare at h
  dsimp only at h
  repeat' split at h
  all_goals cases h
  all_goals exact ⟨_, .compareOp _ _ _ _ _, fun _ => rfl⟩

theorem runsAs_decodeReal (h : decodeReal e w = some i) : RunsAs e i := by
  unfold decodeReal at h
  simp only [Option.bind_eq_bind, Option.bind_eq_some_iff] at h
  obtain ⟨n, _, x, _, h⟩ := h
  repeat' split at h
  all_goals cases h
  all_goals exact ⟨_, .realOp _ _ _ _ _, fun _ => rfl⟩

theorem runsAs_decodeCompareReal (h : decodeCompareReal e w = some i) : RunsAs e i := by
  unfold decodeCompareReal at h
  simp only [Option.bind_eq_bind, Option.bind_eq_some_iff] at h
  obtain ⟨n, _, x, _, h⟩ := h
  repeat' split at h
  all_goals cases h
  all_goals exact ⟨_, .compareReal _ _ _ _, fun _ => rfl⟩

theorem runsAs_decodeConvReal (h : decodeConvReal e w = some i) : RunsAs e i := by
  unfold decodeConvReal at h
  simp only [Option.bind_eq_bind, Option.bind_eq_some_iff] at h
  obtain ⟨x, _, h⟩ := h
  repeat' split at h
  all_goals cases h
  all_goals exact ⟨_, by constructor, fun _ => rfl⟩

theorem runsAs_decodeConv (h : decodeConv e w = some i) : RunsAs e i := by
  unfold decodeConv at h
  split at h
  case h_7 => exact runsAs_decodeConvReal h
  case h_5 | h_6 =>
    cases h
    exact ⟨_, .narrowOp _ _ _ _, fun _ => rfl⟩
  all_goals cases h
  all_goals exact ⟨_, .intToReal _ _ _ _ _, fun _ => rfl⟩

theorem runsAs_decodeMove (h : decodeMove e w = some i) : RunsAs e i := by
  unfold decodeMove at h
  repeat' split at h
  all_goals cases h
  all_goals exact ⟨_, by constructor, fun _ => rfl⟩

theorem runsAs_decodeIndex (h : decodeIndex e w = some i) : RunsAs e i := by
  unfold decodeIndex at h
  dsimp only at h
  repeat' split at h
  all_goals cases h
  all_goals exact ⟨_, by constructor, fun _ => rfl⟩

theorem runsAs_decodeCrc (h : decodeCrc e w = some i) : RunsAs e i := by
  unfold decodeCrc at h
  repeat' split at h
  all_goals cases h
  all_goals exact ⟨_, by constructor, fun _ => rfl⟩

theorem runsAs_decodePub (h : decodePub e w = some i) : RunsAs e i := by
  unfold decodePub at h
  repeat' split at h
  all_goals cases h
  all_goals exact ⟨_, by constructor, fun _ => rfl⟩

theorem runsAs_decodeJump (h : decodeJump e op w = some i) : RunsAs e i := by
  unfold decodeJump at h
  dsimp only at h
  repeat' split at h
  all_goals cases h
  all_goals exact ⟨_, by constructor, fun _ => rfl⟩

theorem runsAs_decodeLoop (h : decodeLoop e w = some i) : RunsAs e i := by
  unfold decodeLoop at h
  repeat' split at h
  all_goals cases h
  all_goals exact ⟨_, .loopOp _ _ _, fun _ => rfl⟩

theorem runsAs_decodeTimer (h : decodeTimer e op w = some i) : RunsAs e i := by
  unfold decodeTimer at h
  dsimp only at h
  repeat' split at h
  all_goals cases h
  all_goals exact ⟨_, by constructor, fun _ => rfl⟩

theorem runsAs_ite {p : Prop} [Decidable p] {a b : Option Instr} (ha : a = some i → RunsAs e i) (hb : b = some i → RunsAs e i)
    (h : (if p then a else b) = some i) : RunsAs e i := by
  split at h
  · exact ha h
  · exact hb h

/-- Every defined word of an engine runs as one of the families. -/
theorem runsAs_decodeWord : decodeWord e w = some i → RunsAs e i :=
  runsAs_ite runsAs_decodeBit <|
  runsAs_ite runsAs_decodeEdge <|
  runsAs_ite runsAs_decodeGroup <|
  runsAs_ite runsAs_decodeWordAccess <|
  runsAs_ite runsAs_decodeInt <|
  runsAs_ite runsAs_decodeUint <|
  runsAs_ite runsAs_decodeLogic <|
  runsAs_ite runsAs_decodeCompare <|
  runsAs_ite runsAs_decodeReal <|
  runsAs_ite runsAs_decodeCompareReal <|
  runsAs_ite runsAs_decodeConv <|
  runsAs_ite runsAs_decodeMove <|
  runsAs_ite runsAs_decodeIndex <|
  runsAs_ite runsAs_decodeCrc <|
  runsAs_ite runsAs_decodePub <|
  runsAs_ite runsAs_decodeJump <|
  runsAs_ite runsAs_decodeLoop <|
  runsAs_ite runsAs_decodeTimer <|
  fun h => nomatch h

/-- What an engine executes, at a word or for want of one. -/
theorem runsAs_of_engine (h : i = .undefinedEncoding e ∨ ∃ w, w < 2 ^ 32 ∧ decodeWord e w = some i) : RunsAs e i := by
  rcases h with rfl | ⟨w, _, h⟩
  · exact ⟨_, .undefinedEncoding, fun _ => rfl⟩
  · exact runsAs_decodeWord h

end Decoders

/-! ## What a family does to the lane (05 R139 to R160) -/

/-- The lane with its check-value units and the items published set. -/
def Lane.withUnits (ln : Lane) (u v : Option CrcUnit) (pubs : List (Nat × Nat)) : Lane := { ln with lcv0 := u, lcv1 := v, pubs := pubs }

/-- An instruction in progress that has changed of its lane at most the check-value units and the items published. -/
def Exec.KeepsLane (x y : Exec) : Prop := ∃ u v p, y.ln = x.ln.withUnits u v p

theorem Exec.keepsLane_of_eq {x y : Exec} (h : y.ln = x.ln) : x.KeepsLane y := ⟨_, _, _, h⟩

theorem Exec.keepsLane_setLcv {x y : Exec} {u : Fin 2} {v : CrcUnit} (h : y.ln = x.ln.setLcv u v) : x.KeepsLane y := by
  unfold Lane.setLcv at h
  split at h
  · exact ⟨some v, x.ln.lcv1, x.ln.pubs, h⟩
  · exact ⟨x.ln.lcv0, some v, x.ln.pubs, h⟩

theorem jumpTo_ln (t : Nat) (x : Exec) : (jumpTo t x).ln = x.ln := by
  unfold jumpTo
  dsimp only
  repeat' split
  all_goals rfl

theorem callTo_ln (t : Nat) (x : Exec) : (callTo t x).ln = x.ln := by
  unfold callTo
  dsimp only
  split <;> rfl

/-- A family that stores nothing leaves the areas of its lane alone. -/
theorem keepsLane_of_op {f : Exec → Exec} (h : EngineOp false f) (x : Exec) : x.KeepsLane (f x) := by
  cases h with
  | bitLogic b g => exact Exec.keepsLane_of_eq (by simp [bitLogic])
  | bracketOpen b op =>
    refine Exec.keepsLane_of_eq ?_
    unfold bracketOpen
    split
    · rfl
    · simp [bitLogic]
  | bracketClose =>
    refine Exec.keepsLane_of_eq ?_
    unfold bracketClose
    split <;> rfl
  | loadWord n sgn w r => exact Exec.keepsLane_of_eq (by simp [loadWord])
  | intOp w d y n g => exact Exec.keepsLane_of_eq (by simp [intOp])
  | uintOp w d y n g => exact Exec.keepsLane_of_eq (by simp [uintOp])
  | logicOp w d y g => exact Exec.keepsLane_of_eq (by simp [logicOp])
  | compareOp sgn k w d y => exact Exec.keepsLane_of_eq (by simp [compareOp])
  | realOp w d y n g => exact Exec.keepsLane_of_eq (by simp [realOp])
  | compareReal k w d y => exact Exec.keepsLane_of_eq (by simp [compareReal])
  | intToReal f sgn w d y => exact Exec.keepsLane_of_eq (by simp [intToReal])
  | realToInt f rne sgn w d y => exact Exec.keepsLane_of_eq (by simp [realToInt])
  | realToReal f g d y => exact Exec.keepsLane_of_eq (by simp [realToReal])
  | narrowOp sgn w d y => exact Exec.keepsLane_of_eq (by simp [narrowOp])
  | movOp w d y => exact Exec.keepsLane_of_eq (by simp [movOp])
  | w2baOp w y => exact Exec.keepsLane_of_eq (by simp [w2baOp])
  | indexOp n g => exact Exec.keepsLane_of_eq rfl
  | registers g => exact Exec.keepsLane_of_eq rfl
  | crcInit u poly =>
    unfold crcInit
    dsimp only
    split
    · exact Exec.keepsLane_setLcv rfl
    · exact Exec.keepsLane_of_eq rfl
  | crcFeedOp u n r =>
    unfold crcFeedOp
    dsimp only
    split
    · exact Exec.keepsLane_setLcv rfl
    · exact Exec.keepsLane_of_eq rfl
  | crcRead u r =>
    unfold crcRead
    dsimp only
    split <;> exact Exec.keepsLane_of_eq rfl
  | publishOp kind id =>
    unfold publishOp
    dsimp only
    repeat' split
    any_goals exact Exec.keepsLane_of_eq rfl
    all_goals exact ⟨_, _, _, rfl⟩
  | jumpTo t => exact Exec.keepsLane_of_eq (jumpTo_ln t x)
  | jumpIf take t =>
    refine Exec.keepsLane_of_eq ?_
    unfold jumpIf
    dsimp only
    repeat' split
    · rfl
    · exact jumpTo_ln t x
    · rfl
  | callTo t => exact Exec.keepsLane_of_eq (callTo_ln t x)
  | callIf take t =>
    refine Exec.keepsLane_of_eq ?_
    unfold callIf
    dsimp only
    split
    · exact callTo_ln t x
    · rfl
  | retOp =>
    refine Exec.keepsLane_of_eq ?_
    unfold retOp
    dsimp only
    repeat' split
    all_goals rfl
  | loopOp n len max =>
    refine Exec.keepsLane_of_eq ?_
    unfold loopOp
    dsimp only
    repeat' split
    all_goals rfl
  | undefinedEncoding => exact Exec.keepsLane_of_eq rfl

/-- An instruction in progress that has left its lane as it was, or stored bytes in one area of it. -/
def Exec.Stores (x y : Exec) : Prop := y.ln = x.ln ∨ ∃ a eng ofs bs, y.ln = x.ln.store a eng ofs bs

theorem Exec.stores_put {x y : Exec} (h : y.ln = x.ln) (a : Area) (ofs : Nat) (bs : Bytes) : x.Stores (y.put a ofs bs) := by
  rw [Exec.Stores, ← h]
  exact .inr ⟨_, _, _, _, rfl⟩

theorem Exec.stores_storeBit {x y : Exec} (h : y.ln = x.ln) (b : BitAddr) (v : Bool) : x.Stores (y.storeBit b v) := by
  rw [Exec.Stores, ← h]
  unfold Exec.storeBit
  dsimp only
  repeat' split
  any_goals exact .inl rfl
  all_goals exact .inr ⟨_, _, _, _, rfl⟩

/-- A store behind its checks. -/
theorem Exec.stores_checked {x y : Exec} (h : y.ln = x.ln) (p : Prop) [Decidable p] (a : Area) (ofs : Nat) (bs : Bytes) (c : Nat) :
    x.Stores (if p then y.put a ofs bs else y.raise c) := by
  split
  · exact Exec.stores_put h a ofs bs
  · exact .inl h

/-- A family that stores writes one stretch of bytes, or nothing where a check fails. -/
theorem stores_of_op {f : Exec → Exec} (h : EngineOp true f) (x : Exec) : x.Stores (f x) := by
  cases h with
  | bitStore b g => exact Exec.stores_storeBit (y := (x.access b.area).clocks 1) (by simp) b _
  | bitStoreIf b v =>
    unfold bitStoreIf
    dsimp only
    split
    · exact Exec.stores_storeBit (by simp) b v
    · exact .inl (by simp)
  | edge rising ofs pair => exact Exec.stores_checked (by simp) _ _ _ _ _
  | storeWord n w r => exact Exec.stores_checked (by simp) _ _ _ _ _
  | timerOp k ms wall inst =>
    unfold timerOp
    split
    · exact .inl rfl
    · exact Exec.stores_checked (by simp) _ _ _ _ _
  | counterOp inst g => exact Exec.stores_checked (by simp) _ _ _ _ _

end Sys2Proof.Machine
end

section
/-! One instruction of an engine whose cores agree: what the rest of the device, and the lane besides what the instruction itself does to it,
keeps (01 R9, 03 R62, 04 R101, R118, R124). -/

namespace Sys2Proof.Machine

open Sys2Proof

/-! ## The run of a lane: engines, task values, registers, pairs -/

/-- The two cores of a pair agree (03 R62, R63). -/
def Pair.agrees (p : Pair) : Bool :=
  !p.bitwise && !p.signature && decide (p.head = p.lead) && decide (p.sigLead = p.sigTrail) && p.shims.all (fun x => decide (x.give = x.lead))

theorem coresAgree_iff (s : State) (e : EngineId) : s.coresAgree e = ((s.lane e.lane).pair e.slot).agrees := rfl

/-- A lane that differs at most in its engines, registers, task values, the completeness of its submission and its pairs, of which every one
that agreed agrees still. -/
def Lane.RunsTo (a b : Lane) : Prop :=
  ∃ en pr r c k, b = { a with engines := en, pairs := pr, reg := r, ctxs := c, incomplete := k } ∧
    ∀ n, (a.pair n).agrees = true → (b.pair n).agrees = true

namespace Lane.RunsTo

variable {a b c : Lane}

theorem refl (a : Lane) : a.RunsTo a := ⟨_, _, _, _, _, rfl, fun _ h => h⟩

theorem trans (h : a.RunsTo b) (h' : b.RunsTo c) : a.RunsTo c := by
  obtain ⟨_, _, _, _, _, rfl, hp⟩ := h
  obtain ⟨_, _, _, _, _, rfl, hq⟩ := h'
  exact ⟨_, _, _, _, _, rfl, fun n h => hq n (hp n h)⟩

theorem setEngine (a : Lane) (n : Nat) (en : Engine) : a.RunsTo (a.setEngine n en) := ⟨_, _, _, _, _, rfl, fun _ h => h⟩

theorem rset (a : Lane) (i j v : Nat) : a.RunsTo (a.rset i j v) := ⟨_, _, _, _, _, rfl, fun _ h => h⟩

theorem rbump (a : Lane) (i j : Nat) : a.RunsTo (a.rbump i j) := rset a i j _

theorem modCtx (a : Lane) (ctx : Nat) (g : CtxState → CtxState) : a.RunsTo (a.modCtx ctx g) := ⟨_, _, _, _, _, rfl, fun _ h => h⟩

theorem foldl {α : Type} (g : Lane → α → Lane) (h : ∀ (a : Lane) x, a.RunsTo (g a x)) (xs : List α) : ∀ a : Lane, a.RunsTo (xs.foldl g a) := by
  induction xs with
  | nil => exact refl
  | cons x xs ih => exact fun a => (h a x).trans (ih _)

theorem startTask (a : Lane) (con : Container) (n : Nat) (t : Task) : a.RunsTo (a.startTask con n t) := by
  unfold Lane.startTask
  exact ((setEngine a _ _).trans (rbump _ _ _)).trans (modCtx _ _ _)

theorem passPoll (a : Lane) (con : Container) (l : LaneId) (n : Nat) (t : Task) (clk : Nat) : a.RunsTo (a.passPoll con l n t clk) := by
  unfold Lane.passPoll
  split
  · exact foldl _ (fun a (u : Task) => modCtx a u.ctx _) _ a
  · exact refl a

theorem latch (a : Lane) (ctx code : Nat) : a.RunsTo (a.latch ctx code) := by
  unfold Lane.latch
  split
  · exact refl a
  · exact ((modCtx a _ _).trans (rbump _ _ _)).trans (rbump _ _ _)

theorem stopSeq (a : Lane) (n code : Nat) : a.RunsTo (a.stopSeq n code) := ⟨_, _, _, _, _, rfl, fun _ h => h⟩

theorem timeTask (a : Lane) (ctx clocks : Nat) : a.RunsTo (a.timeTask ctx clocks) := (rset a _ _ _).trans (rset _ _ _ _)

/-- A walk of an order list starts tasks and passes poll points, and does nothing else to the lane (04 R118, R124, R128). -/
theorem walk (con : Container) (l : LaneId) (n stage : Nat) : ∀ (fuel : Nat) (w : Walk), w.ln.RunsTo (walk con l n stage fuel w).ln := by
  intro fuel
  induction fuel with
  | zero => exact fun w => refl w.ln
  | succ fuel ih =>
    intro w
    unfold Machine.walk
    dsimp only
    split
    · split
      · split
        · refine trans ?_ (ih _)
          dsimp only
          split
          · exact (setEngine _ _ _).trans (passPoll _ _ _ _ _ _)
          · exact setEngine _ _ _
        · exact (setEngine _ _ _).trans (startTask _ _ _ _)
      · exact (setEngine _ _ _).trans (ih _)
    · split
      · exact setEngine _ _ _
      · split
        · split
          · exact (setEngine _ _ _).trans (ih _)
          · split
            · exact (setEngine _ _ _).trans (ih _)
            · split
              · exact setEngine _ _ _
              · exact (setEngine _ _ _).trans (startTask _ _ _ _)
        · exact (setEngine _ _ _).trans (ih _)
      · split
        · exact setEngine _ _ _
        · refine trans ?_ (ih _)
          refine trans ?_ (setEngine _ _ _)
          split
          · exact foldl _ (fun a (u : Task) => modCtx a u.ctx _) _ _
          · exact refl _

end Lane.RunsTo

/-! ## The run of a lane in the device -/

/-- A state in which at most the run of lane `l`, the monitors and the count 2104.00 of skipped activations have gone on. -/
structure State.RunsOn (l : LaneId) (s t : State) : Prop where
  lane : (s.lane l).RunsTo (t.lane l)
  others : ∀ m, m ≠ l → t.lane m = s.lane m
  registers : ∀ index sub, regKey index sub ≠ regKey 0x2104 0 → jget t index sub = jget s index sub
  rest : ∃ lanes m j, t = { s with lanes := lanes, monitors := m, jreg := j }

namespace State.RunsOn

variable {l : LaneId} {s t u : State}

theorem refl (l : LaneId) (s : State) : s.RunsOn l s := ⟨.refl _, fun _ _ => rfl, fun _ _ _ => rfl, _, _, _, rfl⟩

theorem trans (h : s.RunsOn l t) (h' : t.RunsOn l u) : s.RunsOn l u := by
  refine ⟨h.lane.trans h'.lane, fun m hm => (h'.others m hm).trans (h.others m hm),
    fun i j hij => (h'.registers i j hij).trans (h.registers i j hij), ?_⟩
  obtain ⟨_, _, _, rfl⟩ := h.rest
  obtain ⟨_, _, _, rfl⟩ := h'.rest
  exact ⟨_, _, _, rfl⟩

theorem modLane (s : State) (l : LaneId) (f : Lane → Lane) (hf : (s.lane l).RunsTo (f (s.lane l))) : s.RunsOn l (s.modLane l f) :=
  ⟨by rwa [modLane_lane_self], fun m hm => modLane_lane_other s l m f hm, fun _ _ _ => rfl, _, _, _, rfl⟩

theorem jadd (l : LaneId) (s : State) (n : Nat) : s.RunsOn l (jadd s 0x2104 0 n) :=
  ⟨.refl _, fun _ _ => rfl, fun i j h => jget_jset_other s _ _ i j _ h, _, _, _, rfl⟩

theorem monitors (l : LaneId) (s : State) (m : Store Monitor) : s.RunsOn l { s with monitors := m } :=
  ⟨.refl _, fun _ _ => rfl, fun _ _ _ => rfl, _, _, _, rfl⟩

theorem monitorTake (l : LaneId) (s : State) (kind sel : Nat) (x : Int) : s.RunsOn l (monitorTake s kind sel x) := by
  unfold Machine.monitorTake
  generalize List.range 64 = ns
  induction ns generalizing s with
  | nil => exact refl l s
  | cons n ns ih =>
    refine trans ?_ (ih _)
    unfold monitorOne
    dsimp only
    split
    · exact monitors l s _
    · exact refl l s

theorem walkEngine (s : State) (l : LaneId) (n : Nat) : s.RunsOn l (walkEngine s l n) := by
  unfold Machine.walkEngine
  split
  · exact refl l s
  · rename_i con _
    dsimp only
    generalize hw : walk con l n s.power.shedC ((orderOf con l n).length * 2 + 40) ⟨s.lane l, 0⟩ = w
    have hlane : (s.lane l).RunsTo w.ln := by rw [← hw]; exact Lane.RunsTo.walk ..
    refine trans (modLane s l (fun _ => w.ln) hlane) ?_
    split
    · exact refl l _
    · exact jadd l _ _

/-- The end of a task (04 R124, 14 R391). -/
theorem endTask (s : State) (l : LaneId) (n : Nat) : s.RunsOn l (endTask s l n) := by
  unfold Machine.endTask
  dsimp only
  split
  · refine ((modLane s l _ ?_).trans (monitorTake l _ _ _ _)).trans (walkEngine _ l n)
    have h := fun ctx clocks en => (Lane.RunsTo.timeTask (s.lane l) ctx clocks).trans (Lane.RunsTo.setEngine _ n en)
    split
    · split
      · split
        · exact (h _ _ _).trans (.passPoll _ _ _ _ _ _)
        · exact h _ _ _
      · exact (h _ _ _).trans (.modCtx _ _ _)
    · exact (h _ _ _).trans (.modCtx _ _ _)
  · exact refl l s

end State.RunsOn

/-! ## The effect of an instruction -/

/-- A lane replaced by itself. -/
theorem modLane_same (s : State) (l : LaneId) : s.modLane l (fun _ => s.lane l) = s := by cases l <;> rfl

theorem pair_insert_self (ln : Lane) (n : Nat) (p : Pair) : Lane.pair { ln with pairs := Store.insert ln.pairs n p } n = p := by
  simp [Lane.pair, Store.get]

theorem pair_insert_other (ln : Lane) {n m : Nat} (p : Pair) (h : m ≠ n) :
    Lane.pair { ln with pairs := Store.insert ln.pairs n p } m = ln.pair m := by
  simp [Lane.pair, Store.get, Store.find?_insert_other ln.pairs p h]

/-- With agreeing cores the trailing core changes nothing but its pair, which agrees still (03 R62, R63). -/
theorem runsOn_lockstep (s : State) (e : EngineId) (a : Exec) (ins : Bytes) (core : Engine) (out : List (BitVec 128))
    (h : s.coresAgree e = true) : s.RunsOn e.lane (lockstep s e a ins core core (pairUp out out)) := by
  rcases lockstep_agrees s e a ins core out h with hs | ⟨p, hb, hg, hh, hl, ha, hs⟩
  · rw [hs]
    exact .refl _ s
  · rw [hs]
    refine .modLane s _ _ ⟨_, _, _, _, _, rfl, fun n hn => ?_⟩
    have hp : p.agrees = true := by simp only [Pair.agrees, hb, hg, hh, hl, ha, decide_true, Bool.not_false, Bool.and_true]
    by_cases hne : n = e.slot
    · rw [hne]
      exact (congrArg Pair.agrees (pair_insert_self (s.lane e.lane) e.slot p)).trans hp
    · exact (congrArg Pair.agrees (pair_insert_other (s.lane e.lane) p hne)).trans hn

/-- One instruction of an engine whose cores agree leaves its lane as it does to the lane, or the lane alone, and lets the lane run on. -/
theorem serzel_runsOn (s : State) (e : EngineId) (f : Exec → Exec) (h : s.coresAgree e = true)
    (hp : (f (Exec.start s e)).ln.pairs = (s.lane e.lane).pairs) :
    ∃ ln, (ln = s.lane e.lane ∨ ln = (f (Exec.start s e)).ln) ∧ (s.modLane e.lane (fun _ => ln)).RunsOn e.lane (serzel s e f) := by
  unfold serzel
  dsimp only
  rw [trailing_same s e h]
  generalize hx : f (Exec.start s e) = x at hp ⊢
  split
  case isFalse =>
    refine ⟨_, .inl rfl, ?_⟩
    rw [modLane_same]
    exact .refl _ s
  case isTrue =>
    generalize (if x.seq ≠ 0 then x.seq else if x.runsOut then 37 else 0) = code
    split
    · refine ⟨_, .inl rfl, ?_⟩
      rw [modLane_same]
      exact .modLane s _ _ (.stopSeq _ _ _)
    · refine ⟨_, .inr rfl, ?_⟩
      have hclose : (s.modLane e.lane (fun _ => x.ln)).RunsOn e.lane (s.modLane e.lane (fun _ => x.close)) := by
        have hc : x.ln.RunsTo x.close := (Lane.RunsTo.setEngine _ _ _).trans (.latch _ _ _)
        refine ⟨by simpa using hc, fun m hm => ?_, fun _ _ _ => rfl, _, _, _, rfl⟩
        rw [modLane_lane_other _ _ _ _ hm, modLane_lane_other _ _ _ _ hm]
      have hagree : (s.modLane e.lane (fun _ => x.close)).coresAgree e = true := by
        have hpair : ((s.modLane e.lane (fun _ => x.ln)).lane e.lane).pair e.slot = (s.lane e.lane).pair e.slot := by
          rw [modLane_lane_self, Lane.pair, hp]; rfl
        obtain ⟨_, _, _, _, _, _, hag⟩ := hclose.lane
        refine hag e.slot ?_
        rw [hpair]
        exact h
      have hlock := hclose.trans (runsOn_lockstep _ e (Exec.start s e) x.ins x.core x.shown hagree)
      split
      · exact hlock.trans (.endTask _ _ _)
      · exact hlock

/-! ## The lane after an instruction, family by family -/

theorem Lane.store_pairs (ln : Lane) (a : Area) (eng ofs : Nat) (bs : Bytes) : (ln.store a eng ofs bs).pairs = ln.pairs := by
  obtain ⟨g, h⟩ := Lane.store_eq ln a eng ofs bs
  rw [h]
  cases a <;> rfl

/-- An instruction of an engine changes of its lane no pair, and no area unless it stores. -/
theorem pairs_of_op {b : Bool} {f : Exec → Exec} (h : EngineOp b f) (x : Exec) : (f x).ln.pairs = x.ln.pairs := by
  cases b with
  | false =>
    obtain ⟨u, v, p, hk⟩ := keepsLane_of_op h x
    rw [hk]; rfl
  | true =>
    rcases stores_of_op h x with hs | ⟨a, eng, ofs, bs, hs⟩
    · rw [hs]
    · rw [hs, Lane.store_pairs]

/-- What an instruction of an engine whose cores agree leads to: its own effect on its lane, and the run of that lane. -/
theorem engine_runsOn {i : Instr} {e : EngineId} {s t : State}
    (hi : i = .undefinedEncoding e ∨ ∃ w, w < 2 ^ 32 ∧ decodeWord e w = some i) (ha : s.coresAgree e = true) (ht : exec i s = .next t) :
    ∃ f, EngineOp (Parts.stores i) f ∧
      ∃ ln, (ln = s.lane e.lane ∨ ln = (f (Exec.start s e)).ln) ∧ (s.modLane e.lane (fun _ => ln)).RunsOn e.lane t := by
  obtain ⟨f, hf, hx⟩ := runsAs_of_engine hi
  obtain rfl : serzel s e f = t := by simpa [hx s] using ht
  exact ⟨f, hf, serzel_runsOn s e f ha (pairs_of_op hf _)⟩

/-! ## Memory -/

theorem State.memoryWf_iff (s : State) : s.memoryWf = true ↔ ∀ l, (s.lane l).memoryWf = true := by
  simp only [State.memoryWf, Bool.and_eq_true]
  exact ⟨fun ⟨⟨ha, hb⟩, hc⟩ l => by cases l <;> assumption, fun h => ⟨⟨h .a, h .b⟩, h .c⟩⟩

theorem Lane.RunsTo.memoryWf {a b : Lane} (h : a.RunsTo b) : b.memoryWf = a.memoryWf := by
  obtain ⟨_, _, _, _, _, rfl, _⟩ := h; rfl

theorem Lane.RunsTo.area {a b : Lane} (h : a.RunsTo b) (x : Area) (eng : Nat) : b.area x eng = a.area x eng := by
  obtain ⟨_, _, _, _, _, rfl, _⟩ := h
  cases x <;> rfl

/-- An instruction of an engine keeps the canonical form of its lane. -/
theorem memoryWf_of_op {b : Bool} {f : Exec → Exec} (h : EngineOp b f) {x : Exec} (hx : x.ln.memoryWf = true) :
    (f x).ln.memoryWf = true := by
  cases b with
  | false =>
    obtain ⟨u, v, p, hk⟩ := keepsLane_of_op h x
    rw [hk]; exact hx
  | true =>
    rcases stores_of_op h x with hs | ⟨a, eng, ofs, bs, hs⟩
    · rw [hs]; exact hx
    · rw [hs]; exact Lane.memoryWf_store hx a eng ofs bs

/-- Settles O23: an instruction of an engine stores at most one stretch of bytes, which keeps the canonical form, and the run of its lane
touches no area. -/
theorem instructionsKeepMemoryCanonical : Obligations.InstructionsKeepMemoryCanonical := by
  unfold Obligations.InstructionsKeepMemoryCanonical
  intro i e s t hi ha hm ht
  obtain ⟨f, hf, ln, hln, hr⟩ := engine_runsOn hi ha ht
  rw [State.memoryWf_iff] at hm ⊢
  have hlnwf : ln.memoryWf = true := by
    rcases hln with rfl | rfl
    · exact hm e.lane
    · exact memoryWf_of_op hf (hm e.lane)
  intro l
  by_cases hl : l = e.lane
  · rw [hl, hr.lane.memoryWf, modLane_lane_self]
    exact hlnwf
  · rw [hr.others l hl, modLane_lane_other _ _ _ _ hl]
    exact hm l

/-- Settles O11: an instruction that stores nothing leaves the areas of its lane alone, and so does the run of the lane. -/
theorem registerInstructionsKeepMemory : Obligations.RegisterInstructionsKeepMemory := by
  unfold Obligations.RegisterInstructionsKeepMemory
  intro i e s t hi hs ha ht l a eng ofs
  obtain ⟨f, hf, ln, hln, hr⟩ := engine_runsOn hi ha ht
  rw [hs] at hf
  have hlnarea : ln.area a eng = (s.lane e.lane).area a eng := by
    rcases hln with rfl | rfl
    · rfl
    · obtain ⟨u, v, p, hk⟩ := keepsLane_of_op hf (Exec.start s e)
      rw [hk]
      cases a <;> rfl
  unfold State.byteAt
  by_cases hl : l = e.lane
  · rw [hl, hr.lane.area, modLane_lane_self, hlnarea]
  · rw [hr.others l hl, modLane_lane_other _ _ _ _ hl]

/-! ## Isolation and agreement (01 R9, 03 R62 to R64, 04 R101) -/

theorem State.RunsOn.sameOutside {l : LaneId} {s t : State} {ln : Lane} (h : (s.modLane l (fun _ => ln)).RunsOn l t) : s.sameOutside l t := by
  have hreg := h.registers
  have hother : ∀ m, m ≠ l → t.lane m = s.lane m := fun m hm => (h.others m hm).trans (modLane_lane_other _ _ _ _ hm)
  obtain ⟨_, _, _, rfl⟩ := h.rest
  exact ⟨hother, rfl, rfl, rfl, rfl, rfl, rfl, rfl, rfl, rfl, rfl, rfl, rfl, rfl, rfl, rfl, rfl, rfl, rfl, rfl, rfl, rfl, rfl, rfl, hreg⟩

theorem instructions_sameOutside : Parts.InstructionsStayInTheirLane := by
  intro i e s t hi ha ht
  obtain ⟨f, hf, ln, hln, hr⟩ := engine_runsOn hi ha ht
  exact hr.sameOutside

theorem coresKeepAgreeing : Parts.CoresKeepAgreeing := by
  refine ⟨fun e => ?_, fun i e s t hi ha ht e' => ?_⟩
  · obtain ⟨l, n, h⟩ := e
    cases l <;> rfl
  · obtain ⟨f, hf, ln, hln, hr⟩ := engine_runsOn hi (ha e) ht
    have hpairs : ln.pairs = (s.lane e.lane).pairs := by
      rcases hln with rfl | rfl
      · rfl
      · exact pairs_of_op hf _
    rw [coresAgree_iff]
    by_cases hl : e'.lane = e.lane
    · obtain ⟨_, _, _, _, _, _, hag⟩ := hr.lane
      rw [hl]
      refine hag _ ?_
      have hpair : ln.pair e'.slot = (s.lane e'.lane).pair e'.slot := by rw [Lane.pair, hpairs, hl]; rfl
      rw [modLane_lane_self, hpair]
      exact ha e'
    · rw [hr.others _ hl, modLane_lane_other _ _ _ _ hl]
      exact ha e'

theorem comparatorsCompare : Parts.ComparatorsCompare := by
  intro p x
  refine ⟨fun h => by simp [Pair.compare, h], fun h => ⟨by simp [Pair.compare, h], fun hs => ?_⟩, by simp [Pair.compare], rfl,
    fun h => by simp [Pair.compare, h]⟩
  obtain ⟨_, hsig, _, heq, _, _⟩ := compare_equal p x h.symm hs
  exact ⟨hsig, heq⟩

/-- Settles O22: an instruction changes the run of its lane and nothing outside it, its pair going on in agreement. -/
theorem instructionsStayInTheirLane : Obligations.InstructionsStayInTheirLane :=
  ⟨instructions_sameOutside, coresKeepAgreeing, comparatorsCompare⟩

end Sys2Proof.Machine
end

section
/-! The stop of an engine at a sequence fault (05 R133, R163). -/

namespace Sys2Proof.Machine

open Sys2Proof

/-! ## A lane's registers and engines after a write -/

/-- A written register of a lane reads as the value written, the default of its table aside. -/
theorem Lane.rget_rset_self (ln : Lane) (i j v : Nat) (hv : v ≠ tableDefault (regKey i j)) : (ln.rset i j v).rget i j = v := by
  simp [Lane.rget, Lane.rset, Store.get, Store.put, hv]

/-- A written register leaves every other one. -/
theorem Lane.rget_rset_other (ln : Lane) (i j i' j' v : Nat) (h : regKey i' j' ≠ regKey i j) :
    (ln.rset i j v).rget i' j' = ln.rget i' j' := by
  simp only [Lane.rget, Lane.rset, Store.get, Store.put]
  split
  · rw [Store.find?_erase_other _ h]
  · rw [Store.find?_insert_other _ _ h]

@[simp] theorem Lane.engine_setEngine_self (ln : Lane) (n : Nat) (en : Engine) : (ln.setEngine n en).engine n = en := by
  simp [Lane.engine, Lane.setEngine, Store.get]

theorem Lane.engine_setEngine_other (ln : Lane) {n m : Nat} (en : Engine) (h : m ≠ n) : (ln.setEngine n en).engine m = ln.engine m := by
  simp [Lane.engine, Lane.setEngine, Store.get, Store.find?_insert_other ln.engines en h]

/-! ## The stop (05 R163) -/

/-- An engine stopped by a sequence fault keeps its registers and has no queued task left. -/
theorem Lane.engine_stopSeq_self (ln : Lane) (n code : Nat) :
    (ln.stopSeq n code).engine n = { ln.engine n with phase := .stopped, queue := [] } :=
  ln.engine_setEngine_self n _

theorem Lane.engine_stopSeq_other (ln : Lane) {n m : Nat} (code : Nat) (h : m ≠ n) : (ln.stopSeq n code).engine m = ln.engine m :=
  ln.engine_setEngine_other _ h

/-- 3123 counts a sequence fault. -/
theorem Lane.rget_stopSeq_count (ln : Lane) (n code : Nat) : (ln.stopSeq n code).rget 0x3123 1 = bump32 (ln.rget 0x3123 1) := by
  have hd : tableDefault (regKey 0x3123 1) = 0 := by decide +kernel
  unfold Lane.stopSeq
  dsimp only
  rw [Lane.rget_rset_other _ _ _ _ _ _ (by decide), Lane.rbump, Lane.rget_rset_self _ _ _ _ (hd ▸ bump32_ne_zero _)]
  rfl

/-- 3124 shows the code and the context of a sequence fault. -/
theorem Lane.rget_stopSeq_shown (ln : Lane) (n code : Nat) (h : code ≠ 0) :
    (ln.stopSeq n code).rget 0x3124 1 = code + 256 * (ln.engine n).ctx.getD 0 := by
  have hd : tableDefault (regKey 0x3124 1) = 0 := by decide +kernel
  exact Lane.rget_rset_self _ _ _ _ (by omega)

theorem undefinedEncodingStopsTheEngine : Parts.UndefinedEncodingStopsTheEngine := by
  intro s e hx
  have hstop : serzel s e (fun x => x.seqFault 32) = s.seqStopped e 32 := serzel_seq s e _ hx (by simp [Exec.seqFault])
  have hlane : (s.seqStopped e 32).lane e.lane = (s.lane e.lane).stopSeq e.slot 32 := modLane_lane_self ..
  have hrun : s.RunsOn e.lane (s.seqStopped e 32) := .modLane s _ _ (.stopSeq _ _ _)
  have hout : s.sameOutside e.lane (s.seqStopped e 32) := State.RunsOn.sameOutside (ln := s.lane e.lane) (by rwa [modLane_same])
  refine ⟨_, congrArg Host.Outcome.next hstop, ?_, ?_, ?_, ?_, ?_, fun l a eng ofs => ?_, hout, fun e' hl hs => ?_⟩
  · rw [State.engineOf, hlane, Lane.engine_stopSeq_self]
  · rw [State.engineOf, hlane, Lane.engine_stopSeq_self]
  · rw [hlane]; rfl
  · rw [hlane, Lane.rget_stopSeq_count]
  · rw [hlane, Lane.rget_stopSeq_shown _ _ _ (by decide)]; rfl
  · unfold State.byteAt
    by_cases hl : l = e.lane
    · rw [hl, hrun.lane.area]
    · rw [hrun.others l hl]
  · rw [State.engineOf, hl, hlane, Lane.engine_stopSeq_other _ _ hs, ← hl]; rfl

/-- Settles O4: the decoder refuses the undefined encodings, and an engine that meets one stops with fault 32. -/
theorem undefinedEncodingsStopTheEngine : Obligations.UndefinedEncodingsStopTheEngine :=
  ⟨undefinedEncodingsAreRefused, undefinedEncodingStopsTheEngine⟩

/-- An engine that does not execute runs no instruction (04 R118, 05 R163). -/
theorem idleEnginesRunNothing : Parts.IdleEnginesRunNothing := by
  intro i e s hi hx
  obtain ⟨f, _, hrun⟩ := runsAs_of_engine hi
  rw [hrun s, serzel_idle s e f hx]

end Sys2Proof.Machine
end

section
/-! A word store into a local store that is listed twice (05 R142). -/

namespace Sys2Proof.Machine

open Sys2Proof

/-- A task that may write bytes 0 to 15 of its local store. -/
def storeTask : Task :=
  { ctx := 0, id := 0, scope := 0, kind := .cyclic 1 0, group := 0, entry := 0, lBase := 0, lLen := 16, fences := [], pubs := [],
    sheddable := false }

/-- A device in RUN with engine 0 of lane A in that task, the local store of engine 0 listed twice: byte 5 in the first listing, byte 7 in
the second. -/
def twiceListed : State :=
  { State.reset with mode := .run2oo3 }.modLane .a (fun ln =>
    { ln with container := some { unread ⟨0, 0, 0, 0⟩ with tasks := [storeTask] }
              locals := [(0, [(5, 1)]), (0, [(7, 9)])]
              engines := [(0, { Engine.blank with phase := .running, ctx := some 0 })] })

/-- Engine 0 of lane A. -/
def engineA0 : EngineId := { lane := .a, num := 0, half := false }

/-- A byte of area L at offset 5. -/
def byteL5 : WordAddr := { area := .l, idx := 0, ofs := 5 }

theorem twiceListed_steady : twiceListed.steady engineA0 = true := by decide +kernel

theorem twiceListed_byte : twiceListed.byteAt .a .l 0 7 = 0 := by decide +kernel

/-- The zero stored at offset 5 empties the first listing, which goes, and the second one comes to light. -/
theorem twiceListed_stored : (serzel twiceListed engineA0 (storeWord 1 byteL5 .wa)).byteAt .a .l 0 7 = 9 := by decide +kernel

/-- Refutes O10: the frame of the stores asks no canonical memory. In a state whose lane lists the local store of an engine twice, a store
that empties the first listing changes a byte two offsets away. -/
theorem not_storesWriteTheirBytes : ¬ Obligations.StoresWriteTheirBytes := by
  rintro ⟨_, hframe, _⟩
  have h := hframe (.st8, 1) (by simp) twiceListed (serzel twiceListed engineA0 (storeWord 1 byteL5 .wa)) engineA0 byteL5 .wa
    twiceListed_steady rfl .a .l 0 7 (.inr (.inr (.inr (.inr (by decide +kernel)))))
  rw [twiceListed_stored, twiceListed_byte] at h
  exact absurd h (by decide)

end Sys2Proof.Machine
end

section
/-! Registers and flags: bit logic, loads, integer, logic, REAL and conversion instructions, moves (05 R139 to R152). -/

namespace Sys2Proof.Machine

open Sys2Proof

/-! ## Sources and delivery (05 R143, R145, R148, R150) -/

/-- Of two faults the lower is latched (05 R162). -/
theorem raise_midway (s : State) (e : EngineId) (en : Engine) (clk k c : Nat) (ins : Bytes) (out : List (BitVec 128)) :
    (s.midway e en clk k ins out).raise c = s.midway e en clk (Parts.lowerFault k c) ins out := by
  have h : (if c = 0 then k else if k = 0 then c else Nat.min k c) = Parts.lowerFault k c := by
    unfold Parts.lowerFault
    by_cases hk : k = 0 <;> by_cases hc : c = 0 <;> simp [hk, hc]
  rw [← h]
  rfl

/-- A source as an instruction reads it after `n` clocks: its bits, and the fault of a constant beyond K raised. -/
theorem src_start (s : State) (e : EngineId) (n : Nat) (x : Src) :
    ((Exec.start s e).clocks n).src x = ((Parts.sourceOf s e x).1, s.midway e (s.engineOf e) n (Parts.sourceOf s e x).2 [] []) := by
  cases x with
  | acc r => exact rsrc_start s e n (.acc r)
  | k v => exact rsrc_start s e n (.k v)
  | x m =>
    have h := rsrc_start s e n (.acc .wa)
    exact congrArg (fun r => (((s.engineOf e).xreg m).toNat, r.2)) h
  | imm v =>
    have h := rsrc_start s e n (.acc .wa)
    exact congrArg (fun r => (wrapTo 64 (signedOf 16 v.val), r.2)) h

/-- The source of a conversion from REAL likewise. -/
theorem csrc_start (s : State) (e : EngineId) (n : Nat) (y : ConvSrc) :
    ((Exec.start s e).clocks n).csrc y =
      ((Parts.sourceOf s e (Parts.convSource y)).1, s.midway e (s.engineOf e) n (Parts.sourceOf s e (Parts.convSource y)).2 [] []) := by
  cases y with
  | acc r => exact src_start s e n (.acc r)
  | x m => exact src_start s e n (.x m)
  | k v => exact src_start s e n (.k v)

/-- An instruction that ends with registers changed by `g`, no memory touched, and the fault of its source and its own. -/
theorem serzel_registers (s : State) (e : EngineId) (f : Exec → Exec) (g : Engine → Engine) (clk k c : Nat) (hs : s.steady e = true)
    (hf : f (Exec.start s e) = ((s.midway e (s.engineOf e) clk k [] []).mapEn g).raise c)
    (hl : (g (s.engineOf e)).loops = (s.engineOf e).loops) (hc : (g (s.engineOf e)).calls = (s.engineOf e).calls)
    (hk : (g (s.engineOf e)).clock = (s.engineOf e).clock) (hx : (g (s.engineOf e)).ctx = (s.engineOf e).ctx) :
    serzel s e f = s.ran e (s.lane e.lane) (g (s.engineOf e)) clk (Parts.lowerFault k c) :=
  serzel_midway s e f _ _ _ _ _ hs (hf.trans (raise_midway s e _ clk k c [] [])) hl hc hk hx

@[simp] theorem Engine.setAcc_loops (en : Engine) (r : Acc) (v : W64) : (en.setAcc r v).loops = en.loops := by cases r <;> rfl
@[simp] theorem Engine.setAcc_calls (en : Engine) (r : Acc) (v : W64) : (en.setAcc r v).calls = en.calls := by cases r <;> rfl
@[simp] theorem Engine.setAcc_clock (en : Engine) (r : Acc) (v : W64) : (en.setAcc r v).clock = en.clock := by cases r <;> rfl
@[simp] theorem Engine.setAcc_ctx (en : Engine) (r : Acc) (v : W64) : (en.setAcc r v).ctx = en.ctx := by cases r <;> rfl
@[simp] theorem Engine.setX_loops (en : Engine) (n : Fin 4) (v : BitVec 32) : (en.setX n v).loops = en.loops := by
  unfold Engine.setX; split <;> rfl
@[simp] theorem Engine.setX_calls (en : Engine) (n : Fin 4) (v : BitVec 32) : (en.setX n v).calls = en.calls := by
  unfold Engine.setX; split <;> rfl
@[simp] theorem Engine.setX_clock (en : Engine) (n : Fin 4) (v : BitVec 32) : (en.setX n v).clock = en.clock := by
  unfold Engine.setX; split <;> rfl
@[simp] theorem Engine.setX_ctx (en : Engine) (n : Fin 4) (v : BitVec 32) : (en.setX n v).ctx = en.ctx := by
  unfold Engine.setX; split <;> rfl

/-! ## Bit logic (05 R139) -/

/-- Settles O6: each of the eight sets BA to its function of BA and the operand. -/
theorem bitLogicSetsBA : Obligations.BitLogicSetsBA := by
  unfold Obligations.BitLogicSetsBA
  intro p hp s e b hs x f a
  have hop : exec (p.1 e b) s = .next (serzel s e (bitLogic b p.2)) := by
    simp only [List.mem_cons, List.not_mem_nil, or_false] at hp
    rcases hp with rfl | rfl | rfl | rfl | rfl | rfl | rfl | rfl <;> rfl
  rw [hop]
  exact congrArg Host.Outcome.next (serzel_bitLogic s e b p.2 id _ hs rfl rfl rfl rfl rfl)

/-! ## Word loads (05 R142) -/

/-- A load of `n` bytes. -/
theorem serzel_loadWord (s : State) (e : EngineId) (n : Nat) (sgn : Bool) (w : WordAddr) (r : Acc) (hs : s.steady e = true) :
    let x := Exec.start s e
    let f := x.loadFault w.area (x.ea w) n
    let v := if f = 0 then ofLe (x.readBytes w.area (x.ea w) n) else 0
    let bits := if sgn then BitVec.ofInt 64 (signedOf (8 * n) v) else BitVec.ofNat 64 v
    serzel s e (loadWord n sgn w r) = s.ranLoad e ((s.engineOf e).setAcc r bits) (1 + s.slotWait e w.area) f w.area (x.ea w) n := by
  intro x f v bits
  refine serzel_midway s e _ _ _ _ _ _ hs ?_ (by simp) (by simp) (by simp) (by simp)
  have ha := access_start s e id w.area 1 rfl
  have hx : (x.access w.area).clocks 1 = s.midway e (s.engineOf e) (1 + s.slotWait e w.area) 0 [] [] := ha
  have hload : (s.midway e (s.engineOf e) (1 + s.slotWait e w.area) 0 [] []).loadVal w.area (x.ea w) n =
      (v, s.midway e (s.engineOf e) (1 + s.slotWait e w.area) f (s.loadedIn e w.area (x.ea w) n f).1 (s.loadedIn e w.area (x.ea w) n f).2) := by
    by_cases h0 : f = 0
    · have hv : v = ofLe (x.readBytes w.area (x.ea w) n) := if_pos h0
      rw [hv, State.loadedIn, if_pos h0, h0]
      exact if_pos h0
    · have hv : v = 0 := if_neg h0
      rw [hv, State.loadedIn, if_neg h0]
      refine (if_neg h0).trans ?_
      rw [Exec.raise_first _ _ rfl]; rfl
  unfold loadWord
  dsimp only
  rw [hx]
  show Exec.mapEn (Exec.loadVal _ w.area (x.ea w) n).2 _ = _
  rw [show (s.midway e (s.engineOf e) (1 + s.slotWait e w.area) 0 [] []).ea w = x.ea w from rfl, hload]
  rfl

/-- Settles O9: the loads differ in their length and in the extension of what memory holds. -/
theorem loadsDeliverMemory : Obligations.LoadsDeliverMemory := by
  unfold Obligations.LoadsDeliverMemory
  intro p hp s e w r hs x en ea f v bits
  have hop : exec (p.1 e w r) s = .next (serzel s e (loadWord p.2.1 p.2.2 w r)) := by
    simp only [List.mem_cons, List.not_mem_nil, or_false] at hp
    rcases hp with rfl | rfl | rfl | rfl | rfl | rfl | rfl <;> rfl
  rw [hop]
  exact congrArg Host.Outcome.next (serzel_loadWord s e p.2.1 p.2.2 w r hs)

/-! ## Integer arithmetic, logic and compares (05 R143 to R146) -/

theorem serzel_intOp (s : State) (e : EngineId) (w : Wid) (d : Acc) (x : Src) (n : Nat) (f : Int → Int → Int → Alu) (hs : s.steady e = true) :
    let en := s.engineOf e
    let low := fun r => signedOf w.bits ((en.acc r).toNat % 2 ^ w.bits)
    let v := f (low d) (low d.other) (signedOf w.bits (Parts.sourceOf s e x).1)
    serzel s e (intOp w d x n f) = s.ran e (s.lane e.lane)
      { en.setAcc d (BitVec.ofInt 64 (signedOf w.bits v.r)) with z := decide (v.r = 0), n := bitOf v.r (w.bits - 1), c := v.c, v := v.v }
      n (Parts.lowerFault (Parts.sourceOf s e x).2 v.f) := by
  intro en low v
  refine serzel_registers s e _ (fun en => { en.setAcc d (BitVec.ofInt 64 (signedOf w.bits v.r)) with
    z := decide (v.r = 0), n := bitOf v.r (w.bits - 1), c := v.c, v := v.v }) n _ _ hs ?_ (by simp) (by simp) (by simp) (by simp)
  unfold intOp
  dsimp only
  rw [src_start]
  rfl

theorem serzel_uintOp (s : State) (e : EngineId) (w : Wid) (d : Acc) (x : Src) (n : Nat) (f : Nat → Nat → Nat → Alu) (hs : s.steady e = true) :
    let en := s.engineOf e
    let low := fun r => (en.acc r).toNat % 2 ^ w.bits
    let v := f (low d) (low d.other) ((Parts.sourceOf s e x).1 % 2 ^ w.bits)
    serzel s e (uintOp w d x n f) = s.ran e (s.lane e.lane)
      { en.setAcc d (BitVec.ofNat 64 v.r) with z := decide (v.r = 0), n := bitOf v.r (w.bits - 1), c := v.c, v := v.v }
      n (Parts.lowerFault (Parts.sourceOf s e x).2 v.f) := by
  intro en low v
  refine serzel_registers s e _ (fun en => { en.setAcc d (BitVec.ofNat 64 v.r) with
    z := decide (v.r = 0), n := bitOf v.r (w.bits - 1), c := v.c, v := v.v }) n _ _ hs ?_ (by simp) (by simp) (by simp) (by simp)
  unfold uintOp
  dsimp only
  rw [src_start]
  rfl

theorem serzel_logicOp (s : State) (e : EngineId) (w : Wid) (d : Acc) (x : Src) (f : Nat → Nat → Alu) (hs : s.steady e = true) :
    let en := s.engineOf e
    let v := f ((en.acc d).toNat % 2 ^ w.bits) (Parts.sourceOf s e x).1
    serzel s e (logicOp w d x f) = s.ran e (s.lane e.lane)
      { en.setAcc d (BitVec.ofNat 64 v.r) with z := decide (v.r = 0), n := bitOf v.r (w.bits - 1), c := v.c, v := v.v }
      1 (Parts.lowerFault (Parts.sourceOf s e x).2 v.f) := by
  intro en v
  refine serzel_registers s e _ (fun en => { en.setAcc d (BitVec.ofNat 64 v.r) with
    z := decide (v.r = 0), n := bitOf v.r (w.bits - 1), c := v.c, v := v.v }) 1 _ _ hs ?_ (by simp) (by simp) (by simp) (by simp)
  unfold logicOp
  dsimp only
  rw [src_start]
  rfl

theorem serzel_compareOp (s : State) (e : EngineId) (sgn : Bool) (k : Cmp) (w : Wid) (d : Acc) (x : Src) (hs : s.steady e = true) :
    let en := s.engineOf e
    let v := fun m => if sgn then signedOf w.bits m else ((m % 2 ^ w.bits : Nat) : Int)
    serzel s e (compareOp sgn k w d x) = s.ran e (s.lane e.lane)
      { en with ba := k.holds (v ((en.acc d).toNat % 2 ^ w.bits)) (v (Parts.sourceOf s e x).1) } 1 (Parts.sourceOf s e x).2 := by
  intro en v
  refine serzel_midway s e _ _ _ _ _ _ hs ?_ rfl rfl rfl rfl
  unfold compareOp
  dsimp only
  rw [src_start]
  rfl

theorem intInstructionsDeliver : Parts.IntInstructionsDeliver := by
  intro p hp s e w d x hs en low v f
  have hop : exec (p.1 e w d x) s = .next (serzel s e (intOp w d x p.2.1 (p.2.2 w.bits))) := by
    simp only [List.mem_cons, List.not_mem_nil, or_false] at hp
    rcases hp with rfl | rfl | rfl | rfl | rfl | rfl | rfl | rfl | rfl | rfl <;> rfl
  rw [hop]
  exact congrArg Host.Outcome.next (serzel_intOp s e w d x p.2.1 (p.2.2 w.bits) hs)

theorem uintInstructionsDeliver : Parts.UintInstructionsDeliver := by
  intro p hp s e w d x hs en low v f
  have hop : exec (p.1 e w d x) s = .next (serzel s e (uintOp w d x p.2.1 (p.2.2 w.bits))) := by
    simp only [List.mem_cons, List.not_mem_nil, or_false] at hp
    rcases hp with rfl | rfl | rfl | rfl | rfl | rfl | rfl | rfl <;> rfl
  rw [hop]
  exact congrArg Host.Outcome.next (serzel_uintOp s e w d x p.2.1 (p.2.2 w.bits) hs)

/-- Settles O12: an instruction of either group delivers its function of the source and the accumulators. -/
theorem integerInstructionsDeliver : Obligations.IntegerInstructionsDeliver := ⟨intInstructionsDeliver, uintInstructionsDeliver⟩

theorem logicInstructionsDeliver : Parts.LogicInstructionsDeliver := by
  intro p hp s e w d x hs en v
  have hop : exec (p.1 e w d x) s = .next (serzel s e (logicOp w d x (p.2 w.bits))) ∧ v.v = false ∧ v.f = 0 := by
    simp only [List.mem_cons, List.not_mem_nil, or_false] at hp
    rcases hp with rfl | rfl | rfl | rfl | rfl | rfl | rfl | rfl | rfl <;> exact ⟨rfl, rfl, rfl⟩
  obtain ⟨hrun, hv, hf⟩ := hop
  have hlow : Parts.lowerFault (Parts.sourceOf s e x).2 v.f = (Parts.sourceOf s e x).2 := by
    rw [hf]
    unfold Parts.lowerFault
    split <;> simp_all
  refine ⟨hv, hf, ?_⟩
  rw [hrun, serzel_logicOp s e w d x (p.2 w.bits) hs, ← hv]
  exact congrArg (fun k => Host.Outcome.next (s.ran e (s.lane e.lane) _ 1 k)) hlow

theorem comparesSetBA : Parts.ComparesSetBA := by
  intro p hp s e w d x hs en a b
  have hop : ∃ k : Cmp, (∀ m n, k.holds m n = p.2.2 m n) ∧ exec (p.1 e w d x) s = .next (serzel s e (compareOp true k w d x)) ∧
      exec (p.2.1 e w d x) s = .next (serzel s e (compareOp false k w d x)) := by
    simp only [List.mem_cons, List.not_mem_nil, or_false] at hp
    rcases hp with rfl | rfl | rfl | rfl | rfl | rfl
    · exact ⟨.eq, fun _ _ => rfl, rfl, rfl⟩
    · exact ⟨.ne, fun _ _ => rfl, rfl, rfl⟩
    · exact ⟨.lt, fun _ _ => rfl, rfl, rfl⟩
    · exact ⟨.le, fun _ _ => rfl, rfl, rfl⟩
    · exact ⟨.gt, fun _ _ => rfl, rfl, rfl⟩
    · exact ⟨.ge, fun _ _ => rfl, rfl, rfl⟩
  obtain ⟨k, hk, hsgn, huns⟩ := hop
  rw [hsgn, huns, serzel_compareOp s e true k w d x hs, serzel_compareOp s e false k w d x hs]
  dsimp only
  rw [hk, hk]
  have ha : ((a % 2 ^ w.bits : Nat) : Int) = (a : Int) := by rw [Nat.mod_mod_of_dvd _ (dvd_refl _)]
  exact ⟨rfl, by rw [← ha]; rfl⟩

/-- Settles O14: LOGIC delivers its function with V clear and no fault of its own, a compare sets BA alone. -/
theorem logicAndComparesDeliver : Obligations.LogicAndComparesDeliver := ⟨logicInstructionsDeliver, comparesSetBA⟩

/-! ## REAL arithmetic and conversions (05 R147, R148, R150) -/

/-- The registers after a conversion to REAL (05 R150). -/
def realTaken (f : FFmt) (d : Acc) (r : FRes) (en : Engine) : Engine :=
  { en.setAcc d (BitVec.ofNat 64 r.bits) with
    z := decide (r.bits % 2 ^ (f.width - 1) = 0), n := bitOf r.bits (f.width - 1), v := decide (r.fault ≠ 0), c := false }

/-- The registers after a conversion to an integer of `w` bits (05 R150). -/
def intTaken (w : Nat) (sgn : Bool) (d : Acc) (i : Int) (fault : Nat) (en : Engine) : Engine :=
  { en.setAcc d (if sgn then BitVec.ofInt 64 (signedOf w (wrapTo w i)) else BitVec.ofNat 64 (wrapTo w i)) with
    z := decide (wrapTo w i = 0), n := bitOf (wrapTo w i) (w - 1), c := false, v := decide (fault ≠ 0) }

/-- Settles O15: a REAL instruction delivers its function of D and the source. -/
theorem realInstructionsDeliver : Obligations.RealInstructionsDeliver := by
  unfold Obligations.RealInstructionsDeliver
  intro p hp s e w d x hs en f r
  have hop : exec (p.1 e w d x) s = .next (serzel s e (realOp w d x p.2.1 p.2.2)) := by
    simp only [List.mem_cons, List.not_mem_nil, or_false] at hp
    rcases hp with rfl | rfl | rfl | rfl | rfl | rfl | rfl | rfl | rfl <;> rfl
  rw [hop]
  refine congrArg Host.Outcome.next (serzel_registers s e _ (fun en => { en.setAcc d (BitVec.ofNat 64 r.bits) with
    z := decide (r.bits % 2 ^ (f.width - 1) = 0), n := bitOf r.bits (f.width - 1), v := decide (r.fault = 5), c := f.isNan r.bits })
    p.2.1 _ _ hs ?_ (by simp) (by simp) (by simp) (by simp))
  unfold realOp
  dsimp only
  rw [rsrc_start]
  rfl

theorem serzel_intToReal (s : State) (e : EngineId) (f : FFmt) (sgn : Bool) (w : Wid) (d : Acc) (x : Src) (hs : s.steady e = true) :
    let a := (Parts.sourceOf s e x).1
    let r := f.ofInt (if sgn then signedOf w.bits a else ((a % 2 ^ w.bits : Nat) : Int))
    serzel s e (intToReal f sgn w d x) = s.ran e (s.lane e.lane) (realTaken f d ⟨r, 0⟩ (s.engineOf e)) 2
      (Parts.lowerFault (Parts.sourceOf s e x).2 0) := by
  intro a r
  refine serzel_registers s e _ (realTaken f d ⟨r, 0⟩) 2 _ _ hs ?_ (by simp [realTaken]) (by simp [realTaken]) (by simp [realTaken])
    (by simp [realTaken])
  unfold intToReal
  dsimp only
  rw [src_start]
  rfl

theorem serzel_realToReal (s : State) (e : EngineId) (f g : FFmt) (d : Acc) (y : ConvSrc) (hs : s.steady e = true) :
    let b := Parts.sourceOf s e (Parts.convSource y)
    let r := f.convert g (b.1 % 2 ^ f.width)
    serzel s e (realToReal f g d y) = s.ran e (s.lane e.lane) (realTaken g d r (s.engineOf e)) 2 (Parts.lowerFault b.2 r.fault) := by
  intro b r
  refine serzel_registers s e _ (realTaken g d r) 2 _ _ hs ?_ (by simp [realTaken]) (by simp [realTaken]) (by simp [realTaken])
    (by simp [realTaken])
  unfold realToReal
  dsimp only
  rw [csrc_start]
  rfl

theorem serzel_realToInt (s : State) (e : EngineId) (f : FFmt) (rne sgn : Bool) (w : Wid) (d : Acc) (y : ConvSrc) (hs : s.steady e = true) :
    let b := Parts.sourceOf s e (Parts.convSource y)
    let v := f.toInt rne (if sgn then minS w.bits else 0) (if sgn then 2 ^ (w.bits - 1) - 1 else 2 ^ w.bits - 1) (b.1 % 2 ^ f.width)
    serzel s e (realToInt f rne sgn w d y) = s.ran e (s.lane e.lane) (intTaken w.bits sgn d v.1 v.2 (s.engineOf e)) 2
      (Parts.lowerFault b.2 v.2) := by
  intro b v
  refine serzel_registers s e _ (intTaken w.bits sgn d v.1 v.2) 2 _ _ hs ?_ (by simp [intTaken]) (by simp [intTaken])
    (by simp [intTaken]) (by simp [intTaken])
  unfold realToInt
  dsimp only
  rw [csrc_start]
  rfl

theorem serzel_narrowOp (s : State) (e : EngineId) (sgn : Bool) (w : Wid) (d : Acc) (x : Src) (hs : s.steady e = true) :
    let a := Parts.sourceOf s e x
    let i : Int := if sgn then signedOf 64 a.1 else (a.1 : Int)
    let lo : Int := if sgn then minS w.bits else 0
    let hi : Int := if sgn then 2 ^ (w.bits - 1) - 1 else 2 ^ w.bits - 1
    let k := if lo ≤ i ∧ i ≤ hi then 0 else 3
    serzel s e (narrowOp sgn w d x) = s.ran e (s.lane e.lane) (intTaken w.bits sgn d (clampInt lo hi i) k (s.engineOf e)) 2
      (Parts.lowerFault a.2 k) := by
  intro a i lo hi k
  refine serzel_registers s e _ (intTaken w.bits sgn d (clampInt lo hi i) k) 2 _ _ hs ?_ (by simp [intTaken]) (by simp [intTaken])
    (by simp [intTaken]) (by simp [intTaken])
  unfold narrowOp
  dsimp only
  rw [src_start]
  rfl

/-- Settles O17: an integer result is delivered with C clear and V for its fault, a REAL one likewise. -/
theorem conversionsDeliver : Obligations.ConversionsDeliver := by
  unfold Obligations.ConversionsDeliver
  intro s e w d x y hs en a b ofReal ofInt minI maxI maxU toInt narrow
  let next : State → Host.Outcome State Fault Refusal := .next
  have hi := fun f sgn => congrArg next (serzel_intToReal s e f sgn w d x hs)
  have hr := fun f g => congrArg next (serzel_realToReal s e f g d y hs)
  have ht := fun f rne sgn => congrArg next (serzel_realToInt s e f rne sgn w d y hs)
  have hn := fun sgn => congrArg next (serzel_narrowOp s e sgn w d x hs)
  exact ⟨hi f32 true, hi f64 true, hi f32 false, hi f64 false, ht f32 true true, ht f64 true true, ht f32 false true, ht f64 false true,
    ht f32 true false, ht f64 true false, hr f32 f64, hr f64 f32, hn true, hn false⟩

end Sys2Proof.Machine
end

section
/-! Bit stores, edge detectors, timers, counters, moves, check values, publication and control flow (05 R139 to R160). -/

namespace Sys2Proof.Machine

open Sys2Proof

/-! ## Instructions that store (05 R139, R141, R156 to R158) -/

/-- An instruction that goes on to PC + 1 with the lane `ln`, its loops, return addresses, clock and task context untouched. -/
theorem serzel_storing (s : State) (e : EngineId) (f : Exec → Exec) (ln : Lane) (en : Engine) (clk code : Nat) (ins : Bytes)
    (out : List (BitVec 128)) (hs : s.steady e = true) (hf : f (Exec.start s e) = { s.midway e en clk code ins out with ln := ln })
    (hl : en.loops = (s.engineOf e).loops) (hc : en.calls = (s.engineOf e).calls)
    (hk : en.clock = (s.engineOf e).clock) (hx : en.ctx = (s.engineOf e).ctx) : serzel s e f = s.ranOut e ln en clk code ins out :=
  serzel_ran s e f { s.midway e en clk code ins out with ln := ln } hs hf rfl rfl rfl rfl hl hc hk hx rfl

/-- The clocks of an access at the start of an instruction. -/
theorem access_clocks (s : State) (e : EngineId) (a : Area) (n : Nat) :
    ((Exec.start s e).access a).clocks n = s.midway e (s.engineOf e) (n + s.slotWait e a) 0 [] [] := access_start s e id a n rfl

/-- No fault leaves the other one. -/
@[simp] theorem lowerFault_zero (k : Nat) : Parts.lowerFault k 0 = k := by
  unfold Parts.lowerFault
  split
  case isTrue h => exact h.symm
  case isFalse => rfl

/-- A checked store to S by an instruction under way (05 R138, R141, R156). -/
theorem storeS_midway (s : State) (e : EngineId) (en : Engine) (clk k ofs n : Nat) (ins : Bytes) (out : List (BitVec 128)) (bs : Bytes) :
    let g := (Exec.start s e).storeFault .s ofs n
    (if (s.midway e en clk k ins out).storeFault .s ofs n = 0 then (s.midway e en clk k ins out).put .s ofs bs
      else (s.midway e en clk k ins out).raise ((s.midway e en clk k ins out).storeFault .s ofs n)) =
    { s.midway e en clk (Parts.lowerFault k g) ins (out ++ if g = 0 then busOf .s ofs bs else []) with
      ln := if g = 0 then ((Exec.start s e).put .s ofs bs).ln else s.lane e.lane } := by
  intro g
  have hg : (s.midway e en clk k ins out).storeFault .s ofs n = g := rfl
  rw [hg]
  by_cases h : g = 0
  · simp only [h, if_true, lowerFault_zero]; rfl
  · rw [if_neg h, if_neg h, if_neg h, raise_midway, List.append_nil]; rfl

/-! ## Bit stores (05 R139) -/

/-- A bit store by an instruction under way that has raised no fault. -/
theorem storeBit_midway (s : State) (e : EngineId) (clk : Nat) (b : BitAddr) (v : Bool) :
    (s.midway e (s.engineOf e) clk 0 [] []).storeBit b v =
      { s.midway e (s.engineOf e) clk ((Exec.start s e).storeFault b.area b.ofs.val 1) [] ((Exec.start s e).storeBit b v).out with
        ln := ((Exec.start s e).storeBit b v).ln } := by
  have hg : (s.midway e (s.engineOf e) clk 0 [] []).storeFault b.area b.ofs.val 1 = (Exec.start s e).storeFault b.area b.ofs.val 1 := rfl
  unfold Exec.storeBit
  rw [hg]
  by_cases h : (Exec.start s e).storeFault b.area b.ofs.val 1 = 0
  · simp only [h, if_true]
    by_cases hq : b.area = .q ∧ bitOf (forceMask (s.lane e.lane) b.ofs.val) b.bit.val = true
    · have h1 : b.area = .q ∧ bitOf (forceMask (s.midway e (s.engineOf e) clk 0 [] []).ln b.ofs.val) b.bit.val = true := hq
      have h2 : b.area = .q ∧ bitOf (forceMask (Exec.start s e).ln b.ofs.val) b.bit.val = true := hq
      rw [if_pos h1, if_pos h2]; rfl
    · have h1 : ¬ (b.area = .q ∧ bitOf (forceMask (s.midway e (s.engineOf e) clk 0 [] []).ln b.ofs.val) b.bit.val = true) := hq
      have h2 : ¬ (b.area = .q ∧ bitOf (forceMask (Exec.start s e).ln b.ofs.val) b.bit.val = true) := hq
      rw [if_neg h1, if_neg h2]; rfl
  · simp only [if_neg h]
    rw [Exec.raise_first _ _ rfl]; rfl

/-- A bit store after the wait for its slot. -/
theorem serzel_storeBit (s : State) (e : EngineId) (b : BitAddr) (v : Bool) (f : Exec → Exec) (hs : s.steady e = true)
    (hf : f (Exec.start s e) = (((Exec.start s e).access b.area).clocks 1).storeBit b v) :
    serzel s e f = s.ranOut e ((Exec.start s e).storeBit b v).ln (s.engineOf e) (1 + s.slotWait e b.area)
      ((Exec.start s e).storeFault b.area b.ofs.val 1) [] ((Exec.start s e).storeBit b v).out :=
  serzel_storing s e f _ _ _ _ _ _ hs (by rw [hf, access_clocks, storeBit_midway]) rfl rfl rfl rfl

/-- S and RST: a store when BA is 1, nothing but the clocks otherwise. -/
theorem serzel_bitStoreIf (s : State) (e : EngineId) (b : BitAddr) (v : Bool) (hs : s.steady e = true) :
    serzel s e (bitStoreIf b v) = if (s.engineOf e).ba then
        s.ranOut e ((Exec.start s e).storeBit b v).ln (s.engineOf e) (1 + s.slotWait e b.area)
          ((Exec.start s e).storeFault b.area b.ofs.val 1) [] ((Exec.start s e).storeBit b v).out
      else s.ran e (s.lane e.lane) (s.engineOf e) (1 + s.slotWait e b.area) 0 := by
  have hf : bitStoreIf b v (Exec.start s e) = if (s.engineOf e).ba then (((Exec.start s e).access b.area).clocks 1).storeBit b v
      else ((Exec.start s e).access b.area).clocks 1 := by
    unfold bitStoreIf
    dsimp only
    rw [access_clocks]; rfl
  split
  case isTrue h => exact serzel_storeBit s e b v _ hs (hf.trans (if_pos h))
  case isFalse h =>
    refine serzel_midway s e _ _ _ _ _ _ hs ?_ rfl rfl rfl rfl
    rw [hf, if_neg h, access_clocks]

theorem bitStoresObeyBA : Parts.BitStoresObeyBA := by
  intro s e b hs x en stored kept
  refine ⟨?_, ?_, ?_, ?_, ?_⟩
  · exact congrArg Host.Outcome.next (serzel_midway s e _ _ _ _ _ _ hs rfl rfl rfl rfl rfl)
  · exact congrArg Host.Outcome.next (serzel_storeBit s e b en.ba _ hs (by unfold bitStore; dsimp only; rw [access_clocks]; rfl))
  · exact congrArg Host.Outcome.next (serzel_storeBit s e b (!en.ba) _ hs (by unfold bitStore; dsimp only; rw [access_clocks]; rfl))
  · exact (congrArg Host.Outcome.next (serzel_bitStoreIf s e b true hs)).trans (apply_ite _ _ _ _)
  · exact (congrArg Host.Outcome.next (serzel_bitStoreIf s e b false hs)).trans (apply_ite _ _ _ _)

/-! ## Edge detectors (05 R141) -/

theorem edgeDetectorsReportEdges : Parts.EdgeDetectorsReportEdges := by
  intro s e ofs pair hs x en byte prev valid f new ln ins out
  have hedge : ∀ rising : Bool, serzel s e (edge rising ofs.val pair.val) =
      s.ranOut e ln { en with ba := if !valid then false else if rising then en.ba && !prev else prev && !en.ba } (2 + s.slotWait e .s) f ins
        out := by
    intro rising
    refine serzel_storing s e _ _ _ _ _ _ _ hs ?_ rfl rfl rfl rfl
    unfold edge
    dsimp only
    rw [access_clocks]
    exact (storeS_midway s e { en with ba := if !valid then false else if rising then en.ba && !prev else prev && !en.ba }
      (2 + s.slotWait e .s) 0 ofs.val 1 ins [busLoad .s ofs.val 1] [new]).trans (by
        unfold Parts.lowerFault; rfl)
  exact ⟨congrArg Host.Outcome.next (hedge true), congrArg Host.Outcome.next (hedge false)⟩

/-- Settles O7: a bit store, S and RST and the edge detectors each end with their checked store. -/
theorem bitStoresAndEdges : Obligations.BitStoresAndEdges := ⟨bitStoresObeyBA, edgeDetectorsReportEdges⟩

/-! ## Timers (05 R156, R157) -/

theorem timersRun : Parts.TimersRun := by
  intro p hp s e wall inst hs heven x en us raw tm g
  have hop : exec (p.1 e wall inst) s = .next (serzel s e (timerOp p.2.1 p.2.2 wall inst.val)) := by
    simp only [List.mem_cons, List.not_mem_nil, or_false] at hp
    rcases hp with rfl | rfl | rfl | rfl <;> rfl
  rw [hop]
  refine congrArg Host.Outcome.next (serzel_storing s e _ _ _ _ _ _ _ hs ?_ rfl rfl rfl rfl)
  unfold timerOp
  rw [if_neg (by omega)]
  dsimp only
  rw [access_clocks]
  have hraise := raise_midway s e { en with ba := tm.q, wb := BitVec.ofNat 64 tm.et } (6 + s.slotWait e .s) 0
    (if raw > 2 ^ 31 then 6 else 0) (x.readBytes .s (8 * inst.val) 16) [busLoad .s (8 * inst.val) 16]
  rw [show Parts.lowerFault 0 (if raw > 2 ^ 31 then 6 else 0) = (if raw > 2 ^ 31 then 6 else 0) from rfl] at hraise
  have hstore := storeS_midway s e { en with ba := tm.q, wb := BitVec.ofNat 64 tm.et } (6 + s.slotWait e .s)
    (if raw > 2 ^ 31 then 6 else 0) (8 * inst.val) 16 (x.readBytes .s (8 * inst.val) 16) [busLoad .s (8 * inst.val) 16] tm.bytes
  rw [← hraise] at hstore
  exact hstore

theorem onDelayElapses : Parts.OnDelayElapses := by
  intro t now pt ht hnow
  have hd : (now + 2 ^ 64 - t.tStart % 2 ^ 64) % 2 ^ 64 = now - t.tStart := by omega
  refine ⟨rfl, rfl, rfl, fun hp => ?_, fun hp hr hq => ?_, rfl⟩
  · simp only [TimerInst.call, hp, TimerInst.elapse, Bool.not_true, Bool.not_false, if_true, if_false, Bool.false_eq_true]
    by_cases h : 0 = pt
    · simp [← h]
    · simp [h, Ne.symm h]
  · simp only [TimerInst.call, hp, hr, TimerInst.elapse, Bool.not_true, if_true, if_false, Bool.false_eq_true, hd]
    by_cases h : Nat.min (now - t.tStart) pt = pt
    · simp only [h, if_true, true_and]
      have hle : pt ≤ now - t.tStart := h ▸ Nat.min_le_left _ _
      simp [hle]
    · simp only [h, if_false, true_and, hq, Bool.false_eq_true, false_iff]
      exact fun hle => h (Nat.min_eq_right hle)

/-! ## Counters (05 R158) -/

theorem serzel_counterOp (s : State) (e : EngineId) (inst : Nat) (f : CounterInst → Bool → Nat → Int → CounterInst × Bool × Option Bool)
    (hs : s.steady e = true) :
    let x := Exec.start s e
    let en := s.engineOf e
    let r := f (counterOf (x.readBytes .s (8 * inst) 8)) en.ba en.wb.toNat (signedOf 32 en.wa.toNat)
    let g := x.storeFault .s (8 * inst) 8
    serzel s e (counterOp inst f) = s.ranOut e (if g = 0 then (x.put .s (8 * inst) r.1.bytes).ln else s.lane e.lane)
      { en with ba := r.2.1, wb := BitVec.ofInt 64 r.1.cv, c := r.2.2.getD en.c } (3 + s.slotWait e .s) g (x.readBytes .s (8 * inst) 8)
      (busLoad .s (8 * inst) 8 :: (if g = 0 then busOf .s (8 * inst) r.1.bytes else [])) := by
  intro x en r g
  refine serzel_storing s e _ _ _ _ _ _ _ hs ?_ rfl rfl rfl rfl
  unfold counterOp
  dsimp only
  rw [access_clocks]
  exact storeS_midway s e { en with ba := r.2.1, wb := BitVec.ofInt 64 r.1.cv, c := r.2.2.getD en.c } (3 + s.slotWait e .s) 0 (8 * inst) 8
    (x.readBytes .s (8 * inst) 8) [busLoad .s (8 * inst) 8] r.1.bytes

theorem countersRun : Parts.CountersRun := by
  intro s e inst hs x en k pv wb g done_ up down both
  have h := fun f => serzel_counterOp s e inst.val f hs
  exact ⟨congrArg Host.Outcome.next (h _), congrArg Host.Outcome.next (h _), congrArg Host.Outcome.next (h _)⟩

/-- Settles O21: the bytes of a timer or counter are read, its algorithm acts, and the result is written back behind the checks of a store. -/
theorem timersAndCountersRun : Obligations.TimersAndCountersRun := ⟨timersRun, onDelayElapses, countersRun⟩

end Sys2Proof.Machine
end

section
/-! Moves, check values, publication and control flow (05 R151 to R155, R159, R160). -/

namespace Sys2Proof.Machine

open Sys2Proof

/-! ## Moves and index registers (05 R151, R152) -/

/-- An instruction of one clock that sets registers by `g` and raises no fault. -/
theorem serzel_setRegisters (s : State) (e : EngineId) (g : Engine → Engine) (hs : s.steady e = true)
    (hl : (g (s.engineOf e)).loops = (s.engineOf e).loops) (hc : (g (s.engineOf e)).calls = (s.engineOf e).calls)
    (hk : (g (s.engineOf e)).clock = (s.engineOf e).clock) (hx : (g (s.engineOf e)).ctx = (s.engineOf e).ctx) :
    serzel s e (fun x => (x.clocks 1).mapEn g) = s.ran e (s.lane e.lane) (g (s.engineOf e)) 1 0 :=
  serzel_midway s e _ _ _ _ _ _ hs rfl hl hc hk hx

theorem movesAndIndexOperations : Parts.MovesAndIndexOperations := by
  intro s e w d x n v k hs en done_
  have hset := fun g hl hc hk hx => congrArg (Host.Outcome.next : State → Host.Outcome State Fault Refusal)
    (serzel_setRegisters s e g hs hl hc hk hx)
  have hindex := fun g : Engine → BitVec 32 => hset (fun en => en.setX n (g en)) (by simp) (by simp) (by simp) (by simp)
  refine ⟨?_, hset (fun en => { en with wa := en.wb, wb := en.wa }) rfl rfl rfl rfl,
    hset (fun en => en.setAcc d (if en.ba then 1 else 0)) (by simp) (by simp) (by simp) (by simp), ?_,
    hindex fun _ => BitVec.ofNat 32 v.val, hindex fun en => en.xreg n + BitVec.ofInt 32 (signedOf 16 v.val),
    hindex fun en => (en.acc d).setWidth 32, hset (fun en => en.setAcc d ((en.xreg n).setWidth 64)) (by simp) (by simp) (by simp) (by simp),
    hindex fun en => en.xreg n <<< k.val⟩
  · exact congrArg Host.Outcome.next (serzel_midway s e _ _ _ _ _ _ hs (by unfold movOp; dsimp only; rw [src_start]; rfl)
      (by simp [en]) (by simp [en]) (by simp [en]) (by simp [en]))
  · exact congrArg Host.Outcome.next (serzel_midway s e _ _ _ _ _ _ hs (by unfold w2baOp; dsimp only; rw [src_start]; rfl) rfl rfl rfl rfl)

/-! ## Publication (05 R160) -/

/-- PUB of an item marks it, or raises fault 19 where it is not assigned to the task. -/
theorem publishOp_eq (kind id : Nat) (x : Exec) : publishOp kind id x =
    if (x.task.map (fun t => t.pubs.any (fun q => decide (q.kind = kind) && decide (q.id = id)))).getD false = true then
      if x.ln.pubs.contains (kind, id) then (x.clocks 2).give (busWord 4 kind id)
      else { x.clocks 2 with ln := { x.ln with pubs := x.ln.pubs ++ [(kind, id)] } }.give (busWord 4 kind id)
    else (x.clocks 2).raise 19 := by
  unfold publishOp
  dsimp only
  split
  case h_1 t ht =>
    have htask : x.task = some t := ht
    simp only [htask, Option.map_some, Option.getD_some]
    by_cases hok : t.pubs.any (fun q => decide (q.kind = kind) && decide (q.id = id)) = true
    · rw [if_pos hok]
      exact if_neg (by rw [hok]; decide)
    · rw [if_neg hok]
      exact if_pos (by rw [Bool.not_eq_true] at hok; rw [hok]; rfl)
  case h_2 ht =>
    have htask : x.task = none := ht
    simp only [htask, Option.map_none, Option.getD_none]
    rfl

theorem serzel_publishOp (s : State) (e : EngineId) (kind id : Nat) (hs : s.steady e = true) :
    let ln := s.lane e.lane
    serzel s e (publishOp kind id) =
      if ((Exec.start s e).task.map (fun t => t.pubs.any (fun q => decide (q.kind = kind) && decide (q.id = id)))).getD false = true then
        s.ranOut e (if ln.pubs.contains (kind, id) then ln else { ln with pubs := ln.pubs ++ [(kind, id)] }) (s.engineOf e) 2 0 []
          [busWord 4 kind id]
      else s.ran e ln (s.engineOf e) 2 19 := by
  intro ln
  have hpub := publishOp_eq kind id (Exec.start s e)
  split
  case isTrue h =>
    refine serzel_storing s e _ _ _ _ _ _ _ hs (hpub.trans ((if_pos h).trans ?_)) rfl rfl rfl rfl
    by_cases hp : ln.pubs.contains (kind, id) = true
    · rw [if_pos hp]
      exact if_pos hp
    · rw [if_neg hp]
      exact if_neg hp
  case isFalse h =>
    refine serzel_midway s e _ _ _ _ _ _ hs (hpub.trans ((if_neg h).trans ?_)) rfl rfl rfl rfl
    exact Exec.raise_first _ _ rfl

theorem publicationMarksItems : Parts.PublicationMarksItems := fun s e p id hs =>
  ⟨congrArg Host.Outcome.next (serzel_publishOp s e 0 id.val hs), congrArg Host.Outcome.next (serzel_publishOp s e (p.num + 1) id.val hs)⟩

/-! ## Check values (05 R159) -/

theorem serzel_crcInit (s : State) (e : EngineId) (u : Fin 2) (poly : Nat) (hs : s.steady e = true) :
    serzel s e (crcInit u poly) = if (Exec.start s e).ownsUnit u then
        s.ranOut e ((s.lane e.lane).setLcv u (CrcUnit.init poly (some (s.engineOf e).began))) (s.engineOf e) 1 0 [] [busWord 3 (8 * u.val) poly]
      else s.ran e (s.lane e.lane) (s.engineOf e) 1 19 := by
  split
  case isTrue h => exact serzel_storing s e _ _ _ _ _ _ _ hs (if_pos h) rfl rfl rfl rfl
  case isFalse h => exact serzel_midway s e _ _ _ _ _ _ hs ((if_neg h).trans (Exec.raise_first _ _ rfl)) rfl rfl rfl rfl

theorem serzel_crcFeedOp (s : State) (e : EngineId) (u : Fin 2) (n : Nat) (r : Acc) (hs : s.steady e = true) :
    serzel s e (crcFeedOp u n r) = match (Exec.start s e).unit u with
      | some v => s.ranOut e ((s.lane e.lane).setLcv u (v.feed n ((s.engineOf e).acc r).toNat)) (s.engineOf e) n 0 []
          [busWord 3 (8 * u.val + n) ((s.engineOf e).acc r).toNat]
      | none => s.ran e (s.lane e.lane) (s.engineOf e) n 19 := by
  have hclk : (Exec.start s e).clocks n = s.midway e (s.engineOf e) n 0 [] [] := by
    simp only [Exec.clocks, start_cost, Nat.zero_add]; rfl
  have hu : (s.midway e (s.engineOf e) n 0 [] []).unit u = (Exec.start s e).unit u := rfl
  split
  case h_1 v h =>
    refine serzel_storing s e _ _ _ _ _ _ _ hs ?_ rfl rfl rfl rfl
    unfold crcFeedOp
    rw [hclk]
    simp only [hu, h]
    rfl
  case h_2 h =>
    refine serzel_midway s e _ _ _ _ _ _ hs ?_ rfl rfl rfl rfl
    unfold crcFeedOp
    rw [hclk]
    simp only [hu, h]
    exact Exec.raise_first _ _ rfl

theorem serzel_crcRead (s : State) (e : EngineId) (u : Fin 2) (r : Acc) (hs : s.steady e = true) :
    serzel s e (crcRead u r) = match (Exec.start s e).unit u with
      | some v => s.ran e (s.lane e.lane) ((s.engineOf e).setAcc r (BitVec.ofNat 64 v.result)) 1 0
      | none => s.ran e (s.lane e.lane) ((s.engineOf e).setAcc r 0) 1 19 := by
  have hu : ((Exec.start s e).clocks 1).unit u = (Exec.start s e).unit u := rfl
  split
  case h_1 v h =>
    refine serzel_midway s e _ _ _ _ _ _ hs ?_ (by simp) (by simp) (by simp) (by simp)
    unfold crcRead
    simp only [hu, h]
    rfl
  case h_2 h =>
    refine serzel_midway s e _ _ _ _ _ _ hs ?_ (by simp) (by simp) (by simp) (by simp)
    unfold crcRead
    simp only [hu, h]
    exact Exec.raise_first _ _ rfl

theorem checkValueInstructions : Parts.CheckValueInstructions := by
  intro s e u poly r hs x en ln feed
  have hfeed : ∀ n, Host.Outcome.next (serzel s e (crcFeedOp u n r)) = feed n n := fun n =>
    congrArg Host.Outcome.next (serzel_crcFeedOp s e u n r hs)
  exact ⟨congrArg Host.Outcome.next (serzel_crcInit s e u poly.val hs), hfeed 1, hfeed 2, hfeed 4,
    congrArg Host.Outcome.next (serzel_crcRead s e u r hs)⟩

theorem checkValuesOfThePolynomials : Parts.CheckValuesOfThePolynomials := by
  unfold Parts.CheckValuesOfThePolynomials
  decide +kernel

/-- Settles O18: each of them ends at PC + 1 with its registers, its unit or its mark. The words that PUB and the check-value
instructions put on the compared bus are laid out as the model chose (log 67). -/
theorem movesPublicationsAndCheckValues : Obligations.MovesPublicationsAndCheckValues :=
  ⟨movesAndIndexOperations, publicationMarksItems, checkValueInstructions, checkValuesOfThePolynomials⟩

/-! ## Control flow (05 R153, R155) -/

/-- An instruction that raises a sequence fault and nothing else, on an engine that executes. -/
theorem serzel_faults (s : State) (e : EngineId) (f : Exec → Exec) (code : Nat) (hx : s.executes e = true) (hc : code ≠ 0)
    (hf : (f (Exec.start s e)).seq = code) : serzel s e f = s.seqStopped e code := by
  rw [serzel_seq s e f hx (by rwa [hf]), hf]

/-- An instruction in progress at its start, with the registers `en`, going to `pc` after `clk` clocks. -/
def State.going (s : State) (e : EngineId) (en : Engine) (pc clk : Nat) : Exec := { Exec.start s e with en := en, pc := pc, cost := clk }

/-- The state after an instruction that takes the engine `en` to `pc` in `clk` clocks; past the end of the instruction store it is sequence
fault 37 (the model's choice, log 14). -/
def State.goes (s : State) (e : EngineId) (en : Engine) (pc clk : Nat) : State :=
  if (en.settled pc clk).pc < (Exec.start s e).codeSize then s.went e en pc clk else s.seqStopped e 37

theorem serzel_goes (s : State) (e : EngineId) (f : Exec → Exec) (en : Engine) (pc clk : Nat) (hx : s.executes e = true)
    (ha : s.coresAgree e = true) (hf : f (Exec.start s e) = s.going e en pc clk) : serzel s e f = s.goes e en pc clk :=
  serzel_went s e f _ hx ha hf rfl rfl rfl rfl rfl rfl rfl rfl

/-- An instruction that ends the task. -/
theorem serzel_ends (s : State) (e : EngineId) (f : Exec → Exec) (en : Engine) (pc clk : Nat) (hx : s.executes e = true)
    (ha : s.coresAgree e = true) (hf : f (Exec.start s e) = { s.going e en pc clk with ends := true }) :
    serzel s e f = endTask (s.went e en pc clk) e.lane e.slot := by
  unfold serzel
  simp only [hx, if_true, trailing_same s e ha, hf]
  rfl

/-- The target of a taken jump is legal (05 R153). -/
def State.legalTarget (s : State) (e : EngineId) (t : Nat) : Prop :=
  let x := Exec.start s e
  (∃ f, x.body = some f ∧ (s.engineOf e).pc + t = f.past) ∨
    ((s.engineOf e).pc + t < x.routine.1 + x.routine.2 ∧ ∀ f, x.body = some f → (s.engineOf e).pc + t ≤ f.past)

/-- A taken jump to a legal target. -/
theorem jumpTo_legal (s : State) (e : EngineId) (t : Nat) (ht : t ≠ 0) (hl : s.legalTarget e t) :
    jumpTo t (Exec.start s e) = s.going e (s.engineOf e) ((s.engineOf e).pc + t) 2 := by
  have hpc : (Exec.start s e).en.pc = (s.engineOf e).pc := rfl
  unfold jumpTo
  rw [if_neg ht]
  refine (if_pos ?_).trans rfl
  unfold State.legalTarget at hl
  dsimp only at hl ⊢
  rw [hpc]
  cases hb : (Exec.start s e).body with
  | none => simpa [hb] using hl
  | some f =>
    simp only [hb, Option.some.injEq, exists_eq_left', forall_eq'] at hl
    simp only [Bool.or_eq_true, Bool.and_eq_true, decide_eq_true_eq]
    exact hl.symm

/-- A taken jump to a target that is not. -/
theorem jumpTo_illegal (s : State) (e : EngineId) (t : Nat) (ht : t ≠ 0) (hl : ¬ s.legalTarget e t) :
    jumpTo t (Exec.start s e) = (Exec.start s e).seqFault 36 := by
  have hpc : (Exec.start s e).en.pc = (s.engineOf e).pc := rfl
  unfold jumpTo
  rw [if_neg ht]
  refine if_neg ?_
  unfold State.legalTarget at hl
  dsimp only at hl ⊢
  rw [hpc]
  cases hb : (Exec.start s e).body with
  | none => simpa [hb] using hl
  | some f =>
    simp only [hb, Option.some.injEq, exists_eq_left', forall_eq'] at hl
    simp only [Bool.or_eq_true, Bool.and_eq_true, decide_eq_true_eq]
    exact fun h => hl h.symm

/-- A jump or call not taken. -/
theorem clocks_one (s : State) (e : EngineId) : (Exec.start s e).clocks 1 = s.going e (s.engineOf e) ((s.engineOf e).pc + 1) 1 := rfl

/-- The state after a call (05 R155). -/
def State.called (s : State) (e : EngineId) (t : Nat) : State :=
  if 8 ≤ (s.engineOf e).calls.length then s.seqStopped e 34
  else s.goes e { s.engineOf e with calls := ((s.engineOf e).pc + 1) :: (s.engineOf e).calls } t 4

theorem serzel_callTo (s : State) (e : EngineId) (t : Nat) (f : Exec → Exec) (hx : s.executes e = true) (ha : s.coresAgree e = true)
    (hf : f (Exec.start s e) = callTo t (Exec.start s e)) : serzel s e f = s.called e t := by
  unfold State.called
  split
  case isTrue h => exact serzel_faults s e f 34 hx (by decide) (by rw [hf, callTo, start_en, if_pos h]; rfl)
  case isFalse h => exact serzel_goes s e f _ _ _ hx ha (by rw [hf, callTo, start_en, if_neg h]; rfl)

/-- The innermost open loop body that RET looks at (05 R155). -/
theorem retOp_returns (s : State) (e : EngineId) (ret : Nat) (rest : List Nat) (hc : (s.engineOf e).calls = ret :: rest)
    (hb : (Exec.start s e).body = none) : retOp (Exec.start s e) = s.going e { s.engineOf e with calls := rest } ret 3 := by
  have hcalls : ((Exec.start s e).clocks 3).en.calls = ret :: rest := hc
  simp only [retOp, hb, start_en, hc, hcalls, List.isEmpty_cons, Bool.false_and, Option.isSome_none, Bool.or_self, Bool.false_eq_true,
    if_false]
  rfl

theorem retOp_ends (s : State) (e : EngineId) (hc : (s.engineOf e).calls = []) (hk : (s.engineOf e).brackets = [])
    (hb : (Exec.start s e).body = none) :
    retOp (Exec.start s e) = { s.going e (s.engineOf e) ((s.engineOf e).pc + 1) 3 with ends := true } := by
  have hcalls : ((Exec.start s e).clocks 3).en.calls = [] := hc
  simp only [retOp, hb, start_en, hc, hk, hcalls, List.isEmpty_nil, Bool.not_true, Bool.and_false, Option.isSome_none, Bool.or_self,
    Bool.false_eq_true, if_false]
  rfl

theorem retOp_bracketOpen (s : State) (e : EngineId) (hc : (s.engineOf e).calls = []) (hk : (s.engineOf e).brackets ≠ []) :
    (retOp (Exec.start s e)).seq = 33 := by
  have hopen : ((s.engineOf e).calls.isEmpty && !(s.engineOf e).brackets.isEmpty) = true := by simp [hc, hk]
  simp only [retOp, start_en, hopen, Bool.or_true, if_true]
  split <;> rfl

theorem retOp_inBody (s : State) (e : EngineId) (hb : (Exec.start s e).body ≠ none)
    (hn : ¬ ((s.engineOf e).calls = [] ∧ (s.engineOf e).brackets ≠ [])) : (retOp (Exec.start s e)).seq = 35 := by
  have hbody : (Exec.start s e).body.isSome = true := Option.isSome_iff_ne_none.2 hb
  have hopen : ((s.engineOf e).calls.isEmpty && !(s.engineOf e).brackets.isEmpty) = false := by
    simpa [Bool.and_eq_false_iff] using hn
  simp only [retOp, start_en, hopen, hbody, Bool.or_false, if_true, Bool.false_eq_true, if_false]
  rfl

/-- Settles O19: a jump, call or return goes where its rule says or raises its sequence fault. That fault 37 falls to the instruction whose
successor lies outside the store is the model's choice (log 14). -/
theorem jumpsAndCalls : Obligations.JumpsAndCalls := by
  unfold Obligations.JumpsAndCalls
  intro s e t hx ha en x goes past legal back
  have hstay : ∀ f : Exec → Exec, f x = x.clocks 1 → Host.Outcome.next (serzel s e f) = back (goes en (en.pc + 1) 1) := fun f hf =>
    congrArg Host.Outcome.next (serzel_goes s e f _ _ _ hx ha (hf.trans (clocks_one s e)))
  have hcall : ∀ f : Exec → Exec, f x = callTo t.val x → Host.Outcome.next (serzel s e f) = back (s.called e t.val) := fun f hf =>
    congrArg Host.Outcome.next (serzel_callTo s e t.val f hx ha hf)
  refine ⟨fun ht hl => ?_, fun ht hl => ?_, fun hba => ⟨fun ht => ?_, ?_⟩, fun hba => ⟨fun ht => ?_, ?_⟩, ⟨?_, fun hba => ?_, fun hba => ?_⟩,
    fun ret rest hc hb => ?_, fun hc hk hb => ?_, fun hc hk => ?_, fun hb hn => ?_⟩
  · have hjump : ∀ f : Exec → Exec, f x = jumpTo t.val x → Host.Outcome.next (serzel s e f) = back (goes en (en.pc + t.val) 2) :=
      fun f hf => congrArg Host.Outcome.next (serzel_goes s e f _ _ _ hx ha (hf.trans (jumpTo_legal s e t.val ht hl)))
    exact ⟨hjump _ rfl, fun hba => hjump _ ((if_neg ht).trans (if_pos hba)), fun hba => hjump _ ((if_neg ht).trans (if_pos (by simp [x, en, hba])))⟩
  · have hjump : ∀ f : Exec → Exec, f x = jumpTo t.val x → Host.Outcome.next (serzel s e f) = back (s.seqStopped e 36) :=
      fun f hf => congrArg Host.Outcome.next (serzel_faults s e f 36 hx (by decide) (by rw [hf, jumpTo_illegal s e t.val ht hl]; rfl))
    exact ⟨hjump _ rfl, fun hba => hjump _ ((if_neg ht).trans (if_pos hba)), fun hba => hjump _ ((if_neg ht).trans (if_pos (by simp [x, en, hba])))⟩
  · exact hstay _ ((if_neg ht).trans (if_neg (by simp [x, en, hba])))
  · exact hstay _ (if_neg (by simp [x, en, hba]))
  · exact hstay _ ((if_neg ht).trans (if_neg (by simp [x, en, hba])))
  · exact hstay _ (if_neg (by simp [x, en, hba]))
  · exact hcall _ rfl
  · exact hcall _ (if_pos hba)
  · exact hcall _ (if_pos (by simp [x, en, hba]))
  · exact congrArg Host.Outcome.next (serzel_goes s e _ _ _ _ hx ha (retOp_returns s e ret rest hc hb))
  · exact congrArg Host.Outcome.next (serzel_ends s e _ _ _ _ hx ha (retOp_ends s e hc hk hb))
  · exact congrArg Host.Outcome.next (serzel_faults s e _ 33 hx (by decide) (retOp_bracketOpen s e hc hk))
  · exact congrArg Host.Outcome.next (serzel_faults s e _ 35 hx (by decide) (retOp_inBody s e hb hn))

/-! ## Loops (05 R154) -/

theorem loopBegins : Parts.LoopBegins := by
  intro s e n len max hx ha hlen en count goes frame
  refine ⟨fun h => ?_, fun hroom hfree => ⟨fun hc => ?_, fun hc => ?_⟩⟩
  · refine congrArg Host.Outcome.next (serzel_faults s e _ 35 hx (by decide) ?_)
    have hfull : 4 ≤ (Exec.start s e).en.loops.length ∨ (Exec.start s e).en.loops.any (fun f => decide (f.xn = n)) = true := by
      simpa [en] using h
    rw [loopOp, if_neg hlen, if_pos hfull]
    rfl
  all_goals
    have hok : ¬ (4 ≤ (Exec.start s e).en.loops.length ∨ (Exec.start s e).en.loops.any (fun f => decide (f.xn = n)) = true) := by
      simp only [List.any_eq_true, decide_eq_true_eq, not_or, not_exists, not_and]
      exact ⟨Nat.not_le.2 hroom, hfree⟩
  · refine congrArg Host.Outcome.next (serzel_goes s e _ _ _ _ hx ha ?_)
    rw [loopOp, if_neg hlen, if_neg hok]
    have hframe : s.going e { en.setX n 0 with loops := { frame with depth := (en.setX n 0).calls.length } :: (en.setX n 0).loops }
        (en.pc + 1) 4 = s.going e { en.setX n 0 with loops := frame :: en.loops } (en.pc + 1) 4 := by
      rw [Engine.setX_calls, Engine.setX_loops]
    exact (if_neg hc).trans hframe
  · refine congrArg Host.Outcome.next (serzel_goes s e _ _ _ _ hx ha ?_)
    rw [loopOp, if_neg hlen, if_neg hok]
    exact if_pos hc

/-- A body left behind for its next iteration, or for good (05 R154). -/
theorem settleLoops_bodyEnd (n : Nat) (en : Engine) (f : LoopFrame) (rest : List LoopFrame) (hl : en.loops = f :: rest)
    (hd : f.depth = en.calls.length) (hp : en.pc = f.past) :
    settleLoops (n + 1) en = if f.iter + 1 < f.iters then
        ({ en with loops := { f with iter := f.iter + 1 } :: rest, pc := f.first } : Engine).setX f.xn (BitVec.ofNat 32 (f.iter + 1))
      else settleLoops n { en with loops := rest } := by
  rw [settleLoops]
  simp only [hl]
  rw [if_pos ⟨hd, hp⟩]

/-- With no loop open nothing is settled. -/
theorem settleLoops_none (n : Nat) (en : Engine) (hl : en.loops = []) : settleLoops n en = en := by
  cases n with
  | zero => rfl
  | succ n => rw [settleLoops]; simp only [hl]

@[simp] theorem Engine.setX_pc (en : Engine) (n : Fin 4) (v : BitVec 32) : (en.setX n v).pc = en.pc := by
  unfold Engine.setX; split <;> rfl

theorem loopBodyEnds : Parts.LoopBodyEnds := by
  intro en f rest hl hd hp
  have hend := settleLoops_bodyEnd 4 en f rest hl hd hp
  refine ⟨fun hi => hend.trans (if_pos hi), fun hi => hend.trans (if_neg (Nat.not_lt.2 hi)), fun at_ clk ha => ?_⟩
  have hsettled : at_.settled en.pc clk =
      { settleLoops 5 en with clock := (settleLoops 5 en).clock + clk + loopClocks en (settleLoops 5 en) } := by
    unfold Engine.settled
    rw [← ha]
  have hclock : en.clock = at_.clock := by rw [ha]
  rw [hsettled]
  refine ⟨fun hi => ?_, fun hi hr => ?_⟩
  · have hset := hend.trans (if_pos hi)
    have hclk : loopClocks en (settleLoops 5 en) = 2 := by
      rw [hset]
      simp only [loopClocks, Engine.setX_loops, hl, List.length_cons, Nat.sub_self, List.drop_zero]
      exact if_pos (Nat.ne_of_lt (Nat.lt_succ_self f.iter))
    dsimp only
    rw [hclk, hset]
    simp only [Engine.setX_clock, Engine.setX_pc, hclock, and_self]
  · have hset : settleLoops 5 en = { en with loops := [] } := by
      rw [hend, if_neg (Nat.not_lt.2 hi), hr]
      exact settleLoops_none 4 _ rfl
    have hclk : loopClocks en (settleLoops 5 en) = 0 := by
      rw [hset]
      simp only [loopClocks, hl, hr, List.length_cons, List.length_nil, Nat.sub_zero]
      rfl
    dsimp only
    rw [hclk, hset]
    exact ⟨by rw [hclock]; rfl, hp⟩

/-- Settles O20: LOOP opens its body or passes it by, and the end of a body goes round or leaves it. That fault 37 falls to LOOP when its
successor lies outside the store is the model's choice (log 14). -/
theorem loopsIterate : Obligations.LoopsIterate := ⟨loopBegins, loopBodyEnds⟩

end Sys2Proof.Machine
end

section
/-! Integer arithmetic at its corners (05 R144, Table 05-4). -/

namespace Sys2Proof.Machine

open Sys2Proof

/-! ## Two's complement of w bits -/

/-- An integer in the signed range of `w` bits is what its low bits spell. -/
theorem signedOf_wrapTo (w : Wid) (i : Int) (hlo : -(2 ^ (w.bits - 1) : Int) ≤ i) (hhi : i < (2 ^ (w.bits - 1) : Int)) :
    signedOf w.bits (wrapTo w.bits i) = i := by
  cases w <;>
  · simp only [Wid.bits, signedOf, wrapTo] at *
    omega

/-- The low bits of a signed reading are those of the number. -/
theorem wrapTo_signedOf (w : Wid) (n : Nat) (h : n < 2 ^ w.bits) : wrapTo w.bits (signedOf w.bits n) = n := by
  cases w <;>
  · simp only [Wid.bits, signedOf, wrapTo] at *
    omega

/-! ## Division (05 R144) -/

/-- A quotient truncated toward zero is no larger than the dividend, and only the most negative value over −1 leaves the signed range. -/
theorem tdiv_in_range (m a b : Int) (hlo : -m ≤ a) (hhi : a < m) (hn : ¬ (a = -m ∧ b = -1)) :
    -m ≤ Int.tdiv a b ∧ Int.tdiv a b < m := by
  have habs : (Int.tdiv a b).natAbs = a.natAbs / b.natAbs := Int.natAbs_tdiv a b
  have hle : a.natAbs / b.natAbs ≤ a.natAbs := Nat.div_le_self ..
  refine ⟨by omega, ?_⟩
  by_contra hge
  have hmax : Int.tdiv a b = m := by omega
  have ha : a = -m := by omega
  have hb : b.natAbs = 1 := by
    have hpos : 0 < m := by omega
    have hdiv : a.natAbs / b.natAbs = a.natAbs := by omega
    have hapos : 0 < a.natAbs := by omega
    exact (Nat.div_eq_self.1 hdiv).resolve_left hapos.ne'
  rcases Int.natAbs_eq b with h | h
  · rw [hb] at h
    rw [h] at hmax
    simp at hmax
    omega
  · rw [hb] at h
    exact hn ⟨ha, h⟩

theorem divisionCorners : Parts.DivisionCorners := by
  intro w a hlo hhi
  refine ⟨rfl, rfl, ?_, ?_, fun b hb hn hblo hbhi => ?_⟩
  · cases w <;> decide
  · cases w <;> decide
  · have hq := tdiv_in_range (2 ^ (w.bits - 1) : Int) a b hlo hhi hn
    have hr : -(2 ^ (w.bits - 1) : Int) ≤ Int.tmod a b ∧ Int.tmod a b < (2 ^ (w.bits - 1) : Int) := by
      have habs : (Int.tmod a b).natAbs = a.natAbs % b.natAbs := Int.natAbs_tmod a b
      have hlt : a.natAbs % b.natAbs < b.natAbs := Nat.mod_lt _ (by omega)
      omega
    have hmin : ¬ (a = minS w.bits ∧ b = -1) := hn
    simp only [aluDivS, aluModS, aluPlain, low, if_neg hb, if_neg hmin]
    exact ⟨signedOf_wrapTo w _ hq.1 hq.2, signedOf_wrapTo w _ hr.1 hr.2, trivial, trivial⟩

theorem additionWraps : Parts.AdditionWraps := by
  intro w a b ha hb
  have hla : low w.bits (signedOf w.bits a) = a := wrapTo_signedOf w a ha
  have hlb : low w.bits (signedOf w.bits b) = b := wrapTo_signedOf w b hb
  refine ⟨rfl, by simp [aluAddU], ?_, by simp [aluSubU], ?_, by simp [aluAddS, hla, hlb], by simp [aluAddS, fitsS], ?_,
    by simp [aluSubS, hla, hlb], by simp [aluSubS, fitsS]⟩
  · cases w <;>
    · simp only [aluSubU, low, wrapTo, Wid.bits] at *
      omega
  · cases w <;>
    · simp only [aluAddS, low, wrapTo, signedOf, Wid.bits] at *
      omega
  · cases w <;>
    · simp only [aluSubS, low, wrapTo, signedOf, Wid.bits] at *
      omega

/-- Settles O13: in two's complement a quotient other than the most negative value over −1 is in range, and sums and differences wrap. -/
theorem integerCorners : Obligations.IntegerCorners := ⟨divisionCorners, additionWraps⟩

end Sys2Proof.Machine
end

section
/-! The block's step, its reset, the start of the engines, the voters and the agreement of sampled fields (chapters 01, 03 and 04). -/

namespace Sys2Proof.Machine

open Sys2Proof

/-! ## The block's step -/

/-- Settles O1: by the definition of a step on a queue that is not empty. -/
theorem stepRunsFrontCommand : Obligations.StepRunsFrontCommand := fun _ _ _ => rfl

/-- Settles O24: no byte store of the module as delivered lists a byte. -/
theorem resetMemoryIsCanonical : Obligations.ResetMemoryIsCanonical := ⟨rfl, rfl⟩

theorem idleStepRunsEngine : Parts.IdleStepRunsEngine := by
  intro s hp
  unfold step
  rw [hp]
  rfl

/-! ## The start of the engines (01 R19, 04 R118, R124) -/

/-- A lane whose image is agreed has nothing left to agree on. -/
theorem agreeLane_exchanged (s : State) (l : LaneId) (h : (s.lane l).exchanged = true) : agreeLane s l = s := by
  unfold agreeLane
  split
  · rfl
  · rw [if_pos]
    simp [h]

theorem enginesStart : Parts.EnginesStartWithTheAgreedImage := by
  intro s l e hrun
  refine ⟨fun hr hx he => ?_, fun hr hw => ?_⟩
  · refine congrArg Host.Outcome.next ?_
    have hcond : (s.inRun && s.runs l && (s.lane l).exchanged && !(s.lane l).executing) = true := by simp [hrun, hr, hx, he]
    unfold exchangeComplete
    rw [agreeLane_exchanged s l hx]
    dsimp only
    rw [if_pos hcond]
    simp only [modLane_lane_self, List.map_map]
    rfl
  · refine congrArg Host.Outcome.next ?_
    have hcond : (s.inRun && s.runs e.lane && decide (((s.lane e.lane).engine e.slot).phase = .waiting)) = true := by
      have hphase : ((s.lane e.lane).engine e.slot).phase = .waiting := hw
      simp [hrun, hr, hphase]
    unfold linkWaitEnd
    rw [if_pos hcond]
    rfl

/-- Settles O28: an executing engine runs its instruction on an empty queue, and the engines start and go on from their order lists. That
the time base advances by one clock when none executes is the model's choice (log 2). -/
theorem enginesStartWithTheAgreedImage : Obligations.EnginesStartWithTheAgreedImage :=
  ⟨enginesStart, idleStepRunsEngine, idleEnginesRunNothing⟩

/-! ## The voters (03 R82, R84, R85) -/

/-- The byte that two of three submissions hold, whichever they are. -/
theorem majority_byte (x y : Byte) : (x &&& y) ||| (y &&& y) ||| (x &&& y) = y ∧ (y &&& x) ||| (x &&& y) ||| (y &&& y) = y ∧
    (y &&& y) ||| (y &&& x) ||| (y &&& x) = y := by
  refine ⟨?_, ?_, ?_⟩ <;>
  · ext i
    simp only [BitVec.getElem_or, BitVec.getElem_and]
    cases x[i] <;> cases y[i] <;> rfl

/-- Two equal submissions decide every bit against a third of their length. -/
theorem majority3_of_two : ∀ a b : Bytes, a.length = b.length → majority3 a b b = b ∧ majority3 b a b = b ∧ majority3 b b a = b
  | [], [], _ => ⟨rfl, rfl, rfl⟩
  | x :: a, y :: b, h => by
    obtain ⟨h1, h2, h3⟩ := majority_byte x y
    obtain ⟨i1, i2, i3⟩ := majority3_of_two a b (Nat.succ.inj h)
    simp only [majority3, h1, h2, h3, i1, i2, i3, and_self]

/-- A submission that the voters keep has the length of the output image. -/
theorem length_of_kept {n : Nat} {x : Submission} (h : removed n (some x) = false) : x.data.length = n := by
  simp only [removed, Bool.or_eq_false_iff, decide_eq_false_iff_not, ne_eq, not_not] at h
  obtain ⟨⟨hlen, _⟩, _⟩ := h
  exact hlen

/-- Settles O29: two equal submissions decide every bit and the signature against the third; two that differ decide nothing. -/
theorem twoEqualSubmissionsAreReleased : Obligations.TwoEqualSubmissionsAreReleased := by
  unfold Obligations.TwoEqualSubmissionsAreReleased
  intro n d e sig good other hg ho
  have hlen : e.length = d.length := (length_of_kept ho).trans (length_of_kept hg).symm
  obtain ⟨h1, h2, h3⟩ := majority3_of_two e d hlen
  obtain ⟨hsame, _, _⟩ := majority3_of_two d d rfl
  refine ⟨fun l => ⟨?_, ?_⟩, fun hed hsig l => ?_, fun l m hlm hed hsig => ?_⟩
  · simp [judge, LaneId.all, hg, bitwiseVoter, signatureVoter, majorityOf, hsame, good]
  · simp [judge, removed, bitwiseVoter, signatureVoter, majorityOf]
  · have hv : judge n LaneId.all (fun m => if m = l then some other else some good) =
        { vb := d, db := [l], ds := [l], star := some (crc64 d) } := by
      have hsig' : crc64 d ≠ sig := fun h => hsig h.symm
      cases l <;>
      simp [judge, LaneId.all, hg, ho, bitwiseVoter, signatureVoter, majorityOf, h1, h2, h3, good, other, hed, hsig, hsig']
    intro v
    rw [show v = _ from hv]
    exact ⟨rfl, by simp [Verdicts.agree, sameLanes]⟩
  · have hsig' : crc64 d ≠ sig := fun h => hsig h.symm
    have hde : d ≠ e := fun h => hed h.symm
    have hml : m ≠ l := fun h => hlm h.symm
    simp [judge, hml, hg, ho, bitwiseVoter, signatureVoter, majorityOf, good, other, hde, hsig, hsig']

end Sys2Proof.Machine
end

section
/-! The agreement of a sampled field by its kind (03 R76, Table 03-4). -/

namespace Sys2Proof.Machine

open Sys2Proof

/-- Of three values, at least two are no larger than the middle one and at least two no smaller. -/
theorem median3_spec (u v w : Int) : (median3 u v w = u ∨ median3 u v w = v ∨ median3 u v w = w) ∧
    2 ≤ ([u, v, w].filter (fun x => decide (x ≤ median3 u v w))).length ∧
    2 ≤ ([u, v, w].filter (fun x => decide (median3 u v w ≤ x))).length := by
  unfold median3
  simp only [List.filter_cons, List.filter_nil, decide_eq_true_eq]
  refine ⟨by omega, ?_, ?_⟩ <;>
  · repeat' split
    all_goals simp only [List.length_cons, List.length_nil]
    all_goals omega

theorem signedOf16_wrapTo (i : Int) (h : -32768 ≤ i ∧ i < 32768) : signedOf 16 (wrapTo 16 i) = i :=
  signedOf_wrapTo .w16 i h.1 h.2

theorem signedOf16_range (n : Nat) : -32768 ≤ signedOf 16 n ∧ signedOf 16 n < 32768 := by
  unfold signedOf
  dsimp only
  omega

/-- The number of values of a list that satisfy a predicate of their signed reading. -/
theorem filter_signed (p : Int → Bool) (l : List Nat) :
    (l.filter (fun x => p (signedOf 16 x))).length = ((l.map (signedOf 16)).filter p).length := by
  rw [List.filter_map, List.length_map]
  rfl

section Kinds

variable {a b c p : Nat}

theorem agreeBit_three {n i : Nat} (hi : i < n) :
    (agreeField (.bit n) [a, b, c] p).testBit i = decide (2 ≤ ([a, b, c].filter (fun x => x.testBit i)).length) := by
  have h : agreeField (.bit n) [a, b, c] p = (((a &&& b) ||| (b &&& c)) ||| (a &&& c)) &&& (2 ^ n - 1) := rfl
  rw [h, Nat.testBit_and, Nat.testBit_two_pow_sub_one, Nat.testBit_or, Nat.testBit_or, Nat.testBit_and, Nat.testBit_and, Nat.testBit_and]
  simp only [hi, decide_true, Bool.and_true, List.filter_cons, List.filter_nil]
  cases a.testBit i <;> cases b.testBit i <;> cases c.testBit i <;> rfl

theorem agreeBit_two {n i : Nat} (hi : i < n) :
    (agreeField (.bit n) [a, b] p).testBit i = if a.testBit i = b.testBit i then a.testBit i else p.testBit i := by
  have h : agreeField (.bit n) [a, b] p = (a &&& ((2 ^ n - 1) ^^^ ((a ^^^ b) &&& (2 ^ n - 1)))) |||
      (p &&& ((2 ^ n - 1) ^^^ ((2 ^ n - 1) ^^^ ((a ^^^ b) &&& (2 ^ n - 1))))) := rfl
  rw [h]
  simp only [Nat.testBit_and, Nat.testBit_two_pow_sub_one, Nat.testBit_or, Nat.testBit_xor, hi, decide_true, Bool.and_true]
  cases a.testBit i <;> cases b.testBit i <;> cases p.testBit i <;> rfl

theorem agreeAnalog_three (ha : a < 65536) (hb : b < 65536) (hc : c < 65536) {m : Nat} (hm : m = agreeField .analog [a, b, c] p) :
    m < 65536 ∧ m ∈ [a, b, c] ∧ 2 ≤ ([a, b, c].filter (fun x => decide (signedOf 16 x ≤ signedOf 16 m))).length ∧
      2 ≤ ([a, b, c].filter (fun x => decide (signedOf 16 m ≤ signedOf 16 x))).length := by
  obtain ⟨hone, hle, hge⟩ := median3_spec (signedOf 16 a) (signedOf 16 b) (signedOf 16 c)
  have hrange : -32768 ≤ median3 (signedOf 16 a) (signedOf 16 b) (signedOf 16 c) ∧
      median3 (signedOf 16 a) (signedOf 16 b) (signedOf 16 c) < 32768 := by
    rcases hone with h | h | h <;> rw [h] <;> exact signedOf16_range _
  have hsm : signedOf 16 m = median3 (signedOf 16 a) (signedOf 16 b) (signedOf 16 c) := by
    rw [hm]
    exact signedOf16_wrapTo _ hrange
  have hmem : m ∈ [a, b, c] := by
    have hw : m = wrapTo 16 (median3 (signedOf 16 a) (signedOf 16 b) (signedOf 16 c)) := hm
    have hback := fun n (h : n < 65536) => wrapTo_signedOf .w16 n h
    simp only [List.mem_cons, List.not_mem_nil, or_false]
    rcases hone with h | h | h
    · exact .inl (hw.trans ((congrArg _ h).trans (hback a ha)))
    · exact .inr (.inl (hw.trans ((congrArg _ h).trans (hback b hb))))
    · exact .inr (.inr (hw.trans ((congrArg _ h).trans (hback c hc))))
  refine ⟨?_, hmem, ?_, ?_⟩
  · simp only [List.mem_cons, List.not_mem_nil, or_false] at hmem
    omega
  · rw [hsm, filter_signed (fun i => decide (i ≤ median3 (signedOf 16 a) (signedOf 16 b) (signedOf 16 c)))]
    exact hle
  · rw [hsm, filter_signed (fun i => decide (median3 (signedOf 16 a) (signedOf 16 b) (signedOf 16 c) ≤ i))]
    exact hge

theorem agreeAnalog_two {m : Int} (hm : m = signedOf 16 (agreeField .analog [a, b] p)) :
    2 * m ≤ signedOf 16 a + signedOf 16 b ∧ signedOf 16 a + signedOf 16 b < 2 * m + 2 := by
  have ha := signedOf16_range a
  have hb := signedOf16_range b
  have hmean : m = (signedOf 16 a + signedOf 16 b) / 2 := by
    rw [hm]
    exact signedOf16_wrapTo _ (by omega)
  omega

/-- The advance of a count field since its previous value. -/
def countAdvance (p x : Nat) : Nat := (x + 65536 - p) % 65536

/-- A count field is its previous value and its advance. -/
theorem add_countAdvance {x : Nat} (hp : p < 65536) (hx : x < 65536) : (p + countAdvance p x) % 65536 = x := by
  unfold countAdvance
  omega

/-- Of three numbers the middle one likewise. -/
theorem median3Nat_spec (u v w : Nat) : (median3Nat u v w = u ∨ median3Nat u v w = v ∨ median3Nat u v w = w) ∧
    2 ≤ ([u, v, w].filter (fun x => decide (x ≤ median3Nat u v w))).length ∧
    2 ≤ ([u, v, w].filter (fun x => decide (median3Nat u v w ≤ x))).length := by
  unfold median3Nat
  simp only [List.filter_cons, List.filter_nil, decide_eq_true_eq]
  refine ⟨by omega, ?_, ?_⟩ <;>
  · repeat' split
    all_goals simp only [List.length_cons, List.length_nil]
    all_goals omega

theorem agreeCount_three (hp : p < 65536) (ha : a < 65536) (hb : b < 65536) (hc : c < 65536) :
    ∃ x ∈ [a, b, c], agreeField .count [a, b, c] p = x ∧
      2 ≤ ([a, b, c].filter (fun y => decide (countAdvance p y ≤ countAdvance p x))).length ∧
      2 ≤ ([a, b, c].filter (fun y => decide (countAdvance p x ≤ countAdvance p y))).length := by
  obtain ⟨hone, hle, hge⟩ := median3Nat_spec (countAdvance p a) (countAdvance p b) (countAdvance p c)
  have hcount : agreeField .count [a, b, c] p = (p + median3Nat (countAdvance p a) (countAdvance p b) (countAdvance p c)) % 65536 := by
    simp only [agreeField, countAdvance, Nat.mod_eq_of_lt hp]
  have hpick : ∀ x, x < 65536 → x ∈ [a, b, c] → median3Nat (countAdvance p a) (countAdvance p b) (countAdvance p c) = countAdvance p x →
      ∃ x ∈ [a, b, c], agreeField .count [a, b, c] p = x ∧
        2 ≤ ([a, b, c].filter (fun y => decide (countAdvance p y ≤ countAdvance p x))).length ∧
        2 ≤ ([a, b, c].filter (fun y => decide (countAdvance p x ≤ countAdvance p y))).length := by
    intro x hx hmem h
    rw [h] at hcount hle hge
    refine ⟨x, hmem, hcount.trans (add_countAdvance hp hx), ?_, ?_⟩
    · simpa only [List.filter_cons, List.filter_nil, decide_eq_true_eq, apply_ite List.length, List.length_cons, List.length_nil] using hle
    · simpa only [List.filter_cons, List.filter_nil, decide_eq_true_eq, apply_ite List.length, List.length_cons, List.length_nil] using hge
  rcases hone with h | h | h
  · exact hpick a ha (by simp) h
  · exact hpick b hb (by simp) h
  · exact hpick c hc (by simp) h

theorem agreeCount_two (hp : p < 65536) (ha : a < 65536) (hb : b < 65536) :
    ∃ x ∈ [a, b], agreeField .count [a, b] p = x ∧ ∀ y ∈ [a, b], countAdvance p x ≤ countAdvance p y := by
  have hcount : agreeField .count [a, b] p = (p + Nat.min (countAdvance p a) (countAdvance p b)) % 65536 := by
    simp only [agreeField, countAdvance, Nat.mod_eq_of_lt hp]
  simp only [List.mem_cons, List.not_mem_nil, or_false, exists_eq_or_imp, exists_eq_left, forall_eq_or_imp, forall_eq]
  rcases Nat.le_total (countAdvance p a) (countAdvance p b) with h | h
  · exact .inl ⟨by rw [hcount, show Nat.min _ _ = _ from Nat.min_eq_left h, add_countAdvance hp ha], Nat.le_refl _, h⟩
  · exact .inr ⟨by rw [hcount, show Nat.min _ _ = _ from Nat.min_eq_right h, add_countAdvance hp hb], h, Nat.le_refl _⟩

theorem agreeEnum_majority (fb x : Nat) (h : 2 ≤ ([a, b, c].filter (fun y => decide (y = x))).length) :
    agreeField (.enum fb) [a, b, c] p = x := by
  have he : agreeField (.enum fb) [a, b, c] p = if a = b then a else if a = c ∨ b = c then c else fb := rfl
  rw [he]
  by_cases hax : a = x <;> by_cases hbx : b = x <;> by_cases hcx : c = x <;> simp [hax, hbx, hcx] at h ⊢

end Kinds

/-- Settles O33: the middle of three, the floor of the mean, the advance of a count and the majority, kind by kind. -/
theorem samplesAgreeByTheirKind : Obligations.SamplesAgreeByTheirKind := by
  unfold Obligations.SamplesAgreeByTheirKind
  intro a b c p ha hb hc hp
  refine ⟨fun n i hi _ => ⟨agreeBit_three hi, agreeBit_two hi⟩, fun m hm => agreeAnalog_three ha hb hc hm, fun m hm => agreeAnalog_two hm,
    ⟨agreeCount_three hp ha hb hc, agreeCount_two hp ha hb⟩, fun fb => ⟨fun x h => agreeEnum_majority fb x h, fun hab hac hbc => ?_, rfl⟩⟩
  show (if a = b then a else if a = c ∨ b = c then c else fb) = fb
  rw [if_neg hab, if_neg (by tauto)]

end Sys2Proof.Machine
end

section
/-! What crosses between clock domains leaves alone (15 R398 to R405), and the monitors (14 R391). -/

namespace Sys2Proof.Machine

open Sys2Proof

/-- An index with a subindex names one register. -/
theorem regKey_ne {i j i' j' : Nat} (hj : j < 256) (hj' : j' < 256) (h : i ≠ i') : regKey i j ≠ regKey i' j' := by
  unfold regKey
  omega

/-- A state that differs at most in the crossings, the draws of free values and the registers of the crossing `x`: what the crossing's own
bookkeeping changes. -/
def State.Crossed (x : Nat) (s t : State) : Prop :=
  (∃ j c k, t = { s with jreg := j, crossings := c, free := k }) ∧
  ∀ i sub, sub < 256 → i ≠ crossingIndex x → jget t i sub = jget s i sub

namespace State.Crossed

variable {x : Nat} {s t u : State}

theorem refl (s : State) : State.Crossed x s s := ⟨⟨_, _, _, rfl⟩, fun _ _ _ _ => rfl⟩

theorem trans (h : State.Crossed x s t) (h' : State.Crossed x t u) : State.Crossed x s u := by
  obtain ⟨⟨_, _, _, ht⟩, hj⟩ := h
  obtain ⟨⟨_, _, _, rfl⟩, hj'⟩ := h'
  subst ht
  exact ⟨⟨_, _, _, rfl⟩, fun i sub hs hi => (hj' i sub hs hi).trans (hj i sub hs hi)⟩

theorem jset (s : State) (x j v : Nat) (hj : j < 256) : State.Crossed x s (jset s (crossingIndex x) j v) :=
  ⟨⟨_, _, _, rfl⟩, fun _ _ hs hi => jget_jset_other _ _ _ _ _ _ (regKey_ne hs hj hi)⟩

theorem setCrossing (s : State) (x y : Nat) (c : Crossing) : State.Crossed x s (s.setCrossing y c) := ⟨⟨_, _, _, rfl⟩, fun _ _ _ _ => rfl⟩

theorem through (s : State) (x n : Nat) : State.Crossed x s (through s x n) :=
  ⟨through_eq s x n, fun _ _ hs hi => through_jget _ _ _ _ _ (regKey_ne hs (by decide) hi)⟩

theorem raiseMark (s : State) (x n : Nat) : State.Crossed x s (raiseMark s x n) := jset s _ _ _ (by decide)

theorem holdItem (s : State) (x n : Nat) (i : XItem) : State.Crossed x s (holdItem s x n i) := by
  unfold Machine.holdItem
  dsimp only
  split
  · exact (setCrossing s _ _ _).trans (raiseMark _ _ _)
  · exact setCrossing s _ _ _

theorem offer (s : State) (x n : Nat) (i : XItem) : State.Crossed x s (offer s x n i) := setCrossing s _ _ _

theorem overrun (s : State) (x n : Nat) : State.Crossed x s (overrun s x n) := (setCrossing s _ _ _).trans (jset _ _ _ _ (by decide))

theorem dropEntries (s : State) (x n : Nat) : State.Crossed x s (dropEntries s x n) := (overrun s x n).trans (jset _ _ _ _ (by decide))

theorem evented (s : State) (x r : Nat) : State.Crossed x s (s.evented x r) := setCrossing s _ _ _

end State.Crossed

/-! ## Traffic and events, whatever becomes of them -/

/-- What holds before traffic is offered and is kept by the crossing's bookkeeping, by its loss and by what it does on the far side, holds
after it. -/
theorem carry_keeps {P : State → Prop} {s : State} {x n : Nat} {i : XItem} {lost f : State → State} (h : P s)
    (hcross : ∀ a b, State.Crossed x a b → P a → P b) (hlost : ∀ a, P a → P (lost a)) (hf : ∀ a, P a → P (f a)) : P (carry s x n i lost f) := by
  unfold carry
  dsimp only
  split
  · exact hf s h
  · split
    · exact h
    · split
      · exact hf _ (hcross _ _ (.through s x n) h)
      · split
        · exact hcross _ _ (.holdItem s x n i) h
        · split
          · exact hcross _ _ (.offer s x n i) h
          · unfold spill
            dsimp only
            refine hlost _ (hcross _ _ (.dropEntries _ _ _) ?_)
            generalize (if (s.crossing x).open_ = true then Nat.min n ((s.crossing x).room x) else 0) = r
            split
            · exact h
            · exact hcross _ _ (.holdItem s x r _) h

theorem toField_keeps {P : State → Prop} {s : State} {l : LaneId} {i : FieldFrame} {f : State → State} (h : P s)
    (hcross : ∀ x a b, State.Crossed x a b → P a → P b) (hf : ∀ a, P a → P (f a)) : P (toField s l i f) := by
  unfold toField
  dsimp only
  split
  · exact carry_keeps h (hcross _) (fun _ ha => ha) hf
  · exact hcross _ _ _ (.dropEntries _ _ _) h

theorem fromField_keeps {P : State → Prop} {s : State} {l : LaneId} {n : Nat} {r : FieldReport} {f : State → State} (h : P s)
    (hcross : ∀ x a b, State.Crossed x a b → P a → P b) (hf : ∀ a, P a → P (f a)) : P (fromField s l n r f) := by
  unfold fromField
  dsimp only
  split
  · exact hf s h
  · exact carry_keeps h (hcross _) (fun _ ha => ha) hf

/-- An event likewise. -/
theorem raiseEvent_keeps {P : State → Prop} {s : State} {x r : Nat} {i : XItem} {f : State → State} (h : P s)
    (hcross : ∀ a b, State.Crossed x a b → P a → P b) (hf : ∀ a, P a → P (f a)) : P (raiseEvent s x r i f) := by
  unfold raiseEvent
  dsimp only
  split
  · exact h
  · split
    · exact hcross _ _ (.overrun s x 1) h
    · split
      · exact hcross _ _ (.overrun s x 1) h
      · split
        · exact hf _ (hcross _ _ (.setCrossing s _ _ _) h)
        · exact hcross _ _ ((State.Crossed.setCrossing s _ _ _).trans (.holdItem _ x 0 i)) h

/-! ## Monitors (14 R391) -/

/-- A value taken by the monitors changes the monitors alone. -/
theorem monitorTake_eq (s : State) (kind sel : Nat) (x : Int) : ∃ m, monitorTake s kind sel x = { s with monitors := m } := by
  unfold monitorTake
  generalize List.range 64 = ns
  induction ns generalizing s with
  | nil => exact ⟨_, rfl⟩
  | cons n ns ih =>
    have hone : ∃ m, monitorOne s kind sel x n = { s with monitors := m } := by
      unfold monitorOne
      dsimp only
      split <;> exact ⟨_, rfl⟩
    obtain ⟨m, hm⟩ := hone
    obtain ⟨m', hm'⟩ := ih (monitorOne s kind sel x n)
    exact ⟨m', by rw [List.foldl_cons, hm', hm]⟩

end Sys2Proof.Machine
end

section
/-! The end of a round and the fault-tolerant average (10 R276, R281 to R285). -/

namespace Sys2Proof.Machine

open Sys2Proof

/-! ## The average (10 R281) -/

theorem perm_insertAsc (x : Int) (l : List Int) : (insertAsc x l).Perm (x :: l) := by
  induction l with
  | nil => exact .refl _
  | cons y l ih =>
    unfold insertAsc
    split
    · exact .refl _
    · exact (ih.cons y).trans (.swap x y l)

theorem perm_sortAsc (l : List Int) : (sortAsc l).Perm l := by
  induction l with
  | nil => exact .refl _
  | cons x l ih => exact (perm_insertAsc x _).trans (ih.cons x)

theorem sorted_insertAsc (x : Int) (l : List Int) (h : l.Pairwise (· ≤ ·)) : (insertAsc x l).Pairwise (· ≤ ·) := by
  induction l with
  | nil => simp [insertAsc]
  | cons y l ih =>
    obtain ⟨hy, hl⟩ := List.pairwise_cons.1 h
    unfold insertAsc
    split
    case isTrue hxy => exact List.pairwise_cons.2 ⟨fun z hz => by
      rcases List.mem_cons.1 hz with rfl | hz
      · exact hxy
      · exact Int.le_trans hxy (hy z hz), h⟩
    case isFalse hxy => exact List.pairwise_cons.2 ⟨fun z hz => by
      rcases List.mem_cons.1 ((perm_insertAsc x l).mem_iff.1 hz) with rfl | hz
      · omega
      · exact hy z hz, ih hl⟩

theorem sorted_sortAsc (l : List Int) : (sortAsc l).Pairwise (· ≤ ·) := by
  induction l with
  | nil => exact .nil
  | cons x l ih => exact sorted_insertAsc x _ ih

/-- The sum of values between two bounds lies between the bounds of as many. -/
theorem foldl_add_bounds (lo hi : Int) (l : List Int) : ∀ a : Int, (∀ x ∈ l, lo ≤ x ∧ x ≤ hi) →
    a + lo * l.length ≤ l.foldl (fun a b => a + b) a ∧ l.foldl (fun a b => a + b) a ≤ a + hi * l.length := by
  induction l with
  | nil => intro a _; simp
  | cons x l ih =>
    intro a h
    obtain ⟨hlo, hhi⟩ := ih (a + x) (fun y hy => h y (List.mem_cons_of_mem x hy))
    obtain ⟨hx, hx'⟩ := h x (List.mem_cons_self ..)
    simp only [List.length_cons, Nat.cast_add, Nat.cast_one, mul_add, mul_one, List.foldl_cons]
    omega

/-- A mean taken toward zero lies between the bounds of its sum. -/
theorem tdiv_bounds (lo hi sum : Int) (n : Nat) (hn : 0 < n) (hlo : lo * n ≤ sum) (hhi : sum ≤ hi * n) :
    lo ≤ Int.tdiv sum n ∧ Int.tdiv sum n ≤ hi := by
  have hpos : (0 : Int) < n := by omega
  constructor
  · calc lo = Int.tdiv (lo * n) n := (Int.mul_tdiv_cancel _ hpos.ne').symm
      _ ≤ Int.tdiv sum n := Int.tdiv_le_tdiv hpos hlo
  · calc Int.tdiv sum n ≤ Int.tdiv (hi * n) n := Int.tdiv_le_tdiv hpos hhi
      _ = hi := Int.mul_tdiv_cancel _ hpos.ne'

/-- Of a sorted list in which at most `k` values fail a bound from below, those from place `k` on hold it. -/
theorem drop_above {l : List Int} (hs : l.Pairwise (· ≤ ·)) (lo : Int) (k : Nat)
    (hk : (l.filter (fun x => decide (x < lo))).length ≤ k) : ∀ x ∈ l.drop k, lo ≤ x := by
  intro x hx
  by_contra hlt
  have hall : ∀ y ∈ l.take k, decide (y < lo) = true := by
    intro y hy
    have hyx : y ≤ x := by
      have hp : (l.take k ++ l.drop k).Pairwise (· ≤ ·) := by rwa [List.take_append_drop]
      exact (List.pairwise_append.1 hp).2.2 y hy x hx
    simp only [decide_eq_true_eq]; omega
  have hlen : k < l.length := by
    by_contra hge
    rw [List.drop_of_length_le (by omega)] at hx
    exact List.not_mem_nil hx
  have hcount : (l.filter (fun x => decide (x < lo))).length =
      ((l.take k).filter (fun x => decide (x < lo))).length + ((l.drop k).filter (fun x => decide (x < lo))).length := by
    rw [← List.length_append, ← List.filter_append, List.take_append_drop]
  have hfirst : ((l.take k).filter (fun x => decide (x < lo))).length = k := by
    rw [List.filter_eq_self.2 hall, List.length_take, Nat.min_eq_left (Nat.le_of_lt hlen)]
  have hrest : 0 < ((l.drop k).filter (fun x => decide (x < lo))).length :=
    List.length_pos_of_mem (List.mem_filter.2 ⟨hx, by simp only [decide_eq_true_eq]; omega⟩)
  omega

/-- Of a sorted list in which at most `k` values fail a bound from above, all but the last `k` hold it. -/
theorem take_below {l : List Int} (hs : l.Pairwise (· ≤ ·)) (hi : Int) (k : Nat)
    (hk : (l.filter (fun x => decide (hi < x))).length ≤ k) : ∀ x ∈ l.take (l.length - k), x ≤ hi := by
  intro x hx
  by_contra hlt
  have hall : ∀ y ∈ l.drop (l.length - k), decide (hi < y) = true := by
    intro y hy
    have hxy : x ≤ y := by
      have hp : (l.take (l.length - k) ++ l.drop (l.length - k)).Pairwise (· ≤ ·) := by rwa [List.take_append_drop]
      exact (List.pairwise_append.1 hp).2.2 x hx y hy
    simp only [decide_eq_true_eq]; omega
  have hlen : k < l.length := by
    by_contra hge
    rw [show l.length - k = 0 by omega, List.take_zero] at hx
    exact List.not_mem_nil hx
  have hcount : (l.filter (fun x => decide (hi < x))).length =
      ((l.take (l.length - k)).filter (fun x => decide (hi < x))).length + ((l.drop (l.length - k)).filter (fun x => decide (hi < x))).length := by
    rw [← List.length_append, ← List.filter_append, List.take_append_drop]
  have hlast : ((l.drop (l.length - k)).filter (fun x => decide (hi < x))).length = k := by
    rw [List.filter_eq_self.2 hall, List.length_drop]; omega
  have hrest : 0 < ((l.take (l.length - k)).filter (fun x => decide (hi < x))).length :=
    List.length_pos_of_mem (List.mem_filter.2 ⟨hx, by simp only [decide_eq_true_eq]; omega⟩)
  omega

/-- The values that the average keeps. -/
theorem kept_between (d : List Int) (k : Nat) (lo hi : Int) (hlo : (d.filter (fun x => decide (x < lo))).length ≤ k)
    (hhi : (d.filter (fun x => decide (hi < x))).length ≤ k) : ∀ x ∈ ((sortAsc d).drop k).take (d.length - 2 * k), lo ≤ x ∧ x ≤ hi := by
  have hp := perm_sortAsc d
  have hlen := hp.length_eq
  intro x hx
  refine ⟨drop_above (sorted_sortAsc d) lo k ?_ x (List.mem_of_mem_take hx), take_below (sorted_sortAsc d) hi k ?_ x ?_⟩
  · rwa [(hp.filter _).length_eq]
  · rwa [(hp.filter _).length_eq]
  · rw [List.take_drop] at hx
    refine List.mem_of_mem_drop (i := k) ?_
    rw [hlen]
    by_cases hk : 2 * k ≤ d.length
    · rwa [show k + (d.length - 2 * k) = d.length - k by omega] at hx
    · rw [show d.length - 2 * k = 0 by omega, Nat.add_zero, List.drop_of_length_le (List.length_take_le _ _)] at hx
      exact absurd hx List.not_mem_nil

theorem averagesIgnoreWrongClocks : Parts.AveragesIgnoreWrongClocks := by
  intro good bad d lo hi hperm hbad hgood hrange
  have hfew : ∀ p : Int → Bool, (∀ x ∈ good, p x = false) → (d.filter p).length ≤ ftaDiscard d.length := by
    intro p hp
    rw [(hperm.filter p).length_eq, List.filter_append, List.filter_eq_nil_iff.2 (by simpa using hp), List.nil_append]
    exact Nat.le_trans (List.length_filter_le _ _) hbad
  have hkept := kept_between d (ftaDiscard d.length) lo hi
    (hfew _ fun x hx => by have := hrange x hx; simp only [decide_eq_false_iff_not]; omega)
    (hfew _ fun x hx => by have := hrange x hx; simp only [decide_eq_false_iff_not]; omega)
  have hpos : 0 < d.length := by
    rw [hperm.length_eq, List.length_append]
    have := List.length_pos_iff.2 hgood
    omega
  have hmid : 0 < d.length - 2 * ftaDiscard d.length := by
    unfold ftaDiscard
    split
    · omega
    · split <;> omega
  obtain ⟨hsum, hsum'⟩ := foldl_add_bounds lo hi _ 0 hkept
  have hlen : (((sortAsc d).drop (ftaDiscard d.length)).take (d.length - 2 * ftaDiscard d.length)).length =
      d.length - 2 * ftaDiscard d.length := by
    rw [List.length_take, List.length_drop, (perm_sortAsc d).length_eq]
    omega
  rw [hlen, Int.zero_add] at hsum hsum'
  have havg : ftAverage d = Int.tdiv ((((sortAsc d).drop (ftaDiscard d.length)).take (d.length - 2 * ftaDiscard d.length)).foldl
      (fun a b => a + b) 0) ((d.length - 2 * ftaDiscard d.length : Nat) : Int) := if_neg (Nat.ne_of_gt hpos)
  rw [havg]
  exact tdiv_bounds lo hi _ _ hmid hsum hsum'

/-! ## What a round's correction changes -/

/-- A state that differs at most in what a correction of the time changes: the registers, the crossings, the monitors, and the rates of the time
base, but not the time itself. -/
def State.Corrected (s t : State) : Prop :=
  ∃ j c k m x, x.now = s.time.now ∧ t = { s with jreg := j, crossings := c, free := k, monitors := m, time := x }

namespace State.Corrected

variable {s t u : State}

theorem refl (s : State) : s.Corrected s := ⟨_, _, _, _, _, rfl, rfl⟩

theorem trans (h : s.Corrected t) (h' : t.Corrected u) : s.Corrected u := by
  obtain ⟨_, _, _, _, _, hx, rfl⟩ := h
  obtain ⟨_, _, _, _, _, hy, rfl⟩ := h'
  exact ⟨_, _, _, _, _, hy.trans hx, rfl⟩

theorem of_crossed {x : Nat} (h : State.Crossed x s t) : s.Corrected t := by
  obtain ⟨⟨_, _, _, rfl⟩, -⟩ := h
  exact ⟨_, _, _, _, _, rfl, rfl⟩

theorem jset (s : State) (i j v : Nat) : s.Corrected (jset s i j v) := ⟨_, _, _, _, _, rfl, rfl⟩

theorem withTime (s : State) (x : TimeBase) (h : x.now = s.time.now) : s.Corrected { s with time := x } := ⟨_, _, _, _, _, h, rfl⟩

theorem monitorTake (s : State) (kind sel : Nat) (x : Int) : s.Corrected (monitorTake s kind sel x) := by
  obtain ⟨m, hm⟩ := monitorTake_eq s kind sel x
  exact ⟨_, _, _, m, _, rfl, hm⟩

theorem sendCorrection (s : State) (rc slew : Int) : s.Corrected (sendCorrection s rc slew) :=
  carry_keeps (P := s.Corrected) (refl s) (fun _ _ h ha => ha.trans (of_crossed h)) (fun _ ha => ha)
    (fun _ ha => ha.trans (withTime _ _ rfl))

end State.Corrected

/-- In ACTIVE a round's correction is a slew. -/
theorem correctTime_corrected (s : State) (off : Int) (rhos : List Int) (valid : Bool) (h : s.ring.state = .active) :
    s.Corrected (correctTime s off rhos valid) := by
  unfold correctTime
  dsimp only
  split
  · exact .withTime _ _ rfl
  · rw [h]
    exact (State.Corrected.withTime s { s.time with slewPrev := s.time.slew, slew := 0 } rfl).trans (.sendCorrection _ _ _)

theorem roundOffset_active (s : State) (off : Int) (valid : Bool) (h : s.ring.state = .active) :
    roundOffset s off valid =
      (let s := jset (jset s 0x4231 3 (wrapTo 32 (-off))) 0x4231 5 (Nat.max (jget s 0x4231 5) off.natAbs)
       let s := correctTime s off (rates s) valid
       let s := jset s 0x4231 4 (wrapTo 32 s.time.rc)
       monitorTake (monitorTake s 5 0 (-off)) 5 1 s.time.rc) := by
  unfold roundOffset
  simp [h]

theorem roundOffset_corrected (s : State) (off : Int) (valid : Bool) (h : s.ring.state = .active) :
    s.Corrected (roundOffset s off valid) := by
  rw [roundOffset_active s off valid h]
  dsimp only
  exact (((((State.Corrected.jset s _ _ _).trans (.jset _ _ _ _)).trans (correctTime_corrected _ _ _ _ h)).trans
    (.jset _ _ _ _)).trans (.monitorTake _ _ _ _)).trans (.monitorTake _ _ _ _)

/-- A round in ACTIVE with a small offset, no foreign partition and a coldstart node changes no state. -/
theorem roundState_quiet (s : State) (off : Int) (valid full : Bool) (h : s.ring.state = .active) (hforeign : s.ring.foreign = none)
    (hbig : s.ring.bigOff = 0) (hcold : s.coldstartNode = true) : roundState s off valid full = s := by
  have hmerge : mergeDue s = false := by unfold mergeDue; rw [hforeign]
  unfold roundState
  simp [h, hmerge, hbig, hcold]

/-! ## The limits of the corrections (10 R282) -/

/-- Rates within their limits, the slew of the round before kept. -/
def TimeBase.Limited (prev : Int) (bounded : Prop) (x : TimeBase) : Prop :=
  (-200000 ≤ x.slew ∧ x.slew ≤ 200000) ∧ x.slewPrev = prev ∧ (bounded → -150000 ≤ x.rc ∧ x.rc ≤ 150000)

section

variable {prev : Int} {bounded : Prop} {s : State}

theorem limited_sendCorrection {rc slew : Int} (h : s.time.Limited prev bounded) (hslew : -200000 ≤ slew ∧ slew ≤ 200000)
    (hrc : bounded → -150000 ≤ rc ∧ rc ≤ 150000) : (sendCorrection s rc slew).time.Limited prev bounded :=
  carry_keeps (P := fun t => t.time.Limited prev bounded) h (fun _ _ hc ha => by obtain ⟨⟨_, _, _, rfl⟩, -⟩ := hc; exact ha) (fun _ ha => ha)
    (fun _ ha => ⟨hslew, ha.2.1, hrc⟩)

theorem limited_judgeDiverged {off : Int} (h : s.time.Limited prev bounded) : (judgeDiverged s off).time.Limited prev bounded := by
  unfold judgeDiverged
  split
  · exact limited_sendCorrection (by rw [recordSync, record_time]; exact h) (by decide) h.2.2
  · exact h

theorem limited_ringState {st : RingState} (h : s.time.Limited prev bounded) : (ringState s st).time.Limited prev bounded := by
  unfold ringState
  dsimp only
  split
  · exact limited_sendCorrection h (by decide) h.2.2
  · exact h

theorem limited_enterPassive {off : Int} {follow : Option Nat} (h : s.time.Limited prev bounded) :
    (enterPassive s off follow).time.Limited prev bounded := by
  unfold enterPassive
  refine limited_judgeDiverged ?_
  rw [recordSync, record_time]
  obtain ⟨hslew, hprev, hrc⟩ := limited_ringState (st := .passive) h
  exact ⟨hslew, hprev, hrc⟩

theorem limited_roundState {off : Int} {valid full : Bool} (h : s.time.Limited prev bounded) (hs : s.ring.state = .active) :
    (roundState s off valid full).time.Limited prev bounded := by
  unfold roundState
  rw [hs]
  dsimp only
  split
  · exact limited_enterPassive h
  · split
    · exact limited_enterPassive h
    · exact h

end

theorem clampInt_bounds {lo hi : Int} (h : lo ≤ hi) (x : Int) : lo ≤ clampInt lo hi x ∧ clampInt lo hi x ≤ hi := by
  unfold clampInt
  omega

theorem limited_correctTime {s : State} (off : Int) (rhos : List Int) (valid : Bool) (h : s.ring.state = .active) :
    (correctTime s off rhos valid).time.Limited s.time.slew (s.time.rc ≤ 150000 ∧ -150000 ≤ s.time.rc) := by
  have hstart : ({ s.time with slewPrev := s.time.slew, slew := 0 } : TimeBase).Limited s.time.slew
      (s.time.rc ≤ 150000 ∧ -150000 ≤ s.time.rc) := ⟨⟨by show (-200000 : Int) ≤ 0; decide, by show (0 : Int) ≤ 200000; decide⟩, rfl, fun hb => ⟨hb.2, hb.1⟩⟩
  unfold correctTime
  dsimp only
  split
  · exact hstart
  · rw [h]
    refine limited_sendCorrection hstart (clampInt_bounds (by decide) _) fun hb => ?_
    split
    · exact ⟨hb.2, hb.1⟩
    · exact clampInt_bounds (by decide) _

theorem limited_roundOffset {s : State} (off : Int) (valid : Bool) (h : s.ring.state = .active) :
    (roundOffset s off valid).time.Limited s.time.slew (s.time.rc ≤ 150000 ∧ -150000 ≤ s.time.rc) := by
  have htake : ∀ (u : State) (kind sel : Nat) (x : Int), (monitorTake u kind sel x).time = u.time := fun u kind sel x => by
    obtain ⟨m, hm⟩ := monitorTake_eq u kind sel x
    rw [hm]
  rw [roundOffset_active s off valid h]
  dsimp only
  rw [htake, htake]
  exact limited_correctTime (s := jset (jset s _ _ _) _ _ _) off _ _ h

/-- The state in which an ACTIVE node judges its round: the offset applied, the counts of the round renewed. -/
def State.judging (u : State) (heard : Bool) (key : PartKey) (off : Int) (n k : Nat) (valid : Bool) : State :=
  (roundOffset (jset (jset u 0x4231 1 n) 0x4231 2 k) off valid).modRing (fun r =>
    { r with key := key, bigOff := if 1000 < off.natAbs then r.bigOff + 1 else 0, silent := if heard then 0 else r.silent + 1 })

/-- The round closed: what was seen in it becomes what was seen in the one before. -/
def State.closing (u : State) : State :=
  latchLatency ((showL u).modRing (fun r =>
    { r with lastEnd := (showL u).time.now, foreignPrev := r.foreign, foreign := none, prev := r.seen, seen := [] }))

theorem roundEnd_active (s : State) (h : s.ring.state = .active) :
    ∃ T heard key n k valid full, roundEnd s = ((roundState ((advanceTo s T).judging heard key
      (ftAverage (s.ring.seen.filterMap (fun x => x.dev))) n k (valid && full))
      (ftAverage (s.ring.seen.filterMap (fun x => x.dev))) valid full).closing) := by
  have hrun : ¬ (s.ring.state = .off ∨ s.ring.state = .listen) := by rw [h]; decide
  have hnc : s.ring.state ≠ .coldstart := by rw [h]; decide
  unfold roundEnd
  dsimp only
  generalize gridFrom (Nat.max s.time.now (s.ring.lastEnd + 1)) 0 s.tRound = T
  refine ⟨T, (advanceTo s T).heardSync, partitionKey (advanceTo s T), s.ring.seen.length, ftaDiscard (s.ring.seen.filterMap (fun x => x.dev)).length,
    validRound (advanceTo s T), decide ((advanceTo s T).ring.since + (advanceTo s T).tRound ≤ (advanceTo s T).time.now), ?_⟩
  rw [if_neg (show ¬ ((advanceTo s T).ring.state = .off ∨ (advanceTo s T).ring.state = .listen) from hrun)]
  simp only [State.closing, State.judging, advanceTo_ring, jset_ring, hnc, if_false]

theorem judging_corrected (u : State) (heard : Bool) (key : PartKey) (off : Int) (n k : Nat) (valid : Bool) (h : u.ring.state = .active) :
    ∃ v, u.Corrected v ∧ u.judging heard key off n k valid = v.modRing (fun r =>
      { r with key := key, bigOff := if 1000 < off.natAbs then r.bigOff + 1 else 0, silent := if heard then 0 else r.silent + 1 }) :=
  ⟨_, ((State.Corrected.jset u _ _ _).trans (.jset _ _ _ _)).trans (roundOffset_corrected _ _ _ h), rfl⟩

theorem modRing_keeps_time (u : State) (f : Ring → Ring) : (u.modRing f).time = u.time := rfl

theorem limited_judging (u : State) (heard : Bool) (key : PartKey) (off : Int) (n k : Nat) (valid : Bool) (h : u.ring.state = .active) :
    (u.judging heard key off n k valid).time.Limited u.time.slew (u.time.rc ≤ 150000 ∧ -150000 ≤ u.time.rc) := by
  have hu : (jset (jset u 0x4231 1 n) 0x4231 2 k).time = u.time := by rw [jset_time, jset_time]
  unfold State.judging
  rw [modRing_keeps_time, ← hu]
  exact limited_roundOffset off valid h

theorem closing_time (u : State) : u.closing.time = u.time := rfl

theorem advanceTo_max_lanes (s : State) (T : Nat) : (advanceTo s (Nat.max s.time.now T)).lanes = (advanceTo s T).lanes := by
  have hd : Nat.max s.time.now T - s.time.now = T - s.time.now := by
    have hmax : Nat.max s.time.now T = max s.time.now T := rfl
    omega
  unfold advanceTo
  rw [hd]

theorem roundEndCorrects : Parts.RoundEndCorrectsTheTime := by
  intro s
  refine ⟨fun h => ?_, fun h hoff hforeign hcold => ?_, fun h _ _ => ?_⟩
  · exact congrArg Host.Outcome.next (if_pos h.symm)
  · refine ⟨_, rfl, ?_⟩
    obtain ⟨T, heard, key, n, k, valid, full, hend⟩ := roundEnd_active s h
    obtain ⟨v, ⟨_, _, _, _, x, hx, rfl⟩, hjudge⟩ := judging_corrected (advanceTo s T) heard key
      (ftAverage (s.ring.seen.filterMap (fun x => x.dev))) n k (valid && full) h
    rw [hend, hjudge, roundState_quiet _ _ _ _ (by exact h) (by exact hforeign) (if_neg (by omega)) (by exact hcold)]
    refine ⟨h, rfl, rfl, rfl, ?_⟩
    show (advanceTo s T).lanes = (advanceTo s x.now).lanes
    rw [hx, advanceTo_now, advanceTo_max_lanes]
  · refine ⟨_, rfl, ?_⟩
    obtain ⟨T, heard, key, n, k, valid, full, hend⟩ := roundEnd_active s h
    rw [hend]
    obtain ⟨v, hv, hjudge⟩ := judging_corrected (advanceTo s T) heard key
      (ftAverage (s.ring.seen.filterMap (fun x => x.dev))) n k (valid && full) h
    have hstate : ((advanceTo s T).judging heard key (ftAverage (s.ring.seen.filterMap (fun x => x.dev))) n k
        (valid && full)).ring.state = .active := by
      rw [hjudge]
      obtain ⟨_, _, _, _, x, hx, rfl⟩ := hv
      exact h
    have hoffset := limited_judging (advanceTo s T) heard key (ftAverage (s.ring.seen.filterMap (fun x => x.dev))) n k (valid && full) h
    rw [closing_time]
    have hjudged := limited_roundState (off := ftAverage (s.ring.seen.filterMap (fun x => x.dev))) (valid := valid) (full := full)
      hoffset hstate
    obtain ⟨hslew, hprev, hrc⟩ := hjudged
    rw [show (advanceTo s T).time.rc = s.time.rc from rfl] at hrc
    exact ⟨hslew, hprev, fun hhi hlo => hrc ⟨hhi, hlo⟩⟩

/-- Settles O40: what a round's end does, and that as many wrong clocks as the average drops cannot move it. -/
theorem roundEndsCorrectTheTime : Obligations.RoundEndsCorrectTheTime := ⟨roundEndCorrects, averagesIgnoreWrongClocks⟩

end Sys2Proof.Machine
end

section
/-! How a request of the dictionary is let in and carried out (17 R441 to R449). -/

namespace Sys2Proof.Machine

open Sys2Proof

/-! ## What letting a request in changes (17 R441 to R443, checks 1 to 4) -/

/-- A state that differs at most in what the arrival of a request changes: the counts of its carrier, the requests in flight, and the times of a
client's binding, session and freeze. -/
def State.LetIn (s t : State) : Prop :=
  ∃ j n b f a h, t = { s with
    jreg := j, host := { s.host with pending := n }, dict := { s.dict with bindings := b, inFlight := f },
    priv := { s.priv with lastAt := a }, recorder := { s.recorder with holdAt := h } }

namespace State.LetIn

variable {s t u : State}

theorem refl (s : State) : s.LetIn s := ⟨_, _, _, _, _, _, rfl⟩

theorem trans (h : s.LetIn t) (h' : t.LetIn u) : s.LetIn u := by
  obtain ⟨_, _, _, _, _, _, rfl⟩ := h
  obtain ⟨_, _, _, _, _, _, rfl⟩ := h'
  exact ⟨_, _, _, _, _, _, rfl⟩

theorem jset (s : State) (i j v : Nat) : s.LetIn (jset s i j v) := ⟨_, _, _, _, _, _, rfl⟩

theorem modBinding (s : State) (r : Sender) (f : Binding → Binding) : s.LetIn (s.modBinding r f) := ⟨_, _, _, _, _, _, rfl⟩

theorem hearClient (s : State) (r : Sender) : s.LetIn (hearClient s r) := by
  have hbind : s.LetIn (if (Store.find? s.dict.bindings r.client).isSome then s.modBinding r (fun b => { b with at_ := s.time.now }) else s) := by
    split
    · exact modBinding s r _
    · exact refl s
  unfold Machine.hearClient
  refine hbind.trans ?_
  dsimp only
  generalize (if (Store.find? s.dict.bindings r.client).isSome then s.modBinding r (fun b => { b with at_ := s.time.now }) else s) = u
  split
  · split
    · exact ⟨_, _, _, _, _, _, rfl⟩
    · exact ⟨_, _, _, _, _, _, rfl⟩
  · split
    · exact ⟨_, _, _, _, _, _, rfl⟩
    · exact refl u

theorem bindClient (s : State) (r : Sender) : s.LetIn (bindClient s r) := (modBinding s r _).trans (hearClient _ _)

theorem countPending (s : State) (r : Sender) : s.LetIn (countPending s r) := by
  unfold Machine.countPending
  split
  · exact ⟨_, _, _, _, _, _, rfl⟩
  · exact refl s

end State.LetIn

/-! ## The carrier (17 R443) -/

/-- What a carrier that passes a request on leaves: the frame counted at an ECN port, and nothing else. -/
theorem carrierTakes_passes (s : State) (r : Sender) (h : (carrierTakes s r).2 = true) :
    (carrierTakes s r).1 = if r.path = .ecn then jbump s (ecnIndex r.carrier) 9 else s := by
  unfold carrierTakes at h ⊢
  cases hb : s.booted with
  | false => simp [hb] at h
  | true =>
    cases hp : r.path with
    | host =>
      simp only [hb, hp, Bool.not_true, Bool.false_eq_true, if_false] at h ⊢
      split at h
      · cases h
      · split at h
        · cases h
        · rename_i h1 h2
          rw [if_neg h1, if_neg h2]
          rfl
    | can => simp
    | ecn =>
      simp only [hb, hp, Bool.not_true, Bool.false_eq_true, if_false] at h ⊢
      split at h
      · cases h
      · split at h
        · cases h
        · rename_i h1 h2
          rw [if_neg h1, if_neg h2]
          rfl
    | ring =>
      simp only [hb, hp, Bool.not_true, Bool.false_eq_true, if_false] at h ⊢
      split at h
      · cases h
      · split at h
        · cases h
        · rename_i h1 h2
          rw [if_neg h1, if_neg h2]
          rfl

/-! ## The server's first checks (17 R441, R442, R451, R452) -/

/-- A request that the server lets in: the module is not failing, the client is its binding's, and the request is in flight. -/
theorem admitRequest_passes (s : State) (q : Request) (h : (admitRequest s q).2 = true) :
    s.power.pfw = false ∧ clientCode s q.sender = 0 ∧
    (admitRequest s q).1 = (let u := countPending (hearClient s q.sender) q.sender
      { u with dict := { u.dict with inFlight := u.dict.inFlight ++ [(q.sender.client, q.sender.txn)] } }) := by
  unfold admitRequest at h ⊢
  dsimp only at h ⊢
  cases hp : s.power.pfw with
  | true => simp [hp] at h
  | false =>
    simp only [hp, Bool.false_eq_true, if_false] at h ⊢
    by_cases hc : clientCode s q.sender = 0
    · refine ⟨trivial, hc, ?_⟩
      simp only [hc, ne_eq, not_true_eq_false, if_false, if_true] at h ⊢
      split at h
      · cases h
      · rename_i h1
        rw [if_neg h1]
        split at h
        · split at h <;> cases h
        · rename_i h2
          split at h
          · cases h
          · rename_i h3
            rw [if_neg h3]
    · simp [hc] at h

/-! ## The request let in -/

variable {s : State} {q : Request} {t : Target} {x : Payload}

theorem letIn_carrier (h : (carrierTakes s q.sender).2 = true) : s.LetIn (carrierTakes s q.sender).1 := by
  rw [carrierTakes_passes s _ h]
  split
  · exact .jset s _ _ _
  · exact .refl s

theorem letIn_admitted (h : s.admits q) : s.LetIn (s.admitted q) := by
  obtain ⟨hc, ha⟩ := h
  obtain ⟨-, -, heq⟩ := admitRequest_passes _ _ ha
  refine (letIn_carrier hc).trans ?_
  unfold State.admitted
  rw [heq]
  exact (State.LetIn.hearClient _ _).trans ((State.LetIn.countPending _ _).trans ⟨_, _, _, _, _, _, rfl⟩)

/-- The code of check 2 by the binding that stands (17 R442). -/
theorem clientCode_eq (s : State) (r : Sender) : clientCode s r =
    if !clientAllowed r then 0x0A110002
    else if (Store.find? s.dict.bindings r.client).all (fun b => b.fits r) then 0 else 0x0A110003 := by
  unfold clientCode
  cases Store.find? s.dict.bindings r.client with
  | none => simp
  | some b => simp

/-- A client that is heard keeps the source of its binding. -/
theorem find?_hearClient (s : State) (r : Sender) : Store.find? (hearClient s r).dict.bindings r.client =
    (Store.find? s.dict.bindings r.client).map (fun b => { b with at_ := s.time.now }) := by
  have hdict : (hearClient s r).dict = (if (Store.find? s.dict.bindings r.client).isSome
      then s.modBinding r (fun b => { b with at_ := s.time.now }) else s).dict := by
    unfold hearClient
    dsimp only
    generalize (if (Store.find? s.dict.bindings r.client).isSome then s.modBinding r (fun b => { b with at_ := s.time.now }) else s) = u
    split <;> split <;> rfl
  rw [hdict]
  cases hb : Store.find? s.dict.bindings r.client with
  | none => simp [hb]
  | some b =>
    simp only [Option.isSome_some, if_true, Option.map_some, State.modBinding, State.bindingOf, hb, Option.getD_some]
    exact Store.find?_insert_self ..

/-- A client that is heard passes check 2 as before. -/
theorem clientCode_hearClient (s : State) (r : Sender) : clientCode (hearClient s r) r = clientCode s r := by
  rw [clientCode_eq, clientCode_eq, find?_hearClient]
  cases Store.find? s.dict.bindings r.client <;> rfl

theorem countPending_dict (s : State) (r : Sender) : (countPending s r).dict = s.dict := by
  unfold countPending
  split <;> rfl

/-- Check 2 depends on the bindings alone. -/
theorem clientCode_congr {s u : State} (h : u.dict.bindings = s.dict.bindings) (r : Sender) : clientCode u r = clientCode s r := by
  rw [clientCode_eq, clientCode_eq, h]

theorem tickEnd_bindings (s : State) : s.tickEnd.dict.bindings = s.dict.bindings := by
  show (startDistribution (advanceTo s _)).dict.bindings = _
  unfold startDistribution
  split <;> rfl

theorem tickEnd_power (s : State) : s.tickEnd.power = s.power := by
  show (startDistribution (advanceTo s _)).power = _
  unfold startDistribution
  split <;> rfl

/-- The request let in passes checks 1 and 2 at its turn as well (17 R448). -/
theorem admitted_clientCode (h : s.admits q) : clientCode (s.admitted q).tickEnd q.sender = 0 := by
  obtain ⟨-, hc, heq⟩ := admitRequest_passes _ _ h.2
  rw [clientCode_congr (tickEnd_bindings _), ← hc, ← clientCode_hearClient (carrierTakes s q.sender).1]
  refine clientCode_congr ?_ _
  unfold State.admitted
  rw [heq]
  dsimp only
  rw [countPending_dict]

theorem admitted_pfw (h : s.admits q) : (s.admitted q).tickEnd.power.pfw = false := by
  obtain ⟨hp, -, -⟩ := admitRequest_passes _ _ h.2
  rw [tickEnd_power]
  obtain ⟨_, _, _, _, _, _, heq⟩ := letIn_admitted h
  obtain ⟨_, _, _, _, _, _, heq'⟩ := letIn_carrier h.1
  rw [heq'] at hp
  rw [heq]
  exact hp

/-- A tick with one request alone. -/
theorem tickOrder_singleton (q : Request) (x : Payload) : tickOrder [(q, x)] = [(q, x)] := by
  unfold tickOrder arrivedOn
  cases h : q.sender.path <;> simp [h]

/-- The request of a command that is the only one of its tick is carried out at the tick's end (17 R448). -/
theorem immediate_takes (h : s.takes q) (x : Payload) : immediate s q x = execute (s.admitted q).tickEnd q x := by
  obtain ⟨⟨hc, ha⟩, harr⟩ := h
  have hadm : admitRequest (carrierTakes s q.sender).1 q = (s.admitted q, true) := by rw [← ha]; rfl
  have hcar : carrierTakes s q.sender = ((carrierTakes s q.sender).1, true) := by rw [← hc]
  have harr' : (startDistribution (advanceTo (s.admitted q) (((s.admitted q).time.now / 1000 + 1) * 1000))).dict.arrived = [] := by
    obtain ⟨_, _, _, _, _, _, heq⟩ := letIn_admitted ⟨hc, ha⟩
    rw [heq]
    unfold startDistribution
    split <;> exact harr
  unfold immediate
  rw [hcar]
  dsimp only
  rw [hadm]
  dsimp only [runTick]
  rw [harr', List.map_nil, List.nil_append, tickOrder_singleton]
  rfl

/-- A request let in reaches check 5 at its turn. -/
theorem execute_admitted (h : s.admits q) (x : Payload) : execute (s.admitted q).tickEnd q x =
    match resolve (s.taken q) q.index q.sub with
    | .error e => finish (s.taken q) q (.error e)
    | .ok t => if q.op = 1 ∨ q.op = 3 then executeRead (s.taken q) q t else executeWrite (s.taken q) q x t := by
  unfold execute
  rw [admitted_pfw h, admitted_clientCode h]
  rfl

theorem immediate_resolves (h : s.takes q) (hr : resolve (s.taken q) q.index q.sub = .ok t) (x : Payload) : immediate s q x =
    if q.op = 1 ∨ q.op = 3 then executeRead (s.taken q) q t else executeWrite (s.taken q) q x t := by
  rw [immediate_takes h, execute_admitted h.1, hr]

/-! ## Reads and writes that pass the checks of Table 17-6 -/

theorem immediate_readable (h : s.readable q t) (x : Payload) : immediate s q x =
    finish (readTarget (s.taken q) q.sender t q.index q.sub).1 q (readTarget (s.taken q) q.sender t q.index q.sub).2 := by
  obtain ⟨htake, hop, hr, hacc, htyp⟩ := h
  rw [immediate_resolves htake hr, if_pos (Or.inl hop), executeRead, hacc, hop]
  simp [htyp]

theorem immediate_reaches (h : s.reaches q t) (x : Payload) : immediate s q x = judgeWrite (s.taken q) q x t q.data := by
  obtain ⟨htake, hop, hr, hacc, htyp, hlen, -⟩ := h
  rw [immediate_resolves htake hr, if_neg (by rw [hop]; decide), executeWrite, hacc, hop]
  simp [htyp, hlen]

/-- A write that passes the state rule, its access class, its value rule and the change log. -/
theorem judgeWrite_passes {u : State} {d : Bytes} (hrule : stateRule u q.sender t q.index q.sub d = true)
    (hallow : u.allowed q.sender (accessOf t q.index q.sub)) (hval : valueRule u q.sender t q.index q.sub d = 0)
    (hlog : accessOf t q.index q.sub = .rwP → logRoom u (logNeed u q.index q.sub) = true) (x : Payload) :
    judgeWrite u q x t d = if timingEntry q.index q.sub then holdWrite u q t d else carryOut u q x t d u.tickNo := by
  obtain ⟨hs, hp⟩ := hallow
  have hS : ¬ (accessOf t q.index q.sub = .rwS ∧ u.unsealed = false) := fun ⟨ha, hu⟩ => by rw [hs ha] at hu; cases hu
  have hP : ¬ (accessOf t q.index q.sub = .rwP ∧ u.holds q.sender = false) := fun ⟨ha, hu⟩ => by rw [hp ha] at hu; cases hu
  have hL : ¬ (accessOf t q.index q.sub = .rwP ∧ logRoom u (logNeed u q.index q.sub) = false) :=
    fun ⟨ha, hu⟩ => by rw [hlog ha] at hu; cases hu
  unfold judgeWrite
  dsimp only
  rw [hrule, if_neg (by decide), if_neg hS, if_neg hP, hval, if_neg (by decide), if_neg hL]

theorem judgeWrite_writable (h : s.writable q t) (x : Payload) : judgeWrite (s.taken q) q x t q.data =
    if timingEntry q.index q.sub then holdWrite (s.taken q) q t q.data else carryOut (s.taken q) q x t q.data (s.taken q).tickNo := by
  obtain ⟨⟨-, -, -, -, -, -, hrule⟩, hallow, hval, hlog⟩ := h
  exact judgeWrite_passes hrule hallow hval hlog x

/-- A write that every check lets pass is carried out, or held for the Gauge (12 R341). -/
theorem immediate_writable (h : s.writable q t) (x : Payload) : immediate s q x =
    if timingEntry q.index q.sub then holdWrite (s.taken q) q t q.data else carryOut (s.taken q) q x t q.data (s.taken q).tickNo := by
  rw [immediate_reaches h.1, judgeWrite_writable h]

end Sys2Proof.Machine
end

section
/-! The answer of a request on its path, and what a refused write leaves as it was (17 R443, R449, R450). -/

namespace Sys2Proof.Machine

open Sys2Proof

/-! ## What an answer on its path changes -/

/-- Registers of class J that a frame on its way out counts in: those of the crossings, the ECN ports and the ring. -/
def countsFrames (i : Nat) : Prop := (0x2210 ≤ i ∧ i ≤ 0x2239) ∨ (0x4100 ≤ i ∧ i ≤ 0x4101) ∨ i = 0x4220

/-- A state that differs at most in what an answer sent changes: the queues of the host link, the ECN ports and the ring, the SDO channels, the
crossings, the wires, and the registers that count frames. -/
def State.Sent (s t : State) : Prop :=
  (∃ j c k w h a b g d e f m, t = { s with
    jreg := j, crossings := c, free := k, wires := w, host := h, ecn0 := a, ecn1 := b, ring := g
    dict := { s.dict with sdo := d, captures := e, arrived := f, inFlight := m } }) ∧
  ∀ i sub, sub < 256 → ¬ countsFrames i → jget t i sub = jget s i sub

namespace State.Sent

variable {s t u : State}

theorem refl (s : State) : s.Sent s := ⟨⟨_, _, _, _, _, _, _, _, _, _, _, _, rfl⟩, fun _ _ _ _ => rfl⟩

theorem trans (h : s.Sent t) (h' : t.Sent u) : s.Sent u := by
  obtain ⟨⟨_, _, _, _, _, _, _, _, _, _, _, _, ht⟩, hj⟩ := h
  obtain ⟨⟨_, _, _, _, _, _, _, _, _, _, _, _, rfl⟩, hj'⟩ := h'
  subst ht
  exact ⟨⟨_, _, _, _, _, _, _, _, _, _, _, _, rfl⟩, fun i sub hs hi => (hj' i sub hs hi).trans (hj i sub hs hi)⟩

theorem jset (s : State) (i j v : Nat) (hi : countsFrames i) (hj : j < 256) : s.Sent (jset s i j v) :=
  ⟨⟨_, _, _, _, _, _, _, _, _, _, _, _, rfl⟩, fun _ _ hs hi' => jget_jset_other _ _ _ _ _ _ (regKey_ne hs hj (fun h => hi' (h ▸ hi)))⟩

theorem emit (s : State) (w : Wire) : s.Sent (s.emit w) := ⟨⟨_, _, _, _, _, _, _, _, _, _, _, _, rfl⟩, fun _ _ _ _ => rfl⟩

theorem modEcn (s : State) (p : Nat) (f : Ecn → Ecn) : s.Sent (s.modEcn p f) := by
  unfold State.modEcn
  split <;> exact ⟨⟨_, _, _, _, _, _, _, _, _, _, _, _, rfl⟩, fun _ _ _ _ => rfl⟩

theorem modRing (s : State) (f : Ring → Ring) : s.Sent (s.modRing f) := ⟨⟨_, _, _, _, _, _, _, _, _, _, _, _, rfl⟩, fun _ _ _ _ => rfl⟩

theorem modPort (s : State) (p : RingPort) (f : RingPortState → RingPortState) : s.Sent (s.modPort p f) := by
  cases p <;> exact ⟨⟨_, _, _, _, _, _, _, _, _, _, _, _, rfl⟩, fun _ _ _ _ => rfl⟩

theorem crossed {x : Nat} (hx : x ≤ 41) (h : State.Crossed x s t) : s.Sent t := by
  obtain ⟨⟨_, _, _, rfl⟩, hj⟩ := h
  refine ⟨⟨_, _, _, _, _, _, _, _, _, _, _, _, rfl⟩, fun i sub hs hi => hj i sub hs ?_⟩
  rintro rfl
  exact hi (Or.inl ⟨by unfold crossingIndex; omega, by unfold crossingIndex; omega⟩)

theorem transmit (s : State) {x : Nat} (hx : x ≤ 41) (n : Nat) (w : Wire) : s.Sent (transmit s x n w) :=
  carry_keeps (P := s.Sent) (refl s) (fun _ _ h ha => ha.trans (crossed hx h)) (fun _ ha => ha) (fun _ ha => ha.trans (emit _ _))

theorem dropSdo (s : State) (ch : Nat) : s.Sent (dropSdo s ch) := ⟨⟨_, _, _, _, _, _, _, _, _, _, _, _, rfl⟩, fun _ _ _ _ => rfl⟩

theorem keepSdo (s : State) (ch : Nat) (x : SdoXfer) : s.Sent (keepSdo s ch x) := ⟨⟨_, _, _, _, _, _, _, _, _, _, _, _, rfl⟩, fun _ _ _ _ => rfl⟩

theorem sdoSend (s : State) (ch : Nat) (b : Bytes) : s.Sent (sdoSend s ch b) := transmit s (by decide) _ _

theorem sdoUploaded (s : State) (ch : Nat) (x : SdoXfer) (v : Bytes) : s.Sent (sdoUploaded s ch x v) := by
  unfold Machine.sdoUploaded
  dsimp only
  split
  · exact (keepSdo s _ _).trans (sdoSend _ _ _)
  · split
    · exact (dropSdo s _).trans (sdoSend _ _ _)
    · exact (keepSdo s _ _).trans (sdoSend _ _ _)

theorem sdoAnswer (s : State) (r : Sender) (b : Bytes) : s.Sent (sdoAnswer s r b) := by
  unfold Machine.sdoAnswer
  split
  · split
    · exact refl s
    · split
      · exact (dropSdo s _).trans (sdoSend _ _ _)
      · split
        · exact sdoUploaded _ _ _ _
        · exact (dropSdo s _).trans (sdoSend _ _ _)
  · exact refl s

theorem ecnSend (s : State) (p cls len : Nat) (ip : Bool) (w : Wire) : s.Sent (ecnSend s p cls len ip w) :=
  (modEcn s p _).trans (transmit _ (by decide) _ _)

theorem sendDatagram (s : State) (p ip src dst : Nat) (d : Bytes) : s.Sent (sendDatagram s p ip src dst d) := by
  unfold Machine.sendDatagram
  dsimp only
  split
  · exact ecnSend s _ _ _ _ _
  · exact (modEcn s p _).trans (ecnSend _ _ _ _ _ _)

theorem queueBest (s : State) (p : RingPort) (f : RFrame) : s.Sent (queueBest s p f) := by
  unfold Machine.queueBest
  split
  · exact modPort s _ _
  · exact jset s _ _ _ (Or.inr (Or.inr rfl)) (by cases p <;> decide)

theorem sendOverRing (s : State) (ip port : Nat) (d : Bytes) : s.Sent (sendOverRing s ip port d) := by
  unfold Machine.sendOverRing
  split
  · exact refl s
  · exact queueBest s _ _

/-- A response on its path. -/
theorem sendResponse (s : State) (r : Sender) (b : Bytes) : s.Sent (sendResponse s r b) := by
  unfold Machine.sendResponse
  split
  · exact ⟨⟨_, _, _, _, _, _, _, _, _, _, _, _, rfl⟩, fun _ _ _ _ => rfl⟩
  · exact sdoAnswer s _ _
  · split
    · exact sendDatagram s _ _ _ _ _
    · exact refl s
  · exact sendOverRing s _ _ _

end State.Sent

/-! ## What the history of writes and of responses changes (17 R450, R452) -/

/-- A state that differs at most in the histories of the dictionary and its count 1E00.06 of superseded writes. -/
def State.Noted (s t : State) : Prop :=
  (∃ j h k f d, t = { s with jreg := j, dict := { s.dict with history := h, tick := k, inFlight := f, dups := d } }) ∧
  ∀ i sub, regKey i sub ≠ regKey 0x1E00 6 → jget t i sub = jget s i sub

namespace State.Noted

variable {s t u : State}

theorem refl (s : State) : s.Noted s := ⟨⟨_, _, _, _, _, rfl⟩, fun _ _ _ => rfl⟩

theorem trans (h : s.Noted t) (h' : t.Noted u) : s.Noted u := by
  obtain ⟨⟨_, _, _, _, _, ht⟩, hj⟩ := h
  obtain ⟨⟨_, _, _, _, _, rfl⟩, hj'⟩ := h'
  subst ht
  exact ⟨⟨_, _, _, _, _, rfl⟩, fun i sub hi => (hj' i sub hi).trans (hj i sub hi)⟩

theorem superseded (s : State) (n : Nat) : s.Noted (jadd s 0x1E00 6 n) :=
  ⟨⟨_, _, _, _, _, rfl⟩, fun _ _ hi => jget_jset_other _ _ _ _ _ _ hi⟩

theorem noteHistory (s : State) (q : Request) (t : Target) (d : Bytes) (abort tick : Nat) : s.Noted (noteHistory s q t d abort tick) := by
  unfold Machine.noteHistory
  dsimp only
  split
  · exact trans ⟨⟨_, _, _, _, _, rfl⟩, fun _ _ _ => rfl⟩ (superseded _ _)
  · exact refl s
  · exact refl s
  · exact trans ⟨⟨_, _, _, _, _, rfl⟩, fun _ _ _ => rfl⟩ (superseded _ _)

theorem landed (s : State) (q : Request) : s.Noted (landed s q) := ⟨⟨_, _, _, _, _, rfl⟩, fun _ _ _ => rfl⟩

theorem keepResponse (s : State) (q : Request) (b : Bytes) : s.Noted (keepResponse s q b) := ⟨⟨_, _, _, _, _, rfl⟩, fun _ _ _ => rfl⟩

end State.Noted

/-- The state in which a finished request is answered: it has landed, and its response is kept for a repeat (17 R452). -/
def answering (s : State) (q : Request) (o : Except Nat Bytes) : State :=
  let u := landed s q
  let busy := match o with
    | .error c => decide (c = 0x0A110001)
    | .ok _ => false
  if (Store.find? u.dict.bindings q.sender.client).isSome && decide (q.sender.path ≠ .can) && !busy then keepResponse u q (outcomeBody q o) else u

theorem finish_eq (s : State) (q : Request) (o : Except Nat Bytes) : finish s q o = sendResponse (answering s q o) q.sender (outcomeBody q o) := rfl

theorem noted_answering (s : State) (q : Request) (o : Except Nat Bytes) : s.Noted (answering s q o) := by
  unfold answering
  dsimp only
  generalize (match o with
    | .error c => decide (c = 0x0A110001)
    | .ok _ => false) = busy
  split
  · exact (State.Noted.landed s q).trans (.keepResponse _ _ _)
  · exact .landed s q

/-- A response as its path carries it. -/
theorem sendResponse_answered (v : State) (r : Sender) (b : Bytes) : sendResponse v r b = Parts.answered v r b := by
  unfold sendResponse Parts.answered
  cases r.path with
  | host => rfl
  | can => rfl
  | ecn =>
    simp only [Bool.and_eq_true, decide_eq_true_eq, Nat.lt_one_iff]
  | ring =>
    simp only [sendOverRing]
    by_cases h : v.power.stage = 0
    · rw [if_neg (by omega), if_pos h]
    · rw [if_pos (by omega), if_neg h]

/-! ## A refused write (17 R449, 13 R355) -/

/-- The entry 8010.01, which opens the session: a write-only octet string of class J. -/
theorem entry_openSession : (entry? 0x8010 1).any (fun e => decide (e.acc = .wo) && decide (e.typ = .oct 32) && decide (e.cls = .j)) = true := by
  decide +kernel

theorem resolve_openSession {s : State} {t : Target} (h : resolve s 0x8010 1 = .ok t) :
    ∃ e, t = .row e ∧ e.acc = .wo ∧ e.typ = .oct 32 ∧ e.cls = .j := by
  have hentry := entry_openSession
  cases he : entry? 0x8010 1 with
  | none => simp [he] at hentry
  | some e =>
    simp only [he, Option.any_some, Bool.and_eq_true, decide_eq_true_eq] at hentry
    simp only [resolve, he] at h
    simp only [Nat.reduceLeDiff, false_and, and_false, if_false] at h
    exact ⟨e, (Except.ok.inj h).symm, hentry.1.1, hentry.1.2, hentry.2⟩

theorem accessOf_openSession {s : State} {t : Target} (h : resolve s 0x8010 1 = .ok t) : accessOf t 0x8010 1 = .wo := by
  obtain ⟨e, rfl, hacc, -, -⟩ := resolve_openSession h
  exact hacc

/-- What a write that reaches the value rule of 8010.01 is judged by (13 Table 13-4). -/
theorem valueRule_openSession {s : State} {t : Target} (h : resolve s 0x8010 1 = .ok t) (u : State) (r : Sender) (d : Bytes) :
    valueRule u r t 0x8010 1 d = openOutcome u r d := by
  obtain ⟨e, rfl, -, htyp, -⟩ := resolve_openSession h
  have hrange : rangeOk (.row e) d = true := by
    unfold rangeOk
    simp only [Target.typ, htyp]
  unfold valueRule
  rw [hrange]
  rfl

section Untouched

variable {a b c : State} {r : Sender}

theorem untouched_trans (h : Parts.untouched a b r) (h' : Parts.untouched b c r) : Parts.untouched a c r := by
  obtain ⟨h1, h2, h3, h4, h5, h6, h7, h8, h9, h10, hj⟩ := h
  obtain ⟨g1, g2, g3, g4, g5, g6, g7, g8, g9, g10, hj'⟩ := h'
  exact ⟨g1.trans h1, g2.trans h2, g3.trans h3, g4.trans h4, g5.trans h5, g6.trans h6, g7.trans h7, g8.trans h8, g9.trans h9, g10.trans h10,
    fun i j hlt hne hne' hp => (hj' i j hlt hne hne' hp).trans (hj i j hlt hne hne' hp)⟩

theorem untouched_noted (h : a.Noted b) : Parts.untouched a b r := by
  obtain ⟨⟨_, _, _, _, _, rfl⟩, hj⟩ := h
  exact ⟨rfl, rfl, rfl, rfl, rfl, rfl, rfl, rfl, rfl, rfl, fun i j _ hne _ _ => hj i j hne⟩

theorem untouched_sendResponse (a : State) (r : Sender) (b : Bytes) : Parts.untouched a (sendResponse a r b) r := by
  by_cases hp : r.path = .host
  · have hh : sendResponse a r b = { a with host := { a.host with queue := a.host.queue ++ [b] } } := by
      unfold sendResponse
      rw [hp]
    rw [hh]
    exact ⟨rfl, rfl, rfl, rfl, rfl, rfl, rfl, rfl, rfl, rfl, fun _ _ _ _ _ _ => rfl⟩
  · obtain ⟨⟨_, _, _, _, _, _, _, _, _, _, _, _, hs⟩, hj⟩ := State.Sent.sendResponse a r b
    rw [hs] at hj ⊢
    exact ⟨rfl, rfl, rfl, rfl, rfl, rfl, rfl, rfl, rfl, rfl, fun i j hlt _ _ hor => hj i j hlt (hor.resolve_left hp)⟩

theorem untouched_record (a : State) (source type : Nat) (b : Bytes) (r : Sender) : Parts.untouched a (record a source type b) r :=
  ⟨record_forces .., record_batchIn .., record_cfg .., record_change .., record_keys .., record_mode .., record_lanes .., record_power ..,
    record_time .., record_log .., fun _ _ _ _ hne _ => jget_record_other _ _ _ _ _ _ hne⟩

/-- A failed attempt to open the session leaves its record and the count of failures (13 R355, R356). -/
theorem untouched_openAttempt (a : State) (r : Sender) (d : Bytes) (h : openOutcome a r d ≠ 0) : Parts.untouched a (openAttempt a r d) r := by
  unfold openAttempt
  dsimp only
  rw [if_neg h]
  split
  · exact untouched_record _ _ _ _ _
  · exact untouched_record _ _ _ _ _

end Untouched

/-- The session after a failed attempt: its holder as before, and a wrong password counted. -/
theorem openAttempt_priv (s : State) (r : Sender) (d : Bytes) (h : openOutcome s r d ≠ 0) :
    (openAttempt s r d).priv.holder = s.priv.holder ∧
    (openOutcome s r d = 0x0A120007 → (openAttempt s r d).priv.fails = s.priv.failCount + 1) := by
  unfold openAttempt
  dsimp only
  rw [if_neg h]
  split
  · unfold countFailure recordSession
    rw [record_priv]
    exact ⟨rfl, fun _ => rfl⟩
  · rename_i hno
    unfold recordSession
    rw [record_priv]
    exact ⟨rfl, fun h7 => absurd (Or.inr h7) hno⟩

theorem finish_priv (s : State) (q : Request) (o : Except Nat Bytes) : (finish s q o).priv = s.priv := by
  obtain ⟨⟨_, _, _, _, _, _, _, _, _, _, _, _, hs⟩, -⟩ := State.Sent.sendResponse (answering s q o) q.sender (outcomeBody q o)
  obtain ⟨⟨_, _, _, _, _, hn⟩, -⟩ := noted_answering s q o
  rw [finish_eq, hs, hn]

theorem noteHistory_priv (s : State) (q : Request) (t : Target) (d : Bytes) (abort tick : Nat) :
    (noteHistory s q t d abort tick).priv = s.priv := by
  obtain ⟨⟨_, _, _, _, _, hn⟩, -⟩ := State.Noted.noteHistory s q t d abort tick
  rw [hn]

theorem untouched_finish (s : State) (q : Request) (o : Except Nat Bytes) : Parts.untouched s (finish s q o) q.sender :=
  untouched_trans (untouched_noted (noted_answering s q o)) (untouched_sendResponse _ _ _)

/-- A write of another entry than 8010.01 refused. -/
theorem refuse_other (s : State) (q : Request) (t : Target) (d : Bytes) (code : Nat) (h : ¬ (q.index = 0x8010 ∧ q.sub = 1)) :
    refuse s q t d code = finish (noteHistory s q t d code s.tickNo) q (.error code) := by
  unfold refuse
  rw [if_neg h]

theorem refuse_openSession (s : State) (q : Request) (t : Target) (d : Bytes) (code : Nat) (h : q.index = 0x8010 ∧ q.sub = 1) :
    refuse s q t d code =
      finish (noteHistory (openAttempt s q.sender d) q t d code (openAttempt s q.sender d).tickNo) q (.error code) := by
  unfold refuse
  rw [if_pos h]

/-- Settles O56: the checks of Table 17-6 refuse a sealed and an unprivileged write, and a refused write touches the histories and its answer's
path alone. -/
theorem guardedWritesAreRefused : Obligations.GuardedWritesAreRefused := by
  unfold Obligations.GuardedWritesAreRefused
  intro s r index sub d t
  dsimp only
  intro hreach
  have hres := hreach.2.2.1
  have hrule := hreach.2.2.2.2.2.2
  refine ⟨fun code hcode => ?_, fun hi hs hopen => ?_⟩
  · have hother : ¬ ((writeReq r index sub d).index = 0x8010 ∧ (writeReq r index sub d).sub = 1) := by
      rintro ⟨hi, hs⟩
      rw [hi, hs] at hres
      have hacc := accessOf_openSession hres
      obtain rfl : index = 0x8010 := hi
      obtain rfl : sub = 1 := hs
      rcases hcode with ⟨h, -⟩ | ⟨h, -⟩ <;> rw [hacc] at h <;> cases h
    have hjudge : judgeWrite (s.taken (writeReq r index sub d)) (writeReq r index sub d) .plain t d =
        refuse (s.taken (writeReq r index sub d)) (writeReq r index sub d) t d code := by
      unfold judgeWrite
      dsimp only
      have hr : stateRule (s.taken (writeReq r index sub d)) (writeReq r index sub d).sender t (writeReq r index sub d).index
        (writeReq r index sub d).sub d = true := hrule
      rw [hr, if_neg (by decide)]
      rcases hcode with ⟨hacc, hu, rfl⟩ | ⟨hacc, hh, rfl⟩
      · exact if_pos ⟨hacc, hu⟩
      · exact (if_neg (fun h => by rw [show accessOf t (writeReq r index sub d).index (writeReq r index sub d).sub = _ from hacc] at h; cases h.1)).trans
          (if_pos ⟨hacc, hh⟩)
    refine ⟨congrArg Host.Outcome.next ((immediate_reaches hreach .plain).trans hjudge), ?_⟩
    generalize s.taken (writeReq r index sub d) = u
    rw [refuse_other u _ t d code hother]
    refine ⟨untouched_trans (untouched_noted (.noteHistory ..)) (untouched_finish ..), by rw [finish_priv, noteHistory_priv], ?_⟩
    refine ⟨_, (finish_eq ..).trans (sendResponse_answered ..), ?_⟩
    obtain ⟨⟨_, _, _, _, _, hn⟩, -⟩ := (State.Noted.noteHistory u (writeReq r index sub d) t d code u.tickNo).trans
      (noted_answering _ (writeReq r index sub d) (.error code))
    rw [hn]
    exact ⟨rfl, rfl, rfl, rfl, rfl, rfl, rfl⟩
  · subst hi hs
    have hacc := accessOf_openSession hres
    have hjudge : judgeWrite (s.taken (writeReq r 0x8010 1 d)) (writeReq r 0x8010 1 d) .plain t d =
        refuse (s.taken (writeReq r 0x8010 1 d)) (writeReq r 0x8010 1 d) t d (openOutcome (s.taken (writeReq r 0x8010 1 d)) r d) := by
      have hr : stateRule (s.taken (writeReq r 0x8010 1 d)) (writeReq r 0x8010 1 d).sender t (writeReq r 0x8010 1 d).index
        (writeReq r 0x8010 1 d).sub d = true := hrule
      have ha : accessOf t (writeReq r 0x8010 1 d).index (writeReq r 0x8010 1 d).sub = .wo := hacc
      have hv : valueRule (s.taken (writeReq r 0x8010 1 d)) (writeReq r 0x8010 1 d).sender t (writeReq r 0x8010 1 d).index
        (writeReq r 0x8010 1 d).sub d = openOutcome (s.taken (writeReq r 0x8010 1 d)) r d := valueRule_openSession hres _ r d
      unfold judgeWrite
      dsimp only
      rw [hr, ha, hv, if_neg (by decide), if_neg (fun h => nomatch h.1), if_neg (fun h => nomatch h.1), if_pos hopen]
    refine ⟨congrArg Host.Outcome.next ((immediate_reaches hreach .plain).trans hjudge), ?_⟩
    generalize s.taken (writeReq r 0x8010 1 d) = u at hopen ⊢
    rw [refuse_openSession u _ t d _ ⟨rfl, rfl⟩, finish_priv, noteHistory_priv]
    obtain ⟨hholder, hfails⟩ := openAttempt_priv u r d hopen
    exact ⟨untouched_trans (untouched_openAttempt u r d hopen) (untouched_trans (untouched_noted (.noteHistory ..)) (untouched_finish ..)),
      hholder, hfails⟩

end Sys2Proof.Machine
end

section
/-! The verdict on a held write of the change command (12 R340, 06 R171). -/

namespace Sys2Proof.Machine

open Sys2Proof

/-- A module in RUN whose Gauge judges a write of 1 to 6800.03, the command that starts the admission of the delta it holds. -/
def heldCommand : State :=
  { State.reset with
    mode := .run2oo3
    cfg := { State.reset.cfg with gauge := some (.entry hostSender 0x6800 3 1 0) }
    change := { State.reset.change with delta := some (deltaFrom []) } }

/-- The write is carried out, and its effect begins an admission of its own. -/
theorem gaugeVerdict_heldCommand : (gaugeVerdict heldCommand).cfg.gauge = some .delta := by decide +kernel

/-- Refutes O59: the statement has the Gauge idle after the verdict on every held write, and carrying out a held write of the change command
starts the Gauge again. -/
theorem not_theGaugeJudges : ¬ Obligations.TheGaugeJudges := by
  unfold Obligations.TheGaugeJudges
  intro h
  obtain ⟨-, -, -, hentry, -⟩ := h heldCommand
  have hres : (match resolve heldCommand 0x6800 3 with | .ok _ => true | .error _ => false) = true := by decide +kernel
  cases ht : resolve heldCommand 0x6800 3 with
  | error e => rw [ht] at hres; cases hres
  | ok t =>
    obtain ⟨-, -, u, hu, hnone, -⟩ := hentry hostSender 0x6800 3 1 0 t rfl rfl ht
    obtain rfl : gaugeVerdict heldCommand = u := Host.Outcome.next.inj hu
    rw [gaugeVerdict_heldCommand] at hnone
    cases hnone

end Sys2Proof.Machine
end

section
/-! The commands that are writes of the dictionary (17 R443, R444, R448). -/

namespace Sys2Proof.Machine

open Sys2Proof

/-- A command that brings the request of a write is carried out as that write. -/
theorem carries_of_immediate {c : Instr} {q : Request} (h : ∀ s, exec c s = .next (immediate s q .plain)) : Parts.carries c q := by
  intro s t hw ht
  rw [h, immediate_writable hw, ht]
  rfl

/-- Settles O53: every command that writes a register brings the request of its entry, and a write that every check lets pass is carried out. -/
theorem writesAreCarriedOut : Obligations.WritesAreCarriedOut := by
  intro r d
  refine ⟨fun _ _ => ?_, ?_, ?_, fun _ => ?_, fun _ => ?_, ?_, ?_, ?_, fun _ => ⟨?_, ?_, ?_, ?_, ?_⟩, ?_, ?_, ?_, ?_, ?_, ?_, ?_, ?_, ?_, ?_, ?_,
    ?_, ?_, fun _ => ?_, ?_, ?_, ?_, ?_, fun _ => ⟨?_, ?_⟩, ?_, fun _ => ?_, ?_, ?_⟩
  all_goals exact carries_of_immediate fun _ => rfl

end Sys2Proof.Machine
end

section
/-! Accepted writes of class V and forces (17 R439, 06 R185, R186). -/

namespace Sys2Proof.Machine

open Sys2Proof

/-! ## What is written down of an accepted write (13 R354, R358, 17 R450) -/

/-- A state that differs at most in what is written down of a request: the histories of the dictionary, the recorder, the change log and their
counts. -/
def State.WrittenDown (s t : State) : Prop :=
  (∃ j rec log h k f d, t = { s with
    jreg := j, recorder := rec, log := log, dict := { s.dict with history := h, tick := k, inFlight := f, dups := d } }) ∧
  ∀ i sub, regKey i sub ∉ [regKey 0x1E00 6, regKey 0x7011 4, regKey 0x7200 2] → jget t i sub = jget s i sub

namespace State.WrittenDown

variable {s t u : State}

theorem refl (s : State) : s.WrittenDown s := ⟨⟨_, _, _, _, _, _, _, rfl⟩, fun _ _ _ => rfl⟩

theorem trans (h : s.WrittenDown t) (h' : t.WrittenDown u) : s.WrittenDown u := by
  obtain ⟨⟨_, _, _, _, _, _, _, ht⟩, hj⟩ := h
  obtain ⟨⟨_, _, _, _, _, _, _, rfl⟩, hj'⟩ := h'
  subst ht
  exact ⟨⟨_, _, _, _, _, _, _, rfl⟩, fun i sub hi => (hj' i sub hi).trans (hj i sub hi)⟩

theorem noted (h : s.Noted t) : s.WrittenDown t := by
  obtain ⟨⟨_, _, _, _, _, rfl⟩, hj⟩ := h
  exact ⟨⟨_, _, _, _, _, _, _, rfl⟩, fun i sub hi => hj i sub fun he => hi (by simp [he])⟩

theorem record (s : State) (source type : Nat) (b : Bytes) : s.WrittenDown (record s source type b) := by
  refine ⟨?_, fun i sub hi => jget_record_other _ _ _ _ _ _ fun he => hi (by simp [he])⟩
  obtain ⟨_, _, h⟩ := record_eq s source type b
  rw [h]
  exact ⟨_, _, _, _, _, _, _, rfl⟩

theorem jbumpUnlogged (s : State) : s.WrittenDown (jbump s 0x7200 2) :=
  ⟨⟨_, _, _, _, _, _, _, rfl⟩, fun _ _ hi => jget_jbump_other _ _ _ _ _ fun he => hi (by simp [he])⟩

theorem logEntry (s : State) (client path index sub kind : Nat) (old new : Bytes) :
    s.WrittenDown (logEntry s client path index sub kind old new) := by
  unfold Machine.logEntry
  split
  · exact ⟨⟨_, _, _, _, _, _, _, rfl⟩, fun _ _ _ => rfl⟩
  · exact (jbumpUnlogged s).trans (record _ _ _ _)

theorem logPrivileged (s : State) (r : Sender) (index sub : Nat) (old new : Bytes) : s.WrittenDown (logPrivileged s r index sub old new) := by
  unfold Machine.logPrivileged
  split
  · exact refl s
  · split
    · exact logEntry ..
    · split <;> exact logEntry ..

theorem noteWrite (s : State) (r : Sender) (t : Target) (index sub : Nat) (d : Bytes) : s.WrittenDown (noteWrite s r t index sub d) := by
  unfold Machine.noteWrite
  split
  · exact record ..
  · exact logPrivileged ..
  · exact refl s

end State.WrittenDown

/-- The state in which an accepted write takes effect: the write is in the history, and recorded or logged. -/
def writtenDown (s : State) (q : Request) (t : Target) (d : Bytes) (tick : Nat) : State :=
  noteWrite (noteHistory s q t d 0 tick) q.sender t q.index q.sub d

theorem writtenDown_of (s : State) (q : Request) (t : Target) (d : Bytes) (tick : Nat) : s.WrittenDown (writtenDown s q t d tick) :=
  (State.WrittenDown.noted (.noteHistory s q t d 0 tick)).trans (.noteWrite ..)

theorem carryOut_other (s : State) (q : Request) (x : Payload) (t : Target) (d : Bytes) (tick : Nat) (h : q.index ≠ 0x3007) :
    carryOut s q x t d tick = finish (writeEffect (writtenDown s q t d tick) q.sender x t q.index q.sub d) q (.ok []) := by
  unfold carryOut
  dsimp only
  rw [if_neg h]
  rfl

/-- What a request finished leaves to the next cycle start. -/
theorem finish_batch (s : State) (q : Request) (o : Except Nat Bytes) :
    (finish s q o).batchIn = s.batchIn ∧ (finish s q o).forces = s.forces := by
  obtain ⟨⟨_, _, _, _, _, _, _, _, _, _, _, _, hs⟩, -⟩ := State.Sent.sendResponse (answering s q o) q.sender (outcomeBody q o)
  obtain ⟨⟨_, _, _, _, _, hn⟩, -⟩ := noted_answering s q o
  rw [finish_eq, hs, hn]
  exact ⟨rfl, rfl⟩

/-- An accepted write of class V leaves what its effect enters in the batch and the force table. -/
theorem wrote_v (u : State) (e : Entry) (r : Sender) (index sub : Nat) (d : Bytes) (tick : Nat) (he : e.cls = .v) (hi : index ≠ 0x3007) :
    ∃ a, u.WrittenDown a ∧ (Parts.wrote u e r index sub d tick).batchIn = (effectV a r index sub d).batchIn ∧
      (Parts.wrote u e r index sub d tick).forces = (effectV a r index sub d).forces := by
  refine ⟨_, writtenDown_of u (writeReq r index sub d) (.row e) d tick, ?_⟩
  have hw : Parts.wrote u e r index sub d tick = finish (effectV (writtenDown u (writeReq r index sub d) (.row e) d tick) r index sub d)
      (writeReq r index sub d) (.ok []) := by
    unfold Parts.wrote
    rw [carryOut_other _ _ _ _ _ _ hi]
    unfold writeEffect
    simp only [he]
    rfl
  rw [hw]
  exact finish_batch _ _ _

/-! ## Forces (06 R182, R185, R186) -/

theorem putForce_puts (s : State) (client n : Nat) (bs : Bytes) (h : (forceSlot s (forceRec bs)).orElse (fun _ => freeSlot s) = some n) :
    (putForce s client bs).forces = Store.insert s.forces n { rec_ := bs, time := s.time.now, client := client } ∧
    (putForce s client bs).batchIn.forces = s.batchIn.forces ++ [.set n] := by
  unfold putForce
  rw [h]
  exact ⟨rfl, rfl⟩

/-- A force set: the table and the batch. -/
theorem setForceOf_sets (s : State) (client path n : Nat) (bs : Bytes)
    (h : (forceSlot s (forceRec bs)).orElse (fun _ => freeSlot s) = some n) :
    (setForceOf s client path bs).forces = Store.insert s.forces n { rec_ := bs, time := s.time.now, client := client } ∧
    (setForceOf s client path bs).batchIn.forces = s.batchIn.forces ++ [.set n] := by
  have hput : ∀ v, s.WrittenDown v →
      (putForce v client bs).forces = Store.insert s.forces n { rec_ := bs, time := s.time.now, client := client } ∧
      (putForce v client bs).batchIn.forces = s.batchIn.forces ++ [.set n] := by
    rintro v ⟨⟨_, _, _, _, _, _, _, rfl⟩, -⟩
    exact putForce_puts _ client n bs h
  unfold setForceOf
  rw [h]
  exact hput _ (.logEntry ..)

/-- A slot released: the table, and the batch. -/
theorem releaseForceOf_releases (s : State) (client path n : Nat) (h : (Store.find? s.forces n).isSome = true) :
    (releaseForceOf s client path n).forces = Store.erase s.forces n ∧
    (releaseForceOf s client path n).batchIn.forces = s.batchIn.forces ++ [.release n] := by
  obtain ⟨f, hf⟩ := Option.isSome_iff_exists.1 h
  unfold releaseForceOf releaseSlot
  rw [hf]
  dsimp only
  obtain ⟨⟨_, _, _, _, _, _, _, hl⟩, -⟩ := State.WrittenDown.logEntry { s with forces := Store.erase s.forces n } client path (0x6500 + n) 1 2 f.rec_ []
  rw [hl]
  exact ⟨rfl, rfl⟩

/-- Every slot released in the order of the table, which empties from its front. -/
theorem releaseAll_releases (client path : Nat) (l : Store Force) (s : State) (h : s.forces = l) :
    ((l.map (fun p => p.1)).foldl (fun s n => releaseForceOf s client path n) s).forces = [] ∧
    ((l.map (fun p => p.1)).foldl (fun s n => releaseForceOf s client path n) s).batchIn.forces =
      s.batchIn.forces ++ l.map (fun p => .release p.1) := by
  induction l generalizing s with
  | nil => exact ⟨h, (List.append_nil _).symm⟩
  | cons p l ih =>
    have hsome : (Store.find? s.forces p.1).isSome = true := by
      rw [h]
      simp [Store.find?]
    obtain ⟨hforces, hbatch⟩ := releaseForceOf_releases s client path p.1 hsome
    have hrest : (releaseForceOf s client path p.1).forces = l := by
      rw [hforces, h]
      simp [Store.erase]
    obtain ⟨hempty, hall⟩ := ih _ hrest
    refine ⟨hempty, ?_⟩
    rw [List.map_cons, List.foldl_cons, hall, hbatch, List.map_cons, List.append_assoc, List.singleton_append]

/-- Settles O55: a write of class V enters the batch with its lane, and a force the table and the batch. -/
theorem writesWaitForTheCycle : Obligations.WritesWaitForTheCycle := by
  intro u e r d tick he
  refine ⟨fun index sub hf hi => ?_, fun n hn => ?_, fun f hf => ?_, ?_⟩
  · obtain ⟨a, ⟨⟨_, _, _, _, _, _, _, rfl⟩, -⟩, hb, -⟩ := wrote_v u e r index sub d tick he hi
    rw [hb]
    unfold effectV
    rw [if_neg hf]
    rfl
  · obtain ⟨a, ⟨⟨_, _, _, _, _, _, _, rfl⟩, -⟩, hb, hfo⟩ := wrote_v u e r 0x6400 1 d tick he (by decide)
    rw [hb, hfo]
    exact setForceOf_sets _ r.client r.path.code n d hn
  · obtain ⟨a, ⟨⟨_, _, _, _, _, _, _, rfl⟩, -⟩, hb, hfo⟩ := wrote_v u e r 0x6400 2 d tick he (by decide)
    rw [hb, hfo]
    exact releaseForceOf_releases _ r.client r.path.code (ofLe d) (Option.isSome_iff_exists.2 ⟨f, hf⟩)
  · obtain ⟨a, ⟨⟨_, _, _, _, _, _, _, rfl⟩, -⟩, hb, hfo⟩ := wrote_v u e r 0x6400 3 d tick he (by decide)
    rw [hb, hfo]
    exact releaseAll_releases r.client r.path.code u.forces _ rfl

end Sys2Proof.Machine
end

section
/-! Reads of the dictionary and their effects (17 R443, R445, R446, R453, 14 R384 to R391, 11 R321). -/

namespace Sys2Proof.Machine

open Sys2Proof

/-! ## What a read of a class J entry returns -/

/-- A value of class J stands in no lane's batch. -/
theorem readTarget_j (s : State) (r : Sender) (e : Entry) (index sub : Nat) (h : e.cls = .j) :
    readTarget s r (.row e) index sub = jread s r e index sub := by
  unfold readTarget
  have hplace : (Target.row e).place s r index sub = none := by simp only [Target.place, h]
  rw [hplace]
  simp only [Option.bind_none, readEntry, h]

/-- Entries of the units and the monitors, by their index. -/
theorem jread_unit (s : State) (r : Sender) (e : Entry) (index : Nat) (h : 0x4A00 ≤ index ∧ index ≤ 0x4A07) :
    jread s r e index 9 = readCvu s r (index - 0x4A00) := by
  unfold jread
  split
  case h_10 => rw [if_pos ⟨h.1, h.2, rfl⟩]
  all_goals omega

theorem jread_monitor (s : State) (r : Sender) (e : Entry) (index : Nat) (h : 0x7140 ≤ index ∧ index ≤ 0x717F) :
    jread s r e index 2 = (clearMonitor s (index - 0x7140), .ok ((s.monitor (index - 0x7140)).bytes s.time.now)) := by
  unfold jread
  split
  case h_10 => rw [if_neg (by omega), if_pos h]; rfl
  all_goals omega

/-! ## Blocks of records (14 R386, 17 R446) -/

/-- What an index outside the windows and the process data addresses: its row. -/
theorem resolve_row (s : State) (index sub : Nat) (e : Entry) (h : entry? index sub = some e)
    (hi : 0x6400 ≤ index) : resolve s index sub = .ok (.row e) := by
  unfold resolve
  rw [if_neg (by omega), if_neg (by omega), if_neg (by omega), h]

/-- The entry 7010.03, a DOMAIN of class J that is read. -/
theorem entry_recordBlock : (entry? 0x7010 3).any (fun e => e.acc.canRead && decide (e.typ = .domain) && decide (e.cls = .j)) = true := by
  decide +kernel

theorem accessOf_eq (t : Target) (index sub : Nat) (h : index ≠ 0x4804 ∧ index ≠ 0x4805) : accessOf t index sub = t.acc := by
  unfold accessOf
  rw [if_neg (by omega)]

/-- A segment of a DOMAIN read, let in and resolved. -/
theorem immediate_readSegment {s : State} {q : Request} {t : Target} (h : s.takes q) (hop : q.op = 3) (hr : resolve (s.taken q) q.index q.sub = .ok t)
    (hacc : (accessOf t q.index q.sub).canRead = true) (htyp : t.typ = .domain) (x : Payload) :
    immediate s q x = readSegment (s.taken q) q t := by
  rw [immediate_resolves h hr, if_pos (Or.inr hop), executeRead, hacc, hop, htyp]
  rfl

/-- A segment that goes on with the value captured at its start. -/
theorem readSegment_captured (u : State) (q : Request) (t : Target) (y : Capture) (hoff : q.offset ≠ 0)
    (hy : Store.find? u.dict.captures q.sender.client = some y) (hi : y.index = q.index) (hs : y.sub = q.sub) :
    readSegment u q t = serveCapture u q y.data := by
  unfold readSegment
  dsimp only
  rw [if_neg hoff, hy]
  exact if_pos ⟨hi, hs⟩

/-- The first segment of a record block: the block is captured, and the cursor moves past it. -/
theorem readSegment_recordBlock (u : State) (q : Request) (e : Entry) (he : e.cls = .j) (hi : q.index = 0x7010) (hs : q.sub = 3)
    (hoff : q.offset = 0) (hroom : (Store.erase u.dict.captures q.sender.client).length < 4)
    (hlen : u.recorder.blockLen (u.bindingOf q.sender).recCursor ≠ 0) :
    readSegment u q (.row e) = serveCapture
      (u.modBinding q.sender (fun b => { b with recCursor :=
        (u.bindingOf q.sender).recCursor + u.recorder.blockLen (u.bindingOf q.sender).recCursor }))
      q (u.recorder.block (u.bindingOf q.sender).recCursor) := by
  have hread : readTarget u q.sender (.row e) 0x7010 3 =
      (u.modBinding q.sender (fun b => { b with recCursor :=
        (u.bindingOf q.sender).recCursor + u.recorder.blockLen (u.bindingOf q.sender).recCursor }),
        .ok (u.recorder.block (u.bindingOf q.sender).recCursor)) := by
    rw [readTarget_j u _ e _ _ he]
    exact if_neg hlen
  unfold readSegment
  dsimp only
  rw [if_pos hoff, if_neg (by omega), hi, hs, hread]

/-- Settles O57: a read that every check lets pass is answered with what its entry reads as, and each read with an effect makes its own. -/
theorem readsAreAnswered : Obligations.ReadsAreAnswered := by
  intro s r
  refine ⟨fun n t h => congrArg Host.Outcome.next (immediate_readable h .plain), fun t h => congrArg Host.Outcome.next (immediate_readable h .plain),
    fun t h => congrArg Host.Outcome.next (immediate_readable h .plain), fun n t h => congrArg Host.Outcome.next (immediate_readable h .plain),
    fun e he => ⟨fun n v x hv hc hx => ?_, fun x hx => ?_, fun b hb => ?_, fun n => ?_⟩, fun offset e => ?_⟩
  · rw [readTarget_j s r e _ _ he, jread_unit s r e _ (by omega), Nat.add_sub_cancel_left]
    unfold readCvu
    rw [hv]
    dsimp only
    rw [if_pos hc, hx]
  · rw [readTarget_j s r e _ _ he]
    show readRecord s r = _
    unfold readRecord
    dsimp only
    rw [hx]
  · rw [readTarget_j s r e _ _ he]
    show readLog s r = _
    unfold readLog
    dsimp only
    rw [hb]
  · rw [readTarget_j s r e _ _ he, jread_monitor s r e _ (by omega), Nat.add_sub_cancel_left]
    rfl
  · dsimp only
    intro htake he
    have hentry := entry_recordBlock
    rw [he] at hentry
    simp only [Option.any_some, Bool.and_eq_true, decide_eq_true_eq] at hentry
    obtain ⟨⟨hacc, htyp⟩, hcls⟩ := hentry
    have hseg := immediate_readSegment htake rfl (resolve_row _ 0x7010 3 e he (by decide))
      ((congrArg Access.canRead (accessOf_eq (.row e) 0x7010 3 (by decide))).trans hacc) htyp .plain
    refine ⟨fun hoff hroom hlen => ?_, fun y hoff hy hi hs => ?_⟩
    · exact congrArg Host.Outcome.next (hseg.trans (readSegment_recordBlock _ _ e hcls rfl rfl hoff hroom hlen))
    · exact congrArg Host.Outcome.next (hseg.trans (readSegment_captured _ _ _ y hoff hy hi hs))

end Sys2Proof.Machine
end

section
/-! DOMAIN transfers and downloads (17 R445, R446, 12 R324, 06 R170). -/

namespace Sys2Proof.Machine

open Sys2Proof

/-! ## What a finished request leaves -/

theorem finish_noted_sent (s : State) (q : Request) (o : Except Nat Bytes) : ∃ a, s.Noted a ∧ a.Sent (finish s q o) :=
  ⟨_, noted_answering s q o, .sendResponse _ _ _⟩

theorem finish_xfers (s : State) (q : Request) (o : Except Nat Bytes) : (finish s q o).dict.xfers = s.dict.xfers := by
  obtain ⟨a, ⟨⟨_, _, _, _, _, rfl⟩, -⟩, ⟨_, _, _, _, _, _, _, _, _, _, _, _, hs⟩, -⟩ := finish_noted_sent s q o
  rw [hs]

theorem finish_cfg (s : State) (q : Request) (o : Except Nat Bytes) : (finish s q o).cfg = s.cfg := by
  obtain ⟨a, ⟨⟨_, _, _, _, _, rfl⟩, -⟩, ⟨_, _, _, _, _, _, _, _, _, _, _, _, hs⟩, -⟩ := finish_noted_sent s q o
  rw [hs]

theorem finish_change (s : State) (q : Request) (o : Except Nat Bytes) : (finish s q o).change = s.change := by
  obtain ⟨a, ⟨⟨_, _, _, _, _, rfl⟩, -⟩, ⟨_, _, _, _, _, _, _, _, _, _, _, _, hs⟩, -⟩ := finish_noted_sent s q o
  rw [hs]

/-- A register that counts no frames and no superseded writes reads as before. -/
theorem finish_jget (s : State) (q : Request) (o : Except Nat Bytes) (i sub : Nat) (hs : sub < 256) (hi : ¬ countsFrames i)
    (hne : regKey i sub ≠ regKey 0x1E00 6) : jget (finish s q o) i sub = jget s i sub := by
  obtain ⟨a, ⟨-, hn⟩, -, hsent⟩ := finish_noted_sent s q o
  rw [hsent i sub hs hi, hn i sub hne]

/-! ## What the arrival of a request leaves -/

theorem taken_cfg {s : State} {q : Request} (h : s.admits q) : (s.taken q).cfg = s.cfg := by
  obtain ⟨_, _, _, _, _, _, hb⟩ := State.LetIn.bindClient (s.admitted q).tickEnd q.sender
  obtain ⟨_, _, _, _, _, _, ha⟩ := letIn_admitted h
  have ht : (s.admitted q).tickEnd.cfg = (s.admitted q).cfg := by
    show (startDistribution (advanceTo _ _)).cfg = _
    unfold startDistribution
    split <;> rfl
  unfold State.taken
  rw [hb]
  show (s.admitted q).tickEnd.cfg = s.cfg
  rw [ht, ha]

/-! ## Transfers -/

/-- A state that differs at most in the open transfers and the change whose download they are. -/
def State.Moved (s t : State) : Prop :=
  ∃ x n, t = { s with dict := { s.dict with xfers := x }, change := { s.change with state := n } }

namespace State.Moved

variable {s t u : State}

theorem trans (h : s.Moved t) (h' : t.Moved u) : s.Moved u := by
  obtain ⟨_, _, rfl⟩ := h
  obtain ⟨_, _, rfl⟩ := h'
  exact ⟨_, _, rfl⟩

theorem dropXfer (s : State) (c : Nat) : s.Moved (dropXfer s c) := by
  unfold Machine.dropXfer
  split
  · dsimp only
    split
    · unfold dropReceiving
      split <;> exact ⟨_, _, rfl⟩
    · exact ⟨_, _, rfl⟩
  · exact ⟨_, _, rfl⟩

theorem putXfer (s : State) (q : Request) (d : Bytes) : s.Moved (putXfer s q d) := by
  unfold Machine.putXfer
  dsimp only
  split <;> exact ⟨_, _, rfl⟩

end State.Moved

/-- No change is dropped where there is none. -/
theorem dropXfer_noChange (s : State) (c : Nat) (h : s.change.state = 0) : (dropXfer s c).change = s.change := by
  unfold dropXfer
  split
  · dsimp only
    split
    · unfold dropReceiving
      rw [if_neg (by show ¬ (s.change.state = 1 ∧ _); omega)]
    · rfl
  · rfl

theorem find?_putXfer (s : State) (q : Request) (d : Bytes) : Store.find? (putXfer s q d).dict.xfers q.sender.client =
    some { index := q.index, sub := q.sub, data := d, at_ := s.time.now } := by
  unfold putXfer
  dsimp only
  split <;> exact Store.find?_insert_self ..

/-- A segment of a DOMAIN write, resolved. -/
theorem executeWrite_segment (u : State) (q : Request) (x : Payload) (t : Target) (hop : q.op = 4)
    (hacc : (accessOf t q.index q.sub).canWrite = true) (htyp : t.typ = .domain) : executeWrite u q x t = writeSegment u q x t := by
  rw [executeWrite, hacc, hop, htyp]
  rfl

theorem lengthCode_domain (t : Target) (index sub n : Nat) (h : t.typ = .domain) (hn : n ≤ 12582912) : lengthCode t index sub n = 0 := by
  unfold lengthCode
  rw [if_pos h, if_neg (by omega)]

/-- A first segment taken: the transfer is opened, and closed at once when it is the last. -/
theorem writeSegment_first (u : State) (q : Request) (x : Payload) (t : Target) (hoff : q.offset = 0) (hopen : openCode u q = 0)
    (hlen : lengthCode t q.index q.sub q.data.length = 0 ∨ x ≠ .plain) :
    writeSegment u q x t = (if q.last then closeXfer (putXfer (dropXfer u q.sender.client) q q.data) q x t q.data
      else finish (putXfer (dropXfer u q.sender.client) q q.data) q (.ok [])) := by
  unfold writeSegment
  dsimp only
  rw [if_pos hoff, hopen, if_neg (by decide), if_pos hoff, if_pos hoff]
  refine if_neg ?_
  rintro ⟨h1, h2⟩
  exact hlen.elim h1 fun h => h h2

/-- A segment that follows the one before it. -/
theorem writeSegment_next (u : State) (q : Request) (t : Target) (y : Xfer) (hoff : q.offset ≠ 0) (hlast : q.last = false)
    (hy : Store.find? u.dict.xfers q.sender.client = some y) (hi : y.index = q.index) (hs : y.sub = q.sub) (hn : y.data.length = q.offset)
    (hlen : lengthCode t q.index q.sub (y.data ++ q.data).length = 0) :
    writeSegment u q .plain t = finish (putXfer u q (y.data ++ q.data)) q (.ok []) := by
  have hto : xferTo u q.sender.client q.index q.sub = true := by
    unfold xferTo
    rw [hy, Option.any_some, hi, hs]
    simp
  unfold writeSegment
  dsimp only
  rw [if_neg hoff, hy, Option.map_some, Option.getD_some, hto, hn]
  simp only [hoff, hlen, hlast, decide_true, Bool.and_self, if_true, if_false, ne_eq, not_true_eq_false, false_and, Bool.false_eq_true]

/-! ## The entries of the downloads -/

theorem entry_container : (entry? 0x9000 1).any (fun e => decide (e.acc = .rwS) && decide (e.typ = .domain) && decide (e.cls = .j)) = true := by
  decide +kernel

theorem entry_delta : (entry? 0x6800 2).any (fun e => decide (e.acc = .rwP) && decide (e.typ = .domain) && decide (e.cls = .j)) = true := by
  decide +kernel

theorem entry_of_any {index sub : Nat} {a : Access} (h : (entry? index sub).any (fun e => decide (e.acc = a) && decide (e.typ = .domain) &&
    decide (e.cls = .j)) = true) : ∃ e, entry? index sub = some e ∧ e.acc = a ∧ e.typ = .domain ∧ e.cls = .j := by
  cases he : entry? index sub with
  | none => simp [he] at h
  | some e =>
    simp only [he, Option.any_some, Bool.and_eq_true, decide_eq_true_eq] at h
    exact ⟨e, rfl, h.1.1, h.1.2, h.2⟩

/-- The state in which the last segment of a transfer is judged. -/
def closing (u : State) (q : Request) (d : Bytes) : State :=
  let a := putXfer (dropXfer u q.sender.client) q d
  { a with dict := { a.dict with xfers := Store.erase a.dict.xfers q.sender.client } }

theorem moved_closing (u : State) (q : Request) (d : Bytes) : u.Moved (closing u q d) :=
  ((State.Moved.dropXfer u _).trans (.putXfer _ _ _)).trans ⟨_, _, rfl⟩

theorem closeXfer_eq (u : State) (q : Request) (x : Payload) (t : Target) (d : Bytes) :
    closeXfer (putXfer (dropXfer u q.sender.client) q d) q x t d =
      (let v := judgeWrite (closing u q d) q x t d
       if isDelta q.index q.sub then dropReceiving v else v) := rfl

/-- A whole value written to a DOMAIN entry in one segment: the transfer is opened and closed at once. -/
theorem immediate_whole {s : State} {r : Sender} {index sub : Nat} {d : Bytes} {x : Payload} {e : Entry} {a : Access} (hx : x ≠ .plain)
    (h : s.takes (wholeReq r index sub d)) (hi : 0x6400 ≤ index) (he : entry? index sub = some e) (hacc : e.acc = a) (ha : a.canWrite = true)
    (htyp : e.typ = .domain) (hopen : openCode (s.taken (wholeReq r index sub d)) (wholeReq r index sub d) = 0) :
    immediate s (wholeReq r index sub d) x =
      (let v := judgeWrite (closing (s.taken (wholeReq r index sub d)) (wholeReq r index sub d) d) (wholeReq r index sub d) x (.row e) d
       if isDelta index sub then dropReceiving v else v) := by
  have hres : resolve (s.taken (wholeReq r index sub d)) (wholeReq r index sub d).index (wholeReq r index sub d).sub = .ok (.row e) :=
    resolve_row _ _ _ e he hi
  have hw : (accessOf (.row e) (wholeReq r index sub d).index (wholeReq r index sub d).sub).canWrite = true := by
    rw [accessOf_eq _ _ _ ⟨by show index ≠ _; omega, by show index ≠ _; omega⟩]
    show e.acc.canWrite = true
    rw [hacc, ha]
  rw [immediate_resolves h hres, if_neg (by show ¬ ((4 : Nat) = 1 ∨ (4 : Nat) = 3); decide), executeWrite, hw]
  have hdom : (Target.row e).typ = .domain := htyp
  simp only [hdom, Bool.not_true, Bool.false_eq_true, if_false]
  exact ((writeSegment_first _ _ _ _ rfl hopen (Or.inr hx)).trans (if_pos rfl)).trans (closeXfer_eq ..)

/-! ## What the status of a container depends on (13 R363) -/

theorem loadStatus_congr {s u : State} (hj : jget u 0x8105 1 = jget s 0x8105 1) (hk : u.keys = s.keys) (hr : u.revoked = s.revoked)
    (hp : u.pins = s.pins) (x : Signed) (version node : Nat) : loadStatus u x version node = loadStatus s x version node := by
  unfold loadStatus
  rw [hk, hr, hp, hj]

/-- What a transfer and the notes of a write leave of what the status depends on. -/
theorem loadStatus_moved {s a u : State} (hm : s.Moved a) (hw : a.WrittenDown u) (x : Signed) (version node : Nat) :
    loadStatus u x version node = loadStatus s x version node := by
  have hu : loadStatus u x version node = loadStatus a x version node := by
    obtain ⟨⟨_, _, _, _, _, _, _, rfl⟩, hj⟩ := hw
    exact loadStatus_congr (hj 0x8105 1 (by decide)) rfl rfl rfl x version node
  obtain ⟨_, _, rfl⟩ := hm
  exact hu

section Downloads

variable {e : Entry} {a : Access}

/-- Any bytes are in the range of a DOMAIN. -/
theorem rangeOk_domain (h : e.typ = .domain) (d : Bytes) : rangeOk (.row e) d = true := by
  unfold rangeOk
  simp only [Target.typ, h]

/-- A DOMAIN written whole that the state, the access class and the change log permit takes effect, and is answered. -/
theorem judgeWrite_download {r : Sender} {index sub : Nat} {d : Bytes} {x : Payload} {u : State} (hacc : accessOf (.row e) index sub = a)
    (hcls : e.cls = .j) (hrule : stateRule u r (.row e) index sub d = true) (hallow : u.allowed r a)
    (hval : valueRule u r (.row e) index sub d = 0) (hlog : a = .rwP → logRoom u (logNeed u index sub) = true)
    (htiming : timingEntry index sub = false) (hrelease : index ≠ 0x3007) :
    judgeWrite u (wholeReq r index sub d) x (.row e) d =
      finish (effectJ (writtenDown u (wholeReq r index sub d) (.row e) d u.tickNo) r x index sub d) (wholeReq r index sub d) (.ok []) := by
  have hjudge := judgeWrite_passes (q := wholeReq r index sub d) (t := .row e) hrule (hacc ▸ hallow) hval (fun h => hlog (hacc ▸ h)) x
  have heffect : ∀ v, writeEffect v r x (.row e) index sub d = effectJ v r x index sub d := fun v => by
    unfold writeEffect
    simp only [hcls]
  have hfree : ¬ timingEntry index sub = true := by rw [htiming]; decide
  refine (hjudge.trans (if_neg hfree)).trans ((carryOut_other u (wholeReq r index sub d) x (.row e) d u.tickNo hrelease).trans ?_)
  exact congrArg (fun v => finish v (wholeReq r index sub d) (.ok [])) (heffect _)

/-- A container downloaded whole: taken with its status (12 R324). -/
theorem containerDownload_takes (s : State) (r : Sender) (k : Container)
    (h : s.takes (wholeReq r 0x9000 1 (Config.containerBytes k.signed.digest)))
    (hu : (s.taken (wholeReq r 0x9000 1 (Config.containerBytes k.signed.digest))).unsealed = true)
    (ho : openCode (s.taken (wholeReq r 0x9000 1 (Config.containerBytes k.signed.digest)))
      (wholeReq r 0x9000 1 (Config.containerBytes k.signed.digest)) = 0) :
    (immediate s (wholeReq r 0x9000 1 (Config.containerBytes k.signed.digest)) (.container k)).cfg.download =
      some (k, loadStatus (s.taken (wholeReq r 0x9000 1 (Config.containerBytes k.signed.digest))) k.signed k.version k.nodeId) := by
  obtain ⟨e, he, hacc, htyp, hcls⟩ := entry_of_any entry_container
  generalize Config.containerBytes k.signed.digest = d at h hu ho ⊢
  rw [immediate_whole (x := .container k) (fun h => nomatch h) h (by decide) he hacc rfl htyp ho]
  generalize s.taken (wholeReq r 0x9000 1 d) = u at hu
  have hm := moved_closing u (wholeReq r 0x9000 1 d) d
  have hw := writtenDown_of (closing u (wholeReq r 0x9000 1 d) d) (wholeReq r 0x9000 1 d) (.row e) d (closing u (wholeReq r 0x9000 1 d) d).tickNo
  rw [← loadStatus_moved hm hw]
  have hsealed : (closing u (wholeReq r 0x9000 1 d) d).unsealed = true := by
    obtain ⟨_, _, hm⟩ := hm
    rw [hm]
    exact hu
  have hval : ∀ v : State, valueRule v r (.row e) 0x9000 1 d = 0 := fun v => by
    unfold valueRule
    rw [rangeOk_domain htyp]
    rfl
  have hrule : ∀ v : State, stateRule v r (.row e) 0x9000 1 d = true := fun v => by
    unfold stateRule
    simp only [hcls]
    rfl
  dsimp only
  rw [judgeWrite_download (a := .rwS) ((accessOf_eq (.row e) 0x9000 1 (by decide)).trans hacc) hcls (hrule _) ⟨fun _ => hsealed, fun h => nomatch h⟩ (hval _) (fun h => nomatch h) (by decide)
    (by decide), if_neg (by decide), finish_cfg]
  rfl

/-! ## A delta taken or refused (06 R167, R168) -/

/-- The delta as it is kept: its merged configuration under its own signature. -/
def keptDelta (k : Delta) : Delta := { k with merged := { k.merged with signed := k.signed, version := k.version, nodeId := k.nodeId } }

/-- The state in which a delta with the status `st` is judged. -/
def deltaHeld (w : State) (k : Delta) (st : Nat) : State :=
  { jset (jset w 0x8105 2 st) 0x6800 9 k.base with
    change := { state := 1, delta := some (keptDelta k), kAct := 0, holds := Tri.all false } }

theorem takeDelta_eq (w : State) (k : Delta) : takeDelta w k =
    let st := loadStatus w k.signed k.version k.nodeId
    if st ≠ 1 then refuseDelta (deltaHeld w k st) 3 0
    else match w.config with
      | none => refuseDelta (deltaHeld w k st) 4 0
      | some c =>
        if c.identity ≠ k.base then refuseDelta (deltaHeld w k st) 4 0
        else match k.barred ++ barredItems c (keptDelta k).merged with
          | i :: _ => refuseDelta (deltaHeld w k st) 7 i
          | [] => if (k.sClass || changesSClass c (keptDelta k).merged) && !w.unsealed then refuseDelta (deltaHeld w k st) 8 0
            else deltaHeld w k st := rfl

theorem takeDelta_good (w : State) (k : Delta) (c : Container) (hst : loadStatus w k.signed k.version k.nodeId = 1) (hc : w.config = some c)
    (hid : c.identity = k.base) : takeDelta w k =
      match k.barred ++ barredItems c (keptDelta k).merged with
      | i :: _ => refuseDelta (deltaHeld w k 1) 7 i
      | [] => if (k.sClass || changesSClass c (keptDelta k).merged) && !w.unsealed then refuseDelta (deltaHeld w k 1) 8 0
        else deltaHeld w k 1 := by
  rw [takeDelta_eq, hst, hc]
  dsimp only
  rw [if_neg (by decide), if_neg (not_not.2 hid)] <;> rfl

theorem deltaHeld_cfg (w : State) (k : Delta) (st : Nat) : (deltaHeld w k st).cfg = w.cfg := rfl

theorem deltaHeld_status (w : State) (k : Delta) (st : Nat) (h : st ≠ 0) : jget (deltaHeld w k st) 0x8105 2 = st := by
  have hdefault : tableDefault (regKey 0x8105 2) = 0 := by decide +kernel
  have hheld : jget (deltaHeld w k st) 0x8105 2 = jget (jset (jset w 0x8105 2 st) 0x6800 9 k.base) 0x8105 2 := rfl
  rw [hheld, jget_jset_other _ _ _ _ _ _ (by decide)]
  exact jget_jset_self _ _ _ _ (hdefault ▸ h)

/-- The transfer of a delta is a change that receives. -/
theorem closing_change (u : State) (r : Sender) (d : Bytes) (h : u.change.state = 0) :
    (closing u (wholeReq r 0x6800 2 d) d).change = { u.change with state := 1 } := by
  have hdrop := dropXfer_noChange u r.client h
  have hput : (putXfer (dropXfer u r.client) (wholeReq r 0x6800 2 d) d).change = { u.change with state := 1 } := by
    unfold putXfer
    dsimp only
    rw [if_pos (by rw [hdrop, h]; rfl), hdrop]
  exact hput

/-- A delta downloaded whole by the holder of the session. -/
theorem deltaDownload_judged (s : State) (r : Sender) (k : Delta) (c : Container)
    (h : s.takes (wholeReq r 0x6800 2 (Config.containerBytes k.signed.digest)))
    (hh : (s.taken (wholeReq r 0x6800 2 (Config.containerBytes k.signed.digest))).holds r = true)
    (hlog : logRoom (s.taken (wholeReq r 0x6800 2 (Config.containerBytes k.signed.digest))) 1 = true)
    (hstate : (s.taken (wholeReq r 0x6800 2 (Config.containerBytes k.signed.digest))).change.state = 0)
    (hnone : (s.taken (wholeReq r 0x6800 2 (Config.containerBytes k.signed.digest))).change.delta = none)
    (ho : openCode (s.taken (wholeReq r 0x6800 2 (Config.containerBytes k.signed.digest)))
      (wholeReq r 0x6800 2 (Config.containerBytes k.signed.digest)) = 0)
    (hc : (s.taken (wholeReq r 0x6800 2 (Config.containerBytes k.signed.digest))).config = some c)
    (hst : loadStatus (s.taken (wholeReq r 0x6800 2 (Config.containerBytes k.signed.digest))) k.signed k.version k.nodeId = 1) :
    ∃ w, loadStatus w k.signed k.version k.nodeId = 1 ∧ w.config = some c ∧ w.cfg = s.cfg ∧
      immediate s (wholeReq r 0x6800 2 (Config.containerBytes k.signed.digest)) (.delta k) =
        dropReceiving (finish (takeDelta w k) (wholeReq r 0x6800 2 (Config.containerBytes k.signed.digest)) (.ok [])) := by
  obtain ⟨e, he, hacc, htyp, hcls⟩ := entry_of_any entry_delta
  generalize Config.containerBytes k.signed.digest = d at h hh hlog hstate hnone ho hc hst ⊢
  have hcfg := taken_cfg h.1
  rw [immediate_whole (x := .delta k) (fun h => nomatch h) h (by decide) he hacc rfl htyp ho]
  generalize s.taken (wholeReq r 0x6800 2 d) = u at hh hlog hstate hnone hc hst hcfg
  have hm := moved_closing u (wholeReq r 0x6800 2 d) d
  have hchange := closing_change u r d hstate
  have hw := writtenDown_of (closing u (wholeReq r 0x6800 2 d) d) (wholeReq r 0x6800 2 d) (.row e) d (closing u (wholeReq r 0x6800 2 d) d).tickNo
  refine ⟨_, (loadStatus_moved hm hw k.signed k.version k.nodeId).trans hst, ?_, ?_, ?_⟩
  · obtain ⟨⟨_, _, _, _, _, _, _, hw⟩, -⟩ := hw
    obtain ⟨_, _, hm⟩ := hm
    rw [hw, hm]
    exact hc
  · obtain ⟨⟨_, _, _, _, _, _, _, hw⟩, -⟩ := hw
    obtain ⟨_, _, hm⟩ := hm
    rw [hw, hm]
    exact hcfg
  · have hval : ∀ v : State, valueRule v r (.row e) 0x6800 2 d = 0 := fun v => by
      unfold valueRule
      rw [rangeOk_domain htyp]
      rfl
    have hrule : stateRule (closing u (wholeReq r 0x6800 2 d) d) r (.row e) 0x6800 2 d = true := by
      have hr : stateRule (closing u (wholeReq r 0x6800 2 d) d) r (.row e) 0x6800 2 d =
          (decide ((closing u (wholeReq r 0x6800 2 d) d).change.state = 1) && (closing u (wholeReq r 0x6800 2 d) d).change.delta.isNone) := by
        unfold stateRule
        simp only [hcls]
        rfl
      rw [hr, hchange, hnone]
      rfl
    have hallow : (closing u (wholeReq r 0x6800 2 d) d).holds r = true ∧
        logRoom (closing u (wholeReq r 0x6800 2 d) d) 1 = true := by
      obtain ⟨_, _, hm⟩ := hm
      rw [hm]
      exact ⟨hh, hlog⟩
    dsimp only
    rw [judgeWrite_download (a := .rwP) ((accessOf_eq (.row e) 0x6800 2 (by decide)).trans hacc) hcls hrule
      ⟨(fun h => nomatch h), fun _ => hallow.1⟩
      (hval _) (fun _ => hallow.2) (by decide) (by decide), if_pos (by decide)]
    rfl

end Downloads

/-- A delta refused leaves no change, and its result. -/
theorem refuseDelta_result (s : State) (result detail : Nat) (h : result ≠ 0) :
    (refuseDelta s result detail).change.state = 0 ∧ (refuseDelta s result detail).change.delta = none ∧
    jget (refuseDelta s result detail) 0x6800 6 = result ∧ (refuseDelta s result detail).cfg = s.cfg := by
  have hdefault : tableDefault (regKey 0x6800 6) = 0 := by decide +kernel
  unfold refuseDelta endChange
  refine ⟨?_, ?_, ?_, ?_⟩
  · exact congrArg Change.state (record_change ..)
  · exact congrArg Change.delta (record_change ..)
  · rw [jget_record_other _ _ _ _ _ _ (by decide), jget_jset_other _ _ _ _ _ _ (by decide)]
    exact jget_jset_self _ _ _ _ (hdefault ▸ h)
  · exact record_cfg ..

/-- A change with a delta is not one that receives. -/
theorem dropReceiving_other (s : State) (h : ¬ (s.change.state = 1 ∧ s.change.delta = none)) : dropReceiving s = s := by
  unfold dropReceiving
  rw [if_neg h]

/-- Settles O58: segments follow one another into the open transfer, and the last one of a download takes effect. -/
theorem domainsMoveInSegments : Obligations.DomainsMoveInSegments := by
  intro s r
  refine ⟨fun index sub offset last d t => ?_, fun index sub offset y t => ?_, fun k => ?_, fun k c => ?_⟩
  · dsimp only
    intro h hr htyp hacc
    refine ⟨?_, fun hlast hoff hlen ho => ?_, fun y hlast hoff hy hi hs hn hlen => ?_⟩
    · have hseg := immediate_resolves h hr .plain
      rw [if_neg (by show ¬ ((4 : Nat) = 1 ∨ (4 : Nat) = 3); decide)] at hseg
      exact congrArg Host.Outcome.next (hseg.trans (executeWrite_segment _ _ _ _ rfl hacc htyp))
    · subst hlast
      rw [writeSegment_first _ _ _ _ hoff ho (Or.inl (lengthCode_domain _ _ _ _ htyp hlen)), if_neg (by show ¬ (false = true); decide), finish_xfers]
      obtain ⟨_, _, hm⟩ := State.Moved.dropXfer (s.taken { writeReq r index sub d with op := 4, last := false, offset := offset }) r.client
      refine (find?_putXfer _ _ _).trans ?_
      rw [show (writeReq r index sub d).sender.client = r.client from rfl, hm]
      rfl
    · subst hlast
      rw [writeSegment_next _ _ _ y hoff rfl hy hi hs hn (lengthCode_domain _ _ _ _ htyp hlen), finish_xfers]
      exact find?_putXfer _ _ _
  · dsimp only
    intro h hr htyp hacc hoff hy hi hs
    exact congrArg Host.Outcome.next ((immediate_readSegment h rfl hr hacc htyp .plain).trans (readSegment_captured _ _ _ y hoff hy hi hs))
  · intro q h hu ho
    exact ⟨_, rfl, containerDownload_takes s r k h hu ho⟩
  · intro q h hh hlog hstate hnone ho hc hid hst merged
    obtain ⟨w, hstw, hcw, hcfg, heq⟩ := deltaDownload_judged s r k c h hh hlog hstate hnone ho hc hst
    have htake := takeDelta_good w k c hstw hcw hid
    refine ⟨fun hb hb' hsc hsc' => ⟨_, rfl, ?_⟩, fun i is his => ⟨_, rfl, ?_⟩⟩
    · rw [hb, show barredItems c (keptDelta k).merged = [] from hb', List.append_nil] at htake
      dsimp only at htake
      rw [hsc, show changesSClass c (keptDelta k).merged = false from hsc', if_neg (by simp)] at htake
      have hend := dropReceiving_other (finish (deltaHeld w k 1) q (.ok [])) (by rw [finish_change]; exact fun h => nomatch h.2)
      rw [heq, htake, hend, finish_change, finish_cfg, finish_jget _ _ _ _ _ (by decide) (by unfold countsFrames; decide) (by decide)]
      exact ⟨rfl, rfl, deltaHeld_status w k 1 (by decide), (deltaHeld_cfg w k 1).trans hcfg⟩
    · rw [show k.barred ++ barredItems c (keptDelta k).merged = i :: is from his] at htake
      dsimp only at htake
      obtain ⟨hstate', hnone', hresult, hcfg'⟩ := refuseDelta_result (deltaHeld w k 1) 7 i (by decide)
      have hend := dropReceiving_other (finish (refuseDelta (deltaHeld w k 1) 7 i) q (.ok []))
        (by rw [finish_change, hstate']; exact fun h => absurd h.1 (by decide))
      rw [heq, htake, hend, finish_change, finish_cfg, finish_jget _ _ _ _ _ (by decide) (by unfold countsFrames; decide) (by decide)]
      exact ⟨hstate', hnone', hresult, (hcfg'.trans (deltaHeld_cfg w k 1)).trans hcfg⟩

end Sys2Proof.Machine
end

section
/-! The junction tick, repeated requests and the timeouts of transfers (17 R443, R445 to R448, R452, 06 R172). -/

namespace Sys2Proof.Machine

open Sys2Proof

/-! ## The order of a tick (17 R448) -/

theorem arrivedOn_append (a b : List (Request × Payload)) (p : Path) : arrivedOn (a ++ b) p = arrivedOn a p ++ arrivedOn b p :=
  List.filter_append ..

/-- The requests that arrived without a command of their own. -/
theorem arrivedOn_plain (l : List Request) (p : Path) :
    arrivedOn (l.map (fun q => (q, Payload.plain))) p = (l.filter (fun q => decide (q.sender.path = p))).map (fun q => (q, Payload.plain)) :=
  List.filter_map ..

theorem arrivedOn_singleton (q : Request) (x : Payload) (p : Path) :
    arrivedOn [(q, x)] p = if q.sender.path = p then [(q, x)] else [] := by
  unfold arrivedOn
  rw [List.filter_cons, List.filter_nil]
  by_cases h : q.sender.path = p <;> simp [h]

theorem tickOrder_eq (qs : List (Request × Payload)) : tickOrder qs = [Path.host, .can, .ecn, .ring].flatMap (fun p => arrivedOn qs p) := by
  simp [tickOrder]

/-- The end of a tick, a passed delta on its way to the lanes. -/
theorem startDistribution_eq (s : State) :
    startDistribution s = { s with change := if s.change.state = 3 then { s.change with state := 4 } else s.change } := by
  unfold startDistribution
  split <;> rfl

/-- A tick carries out what arrived in it and what its command brings, at its end. -/
theorem runTick_eq (s : State) (extra : List (Request × Payload)) : runTick s extra =
    (tickOrder (s.dict.arrived.map (fun q => (q, .plain)) ++ extra)).foldl (fun v y => execute v y.1 y.2) s.tickEnd := by
  have harr : (startDistribution (advanceTo s ((s.time.now / 1000 + 1) * 1000))).dict.arrived = s.dict.arrived := by
    rw [startDistribution_eq]
    rfl
  unfold runTick
  dsimp only
  rw [harr]
  rfl

/-- A tick with the request of a command among those that arrived. -/
theorem runTick_one (s : State) (q : Request) (x : Payload) :
    runTick s [(q, x)] = ([Path.host, .can, .ecn, .ring].flatMap (fun p =>
      (s.dict.arrived.filter (fun y => decide (y.sender.path = p))).map (fun y => (y, Payload.plain)) ++
        if q.sender.path = p then [(q, x)] else [])).foldl (fun v y => execute v y.1 y.2) s.tickEnd := by
  rw [runTick_eq, tickOrder_eq]
  simp only [arrivedOn_append, arrivedOn_plain, arrivedOn_singleton]

/-- A tick without a command. -/
theorem junctionTick_eq (s : State) : junctionTick s =
    ([Path.host, .can, .ecn, .ring].flatMap (fun p => s.dict.arrived.filter (fun q => decide (q.sender.path = p)))).foldl
      (fun v q => execute v q .plain) s.tickEnd := by
  unfold junctionTick
  rw [runTick_eq, List.append_nil, tickOrder_eq]
  simp only [arrivedOn_plain]
  rw [← List.map_flatMap, List.foldl_map]

theorem tickEnd_eq (s : State) : s.tickEnd = (let u := advanceTo s ((s.time.now / 1000 + 1) * 1000)
    { u with dict := { u.dict with arrived := [] }, change := if s.change.state = 3 then { s.change with state := 4 } else s.change }) := by
  unfold State.tickEnd
  rw [startDistribution_eq]
  rfl

/-- The request of a command that is let in waits for the end of its tick. -/
theorem immediate_admits {s : State} {q : Request} (h : s.admits q) (x : Payload) : immediate s q x = runTick (s.admitted q) [(q, x)] := by
  obtain ⟨hc, ha⟩ := h
  have hadm : admitRequest (carrierTakes s q.sender).1 q = (s.admitted q, true) := by rw [← ha]; rfl
  have hcar : carrierTakes s q.sender = ((carrierTakes s q.sender).1, true) := by rw [← hc]
  unfold immediate
  rw [hcar]
  dsimp only
  rw [hadm]

/-! ## Repeats (17 R452) -/

/-- A client heard: the times of its binding, its session and its freeze. -/
theorem hearClient_eq (s : State) (r : Sender) : ∃ b a h, hearClient s r =
    { s with dict := { s.dict with bindings := b }, priv := { s.priv with lastAt := a }, recorder := { s.recorder with holdAt := h } } := by
  have hbind : ∃ b, (if (Store.find? s.dict.bindings r.client).isSome then s.modBinding r (fun b => { b with at_ := s.time.now }) else s) =
      { s with dict := { s.dict with bindings := b } } := by
    split <;> exact ⟨_, rfl⟩
  unfold hearClient
  dsimp only
  obtain ⟨b, hb⟩ := hbind
  rw [hb]
  split <;> split <;> exact ⟨_, _, _, rfl⟩

theorem countPending_eq (s : State) (r : Sender) : ∃ n, countPending s r = { s with host := { s.host with pending := n } } := by
  unfold countPending
  split <;> exact ⟨_, rfl⟩

/-- A repeat of a request that is answered from the kept response (17 R452). -/
theorem admitRequest_repeat (s : State) (q : Request) (x : Dup) (hp : q.sender.path ≠ .can) (hpfw : s.power.pfw = false)
    (hc : clientCode s q.sender = 0) (hf : s.dict.inFlight.contains (q.sender.client, q.sender.txn) = false)
    (hx : (Store.get s.dict.dups [] q.sender.client).find? (fun y => decide (y.txn = q.sender.txn)) = some x) :
    admitRequest s q =
      (sendResponse (countPending (jbump (hearClient s q.sender) 0x1E00 5) q.sender) q.sender
        (if x.crc = bodyCrc q then x.resp else outcomeBody q (.error 0x0A110004)), false) := by
  obtain ⟨b, _, _, hb⟩ := hearClient_eq s q.sender
  have hf' : (hearClient s q.sender).dict.inFlight.contains (q.sender.client, q.sender.txn) = false := by rw [hb]; exact hf
  have hx' : (Store.get (hearClient s q.sender).dict.dups [] q.sender.client).find? (fun y => decide (y.txn = q.sender.txn)) = some x := by
    rw [hb]; exact hx
  unfold admitRequest
  dsimp only
  rw [hpfw, hc]
  simp only [Bool.false_eq_true, if_false, if_true, ne_eq, not_true_eq_false, hp, not_false_eq_true, true_and, hf', hx']
  split
  · rfl
  · rfl

/-- A response that goes out on no SDO channel leaves the dictionary as it is. -/
theorem sendResponse_dict (s : State) (r : Sender) (b : Bytes) (h : r.path ≠ .can) : (sendResponse s r b).dict = s.dict := by
  have htransmit : ∀ (u : State) (x n : Nat) (w : Wire), u.dict = s.dict → (transmit u x n w).dict = s.dict := fun u x n w hu =>
    carry_keeps (P := fun t => t.dict = s.dict) hu (fun _ _ hc ha => by obtain ⟨⟨_, _, _, rfl⟩, -⟩ := hc; exact ha) (fun _ ha => ha)
      (fun _ ha => ha)
  have hsend : ∀ (u : State) (p cls len : Nat) (ip : Bool) (w : Wire), u.dict = s.dict → (ecnSend u p cls len ip w).dict = s.dict :=
    fun u p cls len ip w hu => htransmit _ _ _ _ (by
      unfold State.modEcn
      split <;> exact hu)
  unfold sendResponse
  cases hp : r.path with
  | host => rfl
  | can => exact absurd hp h
  | ecn =>
    dsimp only
    split
    · unfold sendDatagram
      dsimp only
      split
      · exact hsend _ _ _ _ _ _ rfl
      · refine hsend _ _ _ _ _ _ ?_
        unfold State.modEcn
        split <;> rfl
    · rfl
  | ring =>
    dsimp only
    unfold sendOverRing
    split
    · rfl
    · unfold queueBest
      split <;> rfl

/-- What the answer to a repeat is sent from: the repeat counted, and nothing else of what the statement names. -/
theorem repeat_answering (s : State) (r : Sender) (hc : (carrierTakes s r).2 = true) :
    let v := countPending (jbump (hearClient (carrierTakes s r).1 r) 0x1E00 5) r
    v.lanes = s.lanes ∧ v.batchIn = s.batchIn ∧ v.forces = s.forces ∧ v.mode = s.mode ∧ (∃ b, v.dict = { s.dict with bindings := b }) ∧
    v.host.queue = s.host.queue ∧ v.ring = s.ring ∧ v.ecn0 = s.ecn0 ∧ v.ecn1 = s.ecn1 ∧ v.power = s.power ∧
    jget v 0x1E00 5 = bump32 (jget s 0x1E00 5) := by
  have hdefault : tableDefault (regKey 0x1E00 5) = 0 := by decide +kernel
  have hcar : ∃ j, (carrierTakes s r).1 = { s with jreg := j } ∧ jget { s with jreg := j } 0x1E00 5 = jget s 0x1E00 5 := by
    rw [carrierTakes_passes s r hc]
    split
    · refine ⟨_, rfl, jget_jbump_other s (ecnIndex r.carrier) 9 0x1E00 5 ?_⟩
      unfold regKey ecnIndex
      omega
    · exact ⟨_, rfl, rfl⟩
  obtain ⟨j, hj, hcount⟩ := hcar
  rw [hj]
  obtain ⟨b, a, h, hheard⟩ := hearClient_eq { s with jreg := j } r
  obtain ⟨n, hn⟩ := countPending_eq (jbump (hearClient { s with jreg := j } r) 0x1E00 5) r
  rw [hn, hheard]
  refine ⟨rfl, rfl, rfl, rfl, ⟨b, rfl⟩, rfl, rfl, rfl, rfl, rfl, ?_⟩
  rw [← hcount]
  exact jget_jbump_self _ 0x1E00 5 hdefault

/-! ## Timeouts (17 R445, R446) -/

theorem find?_none_of_not_mem {α : Type} (m : Store α) (k : Nat) (h : k ∉ m.map Prod.fst) : Store.find? m k = none := by
  induction m with
  | nil => rfl
  | cons p m ih =>
    rw [List.map_cons, List.mem_cons, not_or] at h
    unfold Store.find?
    rw [if_neg (Ne.symm h.1)]
    exact ih h.2

/-- A key listed once is gone once it is erased. -/
theorem find?_erase_of_nodup {α : Type} (m : Store α) (k : Nat) (h : (m.map Prod.fst).Nodup) : Store.find? (Store.erase m k) k = none := by
  induction m with
  | nil => rfl
  | cons p m ih =>
    obtain ⟨hp, hm⟩ := List.nodup_cons.1 h
    unfold Store.erase
    split
    · rename_i hk
      subst hk
      exact find?_none_of_not_mem m p.1 hp
    · rename_i hk
      unfold Store.find?
      rw [if_neg hk]
      exact ih hm

theorem dropXfer_open (s : State) (c : Nat) (x : Xfer) (h : Store.find? s.dict.xfers c = some x) : ∃ n,
    dropXfer s c = { s with dict := { s.dict with xfers := Store.erase s.dict.xfers c }, change := { s.change with state := n } } ∧
    (isDelta x.index x.sub = true → s.change.delta = none → s.change.state = 1 → n = 0) := by
  unfold dropXfer
  rw [h]
  dsimp only
  split
  · unfold dropReceiving
    split
    · exact ⟨0, rfl, fun _ _ _ => rfl⟩
    · rename_i hno
      exact ⟨s.change.state, rfl, fun _ hnone hone => absurd ⟨hone, hnone⟩ hno⟩
  · rename_i hno
    exact ⟨s.change.state, rfl, fun hd => absurd hd hno⟩

/-- Settles O60: a tick's order, the answer to a repeat, and the end of transfers and captures. -/
theorem theTickServes : Obligations.TheTickServes := by
  intro s
  refine ⟨?_, runTick_one s, fun r index sub d h => congrArg Host.Outcome.next (immediate_admits h .plain),
    fun r index sub d x hp hc hpfw hcode hf hx => ?_, fun client x hx hnd => ⟨_, rfl, ?_⟩, fun client x hx hnd => ⟨_, rfl, ?_⟩⟩
  · have h := junctionTick_eq s
    rw [tickEnd_eq] at h
    exact congrArg Host.Outcome.next h
  · intro b
    obtain ⟨h1, h2, h3, h4, ⟨bs, hb⟩, hrest⟩ := repeat_answering s r hc
    have hdict : (carrierTakes s r).1.dict = s.dict := by
      rw [carrierTakes_passes s r hc]
      split <;> rfl
    have hpfw' : (carrierTakes s r).1.power.pfw = false := by
      rw [carrierTakes_passes s r hc]
      split <;> exact hpfw
    have hcode' : clientCode (carrierTakes s r).1 r = 0 := (clientCode_congr (congrArg Dict.bindings hdict) r).trans hcode
    have hadm := admitRequest_repeat (carrierTakes s r).1 (writeReq r index sub d) x hp hpfw' hcode' (by rw [hdict]; exact hf) (by rw [hdict]; exact hx)
    have himm : immediate s (writeReq r index sub d) .plain = sendResponse (countPending (jbump (hearClient (carrierTakes s r).1 r) 0x1E00 5) r) r b := by
      have hcar : carrierTakes s (writeReq r index sub d).sender = ((carrierTakes s r).1, true) := by rw [← hc]; rfl
      unfold immediate
      rw [hcar]
      dsimp only
      rw [hadm]
      rfl
    refine ⟨_, congrArg Host.Outcome.next himm, ?_⟩
    generalize countPending (jbump (hearClient (carrierTakes s r).1 r) 0x1E00 5) r = v at *
    have hd := sendResponse_dict v r b hp
    obtain ⟨⟨_, _, _, _, _, _, _, _, _, _, _, _, hs⟩, -⟩ := State.Sent.sendResponse v r b
    refine ⟨?_, ?_, ?_, ?_, ?_, ?_, ?_, v, sendResponse_answered v r b, hrest⟩
    · rw [hs]; exact h1
    · rw [hs]; exact h2
    · rw [hs]; exact h3
    · rw [hs]; exact h4
    · rw [hd, hb]
    · rw [hd, hb]
    · rw [hd, hb]
  · have hopen : Store.find? (advanceTo s (x.at_ + 10000000000)).dict.xfers client = some x := hx
    obtain ⟨n, hdrop, hn⟩ := dropXfer_open _ client x hopen
    have hout : xferTimeout s client = dropXfer (advanceTo s (x.at_ + 10000000000)) client := by
      unfold xferTimeout
      rw [hx]
    rw [hout, hdrop]
    exact ⟨find?_erase_of_nodup _ _ hnd, rfl, rfl, fun hi hs hnone hone => hn (by unfold isDelta; rw [hi, hs]; rfl) hnone hone⟩
  · have hout : captureTimeout s client = { advanceTo s (x.at_ + 10000000000) with
        dict := { (advanceTo s (x.at_ + 10000000000)).dict with captures := Store.erase s.dict.captures client } } := by
      unfold captureTimeout
      rw [hx]
      rfl
    rw [hout]
    exact ⟨find?_erase_of_nodup _ _ hnd, rfl, rfl⟩

end Sys2Proof.Machine
end

section
/-! SDO transfers, the frames that form and answer requests, and the timeouts of the dictionary (11 R313, R319, 17 R442 to R455). -/

namespace Sys2Proof.Machine

open Sys2Proof

/-! ## What a crossing leaves of the ports that its traffic reaches -/

section Crossed

variable {x : Nat} {s t : State}

/-- A register of no crossing reads as before behind a crossing. -/
theorem State.Crossed.jget_other (h : State.Crossed x s t) {i sub : Nat} (hs : sub < 256) (hi : i < 0x2210 ∨ 0x2239 < i) (hx : x ≤ 41) :
    jget t i sub = jget s i sub :=
  h.2 i sub hs (by unfold crossingIndex; omega)

theorem State.Crossed.jbool_other (h : State.Crossed x s t) {i sub : Nat} (hs : sub < 256) (hi : i < 0x2210 ∨ 0x2239 < i) (hx : x ≤ 41) :
    jbool t i sub = jbool s i sub := by
  unfold jbool
  rw [h.jget_other hs hi hx]

theorem State.Crossed.can_eq (h : State.Crossed x s t) (c : CanCtl) : t.can c = s.can c := by
  obtain ⟨⟨_, _, _, rfl⟩, -⟩ := h
  rfl

theorem State.Crossed.canUp_eq (h : State.Crossed x s t) (hx : x ≤ 41) (c : CanCtl) : t.canUp c = s.canUp c := by
  unfold State.canUp
  rw [h.can_eq, h.jbool_other (by decide) (.inr (by cases c <;> decide)) hx]

theorem State.Crossed.booted_eq (h : State.Crossed x s t) : t.booted = s.booted := by
  obtain ⟨⟨_, _, _, rfl⟩, -⟩ := h
  rfl

theorem State.Crossed.dict_eq (h : State.Crossed x s t) : t.dict = s.dict := by
  obtain ⟨⟨_, _, _, rfl⟩, -⟩ := h
  rfl

theorem State.Crossed.power_eq (h : State.Crossed x s t) : t.power = s.power := by
  obtain ⟨⟨_, _, _, rfl⟩, -⟩ := h
  rfl

theorem State.Crossed.sdoUp_eq (h : State.Crossed x s t) (hx : x ≤ 41) (ch : Fin 8) : t.sdoUp ch.val = s.sdoUp ch.val := by
  unfold State.sdoUp
  dsimp only
  rw [h.booted_eq, h.canUp_eq hx, h.can_eq, h.jget_other (by omega) (.inr (by decide)) hx, h.jget_other (by omega) (.inr (by decide)) hx]

theorem State.Crossed.ecnUp_eq (h : State.Crossed x s t) (hx : x ≤ 41) (p : Nat) (hp : p ≤ 1) : t.ecnUp p = s.ecnUp p := by
  unfold State.ecnUp
  rw [h.booted_eq, h.jbool_other (by decide) (.inr (by unfold ecnIndex; omega)) hx]
  obtain ⟨⟨_, _, _, rfl⟩, -⟩ := h
  rfl

theorem State.Crossed.udpPath_eq (h : State.Crossed x s t) (hx : x ≤ 41) (r : Sender) : t.udpPath r = s.udpPath r := by
  unfold State.udpPath
  rw [h.jget_other (by decide) (.inl (by decide)) hx]

end Crossed

/-! ## SDO transfers (11 R313) -/

/-- Eight bytes of a frame are sent as they are. -/
theorem padTo_full (n : Nat) (b : Bytes) (h : b.length = n) : padTo n b = b := by
  unfold padTo
  rw [h, Nat.sub_self, List.replicate_zero, List.append_nil, List.take_of_length_le (Nat.le_of_eq h)]

theorem length_leBytes (n v : Nat) : (leBytes n v).length = n := by
  induction n generalizing v with
  | zero => rfl
  | succ n ih => rw [leBytes, List.length_cons, ih]

/-- An SDO frame through a crossing that flows. -/
theorem sdoFail_flows (s : State) (ch : Nat) (x : SdoXfer) (code : Nat) (h : s.flows 33) :
    sdoFail s ch x code = (through (dropSdo s ch) 33 2).emit (.can (canOf (ch / 4))
      { ident := cobIdent (s.sdoOut ch), ext := bitOf (s.sdoOut ch) 29
        data := leBytes 1 0x80 ++ leBytes 2 x.index ++ leBytes 1 x.sub ++ leBytes 4 code }) := by
  have hlen : (leBytes 1 0x80 ++ leBytes 2 x.index ++ leBytes 1 x.sub ++ leBytes 4 code).length = 8 := by
    simp only [List.length_append, length_leBytes]
  unfold sdoFail sdoAbort sdoSend transmit
  rw [carry_flows (dropSdo s ch) 33 _ _ _ _ h, padTo_full 8 _ hlen]
  rfl

/-- An initiate on a channel that serves. -/
theorem sdoInitiate_serves (s : State) (ch : Fin 8) (h : s.sdoUp ch.val = true) (hf : s.flows 34) (u : Bool) (index sub : Nat) (d : Option Bytes) :
    exec (.sdoInitiate ch u index sub d) s = .next (sdoBegin (through s 34 (entriesOf 34 16)) ch.val u index sub d) := by
  refine congrArg Host.Outcome.next ((crossing_flows s 34 16 _ hf).trans ?_)
  have hup := (State.Crossed.through s 34 (entriesOf 34 16)).sdoUp_eq (by decide) ch
  rw [h] at hup
  exact if_pos hup

/-- A segment on a channel that serves is judged behind its crossing. -/
theorem sdoSegment_serves (s : State) (ch : Fin 8) (hf : s.flows 34) (d : Bytes) (last : Bool) :
    exec (.sdoSegment ch d last) s = .next (sdoSegment (through s 34 (entriesOf 34 d.length)) ch.val d last) :=
  congrArg Host.Outcome.next (crossing_flows s 34 d.length _ hf)

theorem sdoSegment_found (u : State) (ch : Nat) (x : SdoXfer) (h : u.sdoUp ch = true) (hx : Store.find? u.dict.sdo ch = some x) (hopen : x.open_ = true)
    (d : Bytes) (last : Bool) : sdoSegment u ch d last =
      if x.upload then sdoUpSegment u ch x x.toggle else sdoDownSegment u ch x (x.toggle ^^ decide (x.sent ≠ 0)) d last := by
  unfold sdoSegment
  rw [if_pos h, hx, Option.filter_some, if_pos hopen]

theorem sdoSegment_none (u : State) (ch : Nat) (h : u.sdoUp ch = true) (hx : Store.find? u.dict.sdo ch = none) (d : Bytes) (last : Bool) :
    sdoSegment u ch d last = sdoAbort u ch 0 0 0x05040001 := by
  unfold sdoSegment sdoStray
  rw [if_pos h, hx, Option.filter_none]

theorem sdoDownSegment_turn (s : State) (ch : Nat) (x : SdoXfer) (d : Bytes) (last : Bool) :
    sdoDownSegment s ch x (x.toggle ^^ decide (x.sent ≠ 0)) d last =
      (let y := { x with data := x.data ++ d, at_ := s.time.now, sent := x.sent + 1, toggle := x.toggle ^^ decide (x.sent ≠ 0) }
       if last then sdoJudge s ch y else sdoSend (keepSdo s ch y) ch (leBytes 1 (0x20 + (if (x.toggle ^^ decide (x.sent ≠ 0)) then 16 else 0)))) :=
  if_neg (not_not.2 rfl)

theorem sdoUpSegment_turn (s : State) (ch : Nat) (x : SdoXfer) :
    sdoUpSegment s ch x x.toggle = sdoSend
      (if x.data.length ≤ x.sent + 7 then dropSdo s ch
       else keepSdo s ch { x with sent := x.sent + 7, toggle := !x.toggle, at_ := s.time.now }) ch
      (leBytes 1 ((if x.toggle then 16 else 0) + 2 * (7 - ((x.data.drop x.sent).take 7).length) + if x.data.length ≤ x.sent + 7 then 1 else 0) ++
        (x.data.drop x.sent).take 7) := by
  unfold sdoUpSegment
  dsimp only
  rw [if_neg (not_not.2 rfl)]
  simp only [decide_eq_true_eq]

/-! ## Datagrams (17 R443) -/

/-- A body that its carrier passes on to the dictionary. -/
theorem serveBody_arrives (u : State) (r : Sender) (b : Bytes) (q : Request) (hb : u.booted = true) (hs : u.power.stage = 0) (hu : u.udpPath r = true)
    (hp : (r.path = .ecn ∧ u.ecnUp r.carrier = true ∧ r.carrier ≤ 1) ∨ r.path = .ring) (hq : parseBody r b = some q) :
    serveBody u r b = arriveRequest (if r.path = .ecn then jbump u (ecnIndex r.carrier) 9 else u) q := by
  have htakes : carrierTakes u r = (if r.path = .ecn then jbump u (ecnIndex r.carrier) 9 else u, true) := by
    unfold carrierTakes
    rw [hb]
    rcases hp with ⟨hp, hup, hc⟩ | hp
    · have hpath : (jbump u (ecnIndex r.carrier) 9).udpPath r = true := by
        unfold State.udpPath at hu ⊢
        rw [jget_jbump_other _ _ _ _ _ (by unfold regKey ecnIndex; omega)]
        exact hu
      rw [hp]
      dsimp only
      rw [hup, if_neg (by decide), if_neg (by simp; omega), jbump_power, hs, hpath]
      rfl
    · rw [hp]
      dsimp only
      rw [hs, hu]
      rfl
  unfold serveBody
  rw [htakes]
  dsimp only
  unfold arriveBody
  rw [hq]

theorem dictionaryDatagram_arrives (s : State) (r : Sender) (b : Bytes) (q : Request)
    (hpath : (r.path = .ecn ∧ s.ecnUp r.carrier = true ∧ r.carrier ≤ 1) ∨ r.path = .ring) (hb : s.booted = true) (hstage : s.power.stage = 0)
    (hu : s.udpPath r = true) (hflow : s.flows (datagramCrossing r)) (hq : parseBody r b = some q)
    (hclaim : r.path = .ecn → portChecks (datagramFrame (through s (datagramCrossing r) (entriesOf (datagramCrossing r) b.length)) r s.dict.port b) = true ∧
      ptpClaims (through s (datagramCrossing r) (entriesOf (datagramCrossing r) b.length)) r.carrier s.dict.port = false ∧
      contextFor (through s (datagramCrossing r) (entriesOf (datagramCrossing r) b.length)) r.carrier
        (datagramFrame (through s (datagramCrossing r) (entriesOf (datagramCrossing r) b.length)) r s.dict.port b) = none) :
    exec (.dictionaryDatagram r s.dict.port b) s =
      .next (arriveRequest (if r.path = .ecn
        then jbump (through s (datagramCrossing r) (entriesOf (datagramCrossing r) b.length)) (ecnIndex r.carrier) 9
        else through s (datagramCrossing r) (entriesOf (datagramCrossing r) b.length)) q) := by
  refine congrArg Host.Outcome.next ((crossing_flows s (datagramCrossing r) b.length _ hflow).trans ?_)
  have hx : datagramCrossing r ≤ 41 := by unfold datagramCrossing; split <;> decide
  have hcross := State.Crossed.through s (datagramCrossing r) (entriesOf (datagramCrossing r) b.length)
  generalize through s (datagramCrossing r) (entriesOf (datagramCrossing r) b.length) = got at hcross hclaim ⊢
  have hport : s.dict.port = got.dict.port := by rw [hcross.dict_eq]
  have hgot : (r.path = .ecn ∧ got.ecnUp r.carrier = true ∧ r.carrier ≤ 1) ∨ r.path = .ring :=
    hpath.imp_left fun ⟨hp, hup, hc⟩ => ⟨hp, (hcross.ecnUp_eq hx _ hc).trans hup, hc⟩
  rw [← serveBody_arrives got r b q (hcross.booted_eq.trans hb) (by rw [hcross.power_eq, hstage]) ((hcross.udpPath_eq hx r).trans hu) hgot hq]
  change dictionaryDatagram got r s.dict.port b = _
  unfold dictionaryDatagram
  rcases hgot with ⟨hp, hup, hc⟩ | hp
  · obtain ⟨hchecks, hptp, hctx⟩ := hclaim hp
    rw [hp]
    unfold ecnDatagram
    dsimp only
    rw [hup, if_neg (by simp; omega), hchecks, hptp, hctx]
    exact if_pos hport
  · rw [hp]
    exact if_pos hport

/-! ## The statement -/

theorem sdoSegment_download (s : State) (ch : Fin 8) (h : s.sdoUp ch.val = true) (hf : s.flows 34) (x : SdoXfer) (d : Bytes)
    (hx : Store.find? s.dict.sdo ch.val = some x) (hopen : x.open_ = true) (hdown : x.upload = false) (last : Bool) :
    exec (.sdoSegment ch d last) s = .next
      (let y := { x with data := x.data ++ d, at_ := s.time.now, sent := x.sent + 1, toggle := x.toggle ^^ decide (x.sent ≠ 0) }
       let got := through s 34 (entriesOf 34 d.length)
       if last then sdoJudge got ch.val y
       else sdoSend (keepSdo got ch.val y) ch.val (leBytes 1 (0x20 + (if (x.toggle ^^ decide (x.sent ≠ 0)) then 16 else 0)))) := by
  have hcross := State.Crossed.through s 34 (entriesOf 34 d.length)
  rw [sdoSegment_serves s ch hf, sdoSegment_found _ ch.val x ((hcross.sdoUp_eq (by decide) ch).trans h) (by rw [hcross.dict_eq]; exact hx) hopen,
    if_neg (by rw [hdown]; decide)]
  rw [sdoDownSegment_turn, through_time]

theorem sdoSegment_upload (s : State) (ch : Fin 8) (h : s.sdoUp ch.val = true) (hf : s.flows 34) (x : SdoXfer) (d : Bytes)
    (hx : Store.find? s.dict.sdo ch.val = some x) (hopen : x.open_ = true) (hup : x.upload = true) (last : Bool) :
    exec (.sdoSegment ch d last) s = .next (sdoSend
      (if x.data.length ≤ x.sent + 7 then dropSdo (through s 34 (entriesOf 34 d.length)) ch.val
       else keepSdo (through s 34 (entriesOf 34 d.length)) ch.val { x with sent := x.sent + 7, toggle := !x.toggle, at_ := s.time.now }) ch.val
      (leBytes 1 ((if x.toggle then 16 else 0) + 2 * (7 - ((x.data.drop x.sent).take 7).length) + if x.data.length ≤ x.sent + 7 then 1 else 0) ++
        (x.data.drop x.sent).take 7)) := by
  have hcross := State.Crossed.through s 34 (entriesOf 34 d.length)
  rw [sdoSegment_serves s ch hf, sdoSegment_found _ ch.val x ((hcross.sdoUp_eq (by decide) ch).trans h) (by rw [hcross.dict_eq]; exact hx) hopen,
    if_pos hup]
  rw [sdoUpSegment_turn, through_time]

theorem sdoSegment_stray (s : State) (ch : Fin 8) (h : s.sdoUp ch.val = true) (hf : s.flows 34) (hx : Store.find? s.dict.sdo ch.val = none)
    (d : Bytes) (last : Bool) :
    exec (.sdoSegment ch d last) s = .next (sdoAbort (through s 34 (entriesOf 34 d.length)) ch.val 0 0 0x05040001) := by
  have hcross := State.Crossed.through s 34 (entriesOf 34 d.length)
  rw [sdoSegment_serves s ch hf, sdoSegment_none _ ch.val ((hcross.sdoUp_eq (by decide) ch).trans h) (by rw [hcross.dict_eq]; exact hx)]

theorem sdoJudge_forms (s : State) (ch : Nat) (x : SdoXfer) :
    let txn := Store.get s.dict.sdoTxn 0 ch
    let q := if x.upload then sdoRead s ch x.index x.sub else sdoWrite s ch x.index x.sub x.data
    sdoJudge s ch x = arriveRequest (nextTxn (keepSdo s ch { x with txn := some txn }) ch) q ∧ q.sender = sdoSender s ch := by
  intro txn q
  have hq : q.sender = sdoSender s ch := by
    show (if x.upload then sdoRead s ch x.index x.sub else sdoWrite s ch x.index x.sub x.data).sender = _
    unfold sdoWrite
    split
    · rfl
    · split <;> rfl
  refine ⟨?_, hq⟩
  have htxn : q.sender.txn = txn := by rw [hq]; rfl
  change arriveRequest (nextTxn (keepSdo s ch { x with txn := some q.sender.txn }) ch) q = _
  rw [htxn]

/-- Settles O44: a command whose traffic flows is done behind its crossing, where the channel, the port and the tables are those of before. -/
theorem transfersAndTheirTimeouts : Obligations.TransfersAndTheirTimeouts := by
  unfold Obligations.TransfersAndTheirTimeouts
  intro s
  refine ⟨?_, ?_, ?_, ?_, ?_, ?_, ?_, ?_, ?_, ?_⟩
  · intro ch hup hflow
    refine ⟨?_, ?_, ?_⟩
    · intro index sub
      refine ⟨?_, fun d => ?_, fun d => ?_⟩ <;>
      · rw [sdoInitiate_serves s ch hup hflow, ← through_time s 34 (entriesOf 34 16)]
        rfl
    · intro x d hx hopen
      exact ⟨fun hdown => ⟨sdoSegment_download s ch hup hflow x d hx hopen hdown false, sdoSegment_download s ch hup hflow x d hx hopen hdown true⟩,
        fun hup' => sdoSegment_upload s ch hup hflow x d hx hopen hup'⟩
    · exact sdoSegment_stray s ch hup hflow
  · intro ch x
    obtain ⟨hjudge, hsender⟩ := sdoJudge_forms s ch x
    refine ⟨hjudge, hsender, fun code => sdoFail_flows s ch x code, fun d last => if_pos (by simp), if_pos (by simp), ?_, ?_, ?_⟩
    · intro index sub size crc hsize
      exact if_pos hsize
    · intro b seq last d hseq
      exact if_pos hseq
    · intro b n crc hb hcrc
      exact if_pos (by rw [hb]; simpa using hcrc)
  · intro c f ch hflow hch
    refine congrArg Host.Outcome.next ((crossing_flows s 34 16 _ hflow).trans ?_)
    change canFrame _ c f = _
    unfold canFrame
    rw [hch]
  · intro ch x hx hopen
    change Host.Outcome.next (sdoTimeout s ch.val) = _
    unfold sdoTimeout
    rw [hx]
    dsimp only
    rw [hopen]
    rfl
  · intro r b q hpath hb hstage hu hflow hq
    exact dictionaryDatagram_arrives s r b q hpath hb hstage hu hflow hq
  · intro n v c hv hc
    change Host.Outcome.next (cvuTimeout s n.val) = _
    unfold cvuTimeout
    rw [hv]
    dsimp only
    rw [hc]
    rfl
  · intro client x hx
    change Host.Outcome.next (xferTimeout s client) = _
    unfold xferTimeout
    rw [hx]
  · intro client x hx
    change Host.Outcome.next (captureTimeout s client) = _
    unfold captureTimeout
    rw [hx]
    rfl
  · intro client b hb hkept
    change Host.Outcome.next (bindingExpiry s client) = _
    unfold bindingExpiry
    rw [hb]
    dsimp only
    rw [hkept]
    rfl
  · intro client txn d hd
    change Host.Outcome.next (historyExpiry s client txn) = _
    unfold historyExpiry
    dsimp only
    rw [hd]
    rfl

end Sys2Proof.Machine
end

section
/-! The host link: requests, responses and status transactions (11 R314 to R316). -/

namespace Sys2Proof.Machine

open Sys2Proof

/-! ## Crossings that traffic of another crossing leaves -/

/-- Traffic of one crossing leaves every other crossing. -/
theorem through_crossing_other (s : State) (x n : Nat) {y : Nat} (h : y ≠ x) : (through s x n).crossing y = s.crossing y := by
  unfold through
  split
  · rfl
  · unfold State.crossing raiseMark State.setCrossing Store.get
    rw [jset_crossings, Store.find?_insert_other _ _ h]
    rfl

theorem State.Crossed.crossingLive_eq {x : Nat} {s t : State} (h : State.Crossed x s t) (hx : x ≤ 41) (y : Nat) :
    t.crossingLive y = s.crossingLive y := by
  unfold State.crossingLive State.variantF
  rw [h.jget_other (by decide) (.inl (by decide)) hx]

theorem State.Crossed.domainRuns_eq {x : Nat} {s t : State} (h : State.Crossed x s t) : t.domainRuns = s.domainRuns := by
  obtain ⟨⟨_, _, _, rfl⟩, -⟩ := h
  rfl

/-- Crossings flow as before behind the traffic of another one. -/
theorem through_flows_other {s : State} {x n y : Nat} (hx : x ≤ 41) (hy : y ≠ x) (h : s.flows y) : (through s x n).flows y := by
  have hcross := State.Crossed.through s x n
  unfold State.flows State.sourceRuns State.destRuns at h ⊢
  rw [hcross.crossingLive_eq hx, hcross.domainRuns_eq, through_crossing_other s x n hy]
  exact h

/-- No entry through a crossing leaves it as it was. -/
theorem through_zero (s : State) (x : Nat) : through s x 0 = s := if_pos (.inl rfl)

theorem clocked_flows {s : State} {x : Nat} (h : s.flows x) : (clocked s).flows x := h

/-- What the device shifts out while the host clocks, over a crossing that flows. -/
theorem shiftOut_flows (s : State) (n : Nat) (b : Bytes) (h : s.flows 36) :
    shiftOut s n b = (through (clocked s) 36 (Nat.min n b.length)).emit (.spi (padTo n b)) :=
  carry_flows (clocked s) 36 (Nat.min n b.length) (.wire (.spi (padTo n b))) id (fun t => t.emit (.spi (padTo n b))) (clocked_flows h)

theorem shiftOut_nothing (s : State) (n : Nat) (h : s.flows 36) : shiftOut s n [] = (clocked s).emit (.spi (List.replicate n 0)) := by
  have hpad : padTo n [] = List.replicate n (0 : Byte) := by simp [padTo]
  rw [shiftOut_flows s n [] h, hpad, List.length_nil, Nat.min_eq_min, Nat.min_zero, through_zero]

/-! ## Requests -/

theorem State.Crossed.hostUp_eq {x : Nat} {s t : State} (h : State.Crossed x s t) (hx : x ≤ 41) : t.hostUp = s.hostUp := by
  unfold State.hostUp
  rw [h.booted_eq, h.jbool_other (by decide) (.inr (by decide)) hx]

theorem carrierTakes_host (s : State) (h : s.hostUp = true) :
    carrierTakes s hostSender =
      if s.host.pending < 16 then (s, true) else (jbump { s with host := { s.host with overrun := true } } 0x4900 4, false) := by
  obtain ⟨hb, hj⟩ := Bool.and_eq_true_iff.1 h
  unfold carrierTakes
  rw [hb, hj]
  by_cases hp : s.host.pending < 16
  · exact (if_neg (Nat.not_le.2 hp)).trans (if_pos hp).symm
  · exact (if_pos (Nat.not_lt.1 hp)).trans (if_neg hp).symm

/-- The state that a host request finds when its bytes have been clocked in. -/
def requestClocked (s : State) (b : Bytes) : State :=
  (clocked (through s 35 (entriesOf 35 b.length))).emit (.spi (List.replicate b.length 0))

theorem requestClocked_hostUp (s : State) (b : Bytes) (h : s.hostUp = true) : (requestClocked s b).hostUp = true :=
  ((State.Crossed.through s 35 (entriesOf 35 b.length)).hostUp_eq (by decide)).trans h

theorem requestClocked_host (s : State) (b : Bytes) : (requestClocked s b).host = { s.host with ranAt := some s.time.now } := by
  unfold requestClocked clocked
  rw [emit_host, through_host, through_time]

/-- A host request, its bytes clocked, judged by its body. -/
theorem hostRequest_clocked (s : State) (b : Bytes) (h : s.hostUp = true) (h35 : s.flows 35) (h36 : s.flows 36) :
    exec (.hostRequest b) s = .next (match hostBody b with
      | none => jbump { requestClocked s b with host := { (requestClocked s b).host with discarded := true } } 0x4900 3
      | some body => match carrierTakes (requestClocked s b) hostSender with
        | (t, true) => arriveBody t hostSender body
        | (t, false) => t) := by
  refine congrArg Host.Outcome.next ((crossing_flows s 35 b.length _ h35).trans ?_)
  have hup : (through s 35 (entriesOf 35 b.length)).hostUp = true :=
    ((State.Crossed.through s 35 (entriesOf 35 b.length)).hostUp_eq (by decide)).trans h
  change hostRequest _ b = _
  unfold hostRequest
  rw [hup, if_neg (by decide), shiftOut_nothing _ _ (through_flows_other (by decide) (by decide) h36)]
  rfl

theorem hostRequest_admitted (s : State) (b body : Bytes) (h : s.hostUp = true) (h35 : s.flows 35) (h36 : s.flows 36) (hbody : hostBody b = some body) :
    exec (.hostRequest b) s = .next (if s.host.pending < 16 then arriveBody (requestClocked s b) hostSender body
      else jbump { requestClocked s b with host := { (requestClocked s b).host with overrun := true } } 0x4900 4) := by
  have hpend : (requestClocked s b).host.pending = s.host.pending := by rw [requestClocked_host]
  rw [hostRequest_clocked s b h h35 h36, hbody, carrierTakes_host _ (requestClocked_hostUp s b h), hpend]
  dsimp only
  by_cases hp : s.host.pending < 16
  · rw [if_pos hp, if_pos hp]
  · rw [if_neg hp, if_neg hp]

/-! ## Responses and status -/

theorem length_hostFrame (s : State) (b : Bytes) (q : List Bytes) (h : s.host.queue = b :: q) : (hostFrame s).length = 7 + b.length := by
  unfold hostFrame
  simp only [h, List.headD_cons, List.length_cons, List.length_append, length_leBytes]
  omega

theorem readResponse_up (s : State) (n : Nat) (h : s.hostUp = true) :
    readResponse s n = if (shiftOut s n (hostFrame s)).host.queue ≠ [] ∧ (hostFrame s).length ≤ n then
        { shiftOut s n (hostFrame s) with host := { (shiftOut s n (hostFrame s)).host with
            queue := (shiftOut s n (hostFrame s)).host.queue.tail, pending := (shiftOut s n (hostFrame s)).host.pending - 1 } }
      else shiftOut s n (hostFrame s) := by
  unfold readResponse
  rw [h]
  rfl

theorem shiftOut_host (s : State) (n : Nat) (b : Bytes) (h : s.flows 36) : (shiftOut s n b).host = { s.host with ranAt := some s.time.now } := by
  rw [shiftOut_flows s n b h, emit_host, through_host]
  rfl

theorem readResponse_kept (s : State) (n : Nat) (hu : s.hostUp = true) (hf : s.flows 36) (h : s.host.queue = [] ∨ n < (hostFrame s).length) :
    exec (.readResponse n) s = .next ((through (clocked s) 36 (Nat.min n (hostFrame s).length)).emit (.spi (padTo n (hostFrame s)))) := by
  change Host.Outcome.next (readResponse s n) = _
  rw [readResponse_up s n hu, shiftOut_host s n _ hf, if_neg ?_, shiftOut_flows s n _ hf]
  rintro ⟨hq, hn⟩
  exact h.elim hq (by omega)

theorem readResponse_taken (s : State) (n : Nat) (hu : s.hostUp = true) (hf : s.flows 36) (b : Bytes) (q : List Bytes)
    (hq : s.host.queue = b :: q) (hn : 7 + b.length ≤ n) :
    exec (.readResponse n) s = .next { (through (clocked s) 36 (Nat.min n (hostFrame s).length)).emit (.spi (padTo n (hostFrame s))) with
      host := { s.host with ranAt := some s.time.now, queue := q, pending := s.host.pending - 1 } } := by
  change Host.Outcome.next (readResponse s n) = _
  rw [readResponse_up s n hu, shiftOut_host s n _ hf, if_pos ⟨by rw [hq]; exact List.cons_ne_nil _ _, by rw [length_hostFrame s b q hq]; exact hn⟩,
    shiftOut_flows s n _ hf]
  dsimp only
  rw [hq, List.tail_cons]

theorem hostStatus_clocked (s : State) (n : Nat) (hu : s.hostUp = true) (hf : s.flows 36) (x : Bytes) (hx : x = 0 :: leBytes 4 (hostWord s)) :
    exec (.hostStatus n) s = .next (if 2 ≤ n
      then { (through (clocked s) 36 (Nat.min n x.length)).emit (.spi (padTo n x)) with
        host := { s.host with ranAt := some s.time.now, overrun := false, discarded := false } }
      else (through (clocked s) 36 (Nat.min n x.length)).emit (.spi (padTo n x))) := by
  change Host.Outcome.next (hostStatus s n) = _
  unfold hostStatus
  rw [hu, if_neg (by decide), ← hx]
  dsimp only
  rw [shiftOut_host s n x hf, shiftOut_flows s n x hf]

/-- The bits of the status word: the queue's length below 32, a flag each at 32, 64 and 128, and the mode above. -/
theorem hostWord_bits (s : State) (h : s.host.queue.length ≤ 16) :
    hostWord s % 32 = s.host.queue.length ∧ (hostWord s / 32 % 2 = 1 ↔ s.host.overrun = true) ∧
      (hostWord s / 64 % 2 = 1 ↔ s.host.discarded = true) ∧ (hostWord s / 128 % 2 = 1 ↔ s.inRun = true) ∧ hostWord s / 256 = s.mode.code := by
  unfold hostWord
  cases s.host.overrun <;> cases s.host.discarded <;> cases s.inRun <;>
  · simp only [if_true, Bool.false_eq_true, if_false, iff_true, iff_false]
    omega

theorem unknownCommand_counted (s : State) (cmd : Byte) (hu : s.hostUp = true) (h1 : cmd ≠ 1) (h2 : cmd ≠ 2) (h3 : cmd ≠ 3) (hf : s.flows 36) :
    exec (.unknownCommand cmd) s = .next (jbump ((clocked s).emit (.spi [0])) 0x4900 5) := by
  change Host.Outcome.next (unknownCommand s cmd) = _
  unfold unknownCommand
  rw [if_neg h1, if_neg h2, if_neg h3, hu, if_neg (by decide), shiftOut_nothing s 1 hf]
  rfl

/-- Settles O43: what the host clocks goes through crossing 36 only where the device has something to send; the flags, the queue and the count of
unread responses follow from the request's body and from the bytes clocked. -/
theorem hostLinkServes : Obligations.HostLinkServes := by
  unfold Obligations.HostLinkServes
  intro s hu
  refine ⟨?_, ?_, hostWord_bits s, ?_, fun cmd => unknownCommand_counted s cmd hu⟩
  · intro b h35 h36
    refine ⟨fun body hbody => hostRequest_admitted s b body hu h35 h36 hbody, fun hbody => ?_⟩
    rw [hostRequest_clocked s b hu h35 h36, hbody]
    rfl
  · intro n hf
    refine ⟨fun hq => readResponse_kept s n hu hf (.inl hq), fun b q hq => ⟨readResponse_taken s n hu hf b q hq, fun hn => ?_⟩,
      hostStatus_clocked s n hu hf _ rfl⟩
    exact readResponse_kept s n hu hf (.inr (by rw [length_hostFrame s b q hq]; exact hn))
  · unfold State.hostIrq
    rw [hu, Bool.true_and, decide_eq_true_iff]

end Sys2Proof.Machine
end

section
/-! The CAN controllers: frames, NMT, heartbeats and the error states (11 R309 to R312). -/

namespace Sys2Proof.Machine

open Sys2Proof

/-- A transmit queue that flows puts its frame on the wire. -/
theorem transmit_flows {s : State} {x : Nat} (n : Nat) (w : Wire) (h : s.flows x) : transmit s x n w = (through s x n).emit w :=
  carry_flows s x n (.wire w) id (fun t => t.emit w) h

@[simp] theorem can_modCan (s : State) (c : CanCtl) (f : Can → Can) : (s.modCan c f).can c = f (s.can c) := by
  cases c <;> rfl

theorem modCan_flows {s : State} {x : Nat} (c : CanCtl) (f : Can → Can) (h : s.flows x) : (s.modCan c f).flows x := by
  cases c <;> exact h

section Crossed

variable {x : Nat} {s t : State}

theorem State.Crossed.canNode_eq (h : State.Crossed x s t) (hx : x ≤ 41) (c : CanCtl) : canNode t c = canNode s c := by
  unfold canNode
  rw [h.jget_other (by decide) (.inr (by cases c <;> decide)) hx]

theorem State.Crossed.config_eq (h : State.Crossed x s t) : t.config = s.config := by
  obtain ⟨⟨_, _, _, rfl⟩, -⟩ := h
  rfl

theorem State.Crossed.mode_eq (h : State.Crossed x s t) : t.mode = s.mode := by
  obtain ⟨⟨_, _, _, rfl⟩, -⟩ := h
  rfl

end Crossed

/-! ## Frames and NMT commands behind their crossing -/

/-- A frame of no SDO channel is matched with the receive objects while the controller is Operational. -/
theorem canFrame_matched (s : State) (c : CanCtl) (f : CFrame) (k : Container) (hup : s.canUp c = true) (hop : (s.can c).nmt = .operational)
    (hk : s.config = some k) (hch : sdoChannel s c f = none) :
    canFrame s c f = match matchRx k c f with
      | some r => (if (Store.find? (s.can c).rx r.obj).isSome then jbump s (canIndex c) 13 else s).modCan c (fun x =>
          { x with rx := Store.insert x.rx r.obj (padTo r.len f.data) })
      | none => s := by
  unfold canFrame
  rw [hch]
  dsimp only
  unfold canFrameReceived
  rw [hup, hop, if_pos (by decide), hk]
  rfl

theorem nmtTo_reached (s : State) (c : CanCtl) (node : Nat) (n : Nmt) (hup : s.canUp c = true) (hnode : node = 0 ∨ node = canNode s c)
    (hboot : (s.can c).nmt ≠ .bootUp) : nmtTo s c node n = if s.mode = .safe then s else s.modCan c (fun x => { x with nmt := n }) := by
  unfold nmtTo nmtFor
  rw [hup]
  by_cases hm : s.mode = .safe
  · rw [if_neg (by simp [hm]), if_pos hm]
  · rw [if_pos (by simpa [hboot, hm] using hnode), if_neg hm]

theorem resetFor_reached (s : State) (c : CanCtl) (node : Nat) (hb : s.booted = true) (hon : jbool s (canIndex c) 1 = true) (herr : (s.can c).err ≠ 2)
    (hnode : node = 0 ∨ node = canNode s c) : resetFor s c node = true := by
  unfold resetFor
  rw [hb, hon]
  simpa [herr] using hnode

/-! ## The statement -/

section Bus

variable (s : State) (c : CanCtl)

/-- What a controller's port takes from the bus (crossing 34). -/
theorem can_receives (hup : s.canUp c = true) (hflow : s.flows 34) :
    let got := through s 34 (entriesOf 34 16)
    (∀ k f, (s.can c).nmt = .operational → s.config = some k →
      (∀ r, sdoChannel got c f = none → matchRx k c f = some r → exec (.canFrameReceived c f) s =
        .next ((if (Store.find? (s.can c).rx r.obj).isSome then jbump got (canIndex c) 13 else got).modCan c (fun x =>
          { x with rx := Store.insert x.rx r.obj (padTo r.len f.data) }))) ∧
      (sdoChannel got c f = none → matchRx k c f = none → exec (.canFrameReceived c f) s = .next got)) ∧
    (∀ node, (node = 0 ∨ node = canNode s c) → (s.can c).nmt ≠ .bootUp →
      (s.mode ≠ .safe → exec (.nmtStart c node) s = .next (got.modCan c (fun x => { x with nmt := .operational })) ∧
        exec (.nmtStop c node) s = .next (got.modCan c (fun x => { x with nmt := .stopped })) ∧
        exec (.nmtEnterPreOperational c node) s = .next (got.modCan c (fun x => { x with nmt := .preOp }))) ∧
      (s.mode = .safe → exec (.nmtStart c node) s = .next got ∧ exec (.nmtStop c node) s = .next got ∧
        exec (.nmtEnterPreOperational c node) s = .next got)) ∧
    (∀ node, exec (.heartbeatReceived c node) s = .next ((List.range 32).foldl (fun t n => hearBeat t c node n) got)) := by
  intro got
  have hcross : State.Crossed 34 s got := State.Crossed.through s 34 (entriesOf 34 16)
  have hgot : got.canUp c = true := (hcross.canUp_eq (by decide) c).trans hup
  have hcan : got.can c = s.can c := hcross.can_eq c
  have hmode : got.mode = s.mode := hcross.mode_eq
  have far : ∀ i : Instr, crossing s 34 16 i = arriveFar got s.time.now i := fun i => crossing_flows s 34 16 i hflow
  refine ⟨fun k f hop hk => ?_, fun node hnode hboot => ?_, fun node => ?_⟩
  · have hframe := fun hch => canFrame_matched got c f k hgot (by rw [hcan, hop]) (hcross.config_eq.trans hk) hch
    rw [hcan] at hframe
    refine ⟨fun r hch hr => congrArg Host.Outcome.next ((far _).trans ((hframe hch).trans ?_)),
      fun hch hr => congrArg Host.Outcome.next ((far _).trans ((hframe hch).trans ?_))⟩ <;>
    rw [hr]
  · have hto := fun n => nmtTo_reached got c node n hgot (by rwa [hcross.canNode_eq (by decide)]) (by rwa [hcan])
    rw [hmode] at hto
    have safe : s.mode = .safe → ∀ n, nmtTo got c node n = got := fun hm n => (hto n).trans (if_pos hm)
    have moved : s.mode ≠ .safe → ∀ n, nmtTo got c node n = got.modCan c (fun x => { x with nmt := n }) := fun hm n => (hto n).trans (if_neg hm)
    exact ⟨fun hm => ⟨congrArg Host.Outcome.next ((far _).trans (moved hm .operational)), congrArg Host.Outcome.next ((far _).trans (moved hm .stopped)),
        congrArg Host.Outcome.next ((far _).trans (moved hm .preOp))⟩,
      fun hm => ⟨congrArg Host.Outcome.next ((far _).trans (safe hm .operational)), congrArg Host.Outcome.next ((far _).trans (safe hm .stopped)),
        congrArg Host.Outcome.next ((far _).trans (safe hm .preOp))⟩⟩
  · refine congrArg Host.Outcome.next ((far _).trans ?_)
    exact if_pos hgot

theorem canArbitrationWon_sent (hup : s.canUp c = true) (obj : Fin 32) (f : CFrame) (hf : Store.find? (s.can c).tx obj.val = some f) (h : s.flows 33) :
    exec (.canArbitrationWon c obj) s =
      .next ((through (s.modCan c (fun x => { x with tx := Store.erase x.tx obj.val })) 33 2).emit (.can c f)) := by
  change Host.Outcome.next (canArbitrationWon s c obj) = _
  unfold canArbitrationWon
  rw [hf]
  dsimp only
  rw [if_pos hup, transmit_flows 2 _ (modCan_flows c _ h)]

theorem heartbeatProducer_sends (hup : s.canUp c = true) (hms : jget s 0x1017 0 ≠ 0) (hboot : (s.can c).nmt ≠ .bootUp) :
    let at_ := advanceTo s ((s.can c).hbAt + jget s 0x1017 0 * 1000000)
    exec (.heartbeatProducer c) s = .next (sendHeartbeat (at_.modCan c (fun x => { x with hbAt := at_.time.now })) c (s.can c).nmt.code) := by
  intro at_
  have hcan : at_.can c = s.can c := by cases c <;> rfl
  change Host.Outcome.next (heartbeatProducer s c) = _
  unfold heartbeatProducer
  dsimp only
  rw [if_pos (by simp [hup, hms, hboot]), can_modCan]
  change Host.Outcome.next (sendHeartbeat _ c (at_.can c).nmt.code) = _
  rw [hcan]

theorem errorPassive_reported (hup : s.canUp c = true) (tec rec_ : Nat) :
    let told := fun (n : Nat) => (jset s (canIndex c) 10 (Nat.min 255 tec + 256 * Nat.min 255 rec_)).modCan c (fun x => { x with err := n })
    ((127 < tec ∨ 127 < rec_) → exec (.controllerErrorPassive c tec rec_) s =
      .next (if (s.can c).err = 1 then told 1 else emcyOne (told 1) c 0x8120 0 0)) ∧
    (tec ≤ 127 → rec_ ≤ 127 → exec (.controllerErrorPassive c tec rec_) s =
      .next (if (s.can c).err = 1 then emcyOne (told 0) c 0 0 0 else told 0)) := by
  intro told
  have hcan : (jset s (canIndex c) 10 (Nat.min 255 tec + 256 * Nat.min 255 rec_)).can c = s.can c := by cases c <;> rfl
  have hpassive : exec (.controllerErrorPassive c tec rec_) s = .next
      (if (decide (127 < tec) || decide (127 < rec_)) && !decide ((s.can c).err = 1)
        then emcyOne (told (if (decide (127 < tec) || decide (127 < rec_)) = true then 1 else 0)) c 0x8120 0 0
        else if decide ((s.can c).err = 1) && !(decide (127 < tec) || decide (127 < rec_))
          then emcyOne (told (if (decide (127 < tec) || decide (127 < rec_)) = true then 1 else 0)) c 0 0 0
          else told (if (decide (127 < tec) || decide (127 < rec_)) = true then 1 else 0)) := by
    refine congrArg Host.Outcome.next ((if_pos hup).trans ?_)
    dsimp only
    rw [hcan]
  rw [hpassive]
  constructor
  · intro h
    have hp : (decide (127 < tec) || decide (127 < rec_)) = true := by simpa using h
    rw [hp]
    by_cases he : (s.can c).err = 1 <;> simp [he]
  · intro ht hr
    have hp : (decide (127 < tec) || decide (127 < rec_)) = false := by simp [ht, hr]
    rw [hp]
    by_cases he : (s.can c).err = 1 <;> simp [he]

end Bus

/-- Settles O42: behind its crossing a controller is the one of before, so that its state decides what a frame or command does; an expiry is judged
at the close of the batch. -/
theorem canControllersServe : Obligations.CanControllersServe := by
  unfold Obligations.CanControllersServe
  intro s c got
  refine ⟨can_receives s c, fun hup => ⟨fun obj f hf h => canArbitrationWon_sent s c hup obj f hf h, heartbeatProducer_sends s c hup,
    congrArg Host.Outcome.next (if_pos hup), errorPassive_reported s c hup⟩, fun t code h => transmit_flows 2 _ h, ?_, ?_, ?_⟩
  · intro node hflow hb hon herr hnode
    have hcross : State.Crossed 34 s got := State.Crossed.through s 34 (entriesOf 34 16)
    have hreset : resetFor got c node = true := resetFor_reached got c node (hcross.booted_eq.trans hb)
      (by rw [hcross.jbool_other (by decide) (.inr (by cases c <;> decide)) (by decide), hon]) (by rwa [hcross.can_eq])
      (by rwa [hcross.canNode_eq (by decide)])
    exact ⟨congrArg Host.Outcome.next ((crossing_flows s 34 16 _ hflow).trans (if_pos hreset)),
      congrArg Host.Outcome.next ((crossing_flows s 34 16 _ hflow).trans (if_pos hreset))⟩
  · exact fun herr => congrArg Host.Outcome.next (if_pos herr)
  · intro n t k ht hx hk at_
    change Host.Outcome.next (heartbeatExpiry s n) = _
    unfold heartbeatExpiry
    rw [ht, hk]
    dsimp only
    rw [if_pos ⟨Nat.succ_ne_zero t, hx⟩, Nat.add_sub_cancel]
    rfl

end Sys2Proof.Machine
end

section
/-! The ECN ports: telegrams, ARP, ICMP and the link (11 R300 to R308). -/

namespace Sys2Proof.Machine

open Sys2Proof

/-! ## Transmit entries (11 R304) -/

/-- What a transmit entry does at its firing, with its telegram and the locked buffer looked up. -/
theorem ecnTransmit_armed (s : State) (i : Nat) (e : CutEntry) (h : s.armed i 8 e) :
    exec (.ecnTransmit i) s = .next
      (if !s.booted || !jbool s (ecnIndex (CutEntry.tgt e / 256 % 2)) 1 then s.fires i e
       else match s.config.bind (fun c => c.telegrams.find? (fun t => decide (t.port = CutEntry.tgt e / 256 % 2) &&
              decide (t.ctx = CutEntry.tgt e % 256) && decide (t.role = 1))),
            Store.find? (Store.get (s.ecn (CutEntry.tgt e / 256 % 2)).tx TxCtx.blank (CutEntry.tgt e % 256)).locked i with
        | some t, some b => modTelTx
            (if s.inRun then offerTelegram (s.fires i e) (CutEntry.tgt e / 256 % 2) t b
             else jbump (s.fires i e) (telBase (CutEntry.tgt e / 256 % 2) + 14) (CutEntry.tgt e % 256))
            (CutEntry.tgt e / 256 % 2) (CutEntry.tgt e % 256) (TxCtx.unlock i)
        | _, _ => jbump (s.fires i e) (telBase (CutEntry.tgt e / 256 % 2) + 14) (CutEntry.tgt e % 256)) :=
  congrArg Host.Outcome.next (entryCommand_fires s i 8 e _ h)

section Transmit

variable {s : State} {i : Nat} {e : CutEntry} (h : s.armed i 8 e) (hb : s.booted = true)

include h hb

theorem ecnTransmit_sends (hon : jbool s (ecnIndex (CutEntry.tgt e / 256 % 2)) 1 = true) (hrun : s.inRun = true) {c : Container} {y : Telegram}
    {d : TxBuffer} (hc : s.config = some c)
    (hy : c.telegrams.find? (fun t => decide (t.port = CutEntry.tgt e / 256 % 2) && decide (t.ctx = CutEntry.tgt e % 256) && decide (t.role = 1)) = some y)
    (hd : Store.find? (Store.get (s.ecn (CutEntry.tgt e / 256 % 2)).tx TxCtx.blank (CutEntry.tgt e % 256)).locked i = some d) :
    exec (.ecnTransmit i) s = .next (modTelTx (offerTelegram (s.fires i e) (CutEntry.tgt e / 256 % 2) y d) (CutEntry.tgt e / 256 % 2)
      (CutEntry.tgt e % 256) (TxCtx.unlock i)) := by
  rw [ecnTransmit_armed s i e h, hb, hon, hc, Option.bind_some, hy, hd, hrun]
  rfl

theorem ecnTransmit_empty (hon : jbool s (ecnIndex (CutEntry.tgt e / 256 % 2)) 1 = true)
    (hd : Store.find? (Store.get (s.ecn (CutEntry.tgt e / 256 % 2)).tx TxCtx.blank (CutEntry.tgt e % 256)).locked i = none) :
    exec (.ecnTransmit i) s = .next (jbump (s.fires i e) (telBase (CutEntry.tgt e / 256 % 2) + 14) (CutEntry.tgt e % 256)) := by
  rw [ecnTransmit_armed s i e h, hb, hon, hd]
  rw [if_neg (by decide)]
  split
  case h_1 heq => exact nomatch heq
  case h_2 => rfl

/-- Outside RUN an entry counts an empty transmission, whether or not a buffer is locked. -/
theorem ecnTransmit_outside (hon : jbool s (ecnIndex (CutEntry.tgt e / 256 % 2)) 1 = true) (hrun : s.inRun = false) :
    ∃ t, exec (.ecnTransmit i) s = .next t ∧
      t.jreg = (jbump (s.fires i e) (telBase (CutEntry.tgt e / 256 % 2) + 14) (CutEntry.tgt e % 256)).jreg ∧ t.wires = (s.fires i e).wires ∧
      t.lanes = (s.fires i e).lanes ∧ t.mode = s.mode := by
  rw [ecnTransmit_armed s i e h, hb, hon, hrun, if_neg (by decide)]
  refine ⟨_, rfl, ?_⟩
  split
  · rw [if_neg (by decide)]
    unfold modTelTx State.modEcn
    split <;> exact ⟨rfl, rfl, rfl, rfl⟩
  · exact ⟨rfl, rfl, rfl, rfl⟩

theorem ecnTransmit_off (hon : jbool s (ecnIndex (CutEntry.tgt e / 256 % 2)) 1 = false) : exec (.ecnTransmit i) s = .next (s.fires i e) := by
  rw [ecnTransmit_armed s i e h, hb, hon]
  rfl

end Transmit

/-! ## Receive contexts (11 R306) -/

/-- Of two contexts the lower-numbered one, the first where none is. -/
def lowerContext (m : Option Telegram) (t : Telegram) : Option Telegram :=
  match m with
  | some u => if t.ctx < u.ctx then some t else some u
  | none => some t

/-- A context below every other of a list is the one that the search ends with, once it has been met. -/
theorem foldl_lowerContext (y : Telegram) (l : List Telegram) (h : ∀ z ∈ l, z = y ∨ y.ctx < z.ctx) :
    ∀ m : Option Telegram, (m = some y ∨ (y ∈ l ∧ ∀ z ∈ m, z = y ∨ y.ctx < z.ctx)) → l.foldl lowerContext m = some y := by
  induction l with
  | nil => exact fun m hm => hm.resolve_right (fun hy => nomatch hy.1)
  | cons t l ih =>
    intro m hm
    rw [List.foldl_cons]
    have ht := h t List.mem_cons_self
    refine ih (fun z hz => h z (List.mem_cons_of_mem _ hz)) _ ?_
    rcases hm with rfl | ⟨hy, hm⟩
    · left
      rcases ht with rfl | ht
      · exact if_neg (Nat.lt_irrefl _)
      · exact if_neg (Nat.not_lt.2 (Nat.le_of_lt ht))
    · cases m with
      | none =>
        rcases List.mem_cons.1 hy with rfl | hy
        · exact .inl rfl
        · exact .inr ⟨hy, fun z hz => by rw [← Option.some.inj hz]; exact ht⟩
      | some u =>
        have hu := hm u rfl
        by_cases hlt : t.ctx < u.ctx
        · rw [lowerContext, if_pos hlt]
          rcases List.mem_cons.1 hy with rfl | hy
          · exact .inl rfl
          · exact .inr ⟨hy, fun z hz => by rw [← Option.some.inj hz]; exact ht⟩
        · rw [lowerContext, if_neg hlt]
          rcases hu with rfl | hu
          · exact .inl rfl
          · rcases List.mem_cons.1 hy with rfl | hy
            · exact absurd hu hlt
            · exact .inr ⟨hy, fun z hz => by rw [← Option.some.inj hz]; exact .inr hu⟩

/-- The receive context that a frame enters is the matching one of the lowest number. -/
theorem contextFor_lowest (s : State) (p : Nat) (f : EFrame) (c : Container) (y : Telegram) (hc : s.config = some c) (hy : y ∈ c.telegrams)
    (hp : y.port = p) (hr : y.role = 2) (hm : matchesContext s p y f = true)
    (hlow : ∀ z ∈ c.telegrams, z.port = p → z.role = 2 → matchesContext s p z f = true → z = y ∨ y.ctx < z.ctx) : contextFor s p f = some y := by
  have hfind : contextFor s p f = ((c.telegrams.filter (fun t => decide (t.port = p) && decide (t.role = 2))).filter
      (fun t => matchesContext s p t f)).foldl lowerContext none := by
    unfold contextFor
    rw [hc]
    rfl
  rw [hfind]
  refine foldl_lowerContext y _ (fun z hz => ?_) none (.inr ⟨?_, fun z hz => nomatch hz⟩)
  · simp only [List.mem_filter, Bool.and_eq_true, decide_eq_true_eq] at hz
    obtain ⟨⟨hz, hzp, hzr⟩, hzm⟩ := hz
    exact hlow z hz hzp hzr hzm
  · simp only [List.mem_filter, Bool.and_eq_true, decide_eq_true_eq]
    exact ⟨⟨hy, hp, hr⟩, hm⟩

/-- A port whose waiting datagrams are all for other addresses keeps them. -/
theorem sendAwaiting_none (s : State) (p ip mac : Nat) (h : ∀ q ∈ (s.ecn p).awaiting, q.1 ≠ ip) : sendAwaiting s p ip mac = s := by
  have hdue : (s.ecn p).awaiting.filter (fun q => decide (q.1 = ip)) = [] := List.filter_eq_nil_iff.2 (by simpa using h)
  have hkept : (s.ecn p).awaiting.filter (fun q => decide (q.1 ≠ ip)) = (s.ecn p).awaiting := List.filter_eq_self.2 (by simpa using h)
  unfold sendAwaiting
  dsimp only
  rw [hdue, List.foldl_nil]
  unfold State.ecn at hkept
  unfold State.modEcn
  split
  next hp => rw [if_pos hp] at hkept; dsimp only; rw [hkept]
  next hp => rw [if_neg hp] at hkept; dsimp only; rw [hkept]

/-! ## What a port receives (crossing 32) -/

section Receive

variable {s : State} {port : EcnPort} (hup : s.ecnUp port.num = true) (hflow : s.flows 32)

/-- The device once a frame of `n` bytes has reached the fabric and been counted at its port. -/
def heardAt (s : State) (p n : Nat) : State := jbump (through s 32 (entriesOf 32 n)) (ecnIndex p) 9

include hup in
theorem through_ecnUp (n : Nat) : (through s 32 n).ecnUp port.num = true :=
  ((State.Crossed.through s 32 n).ecnUp_eq (by decide) port.num (by cases port <;> decide)).trans hup

theorem heardAt_ecn (s : State) (port : EcnPort) (n : Nat) : (heardAt s port.num n).ecn port.num = s.ecn port.num := by
  unfold heardAt State.ecn
  rw [jbump_ecn0, jbump_ecn1, through_ecn0, through_ecn1]

theorem heardAt_address (s : State) (port : EcnPort) (n : Nat) : jget (heardAt s port.num n) (ecnIndex port.num) 3 = jget s (ecnIndex port.num) 3 := by
  unfold heardAt
  rw [jget_jbump_other _ _ _ _ _ (by unfold regKey; omega)]
  exact (State.Crossed.through s 32 _).jget_other (by decide) (.inr (by cases port <;> decide)) (by decide)

include hup hflow

theorem telegramReceived_heard (f : EFrame) :
    exec (.telegramReceived port f) s = .next
      (let h := heardAt s port.num f.payload.length
       if !portChecks f then ecnDiscard h port.num
       else if ptpClaims h port.num f.dstPort then h
       else match contextFor h port.num f with
        | some t => takeTelegramFrame h port.num t f
        | none => if f.dstIp = jget h (ecnIndex port.num) 3 ∧ f.dstPort = h.dict.port then h else ecnDiscard h port.num) :=
  congrArg Host.Outcome.next ((crossing_flows s 32 f.payload.length _ hflow).trans (if_pos (through_ecnUp hup _)))

theorem telegramReceived_taken (f : EFrame) (y : Telegram) (hchecks : portChecks f = true)
    (hptp : ptpClaims (heardAt s port.num f.payload.length) port.num f.dstPort = false)
    (hctx : contextFor (heardAt s port.num f.payload.length) port.num f = some y) :
    exec (.telegramReceived port f) s = .next (takeTelegramFrame (heardAt s port.num f.payload.length) port.num y f) := by
  rw [telegramReceived_heard hup hflow]
  dsimp only
  rw [hchecks, hptp, hctx]
  rfl

theorem arpRequest_heard (target src : Nat) : exec (.arpRequest port target src) s = .next
    (if jget (heardAt s port.num 64) (ecnIndex port.num) 3 = target ∧ target ≠ 0
     then ecnSend (heardAt s port.num 64) port.num 2 64 false (.arp port src true) else ecnDiscard (heardAt s port.num 64) port.num) := by
  refine congrArg Host.Outcome.next ((crossing_flows s 32 64 _ hflow).trans ((if_pos (through_ecnUp hup _)).trans ?_))
  exact if_congr (and_congr_left' eq_comm) rfl rfl

theorem icmpEchoRequest_heard (src dst : Nat) :
    let recent := (s.ecn port.num).icmp.filter (fun t => decide (s.time.now < t + 1000000000))
    exec (.icmpEchoRequest port src dst) s = .next
      (if dst = jget (heardAt s port.num 64) (ecnIndex port.num) 3 ∧ dst ≠ 0 ∧ recent.length < 10 ∧ s.power.stage < 1 then
        ecnSend ((heardAt s port.num 64).modEcn port.num (fun x => { x with icmp := s.time.now :: recent })) port.num 2 64 true (.icmp port src)
       else ecnDiscard (heardAt s port.num 64) port.num) := by
  refine congrArg Host.Outcome.next ((crossing_flows s 32 64 _ hflow).trans ((if_pos (through_ecnUp hup _)).trans ?_))
  have hecn := heardAt_ecn s port 64
  have htime : (heardAt s port.num 64).time = s.time := by unfold heardAt; rw [jbump_time, through_time]
  have hpower : (heardAt s port.num 64).power = s.power := by unfold heardAt; rw [jbump_power, through_power]
  rw [← hecn, ← htime, ← hpower]
  rfl

theorem arpReply_heard (ip mac : Nat) : exec (.arpReply port ip mac) s = .next
    (sendAwaiting ((heardAt s port.num 64).modEcn port.num (fun x => { x with arp := Store.insert x.arp ip (mac, s.time.now) })) port.num ip mac) := by
  refine congrArg Host.Outcome.next ((crossing_flows s 32 64 _ hflow).trans ((if_pos (through_ecnUp hup _)).trans ?_))
  have htime : (heardAt s port.num 64).time = s.time := by unfold heardAt; rw [jbump_time, through_time]
  rw [← htime]
  rfl

end Receive

/-- Settles O41: an armed entry does what its locked buffer says at its firing; what a port receives is judged behind its crossing. -/
theorem ecnPortsServe : Obligations.EcnPortsServe := by
  unfold Obligations.EcnPortsServe
  intro s port p
  refine ⟨fun i e hcut => ⟨fun hact => ?_, fun h hb => ⟨?_, ?_, ?_, ?_⟩⟩, fun hup hflow => ?_, fun ip x hx => ?_, fun hb => ⟨fun speed full => ?_, fun hphy => ?_⟩⟩
  · change Host.Outcome.next (telegramDeadline s i) = _
    unfold telegramDeadline
    rw [hcut]
    dsimp only
    rw [if_pos hact]
  · intro c y d hon hrun hc hy hd
    exact ecnTransmit_sends h hb hon hrun hc hy hd
  · exact fun hon hd => ecnTransmit_empty h hb hon hd
  · exact fun hon hrun => ecnTransmit_outside h hb hon hrun
  · exact fun hon => ecnTransmit_off h hb hon
  · refine ⟨?_, fun f hf => ?_, fun f hf hptp => ?_, arpRequest_heard hup hflow, icmpEchoRequest_heard hup hflow, fun ip mac => ⟨arpReply_heard hup hflow ip mac, fun hip => ?_⟩,
      heardAt_address s port 64⟩
    · intro f c y hf hptp hc hy hyp hyr hym hlow
      have hcfg : (heardAt s port.num f.payload.length).config = some c := by
        rw [← hc]
        exact (State.Crossed.through s 32 _).config_eq
      exact telegramReceived_taken hup hflow f y hf hptp (contextFor_lowest _ _ f c y hcfg hy hyp hyr hym hlow)
    · rw [telegramReceived_heard hup hflow]
      dsimp only
      rw [hf]
      rfl
    · rw [telegramReceived_heard hup hflow]
      dsimp only
      rw [hf]
      exact congrArg Host.Outcome.next (if_pos hptp)
    · refine sendAwaiting_none _ _ _ _ ?_
      have hecn := heardAt_ecn s port 64
      have hsame : (((heardAt s port.num 64).modEcn port.num (fun x => { x with arp := Store.insert x.arp ip (mac, s.time.now) })).ecn port.num).awaiting =
          ((heardAt s port.num 64).ecn port.num).awaiting := by cases port <;> rfl
      have hnone : ∀ q ∈ (((heardAt s port.num 64).modEcn port.num (fun x => { x with arp := Store.insert x.arp ip (mac, s.time.now) })).ecn port.num).awaiting,
          q.1 ≠ ip := by
        rw [hsame, hecn]
        exact hip
      exact hnone
  · change Host.Outcome.next (arpEntryExpiry s port ip) = _
    unfold arpEntryExpiry
    dsimp only
    rw [hx]
  · refine congrArg Host.Outcome.next ((if_pos hb).trans ?_)
    cases full <;> rfl
  · refine congrArg Host.Outcome.next ((if_pos ?_).trans rfl)
    rw [hphy, hb]
    rfl

end Sys2Proof.Machine
end

section
/-! Output channels and lane sections: what a change of one leaves of the others, and what follows a change of elements (07 R199 to R203). -/

namespace Sys2Proof.Machine

open Sys2Proof

/-! ## Values of the lanes -/

@[simp] theorem Tri.get_set_self {α : Type} (t : Tri α) (l : LaneId) (v : α) : (t.set l v).get l = v := by
  cases l <;> rfl

theorem Tri.get_set_other {α : Type} (t : Tri α) {l m : LaneId} (v : α) (h : m ≠ l) : (t.set l v).get m = t.get m := by
  cases l <;> cases m <;> simp [Tri.set, Tri.get] at h ⊢

@[simp] theorem Tri.set_set {α : Type} (t : Tri α) (l : LaneId) (v w : α) : (t.set l v).set l w = t.set l w := by
  cases l <;> rfl

@[simp] theorem Tri.get_map {α β : Type} (f : α → β) (t : Tri α) (l : LaneId) : (t.map f).get l = f (t.get l) := by
  cases l <;> rfl

@[simp] theorem Tri.get_mapId {α β : Type} (f : LaneId → α → β) (t : Tri α) (l : LaneId) : (t.mapId f).get l = f l (t.get l) := by
  cases l <;> rfl

theorem Tri.ext_get {α : Type} {t u : Tri α} (h : ∀ l, t.get l = u.get l) : t = u := by
  obtain ⟨a, b, c⟩ := t
  have ha : a = _ := h .a
  have hb : b = _ := h .b
  have hc : c = _ := h .c
  rw [ha, hb, hc]
  rfl

/-! ## One section of a channel, one channel of the die -/

@[simp] theorem sec_modSec_self (c : DoChan) (l : LaneId) (f : DoSection → DoSection) : (c.modSec l f).sec.get l = f (c.sec.get l) :=
  Tri.get_set_self ..

theorem sec_modSec_other (c : DoChan) {l m : LaneId} (f : DoSection → DoSection) (h : m ≠ l) : (c.modSec l f).sec.get m = c.sec.get m :=
  Tri.get_set_other _ _ h

theorem Store.get_insert_self {α : Type} (m : Store α) (d v : α) (k : Nat) : Store.get (Store.insert m k v) d k = v := by
  unfold Store.get
  rw [Store.find?_insert_self]
  rfl

theorem Store.get_insert_other {α : Type} (m : Store α) (d v : α) {k j : Nat} (h : j ≠ k) : Store.get (Store.insert m k v) d j = Store.get m d j := by
  unfold Store.get
  rw [Store.find?_insert_other _ _ h]

/-- Values replaced one by one under their keys. -/
theorem Store.find?_map {α β : Type} (m : Store α) (g : α → β) (k : Nat) : Store.find? (m.map (fun p => (p.1, g p.2))) k = (Store.find? m k).map g := by
  induction m with
  | nil => rfl
  | cons p m ih =>
    rw [List.map_cons]
    unfold Store.find?
    by_cases hk : p.1 = k
    · rw [if_pos hk, if_pos hk]
      rfl
    · rw [if_neg hk, if_neg hk]
      exact ih

@[simp] theorem chan_modChan_self (s : State) (n : Nat) (f : DoChan → DoChan) : (s.modChan n f).chan n = f (s.chan n) :=
  Store.get_insert_self ..

theorem chan_modChan_other (s : State) {n x : Nat} (f : DoChan → DoChan) (h : x ≠ n) : (s.modChan n f).chan x = s.chan x :=
  Store.get_insert_other _ _ _ h

/-- A change of a channel depends on that channel alone. -/
theorem modChan_congr (s : State) (n : Nat) {f g : DoChan → DoChan} (h : f (s.chan n) = g (s.chan n)) : s.modChan n f = s.modChan n g := by
  unfold State.modChan
  rw [h]

/-- Every channel of the die changed in one way, which leaves a blank channel's use to `h`. -/
theorem chan_map (s : State) (g : DoChan → DoChan) (f : FieldDie) (hf : f.chan = s.field.chan.map (fun p => (p.1, g p.2))) (P : DoChan → Prop)
    (hblank : P DoChan.blank) (hg : ∀ c, P (g c)) (x : Nat) : P (Store.get f.chan DoChan.blank x) := by
  unfold Store.get
  rw [hf, Store.find?_map]
  cases Store.find? s.field.chan x with
  | none => exact hblank
  | some c => exact hg c

/-! ## What follows a change of elements (07 R201) -/

/-- What a change of elements brings in a section besides: marks of demagnetisation, events and conditions. -/
def DoSection.Settled (x y : DoSection) : Prop := ∃ d e k, y = { x with demag := d, events := e, lasting := k }

/-- A channel of which only such marks of its sections differ. -/
def DoChan.Settled (c d : DoChan) : Prop := ∃ t, d = { c with sec := t } ∧ ∀ m, (c.sec.get m).Settled (t.get m)

theorem DoChan.Settled.refl (c : DoChan) : c.Settled c := ⟨c.sec, rfl, fun _ => ⟨_, _, _, rfl⟩⟩

theorem DoChan.Settled.trans {c d e : DoChan} (h : c.Settled d) (h' : d.Settled e) : c.Settled e := by
  obtain ⟨t, rfl, ht⟩ := h
  obtain ⟨u, rfl, hu⟩ := h'
  refine ⟨u, rfl, fun m => ?_⟩
  obtain ⟨_, _, _, h1⟩ := ht m
  obtain ⟨_, _, _, h2⟩ := hu m
  rw [h2]
  dsimp only
  rw [h1]
  exact ⟨_, _, _, rfl⟩

theorem DoChan.Settled.closed_eq {c d : DoChan} (h : c.Settled d) (m : LaneId) : (d.sec.get m).closed = (c.sec.get m).closed := by
  obtain ⟨t, rfl, ht⟩ := h
  obtain ⟨_, _, _, hm⟩ := ht m
  dsimp only
  rw [hm]

theorem DoChan.Settled.cmd_eq {c d : DoChan} (h : c.Settled d) (m : LaneId) : (d.sec.get m).cmd = (c.sec.get m).cmd := by
  obtain ⟨t, rfl, ht⟩ := h
  obtain ⟨_, _, _, hm⟩ := ht m
  dsimp only
  rw [hm]

theorem DoChan.Settled.pend_eq {c d : DoChan} (h : c.Settled d) (m : LaneId) : (d.sec.get m).pend = (c.sec.get m).pend := by
  obtain ⟨t, rfl, ht⟩ := h
  obtain ⟨_, _, _, hm⟩ := ht m
  dsimp only
  rw [hm]

theorem DoChan.settled_map (c : DoChan) (f : DoSection → DoSection) (h : ∀ x : DoSection, x.Settled (f x)) : c.Settled { c with sec := c.sec.map f } :=
  ⟨_, rfl, fun m => by rw [Tri.get_map]; exact h _⟩

theorem DoSection.turnedOff_settled (x : DoSection) (ind : Bool) (now : Nat) : x.Settled (x.turnedOff ind now) := by
  unfold DoSection.turnedOff
  dsimp only
  split
  · exact ⟨_, _, _, rfl⟩
  · exact ⟨_, _, _, rfl⟩

/-- What settling one channel changes. -/
theorem settleChan_eq (b s : State) (n : Nat) : ∃ k c, settleChan b s n = { s with free := k, field := { s.field with chan := c } } := by
  unfold settleChan
  dsimp only
  split
  · exact ⟨_, _, rfl⟩
  · split
    · exact ⟨_, _, rfl⟩
    · exact ⟨_, _, rfl⟩

theorem settleChan_settled (b s : State) (n x : Nat) : (s.chan x).Settled ((settleChan b s n).chan x) := by
  have hother : x ≠ n → ∀ f : DoChan → DoChan, (s.modChan n f).chan x = s.chan x := fun hx f => chan_modChan_other s f hx
  unfold settleChan
  dsimp only
  by_cases hx : x = n
  · subst hx
    split
    · change (s.chan x).Settled ((s.drew.modChan x _).chan x)
      rw [chan_modChan_self]
      exact DoChan.settled_map _ _ (fun y => y.turnedOff_settled _ _)
    · split
      · rw [chan_modChan_self]
        exact DoChan.settled_map _ _ (fun y => ⟨_, _, _, rfl⟩)
      · exact .refl _
  · split
    · rw [chan_modChan_other _ _ hx]
      exact .refl _
    · split
      · rw [hother hx]
        exact .refl _
      · exact .refl _

/-- A channel that conducts as before, or that is another one, is not touched. -/
theorem settleChan_still (b s : State) (n x : Nat) (h : (b.chan x).conducts = (s.chan x).conducts) : (settleChan b s n).chan x = s.chan x := by
  unfold settleChan
  dsimp only
  by_cases hx : x = n
  · subst hx
    rw [h, if_neg (by cases (s.chan x).conducts <;> simp), if_neg (by cases (s.chan x).conducts <;> simp)]
  · split
    · exact chan_modChan_other _ _ hx
    · split
      · exact chan_modChan_other _ _ hx
      · rfl

theorem settleChans_eq (b : State) (l : List Nat) : ∀ s : State, ∃ k c, l.foldl (settleChan b) s = { s with free := k, field := { s.field with chan := c } } := by
  induction l with
  | nil => exact fun s => ⟨_, _, rfl⟩
  | cons n l ih =>
    intro s
    obtain ⟨_, _, h⟩ := ih (settleChan b s n)
    obtain ⟨_, _, h'⟩ := settleChan_eq b s n
    rw [List.foldl_cons, h, h']
    exact ⟨_, _, rfl⟩

theorem settleChans_settled (b : State) (x : Nat) (l : List Nat) : ∀ s : State, (s.chan x).Settled ((l.foldl (settleChan b) s).chan x) := by
  induction l with
  | nil => exact fun s => .refl _
  | cons n l ih => exact fun s => (settleChan_settled b s n x).trans (ih _)

theorem settleChans_still (b : State) (x : Nat) (l : List Nat) : ∀ s : State, (b.chan x).conducts = (s.chan x).conducts →
    (l.foldl (settleChan b) s).chan x = s.chan x := by
  induction l with
  | nil => exact fun s _ => rfl
  | cons n l ih =>
    intro s h
    have hn := settleChan_still b s n x h
    rw [List.foldl_cons, ih _ (by rw [hn]; exact h), hn]

/-- A change of elements, with what follows, adds to the change only draws and marks of channels. -/
theorem switching_eq (s : State) (f : State → State) : ∃ k c, switching s f = { f s with free := k, field := { (f s).field with chan := c } } :=
  settleChans_eq s _ (f s)

theorem switching_settled (s : State) (f : State → State) (x : Nat) : ((f s).chan x).Settled ((switching s f).chan x) :=
  settleChans_settled s x _ (f s)

theorem switching_still (s : State) (f : State → State) (x : Nat) (h : (s.chan x).conducts = ((f s).chan x).conducts) :
    (switching s f).chan x = (f s).chan x :=
  settleChans_still s x _ (f s) h

/-- A channel that conducts after a change, or did not before, gets no mark of demagnetisation. -/
theorem settleChan_demag (b s : State) (n x : Nat) (h : (b.chan x).conducts = true → (s.chan x).conducts = true) (m : LaneId) :
    (((settleChan b s n).chan x).sec.get m).demag = ((s.chan x).sec.get m).demag := by
  unfold settleChan
  dsimp only
  by_cases hx : x = n
  · subst hx
    rw [if_neg (by cases hb : (b.chan x).conducts <;> cases hs : (s.chan x).conducts <;> simp_all)]
    split
    · rw [chan_modChan_self, Tri.get_map]
    · rfl
  · split
    · rw [chan_modChan_other _ _ hx]
      rfl
    · split
      · rw [chan_modChan_other _ _ hx]
      · rfl

theorem DoChan.Settled.conducts_eq {c d : DoChan} (h : c.Settled d) : d.conducts = c.conducts := by
  have ha := h.closed_eq .a
  have hb := h.closed_eq .b
  have hc := h.closed_eq .c
  unfold DoChan.conducts
  exact congr (congrArg or (congr (congrArg or (congr (congrArg and ha) hb)) (congr (congrArg and hb) hc))) (congr (congrArg and ha) hc)

theorem switching_demag (s : State) (f : State → State) (x : Nat) (h : (s.chan x).conducts = true → ((f s).chan x).conducts = true) (m : LaneId) :
    (((switching s f).chan x).sec.get m).demag = (((f s).chan x).sec.get m).demag := by
  have fold : ∀ (l : List Nat) (t : State), ((s.chan x).conducts = true → (t.chan x).conducts = true) →
      (((l.foldl (settleChan s) t).chan x).sec.get m).demag = ((t.chan x).sec.get m).demag := by
    intro l
    induction l with
    | nil => exact fun t _ => rfl
    | cons n l ih =>
      intro t ht
      rw [List.foldl_cons, ih _ (by rw [(settleChan_settled s t n x).conducts_eq]; exact ht), settleChan_demag s t n x ht]
  exact fold _ (f s) h

end Sys2Proof.Machine
end

section
/-! Output channels: protection, open wires, supply loss, and the tests of elements and outputs (07 R200 to R215). -/

namespace Sys2Proof.Machine

open Sys2Proof

/-! ## Protection (07 R200 to R203) -/

/-- A shutdown channel: nothing of its tests goes on, and its elements are open. -/
def DoChan.shutDown (c : DoChan) (latched : Bool) : DoChan :=
  { c with hot := true, cool := false, latch := latched, offSeen := false, tested := false, mute := true, pulse := none, due := none
           sec := c.sec.map (fun x => { x with closed := false, pend := false }) }

theorem thermalShutdown_eq (s : State) (ch : Nat) :
    thermalShutdown s ch = (switching s (fun s => s.modChan ch (fun c => c.shutDown (decide (s.vget 0x5103 (ch + 1) = 0))))).modLanes
      (fun _ ln => if ln.status = .active then ln.rbump 0x510A (ch + 1) else ln) := rfl

theorem thermalShutdown_shuts (s : State) (ch : Nat) :
    ∃ t, thermalShutdown s ch = t ∧ (t.chan ch).hot = true ∧ (t.chan ch).cool = false ∧ (∀ m, ((t.chan ch).sec.get m).closed = false) ∧
      ((t.chan ch).latch = true ↔ s.vget 0x5103 (ch + 1) = 0) ∧ (t.chan ch).pulse = none ∧ (t.chan ch).tested = false ∧ (t.chan ch).mute = true ∧
      (∀ x, x ≠ ch → t.chan x = s.chan x) ∧ t.mode = s.mode ∧
      ∀ m, t.lane m = if (s.lane m).status = .active then (s.lane m).rbump 0x510A (ch + 1) else s.lane m := by
  obtain ⟨k, c, heq⟩ := switching_eq s (fun s => s.modChan ch (fun c => c.shutDown (decide (s.vget 0x5103 (ch + 1) = 0))))
  have hset := switching_settled s (fun s => s.modChan ch (fun c => c.shutDown (decide (s.vget 0x5103 (ch + 1) = 0)))) ch
  have hother : ∀ x, x ≠ ch → (switching s (fun s => s.modChan ch (fun c => c.shutDown (decide (s.vget 0x5103 (ch + 1) = 0))))).chan x = s.chan x := by
    intro x hx
    rw [switching_still _ _ _ (by rw [chan_modChan_other _ _ hx]), chan_modChan_other _ _ hx]
  rw [chan_modChan_self] at hset
  rw [thermalShutdown_eq]
  refine ⟨_, rfl, ?_⟩
  have hclosed := fun m => hset.closed_eq m
  obtain ⟨t, ht, -⟩ := hset
  refine ⟨congrArg DoChan.hot ht, congrArg DoChan.cool ht, fun m => (hclosed m).trans ?_, ?_, congrArg DoChan.pulse ht, congrArg DoChan.tested ht,
    congrArg DoChan.mute ht, hother, by rw [heq]; rfl, fun m => ?_⟩
  · unfold DoChan.shutDown
    rw [Tri.get_map]
  · rw [show ((State.modLanes _ _).chan ch).latch = _ from congrArg DoChan.latch ht]
    exact decide_eq_true_iff
  · rw [heq]
    exact Tri.get_mapId _ _ m

/-- A section that closes the elements that it held pending, on a channel that may close. -/
theorem follow_closes (c : DoChan) (l : LaneId) (hcmd : (c.sec.get l).cmd = true) (hfree : c.free = true) (hpulse : c.pulse = none)
    (hdemag : (c.sec.get l).demag = none) : c.follow l = c.modSec l (fun x => { x with cmd := true, closed := true, pend := false }) := by
  unfold DoChan.follow DoChan.turnOn
  rw [hcmd, if_pos rfl]
  unfold DoChan.modSec
  dsimp only
  rw [hfree, hpulse, hdemag]
  rfl

/-- More elements closed: a channel that conducted still does. -/
theorem conducts_mono {c d : DoChan} (h : ∀ m, (c.sec.get m).closed = true → (d.sec.get m).closed = true) (hc : c.conducts = true) :
    d.conducts = true := by
  have ha : c.sec.a.closed = true → d.sec.a.closed = true := h .a
  have hb : c.sec.b.closed = true → d.sec.b.closed = true := h .b
  have hcc : c.sec.c.closed = true → d.sec.c.closed = true := h .c
  unfold DoChan.conducts at hc ⊢
  simp only [Bool.or_eq_true, Bool.and_eq_true] at hc ⊢
  obtain (⟨h1, h2⟩ | ⟨h1, h2⟩) | ⟨h1, h2⟩ := hc
  · exact .inl (.inl ⟨ha h1, hb h2⟩)
  · exact .inl (.inr ⟨hb h1, hcc h2⟩)
  · exact .inr ⟨ha h1, hcc h2⟩

theorem demagEnd_idle (s : State) (l : LaneId) (ch : Nat) (h : ((s.chan ch).sec.get l).pend = false) :
    demagEnd s l ch = switching s (fun t => t.modChan ch (fun c => c.modSec l (fun x => { x.ends 9 with demag := none, pend := false }))) := by
  refine congrArg (List.foldl (settleChan s) · (List.range 16)) (modChan_congr s ch ?_)
  dsimp only
  rw [h]
  rfl

/-- The section whose pending elements close at the end of demagnetisation. -/
def DoSection.released (x : DoSection) : DoSection := { x.ends 9 with demag := none, cmd := true, closed := true, pend := false }

theorem demagEnd_pending (s : State) (l : LaneId) (ch : Nat) (hpend : ((s.chan ch).sec.get l).pend = true) (hcmd : ((s.chan ch).sec.get l).cmd = true)
    (hfree : (s.chan ch).free = true) (hpulse : (s.chan ch).pulse = none) :
    demagEnd s l ch = switching s (fun t => t.modChan ch (fun c => c.modSec l DoSection.released)) := by
  refine congrArg (List.foldl (settleChan s) · (List.range 16)) (modChan_congr s ch ?_)
  dsimp only
  have hclose := follow_closes ((s.chan ch).modSec l (fun x => { x.ends 9 with demag := none, pend := false })) l
    (by rw [sec_modSec_self]; exact hcmd) hfree hpulse (by rw [sec_modSec_self])
  rw [if_pos hpend, hclose]
  unfold DoChan.modSec
  dsimp only
  rw [Tri.set_set, Tri.get_set_self]
  rfl

theorem demagEnd_closes (s : State) (l : LaneId) (ch : Nat) (hpend : ((s.chan ch).sec.get l).pend = true) (hcmd : ((s.chan ch).sec.get l).cmd = true)
    (hfree : (s.chan ch).free = true) (hpulse : (s.chan ch).pulse = none) :
    ∃ t, demagEnd s l ch = t ∧ ((t.chan ch).sec.get l).demag = none ∧ ((t.chan ch).sec.get l).closed = true ∧ ((t.chan ch).sec.get l).pend = false ∧
      ∀ m, m ≠ l → ((t.chan ch).sec.get m).closed = ((s.chan ch).sec.get m).closed ∧
        ((t.chan ch).sec.get m).demag = ((s.chan ch).sec.get m).demag ∧ ((t.chan ch).sec.get m).pend = ((s.chan ch).sec.get m).pend := by
  rw [demagEnd_pending s l ch hpend hcmd hfree hpulse]
  refine ⟨_, rfl, ?_⟩
  have hset := switching_settled s (fun t => t.modChan ch (fun c => c.modSec l DoSection.released)) ch
  have hdemag := switching_demag s (fun t => t.modChan ch (fun c => c.modSec l DoSection.released)) ch (by
    rw [chan_modChan_self]
    refine conducts_mono fun m hm => ?_
    by_cases hml : m = l
    · subst hml
      rw [sec_modSec_self]
      rfl
    · rw [sec_modSec_other _ _ hml]
      exact hm)
  have hself : (((s.modChan ch (fun c => c.modSec l DoSection.released)).chan ch).sec.get l) = ((s.chan ch).sec.get l).released := by
    rw [chan_modChan_self, sec_modSec_self]
  have hother : ∀ m, m ≠ l → ((s.modChan ch (fun c => c.modSec l DoSection.released)).chan ch).sec.get m = (s.chan ch).sec.get m := by
    intro m hm
    rw [chan_modChan_self, sec_modSec_other _ _ hm]
  refine ⟨by rw [hdemag l, hself]; rfl, by rw [hset.closed_eq l, hself]; rfl, by rw [hset.pend_eq l, hself]; rfl, fun m hm => ?_⟩
  exact ⟨by rw [hset.closed_eq m, hother m hm], by rw [hdemag m, hother m hm], by rw [hset.pend_eq m, hother m hm]⟩

/-! ## Open wires (07 R203, R214) -/

theorem openWireOn_lasts (s : State) (l : LaneId) (ch uA : Nat) (hw : s.wireTest ch = true) (hcmd : ((s.chan ch).sec.get l).cmd = true) (h : uA < 8000) :
    openWireOn s l ch uA = (s.modChan ch (fun c => c.seeCurrent l uA)).modChan ch (fun c => c.modSec l (fun x => x.lasts 2)) := by
  have hlocked : ((s.chan ch).seeCurrent l uA).locked = (s.chan ch).locked := rfl
  have hcmd' : (((s.chan ch).seeCurrent l uA).sec.get l).cmd = true := by
    unfold DoChan.seeCurrent
    rw [sec_modSec_self]
    dsimp only
    split <;> split <;> exact hcmd
  unfold openWireOn
  dsimp only
  refine if_pos ?_
  unfold State.wireTest at hw ⊢
  rw [chan_modChan_self, hlocked, hcmd', decide_eq_true h, Bool.and_true, Bool.and_true]
  exact hw

theorem openWireOff_lasts (s : State) (l : LaneId) (ch mV : Nat) (hw : s.wireTest ch = true) (hcmd : ((s.chan ch).sec.get l).cmd = false)
    (htest : (s.lane l).rget 0x5104 (ch + 1) ≠ 0) (h : 4000 < mV) :
    openWireOff s l ch mV = (s.modChan ch (fun c => c.seeVoltage l mV)).modChan ch (fun c => c.modSec l (fun x => x.lasts 3)) := by
  have hlocked : ((s.chan ch).seeVoltage l mV).locked = (s.chan ch).locked := rfl
  have hcmd' : (((s.chan ch).seeVoltage l mV).sec.get l).cmd = false := by
    unfold DoChan.seeVoltage
    rw [sec_modSec_self]
    exact hcmd
  have hreg : (((s.modChan ch (fun c => c.seeVoltage l mV)).lane l).rget 0x5104 (ch + 1) != 0) = true := bne_iff_ne.2 htest
  unfold openWireOff
  dsimp only
  refine if_pos ?_
  rw [hreg]
  unfold State.wireTest at hw ⊢
  rw [chan_modChan_self, hlocked, hcmd', decide_eq_true h, Bool.and_true, Bool.not_false, Bool.and_true, Bool.and_true]
  exact hw

/-! ## Element test and off pulse (07 R205 to R208, R211) -/

section Test

variable {s : State} {l : LaneId} {ch : Nat} (hop : s.field.operating = true) (halive : (s.sec l).alive = true)

include hop halive

theorem standingCheck_judges (mids : Tri Nat) (out : Nat) (hoff : (s.chan ch).conducts = false) (hdemag : ((s.chan ch).sec.get l).demag = none)
    (hgroup : bitOf s.field.groups (groupOf ch) = false) :
    standingCheck s l ch mids out = (List.range 3).foldl (fun t p => standingPath t l ch (Tri.path mids p) out p)
      ((advanceTo s (s.vote.oAt + 8000)).modChan ch (fun c => c.seeVoltage l out)) := by
  refine if_pos ?_
  change (s.field.operating && (s.sec l).alive && !(s.chan ch).conducts && !((s.chan ch).sec.get l).demag.isSome && !bitOf s.field.groups (groupOf ch)) = true
  rw [hop, halive, hoff, hdemag, hgroup]
  rfl

theorem pathNotConducting_finds (p total : Nat) (hon : (s.chan ch).conducts = true) (htested : (s.chan ch).tested = false) (htotal : 8000 ≤ total)
    (h1 : ((s.chan ch).sec.get (pathLanes p).1).closed = true) (h2 : ((s.chan ch).sec.get (pathLanes p).2).closed = true)
    (ha1 : s.active (pathLanes p).1 = true) (ha2 : s.active (pathLanes p).2 = true) :
    pathNotConducting s l ch p total =
      (s.modChan ch (fun c => c.seeCurrent l total)).modChan ch (fun c => c.find l 11 [2 * p, 2 * p + 1]) := by
  have hset : (s.chan ch).Settled ((s.chan ch).seeCurrent l total) := by
    refine ⟨_, rfl, fun m => ?_⟩
    by_cases hm : m = l
    · subst hm
      rw [Tri.get_set_self]
      dsimp only
      rw [if_pos htotal]
      split <;> exact ⟨_, _, _, rfl⟩
    · rw [Tri.get_set_other _ _ hm]
      exact ⟨_, _, _, rfl⟩
  have htested' : ((s.chan ch).seeCurrent l total).tested = false := htested
  unfold pathNotConducting
  dsimp only
  refine if_pos ?_
  rw [chan_modChan_self, hset.conducts_eq, htested', hset.closed_eq, hset.closed_eq, hon, h1, h2, decide_eq_true htotal]
  change (s.field.operating && (s.sec l).alive && true && true && true && true && true && s.active (pathLanes p).1 && s.active (pathLanes p).2) = true
  rw [hop, halive, ha1, ha2]
  rfl

/-- What one section's measurement of a stepped channel finds (07 R206 step 1). -/
def DoChan.judged (c : DoChan) (l : LaneId) (total : Nat) (ok : Bool) : DoChan :=
  if ok || c.mute then c.seeCurrent l total else (c.seeCurrent l total).find l 11 []

theorem elementMeasure_judges {st : LaneId} (hstep : s.field.step = some st) (paths : Tri Nat) (hon : (s.chan ch).conducts = true)
    (hfree : (s.chan ch).free = true) (hskip : (s.chan ch).skip = none ∨ (s.chan ch).skip = some s.vote.oAt) (hpulse : (s.chan ch).pulse = none)
    (hgroup : bitOf s.field.groups (groupOf ch) = false) (hrun : s.testSuspended = false) :
    elementMeasure s l ch paths = (advanceTo s (s.vote.oAt + 8000)).modChan ch (fun c =>
      let total := paths.a + paths.b + paths.c
      let ok := decide (total ≥ 8000) && decide (4 * Tri.path paths (remainingPath st) ≥ total)
      if l = st then { c.judged l total ok with tested := ok, skip := if ok then none else some s.vote.oAt } else c.judged l total ok) := by
  have hskip' : (s.chan ch).skip.all (fun t => decide (t = s.vote.oAt)) = true := by
    rcases hskip with h | h <;> simp [h]
  unfold elementMeasure
  dsimp only
  rw [show (advanceTo s (s.vote.oAt + 8000)).field.step = some st from hstep]
  refine if_pos ?_
  change (s.field.operating && (s.sec l).alive && (s.chan ch).conducts && (s.chan ch).free && (s.chan ch).skip.all (fun t => decide (t = s.vote.oAt)) &&
    !(s.chan ch).pulse.isSome && !bitOf s.field.groups (groupOf ch) && !s.testSuspended) = true
  rw [hop, halive, hon, hfree, hskip', hpulse, hgroup, hrun]
  rfl

end Test

theorem elementMeasure_suspended {s : State} {st : LaneId} (hstep : s.field.step = some st) (l : LaneId) (ch : Nat) (paths : Tri Nat)
    (h : s.testSuspended = true) : elementMeasure s l ch paths = advanceTo s (s.vote.oAt + 8000) := by
  unfold elementMeasure
  dsimp only
  rw [show (advanceTo s (s.vote.oAt + 8000)).field.step = some st from hstep]
  refine if_neg ?_
  rw [show (advanceTo s (s.vote.oAt + 8000)).testSuspended = true from h]
  simp

/-- The paths of a stepped lane that still carry current. -/
def badPaths (st : LaneId) (paths : Tri Nat) : List Nat :=
  (List.range 3).filter (fun p => (decide ((pathLanes p).1 = st) || decide ((pathLanes p).2 = st)) && decide (Tri.path paths p ≥ 1000))

theorem elementCheck_eq {s : State} {st : LaneId} (hstep : s.field.step = some st) (l : LaneId) (ch : Nat) (paths : Tri Nat) :
    elementCheck s l ch paths = (let at_ := advanceTo s (s.vote.oAt + 50000)
      if (s.chan ch).tested && !(s.chan ch).mute && (s.sec l).alive && !s.testSuspended then
        if (badPaths st paths).isEmpty then at_ else at_.modChan ch (fun c => c.find l 10 ((badPaths st paths).map (elementBit st)))
      else at_) := by
  unfold elementCheck
  dsimp only
  rw [show (advanceTo s (s.vote.oAt + 50000)).field.step = some st from hstep]
  rfl

theorem badPaths_none (st : LaneId) (paths : Tri Nat) (h : ∀ p, p < 3 → Tri.path paths p < 1000) : badPaths st paths = [] := by
  refine List.filter_eq_nil_iff.2 fun p hp => ?_
  have hlt := h p (List.mem_range.1 hp)
  simp only [Bool.and_eq_true, decide_eq_true_eq, not_and]
  omega

theorem elementOpen_eq {s : State} {st : LaneId} (hstep : s.field.step = some st) :
    elementOpen s = (let at_ := advanceTo s (s.vote.oAt + 10000)
      if s.testSuspended then at_ else switching at_ (fun t => { t with field := { t.field with
        chan := t.field.chan.map (fun p => (p.1, if p.2.tested then p.2.modSec st (fun x => { x with closed := false }) else p.2)) } })) := by
  unfold elementOpen
  dsimp only
  rw [show (advanceTo s (s.vote.oAt + 10000)).field.step = some st from hstep]
  rfl

theorem elementReclose_eq {s : State} {st : LaneId} (hstep : s.field.step = some st) :
    elementReclose s = (let closed := switching (advanceTo s (s.vote.oAt + 52000)) (fun t => { t with field := { t.field with
        step := none, chan := t.field.chan.map (fun p => (p.1, if p.2.tested then { p.2.reclose st with tested := false } else p.2)) } })
      if st = .c ∧ s.testSuspended = false then
        closed.modLanes (fun _ ln => if ln.status = .active then ln.rbump 0x510B 0 else ln) else closed) := by
  unfold elementReclose
  dsimp only
  rw [show (advanceTo s (s.vote.oAt + 52000)).field.step = some st from hstep]
  dsimp only
  have hsusp : (switching (advanceTo s (s.vote.oAt + 52000)) (fun t => { t with field := { t.field with
      step := none
      chan := t.field.chan.map (fun p => (p.1, if p.2.tested then { p.2.reclose st with tested := false } else p.2)) } })).testSuspended =
      s.testSuspended := by
    obtain ⟨_, _, heq⟩ := switching_eq (advanceTo s (s.vote.oAt + 52000)) (fun t => { t with field := { t.field with
      step := none, chan := t.field.chan.map (fun p => (p.1, if p.2.tested then { p.2.reclose st with tested := false } else p.2)) } })
    rw [heq]
    rfl
  rw [hsusp]
  exact if_congr (and_congr_right fun _ => by rw [Bool.not_eq_true']) rfl rfl

/-- A channel whose off pulse begins at `t`. -/
def DoChan.pulsed (x : DoChan) (t : Nat) : DoChan := { x with pulse := some t, due := none, sec := x.sec.map (fun y => { y with closed := false }) }

theorem offPulseStart_opens (s : State) (ch k t : Nat) (cfg : Container) (hcfg : s.config = some cfg) (hk : s.vote.k = some k)
    (hdue : (s.chan ch).due = some t) (hfit : s.pulseFit ch = true) :
    let at_ := advanceTo s (s.vote.oAt + 10000)
    pulseBlocked at_ cfg (s.vote.relK.getD 0) = false → ∃ u, offPulseStart s ch = u ∧
      (u.chan ch).pulse = some at_.time.now ∧ (u.chan ch).due = none ∧ (∀ m, ((u.chan ch).sec.get m).closed = false) ∧
      (∀ x, x ≠ ch → u.chan x = s.chan x) ∧ u.lanes = at_.lanes ∧ u.time = at_.time ∧ u.mode = s.mode := by
  intro at_ hblocked
  obtain ⟨n, c, heq⟩ := switching_eq at_ (fun s => s.modChan ch (fun x => x.pulsed s.time.now))
  have hset := switching_settled at_ (fun s => s.modChan ch (fun x => x.pulsed s.time.now)) ch
  have hother : ∀ x, x ≠ ch → (switching at_ (fun s => s.modChan ch (fun x => x.pulsed s.time.now))).chan x = s.chan x := by
    intro x hx
    rw [switching_still _ _ _ (by rw [chan_modChan_other _ _ hx]), chan_modChan_other _ _ hx]
    rfl
  rw [chan_modChan_self] at hset
  have hstart : ∃ n, offPulseStart s ch =
      (let u := switching at_ (fun s => s.modChan ch (fun x => x.pulsed s.time.now))
       { u with field := { u.field with spanTo := n } }) := by
    unfold offPulseStart
    rw [hcfg, hk, hdue]
    refine ⟨_, if_pos ?_⟩
    change (s.pulseFit ch && !pulseBlocked at_ cfg (s.vote.relK.getD 0)) = true
    rw [hfit, hblocked]
    rfl
  obtain ⟨n, hstart⟩ := hstart
  rw [hstart]
  have hclosed := fun m => hset.closed_eq m
  obtain ⟨u, hu, -⟩ := hset
  refine ⟨_, rfl, congrArg DoChan.pulse hu, congrArg DoChan.due hu, fun m => (hclosed m).trans ?_, hother, ?_, ?_, ?_⟩
  · unfold DoChan.pulsed
    rw [Tri.get_map]
  all_goals rw [heq]; rfl

/-! ## The statements -/

theorem outputChannelsProtectThemselves : Parts.OutputChannelsProtectThemselves := by
  unfold Parts.OutputChannelsProtectThemselves
  intro s l ch hop c
  refine ⟨congrArg Host.Outcome.next (if_pos hop), ?_, ?_, ?_, ?_, ?_, ?_, ?_, ?_⟩
  · obtain ⟨t, ht, h⟩ := thermalShutdown_shuts s ch.val
    exact ⟨t, congrArg Host.Outcome.next ht, h⟩
  · intro hhot hlatch
    refine congrArg Host.Outcome.next (congrArg (List.foldl (settleChan s) · (List.range 16)) (modChan_congr s ch.val ?_))
    change (if c.hot = false then c else if c.latch && !c.offSeen then { c with hot := false, cool := true }
      else { c with hot := false, cool := true, latch := false }.followAll) = _
    rw [hhot, if_neg (by decide), hlatch]
    rfl
  · intro hhot hlatch hoff
    refine congrArg Host.Outcome.next (congrArg (List.foldl (settleChan s) · (List.range 16)) (modChan_congr s ch.val ?_))
    change (if c.hot = false then c else if c.latch && !c.offSeen then { c with hot := false, cool := true }
      else { c with hot := false, cool := true, latch := false }.followAll) = _
    rw [hhot, if_neg (by decide), hlatch, hoff]
    rfl
  · exact fun h => congrArg Host.Outcome.next (demagEnd_idle s l ch.val h)
  · intro hpend hcmd hfree hpulse
    obtain ⟨t, ht, h⟩ := demagEnd_closes s l ch.val hpend hcmd hfree hpulse
    exact ⟨t, congrArg Host.Outcome.next ht, h⟩
  · intro t ht
    change Host.Outcome.next (demagOverrun s ch.val) = _
    unfold demagOverrun
    rw [ht]
  · exact fun hw uA mV => ⟨fun hcmd h => congrArg Host.Outcome.next (openWireOn_lasts s l ch.val uA hw hcmd h),
      fun hcmd htest h => congrArg Host.Outcome.next (openWireOff_lasts s l ch.val mV hw hcmd htest h)⟩
  · exact fun g mV => ⟨fun h => congrArg Host.Outcome.next (if_pos h), fun h => congrArg Host.Outcome.next (if_pos h)⟩

theorem outputTestsRun : Parts.OutputTestsRun := by
  unfold Parts.OutputTestsRun
  intro s l ch hop halive c
  refine ⟨fun mids out hoff hdemag hgroup => congrArg Host.Outcome.next (standingCheck_judges hop halive mids out hoff hdemag hgroup),
    fun path total hon htested htotal h1 h2 ha1 ha2 =>
      congrArg Host.Outcome.next (pathNotConducting_finds hop halive path.val total hon htested htotal h1 h2 ha1 ha2), ?_, ?_, ?_, ?_⟩
  · intro st hstep
    refine ⟨?_, congrArg Host.Outcome.next (elementOpen_eq hstep), ?_, ?_, ?_, congrArg Host.Outcome.next (elementReclose_eq hstep)⟩
    · intro paths hon hfree hskip hpulse hgroup hrun
      have hmeasure := elementMeasure_judges hop halive hstep paths hon hfree hskip hpulse hgroup hrun
      refine ⟨fun hl => congrArg Host.Outcome.next (hmeasure.trans (modChan_congr _ _ (if_pos hl))),
        fun hl => congrArg Host.Outcome.next (hmeasure.trans (modChan_congr _ _ (if_neg hl)))⟩
    · intro hsusp paths
      refine ⟨congrArg Host.Outcome.next (elementMeasure_suspended hstep l ch.val paths hsusp), congrArg Host.Outcome.next ?_⟩
      rw [elementCheck_eq hstep, hsusp]
      exact if_neg (by simp)
    · intro paths hlow
      refine congrArg Host.Outcome.next ?_
      rw [elementCheck_eq hstep, badPaths_none st paths hlow]
      exact ite_self _
    · intro paths htested hmute hrun bad hbad
      refine congrArg Host.Outcome.next ?_
      have hnot : ¬ (badPaths st paths).isEmpty = true := by
        rw [List.isEmpty_iff]
        exact hbad
      rw [elementCheck_eq hstep, htested, hmute, halive, hrun]
      exact if_neg hnot
  · intro k t cfg hcfg hk hdue hfit at_ hblocked
    obtain ⟨u, hu, h⟩ := offPulseStart_opens s ch.val k t cfg hcfg hk hdue hfit hblocked
    exact ⟨u, congrArg Host.Outcome.next hu, h⟩
  · intro t ht
    refine ⟨fun mV hmute => ?_, ?_⟩
    · change Host.Outcome.next (offPulseCheck s l ch.val mV) = _
      unfold offPulseCheck
      rw [ht]
      have hmute' : ((State.modChan (advanceTo s (t + 1000 * s.field.effWidth - 2000)) ch.val (fun c => c.seeVoltage l mV)).chan ch.val).mute = false := by
        rw [chan_modChan_self]
        exact hmute
      refine congrArg Host.Outcome.next (if_congr ?_ rfl rfl)
      rw [hmute']
      exact ⟨fun h => h.1, fun h => ⟨h, halive, rfl⟩⟩
    · change Host.Outcome.next (offPulseEnd s ch.val) = _
      unfold offPulseEnd
      rw [ht]
  · have hactive : ∀ t, (advanceTo s t).active l = s.active l := fun t => by cases l <;> rfl
    change Host.Outcome.next (healthToggle s l) = _
    unfold healthToggle
    dsimp only
    rw [hactive]
    rfl

/-- Settles O46: each command changes the channel that it names as the rule says, and a change of elements adds only marks besides. -/
theorem outputChannelsAndTheirTests : Obligations.OutputChannelsAndTheirTests :=
  ⟨outputChannelsProtectThemselves, outputTestsRun⟩

end Sys2Proof.Machine
end

section
/-! The field supply, the field die and the digital inputs (07 R190 to R197). -/

namespace Sys2Proof.Machine

open Sys2Proof

/-! ## Crossings of a section closed and opened (15 R408) -/

/-- A state that differs at most in the crossings and the registers: what closing and opening crossings changes. -/
def State.Linked (s t : State) : Prop := ∃ j c, t = { s with jreg := j, crossings := c }

namespace State.Linked

variable {s t u : State}

theorem refl (s : State) : s.Linked s := ⟨_, _, rfl⟩

theorem trans (h : s.Linked t) (h' : t.Linked u) : s.Linked u := by
  obtain ⟨_, _, rfl⟩ := h
  obtain ⟨_, _, rfl⟩ := h'
  exact ⟨_, _, rfl⟩

theorem foldl {α : Type} (f : State → α → State) (hf : ∀ (s : State) x, s.Linked (f s x)) (l : List α) : ∀ s : State, s.Linked (l.foldl f s) := by
  induction l with
  | nil => exact fun s => .refl s
  | cons x l ih => exact fun s => (hf s x).trans (ih _)

theorem closeCrossing (s : State) (x : Nat) (src : Bool) : s.Linked (closeCrossing s x src) := by
  unfold Machine.closeCrossing
  dsimp only
  split
  · split
    · split <;> exact ⟨_, _, rfl⟩
    · exact ⟨_, _, rfl⟩
  · exact .refl s

theorem closeField (s : State) (l : LaneId) : s.Linked (closeField s l) :=
  foldl _ (fun s i => closeCrossing s (7 * l.num + i) (decide (i ≠ 4))) _ s

theorem closeFields (s : State) : s.Linked (LaneId.all.foldl Machine.closeField s) := foldl _ closeField _ s

theorem reopen (s : State) (x : Nat) (src : Bool) : s.Linked (reopen s x src) := by
  unfold Machine.reopen
  dsimp only
  split
  · split <;> exact ⟨_, _, rfl⟩
  · exact .refl s

theorem reopenField (s : State) (l : LaneId) : s.Linked (reopenField s l) := by
  unfold Machine.reopenField
  split
  · exact foldl _ (fun s i => reopen s (7 * l.num + i) (decide (i ≠ 4))) _ s
  · exact .refl s

theorem reopenFields (s : State) : s.Linked (LaneId.all.foldl Machine.reopenField s) := foldl _ reopenField _ s

theorem field_eq (h : s.Linked t) : t.field = s.field := by
  obtain ⟨_, _, rfl⟩ := h
  rfl

theorem lane_eq (h : s.Linked t) (m : LaneId) : t.lane m = s.lane m := by
  obtain ⟨_, _, rfl⟩ := h
  rfl

theorem mode_eq (h : s.Linked t) : t.mode = s.mode := by
  obtain ⟨_, _, rfl⟩ := h
  rfl

end State.Linked

/-! ## Sections that fall quiet (03 R68, 07 R191) -/

/-- A section that has opened its elements and stopped its converters, its channel quiet since `now`. -/
def Section.quieted (x : Section) (now : Nat) : Section :=
  { x with converting := [], health := false, alive := false, alarm := true, quietAt := some now }

/-- What a section's falling quiet changes: the section itself, and the channels, where it commands nothing more. -/
theorem quietSection_eq (s : State) (l : LaneId) : ∃ k c, quietSection s l = { s with
    free := k
    field := { s.field with sec := s.field.sec.set l ((s.field.sec.get l).quieted s.time.now), chan := c
                            step := if s.field.step = some l then none else s.field.step } } := by
  obtain ⟨k, c, heq⟩ := switching_eq s (fun s => { s with field := s.field.openSection l })
  refine ⟨k, c, ?_⟩
  unfold quietSection
  rw [heq]
  unfold State.modSec FieldDie.openSection
  dsimp only
  rw [Tri.set_set, Tri.get_set_self]
  rfl

/-- A section's part of a channel that it commands off, its elements open. -/
def DoChan.shut (c : DoChan) (l : LaneId) : Prop := (c.sec.get l).cmd = false ∧ (c.sec.get l).closed = false

theorem DoChan.endTests_shut {c : DoChan} {l : LaneId} (h : c.shut l) : c.endTests.shut l := by
  obtain ⟨hcmd, hclosed⟩ := h
  unfold DoChan.endTests
  split
  · unfold DoChan.shut
    rw [Tri.get_map]
    dsimp only
    rw [hcmd, hclosed]
    exact ⟨rfl, rfl⟩
  · exact ⟨hcmd, hclosed⟩

theorem DoChan.openSec_shuts (c : DoChan) (l : LaneId) : (c.openSec l).shut l := by
  have hoff : (c.modSec l (fun x => { x with cmd := false, closed := false, pend := false })).shut l := by
    unfold DoChan.shut
    rw [sec_modSec_self]
    exact ⟨rfl, rfl⟩
  unfold DoChan.openSec
  dsimp only
  split
  · exact DoChan.endTests_shut hoff
  · exact hoff

theorem DoChan.openSec_shut {c : DoChan} {l m : LaneId} (h : c.shut m) : (c.openSec l).shut m := by
  by_cases hm : m = l
  · exact hm ▸ c.openSec_shuts l
  have hkept : (c.modSec l (fun x => { x with cmd := false, closed := false, pend := false })).shut m := by
    unfold DoChan.shut
    rw [sec_modSec_other _ _ hm]
    exact h
  unfold DoChan.openSec
  dsimp only
  split
  · exact DoChan.endTests_shut hkept
  · exact hkept

theorem DoChan.Settled.shut {c d : DoChan} (h : c.Settled d) {m : LaneId} (hc : c.shut m) : d.shut m :=
  ⟨(h.cmd_eq m).trans hc.1, (h.closed_eq m).trans hc.2⟩

theorem DoChan.blank_shut (l : LaneId) : DoChan.blank.shut l := by
  cases l <;> exact ⟨rfl, rfl⟩

/-- Whether a section commands nothing and has every element open. -/
def FieldDie.shut (f : FieldDie) (l : LaneId) : Prop := ∀ n, (Store.get f.chan DoChan.blank n).shut l

theorem FieldDie.openSection_chan (f : FieldDie) (l : LaneId) (n : Nat) :
    Store.get (f.openSection l).chan DoChan.blank n = ((Store.find? f.chan n).map (fun c => c.openSec l)).getD DoChan.blank :=
  congrArg (fun x => x.getD DoChan.blank) (Store.find?_map f.chan (fun c => c.openSec l) n)

theorem FieldDie.openSection_shuts (f : FieldDie) (l : LaneId) : (f.openSection l).shut l := by
  intro n
  rw [FieldDie.openSection_chan]
  cases Store.find? f.chan n with
  | none => exact DoChan.blank_shut l
  | some c => exact c.openSec_shuts l

theorem FieldDie.openSection_shut {f : FieldDie} {l m : LaneId} (h : f.shut m) : (f.openSection l).shut m := by
  intro n
  have hn := h n
  rw [FieldDie.openSection_chan]
  unfold Store.get at hn
  cases hc : Store.find? f.chan n with
  | none => exact DoChan.blank_shut m
  | some c =>
    rw [hc] at hn
    exact DoChan.openSec_shut hn

theorem FieldDie.openAll_shut (f : FieldDie) (m : LaneId) : f.openAll.shut m := by
  have hall : (((f.openSection .a).openSection .b).openSection .c).shut m := by
    cases m with
    | a => exact FieldDie.openSection_shut (FieldDie.openSection_shut (f.openSection_shuts .a))
    | b => exact FieldDie.openSection_shut ((f.openSection .a).openSection_shuts .b)
    | c => exact FieldDie.openSection_shuts _ .c
  exact hall

theorem switching_shut (s : State) (f : State → State) (m : LaneId) (h : (f s).field.shut m) : (switching s f).field.shut m :=
  fun n => (switching_settled s f n).shut (h n)

theorem quietSection_shuts (s : State) (l : LaneId) : (quietSection s l).field.shut l :=
  switching_shut s (fun s => { s with field := s.field.openSection l }) l (FieldDie.openSection_shuts s.field l)

/-- All three sections quiet: what the die's reset does first. -/
theorem quietSections_eq (s : State) : ∃ k c st, LaneId.all.foldl quietSection s = { s with
    free := k
    field := { s.field with sec := s.field.sec.map (fun x => x.quieted s.time.now), chan := c, step := st } } := by
  obtain ⟨_, _, ha⟩ := quietSection_eq s .a
  obtain ⟨_, _, hb⟩ := quietSection_eq (quietSection s .a) .b
  obtain ⟨k, c, hc⟩ := quietSection_eq (quietSection (quietSection s .a) .b) .c
  refine ⟨k, c, if (quietSection (quietSection s .a) .b).field.step = some .c then none else (quietSection (quietSection s .a) .b).field.step,
    hc.trans ?_⟩
  rw [hb, ha]
  rfl

/-- Field supply loss: the die is off with every element open; besides, a record and closed crossings. -/
theorem fieldSupplyLoss_eq (s : State) : ∃ j c r, fieldSupplyLoss s = { s with
    jreg := j, crossings := c, recorder := r
    field := { s.field.openAll with operating := false, lost := true, step := none, roundAt := none } } := by
  obtain ⟨_, _, hlink⟩ := State.Linked.closeFields { s with
    field := { s.field.openAll with operating := false, lost := true, step := none, roundAt := none } }
  unfold fieldSupplyLoss
  dsimp only
  rw [hlink]
  obtain ⟨_, _, hrec⟩ := record_eq (s := _) 9 19 _
  exact ⟨_, _, _, hrec⟩

theorem fieldSupplyLoss_lanes (s : State) : (fieldSupplyLoss s).lanes = s.lanes := by
  obtain ⟨_, _, _, h⟩ := fieldSupplyLoss_eq s
  rw [h]

theorem fieldSupplyLoss_mode (s : State) : (fieldSupplyLoss s).mode = s.mode := by
  obtain ⟨_, _, _, h⟩ := fieldSupplyLoss_eq s
  rw [h]

theorem fieldSupplyLoss_field (s : State) :
    (fieldSupplyLoss s).field = { s.field.openAll with operating := false, lost := true, step := none, roundAt := none } := by
  obtain ⟨_, _, _, h⟩ := fieldSupplyLoss_eq s
  rw [h]

theorem openAll_sec (f : FieldDie) (m : LaneId) : f.openAll.sec.get m = { f.sec.get m with converting := [], health := false } := by
  unfold FieldDie.openAll
  cases m <;> rfl

/-! ## Reset and boot of the field die (07 R190, R191) -/

/-- Of the die's reset with a low report: the loss of the field supply with every section quiet, the supply shown, the crossings closed. -/
theorem fieldDieReset_loss (s : State) (mV : Nat) (hmV : mV < 16000) (hop : s.field.operating = true) (hlow : s.lowReport = true) :
    (State.modLanes (fieldSupplyLoss (LaneId.all.foldl quietSection { s with field := { s.field with operating := false } }))
      (fun _ ln => ln.rset 0x5000 2 mV)).Linked (fieldDieReset s mV) := by
  have hreset : fieldDieReset s mV = LaneId.all.foldl closeField
      ((fieldSupplyLoss (LaneId.all.foldl quietSection { s with field := { s.field with operating := false } })).modLanes
        (fun _ ln => ln.rset 0x5000 2 mV)) := by
    unfold fieldDieReset
    rw [if_pos ⟨hmV, hop⟩]
    dsimp only
    rw [hlow, if_pos rfl]
  rw [hreset]
  exact .closeFields _

/-- What every section quiet and the field supply lost leave of the device. -/
theorem fieldSupplyLoss_quiet (s : State) : ∃ x, fieldSupplyLoss (LaneId.all.foldl quietSection { s with field := { s.field with operating := false } }) = x ∧
    x.field.operating = false ∧ x.field.lost = true ∧ (∀ m, x.field.shut m) ∧ x.mode = s.mode ∧ x.lanes = s.lanes ∧
    ∀ m, (x.field.sec.get m).alive = false ∧ (x.field.sec.get m).converting = [] ∧ (x.field.sec.get m).health = false := by
  obtain ⟨k, c, st, hquiet⟩ := quietSections_eq { s with field := { s.field with operating := false } }
  rw [hquiet]
  refine ⟨_, rfl, ?_, ?_, fun m => ?_, fieldSupplyLoss_mode _, fieldSupplyLoss_lanes _, fun m => ?_⟩
  · rw [fieldSupplyLoss_field]
  · rw [fieldSupplyLoss_field]
  · rw [fieldSupplyLoss_field]
    exact FieldDie.openAll_shut _ m
  · rw [fieldSupplyLoss_field]
    dsimp only
    rw [openAll_sec]
    dsimp only
    rw [Tri.get_map]
    exact ⟨rfl, rfl, rfl⟩

theorem fieldDieReset_lost (s : State) (mV : Nat) (hmV : mV < 16000) (hop : s.field.operating = true) (hlow : s.lowReport = true) :
    ∃ t, fieldDieReset s mV = t ∧ t.field.operating = false ∧ t.field.lost = true ∧ (∀ ch m, ((t.chan ch).sec.get m).closed = false) ∧
      t.mode = s.mode ∧ ∀ m, t.lane m = (s.lane m).rset 0x5000 2 mV ∧ (t.sec m).alive = false ∧ (t.sec m).converting = [] ∧
        (t.sec m).health = false := by
  have hlink := fieldDieReset_loss s mV hmV hop hlow
  obtain ⟨x, hx, hoff, hlost, hshut, hmode, hlanes, hsec⟩ := fieldSupplyLoss_quiet s
  rw [hx] at hlink
  generalize fieldDieReset s mV = t at hlink ⊢
  have hfield : t.field = x.field := hlink.field_eq
  refine ⟨t, rfl, by rw [hfield, hoff], by rw [hfield, hlost], fun ch m => ?_, hlink.mode_eq.trans hmode, fun m => ⟨?_, ?_⟩⟩
  · unfold State.chan
    rw [hfield]
    exact (hshut m ch).2
  · rw [hlink.lane_eq]
    exact (Tri.get_mapId _ _ m).trans (by rw [hlanes]; rfl)
  · unfold State.sec
    rw [hfield]
    exact hsec m

theorem fieldDieReset_reported (s : State) (mV : Nat) (hmV : mV < 16000) (hop : s.field.operating = true) (hlow : s.lowReport = false) :
    fieldDieReset s mV = LaneId.all.foldl closeField
      ((LaneId.all.foldl judgeQuiet (LaneId.all.foldl quietSection { s with field := { s.field with operating := false } })).modLanes
        (fun _ ln => ln.rset 0x5000 2 mV)) := by
  unfold fieldDieReset
  rw [if_pos ⟨hmV, hop⟩]
  dsimp only
  rw [hlow, if_neg Bool.false_ne_true]

/-- What a section's comparator and its converter show of the field supply. -/
def Section.sees (x : Section) (mV now : Nat) : Section :=
  { x with raw := decide (mV < 18000), rawLow := if decide (mV < 18000) || x.raw || x.under then some now else x.rawLow }

theorem seeSupply_eq (s : State) (l : LaneId) (mV : Nat) : seeSupply s l mV = { s with
    field := { s.field with sec := s.field.sec.set l ((s.field.sec.get l).sees mV s.time.now) }
    lanes := s.lanes.set l ((s.lanes.get l).rset 0x5000 2 mV) } := by
  unfold seeSupply Section.sees
  rfl

/-- The supply as all three sections see it: their states, and what their lanes show. -/
theorem seeSupplyAll_shows (s : State) (mV : Nat) : ∃ x, seeSupplyAll s mV = x ∧ (∀ m, x.sec m = (s.sec m).sees mV s.time.now) ∧
    x.field = { s.field with sec := x.field.sec } ∧ (∀ m, x.lane m = (s.lane m).rset 0x5000 2 mV) ∧ x.mode = s.mode := by
  have hall : seeSupplyAll s mV = seeSupply (seeSupply (seeSupply s .a mV) .b mV) .c mV := rfl
  rw [hall]
  simp only [seeSupply_eq]
  refine ⟨_, rfl, fun m => ?_, rfl, fun m => ?_, rfl⟩
  · cases m <;> rfl
  · cases m <;> rfl

/-- A section as the die boots: its lane's channel alive where the lane is not held, and no history of its inputs. -/
def Section.booted (x : Section) (hold : Bool) : Section :=
  { x with alive := !hold, alarm := hold, quietAt := none, under := false, raw := false, rawLow := none,
           di := x.di.map (fun p => (p.1, { DiPath.blank with shown := p.2.shown })) }

/-- The field die when it begins to operate. -/
def State.fieldBooted (s : State) : State := { s with
  field := { s.field with
    operating := true, ran := true, lost := false
    sec := s.field.sec.mapId (fun l x => x.booted (s.lane l).hold)
    chan := s.field.chan.map (fun p => (p.1, p.2.boot)) }
  lanes := s.lanes.map (fun ln => { ln with recog := Recog.start }) }

/-- A die whose supply is shown with the loss that it ended, and its return recorded: besides, the device is that of before. -/
def State.returned (u : State) (lost ran : Bool) : State :=
  let v := if lost then u.modLanes (fun _ ln => ln.rset 0x5000 1 (setBit (ln.rget 0x5000 1) 2 true)) else u
  if ran then record v 9 19 (leBytes 1 (v.fieldStatus v.lead)) else v

theorem returned_shows (u : State) (lost ran : Bool) : (u.returned lost ran).field = u.field ∧ (u.returned lost ran).mode = u.mode ∧
    ∀ m, ((u.returned lost ran).lane m).recog = (u.lane m).recog := by
  have hlost : ∀ v, v = (if lost then u.modLanes (fun _ ln => ln.rset 0x5000 1 (setBit (ln.rget 0x5000 1) 2 true)) else u) →
      v.field = u.field ∧ v.mode = u.mode ∧ ∀ m, (v.lane m).recog = (u.lane m).recog := by
    rintro v rfl
    split
    · exact ⟨rfl, rfl, fun m => by cases m <;> rfl⟩
    · exact ⟨rfl, rfl, fun m => rfl⟩
  unfold State.returned
  dsimp only
  generalize hv : (if lost then u.modLanes (fun _ ln => ln.rset 0x5000 1 (setBit (ln.rget 0x5000 1) 2 true)) else u) = v
  have hkept := hlost v hv.symm
  split
  · obtain ⟨r, j, hrec⟩ := record_eq v 9 19 (leBytes 1 (v.fieldStatus v.lead))
    rw [hrec]
    exact hkept
  · exact hkept

theorem fieldDieBoot_eq (s : State) (mV : Nat) (hmV : 18500 < mV) (hvar : s.variantF = true) (hoff : s.field.operating = false) :
    fieldDieBoot s mV = (seeSupplyAll (LaneId.all.foldl reopenField s.fieldBooted) mV).returned s.field.lost s.field.ran := by
  unfold fieldDieBoot State.fieldBooted Section.booted State.returned
  rw [if_pos ⟨hmV, hvar, hoff⟩]

theorem DoChan.boot_open (c : DoChan) (m : LaneId) : (c.boot.sec.get m).closed = false := by
  unfold DoChan.boot
  rw [Tri.get_map]
  rfl

theorem Section.booted_path (x : Section) (hold : Bool) (n : Nat) : ((x.booted hold).path n).count = 0 ∧ ((x.booted hold).path n).since = none := by
  have hpath : (x.booted hold).path n = ((Store.find? x.di n).map (fun p => { DiPath.blank with shown := p.shown })).getD DiPath.blank :=
    congrArg (fun y => y.getD DiPath.blank) (Store.find?_map x.di (fun p => { DiPath.blank with shown := p.shown }) n)
  rw [hpath]
  cases Store.find? x.di n <;> exact ⟨rfl, rfl⟩

theorem fieldDieBoot_operates (s : State) (mV : Nat) (hmV : 18500 < mV) (hvar : s.variantF = true) (hoff : s.field.operating = false) :
    ∃ t, fieldDieBoot s mV = t ∧ t.field.operating = true ∧ t.field.lost = false ∧ (∀ ch m, ((t.chan ch).sec.get m).closed = false) ∧
      (∀ m, (t.sec m).alive = !(s.lane m).hold ∧ (t.sec m).under = false ∧ (t.sec m).raw = false ∧ (t.lane m).recog = Recog.start ∧
        ∀ n, ((t.sec m).path n).count = 0 ∧ ((t.sec m).path n).since = none) ∧ t.mode = s.mode := by
  have hlink := State.Linked.reopenFields s.fieldBooted
  rw [fieldDieBoot_eq s mV hmV hvar hoff]
  generalize LaneId.all.foldl reopenField s.fieldBooted = u at hlink ⊢
  obtain ⟨x, hx, hsec, hfield, hlane, hmode⟩ := seeSupplyAll_shows u mV
  rw [hx]
  obtain ⟨hfield', hmode', hrecog⟩ := returned_shows x s.field.lost s.field.ran
  generalize x.returned s.field.lost s.field.ran = t at hfield' hmode' hrecog ⊢
  rw [hlink.field_eq] at hfield
  have hbooted : ∀ m, t.sec m = ((s.sec m).booted (s.lane m).hold).sees mV u.time.now := by
    intro m
    have hm : u.sec m = (s.sec m).booted (s.lane m).hold := by
      unfold State.sec
      rw [hlink.field_eq]
      exact Tri.get_mapId _ _ m
    rw [← hm, ← hsec m]
    unfold State.sec
    rw [hfield']
  refine ⟨t, rfl, by rw [hfield', hfield]; rfl, by rw [hfield', hfield]; rfl, fun ch m => ?_, fun m => ⟨?_, ?_, ?_, ?_, ?_⟩,
    hmode'.trans (hmode.trans hlink.mode_eq)⟩
  · unfold State.chan
    rw [hfield', hfield]
    exact chan_map s DoChan.boot s.fieldBooted.field rfl (fun c => (c.sec.get m).closed = false) (DoChan.blank_shut m).2 (fun c => c.boot_open m) ch
  · rw [hbooted]
    rfl
  · rw [hbooted]
    rfl
  · rw [hbooted]
    exact decide_eq_false (by omega)
  · have hm : (u.lane m).recog = Recog.start := by
      rw [hlink.lane_eq]
      exact congrArg Lane.recog (Tri.get_map _ _ m)
    rw [hrecog, hlane]
    exact hm
  · rw [hbooted]
    exact (s.sec m).booted_path (s.lane m).hold

/-! ## Digital inputs (07 R193) -/

/-- One threshold of R193 judged: the thresholds below the current so far, and whether it lies in a band around one. -/
def diStep (uA : Nat) (acc : Nat × Bool) (th : Nat) : Nat × Bool :=
  if 100 * uA > 102 * th then (acc.1 + 1, acc.2) else if 100 * uA ≥ 98 * th then (acc.1, true) else acc

theorem diBand_steps (uA : Nat) : diBand uA = diStep uA (diStep uA (diStep uA (diStep uA (0, false) 200) 300) 1000) 2000 := rfl

theorem diStep_above {uA th : Nat} (acc : Nat × Bool) (h : 102 * th < 100 * uA) : diStep uA acc th = (acc.1 + 1, acc.2) := if_pos h

theorem diStep_below {uA th : Nat} (acc : Nat × Bool) (h : 100 * uA < 98 * th) : diStep uA acc th = acc := by
  unfold diStep
  rw [if_neg (by omega), if_neg (by omega)]

theorem inputCurrentsHaveTheirClass : Parts.InputCurrentsHaveTheirClass := by
  unfold Parts.InputCurrentsHaveTheirClass
  intro uA
  refine ⟨fun h h' => ?_, fun h => ?_, fun h => ?_, fun h h' => ?_, fun w => ⟨rfl, rfl, rfl, rfl⟩⟩
  · rw [diBand_steps, diStep_below _ (by omega), diStep_below _ (by omega), diStep_above _ (by omega), diStep_above _ (by omega)]
  · rw [diBand_steps, diStep_above _ (by omega), diStep_above _ (by omega), diStep_above _ (by omega), diStep_above _ (by omega)]
  · rw [diBand_steps, diStep_below _ (by omega), diStep_below _ (by omega), diStep_below _ (by omega), diStep_below _ (by omega)]
  · rw [diBand_steps, diStep_below _ (by omega), diStep_above _ (by omega), diStep_above _ (by omega), diStep_above _ (by omega)]

/-! ## The statement -/

theorem fieldSupplyAndInputs_part : Parts.FieldSupplyAndInputs := by
  unfold Parts.FieldSupplyAndInputs
  intro s l
  refine ⟨fun mV => ⟨fun h => congrArg Host.Outcome.next (if_pos h), fun h => congrArg Host.Outcome.next (if_pos h)⟩, ?_, ?_, ?_, ?_, ?_⟩
  · intro mV hmV hop quiet
    refine ⟨fun hlow => ?_, fun hlow => congrArg Host.Outcome.next (fieldDieReset_reported s mV hmV hop hlow)⟩
    obtain ⟨t, ht, h⟩ := fieldDieReset_lost s mV hmV hop hlow
    exact ⟨t, congrArg Host.Outcome.next ht, h⟩
  · intro mV hmV hvar hoff
    obtain ⟨t, ht, h⟩ := fieldDieBoot_operates s mV hmV hvar hoff
    exact ⟨t, congrArg Host.Outcome.next ht, h⟩
  · intro n uA hop took
    refine ⟨fun hband => ?_, fun hband => ?_⟩ <;>
    · refine congrArg Host.Outcome.next ((if_pos hop).trans ?_)
      dsimp only
      rw [hband]
      rfl
  · intro n t hop hsince
    change Host.Outcome.next (filterExpiry s l n.val) = _
    unfold filterExpiry
    rw [hop, hsince]
    exact congrArg Host.Outcome.next (if_neg (by decide))
  · intro n c hc hpulse hop
    change Host.Outcome.next (pulseCount s l n.val) = _
    unfold pulseCount
    rw [hc, hop]
    dsimp only
    rw [hpulse]
    rfl

/-- Settles O45: the die's reset opens every element and its boot clears every path; a current's band follows from its thresholds. -/
theorem fieldSupplyAndInputs : Obligations.FieldSupplyAndInputs :=
  ⟨fieldSupplyAndInputs_part, inputCurrentsHaveTheirClass⟩

end Sys2Proof.Machine
end

section
/-! Exclusion, limp and the safe state (03 R64 to R68, R90 to R98, 07 R191, R209). -/

namespace Sys2Proof.Machine

open Sys2Proof

/-! ## Emergency messages (11 R311) -/

/-- A state that differs at most in the registers, the crossings, the draws and what has left the device: what a message changes. -/
def State.Told (s t : State) : Prop := ∃ j c k w, t = { s with jreg := j, crossings := c, free := k, wires := w }

namespace State.Told

variable {s t u : State}

theorem refl (s : State) : s.Told s := ⟨_, _, _, _, rfl⟩

theorem trans (h : s.Told t) (h' : t.Told u) : s.Told u := by
  obtain ⟨_, _, _, _, rfl⟩ := h
  obtain ⟨_, _, _, _, rfl⟩ := h'
  exact ⟨_, _, _, _, rfl⟩

theorem of_crossed {x : Nat} (h : State.Crossed x s t) : s.Told t := by
  obtain ⟨⟨_, _, _, rfl⟩, -⟩ := h
  exact ⟨_, _, _, _, rfl⟩

theorem jset (s : State) (i j v : Nat) : s.Told (jset s i j v) := ⟨_, _, _, _, rfl⟩

theorem transmit (s : State) (x n : Nat) (w : Wire) : s.Told (transmit s x n w) :=
  carry_keeps (P := fun t => s.Told t) (.refl s) (fun _ _ hc h => h.trans (.of_crossed hc)) (fun _ h => h) (fun _ h => h.trans ⟨_, _, _, _, rfl⟩)

theorem sendEmcy (s : State) (c : CanCtl) (code b3 b4 : Nat) : s.Told (sendEmcy s c code b3 b4) := by
  unfold Machine.sendEmcy
  dsimp only
  split
  · exact transmit ..
  · exact .refl s

theorem emcy (s : State) (code b3 b4 : Nat) : s.Told (emcy s code b3 b4) :=
  ((jset s _ _ _).trans (sendEmcy _ .c0 code b3 b4)).trans (sendEmcy _ .c1 code b3 b4)

theorem mode_eq (h : s.Told t) : t.mode = s.mode := by
  obtain ⟨_, _, _, _, rfl⟩ := h
  rfl

theorem lanes_eq (h : s.Told t) : t.lanes = s.lanes := by
  obtain ⟨_, _, _, _, rfl⟩ := h
  rfl

theorem field_eq (h : s.Told t) : t.field = s.field := by
  obtain ⟨_, _, _, _, rfl⟩ := h
  rfl

theorem time_eq (h : s.Told t) : t.time = s.time := by
  obtain ⟨_, _, _, _, rfl⟩ := h
  rfl

theorem vote_eq (h : s.Told t) : t.vote = s.vote := by
  obtain ⟨_, _, _, _, rfl⟩ := h
  rfl

theorem ring_eq (h : s.Told t) : t.ring = s.ring := by
  obtain ⟨_, _, _, _, rfl⟩ := h
  rfl

theorem dict_eq (h : s.Told t) : t.dict = s.dict := by
  obtain ⟨_, _, _, _, rfl⟩ := h
  rfl

end State.Told

/-! ## The safe state (03 R97) -/

/-- The end of an on-line change: the change, the dictionary's transfers, registers and the recorder. -/
theorem endChange_eq (s : State) (result detail : Nat) :
    ∃ c d j r, endChange s result detail = { s with change := c, dict := d, jreg := j, recorder := r } := by
  unfold endChange
  dsimp only
  obtain ⟨r, j, h⟩ := record_eq (jset (jset { s with
    change := { s.change with state := 0, delta := none, kAct := 0, holds := Tri.all false }
    dict := { s.dict with xfers := s.dict.xfers.filter (fun p => !(decide (p.2.index = 0x6800) && decide (p.2.sub = 2))) } } 0x6800 6 result)
    0x6800 7 detail) 0 14 (leBytes 1 result ++ leBytes 4 detail)
  rw [h]
  exact ⟨_, _, _, _, rfl⟩

theorem jget_endChange_other (s : State) (result detail i j : Nat) (h6 : regKey i j ≠ regKey 0x6800 6) (h7 : regKey i j ≠ regKey 0x6800 7)
    (hr : regKey i j ≠ regKey 0x7011 4) : jget (endChange s result detail) i j = jget s i j := by
  unfold endChange
  dsimp only
  rw [jget_record_other _ _ _ _ _ _ hr, jget_jset_other _ _ _ _ _ _ h7, jget_jset_other _ _ _ _ _ _ h6]
  rfl

/-- The device with every lane held and every element open, its controllers stopped: what the entry into the safe state does before it tells. -/
def State.stopped (s : State) : State :=
  let s := switching (stampRegions (s.modLanes (fun l ln => ln.enterSafe l s.pGlue s.time.now))) (fun s => { s with field := s.field.openAll })
  { s with mode := .safe, can0 := s.can0.stopForSafe, can1 := s.can1.stopForSafe }

theorem stopped_stops (s : State) : s.stopped.mode = .safe ∧ (∀ l, (s.stopped.lane l).hold = true) ∧ (∀ l, s.stopped.field.shut l) ∧
    s.stopped.can0.tx = [] ∧ s.stopped.can1.tx = [] ∧ s.stopped.time = s.time := by
  obtain ⟨k, c, heq⟩ := switching_eq (stampRegions (s.modLanes (fun l ln => ln.enterSafe l s.pGlue s.time.now)))
    (fun s => { s with field := s.field.openAll })
  have hshut := fun l => switching_shut (stampRegions (s.modLanes (fun l ln => ln.enterSafe l s.pGlue s.time.now)))
    (fun s => { s with field := s.field.openAll }) l (FieldDie.openAll_shut _ l)
  refine ⟨rfl, fun l => ?_, hshut, rfl, rfl, ?_⟩
  · unfold State.stopped
    rw [heq]
    cases l <;> rfl
  · unfold State.stopped
    rw [heq]
    rfl

/-- What the entry into the safe state tells once the device has stopped. -/
def State.safeTold (s : State) (cause before : Nat) (extra : Bytes) : State :=
  let s := if s.vote.reint.isSome then jset s 0x3006 4 3 else s
  let s := { s with vote := { s.vote with voting := false, reint := none, blocksDue := [], limpNs := none, shadowOk := 0 } }
  let s := jset (jset s 0x3002 0 cause) 0x3003 0 cause
  let s := record s 0 1 (leBytes 1 cause ++ leBytes 1 before ++ extra)
  if s.change.state = 6 then endChange s 10 0 else s

theorem enterSafeWith_eq (s : State) (cause : Nat) (extra : Bytes) (h : s.mode ≠ .safe) :
    enterSafeWith s cause extra = (emcy s 0xFF02 cause 0).stopped.safeTold cause s.mode.code extra := by
  unfold enterSafeWith State.stopped State.safeTold
  rw [if_neg h]

theorem safeTold_keeps (s : State) (cause before : Nat) (extra : Bytes) :
    (s.safeTold cause before extra).mode = s.mode ∧ (s.safeTold cause before extra).lanes = s.lanes ∧ (s.safeTold cause before extra).field = s.field ∧
      (s.safeTold cause before extra).can0 = s.can0 ∧ (s.safeTold cause before extra).can1 = s.can1 ∧ (s.safeTold cause before extra).time = s.time ∧
      (s.safeTold cause before extra).vote.limpNs = none ∧ (s.safeTold cause before extra).vote.reint = none := by
  have hreint : ∀ t, t = (if s.vote.reint.isSome then jset s 0x3006 4 3 else s) → ∃ j, t = { s with jreg := j } := by
    rintro t rfl
    split <;> exact ⟨_, rfl⟩
  unfold State.safeTold
  dsimp only
  generalize ht : (if s.vote.reint.isSome then jset s 0x3006 4 3 else s) = t
  obtain ⟨j, rfl⟩ := hreint t ht.symm
  obtain ⟨r, j', hrec⟩ := record_eq (jset (jset { { s with jreg := j } with
    vote := { s.vote with voting := false, reint := none, blocksDue := [], limpNs := none, shadowOk := 0 } } 0x3002 0 cause) 0x3003 0 cause) 0 1
    (leBytes 1 cause ++ leBytes 1 before ++ extra)
  rw [hrec]
  split
  · obtain ⟨_, _, _, _, hend⟩ := endChange_eq { jset (jset { { s with jreg := j } with
      vote := { s.vote with voting := false, reint := none, blocksDue := [], limpNs := none, shadowOk := 0 } } 0x3002 0 cause) 0x3003 0 cause with
      recorder := r, jreg := j' } 10 0
    rw [hend]
    exact ⟨rfl, rfl, rfl, rfl, rfl, rfl, rfl, rfl⟩
  · exact ⟨rfl, rfl, rfl, rfl, rfl, rfl, rfl, rfl⟩

theorem safeTold_cause (s : State) (cause before : Nat) (extra : Bytes) (h : cause ≠ 0) :
    jget (s.safeTold cause before extra) 0x3002 0 = cause ∧ jget (s.safeTold cause before extra) 0x3003 0 = cause := by
  unfold State.safeTold
  dsimp only
  generalize (if s.vote.reint.isSome then jset s 0x3006 4 3 else s) = t
  generalize hu : ({ t with vote := { t.vote with voting := false, reint := none, blocksDue := [], limpNs := none, shadowOk := 0 } } : State) = u
  have hset : ∀ i, i = 0x3002 ∨ i = 0x3003 → jget (jset (jset u 0x3002 0 cause) 0x3003 0 cause) i 0 = cause := by
    rintro i (rfl | rfl)
    · rw [jget_jset_other _ _ _ _ _ _ (by decide), jget_jset_self _ _ _ _ h]
    · rw [jget_jset_self _ _ _ _ h]
  have hrec : ∀ i, i = 0x3002 ∨ i = 0x3003 → jget (record (jset (jset u 0x3002 0 cause) 0x3003 0 cause) 0 1
      (leBytes 1 cause ++ leBytes 1 before ++ extra)) i 0 = cause := by
    intro i hi
    rw [jget_record_other _ _ _ _ _ _ (by rcases hi with rfl | rfl <;> decide), hset i hi]
  split
  · refine ⟨?_, ?_⟩ <;>
    · rw [jget_endChange_other _ _ _ _ _ (by decide) (by decide) (by decide)]
      exact hrec _ (by decide)
  · exact ⟨hrec _ (.inl rfl), hrec _ (.inr rfl)⟩

/-- The entry into the safe state from any other mode. -/
theorem enterSafeWith_enters (s : State) (cause : Nat) (extra : Bytes) (h : s.mode ≠ .safe) : ∃ t, enterSafeWith s cause extra = t ∧
    t.mode = .safe ∧ (∀ l, (t.lane l).hold = true) ∧ (∀ l, t.field.shut l) ∧ t.can0.tx = [] ∧ t.can1.tx = [] ∧ t.vote.limpNs = none ∧
    t.vote.reint = none ∧ t.time = s.time ∧ (cause ≠ 0 → jget t 0x3002 0 = cause ∧ jget t 0x3003 0 = cause) := by
  obtain ⟨hmode, hhold, hshut, htx0, htx1, htime⟩ := stopped_stops (emcy s 0xFF02 cause 0)
  obtain ⟨kmode, klanes, kfield, kcan0, kcan1, ktime, klimp, kreint⟩ :=
    safeTold_keeps (emcy s 0xFF02 cause 0).stopped cause s.mode.code extra
  refine ⟨_, enterSafeWith_eq s cause extra h, kmode.trans hmode, fun l => ?_, fun l => ?_, by rw [kcan0, htx0], by rw [kcan1, htx1], klimp, kreint,
    ktime.trans (htime.trans (State.Told.emcy s 0xFF02 cause 0).time_eq), safeTold_cause _ cause _ extra⟩
  · unfold State.lane
    rw [klanes]
    exact hhold l
  · rw [kfield]
    exact hshut l

theorem limpEndsInTheSafeState : Parts.LimpEndsInTheSafeState := by
  unfold Parts.LimpEndsInTheSafeState
  intro s r hmode hlimp
  have hexpiry : limpTimerExpiry s = enterSafeWith (advanceTo s (s.time.now + r)) 2 [] := by
    unfold limpTimerExpiry
    rw [hlimp]
    exact if_pos hmode
  obtain ⟨t, ht, hsafe, hhold, hshut, htx0, htx1, hl, hr, htime, hcause⟩ := enterSafeWith_enters (advanceTo s (s.time.now + r)) 2 []
    (by rw [show (advanceTo s (s.time.now + r)).mode = s.mode from rfl, hmode]; decide)
  obtain ⟨h2, h3⟩ := hcause (by decide)
  refine ⟨t, congrArg Host.Outcome.next (hexpiry.trans ht), hsafe, hhold, fun ch l => ⟨(hshut l ch).2, (hshut l ch).1⟩, htx0, htx1, h2, h3, hl, hr, ?_⟩
  rw [htime, advanceTo_now]
  exact Nat.max_eq_right (Nat.le_add_right _ _)

/-! ## Sections that fall quiet (03 R68, 07 R191, R209) -/

theorem quietSection_sec (s : State) (l : LaneId) : (quietSection s l).sec l = (s.sec l).quieted s.time.now := by
  obtain ⟨k, c, h⟩ := quietSection_eq s l
  rw [h]
  exact Tri.get_set_self ..

theorem quietSection_lost (s : State) (l : LaneId) : (quietSection s l).field.lost = s.field.lost := by
  obtain ⟨k, c, h⟩ := quietSection_eq s l
  rw [h]

theorem quietSection_active (s : State) (l m : LaneId) : (quietSection s l).active m = s.active m := by
  obtain ⟨k, c, h⟩ := quietSection_eq s l
  rw [h]
  rfl

theorem judgeQuiet_alone (s : State) (l : LaneId) (halive : (s.sec l).alive = false) (hlost : s.field.lost = false) (hlow : s.lowReport = false) :
    judgeQuiet s l = if s.active l then exclude s l 14 else s := by
  unfold judgeQuiet
  rw [halive, hlost, hlow]
  simp only [Bool.false_eq_true, if_false]

theorem judgeQuiet_all (s : State) (l : LaneId) (halive : (s.sec l).alive = false) (hlost : s.field.lost = false) (hlow : s.lowReport = true)
    (hall : s.allQuiet = true) : judgeQuiet s l = fieldSupplyLoss s := by
  unfold judgeQuiet
  rw [halive, hlost, hlow, hall]
  simp only [Bool.false_eq_true, if_false, if_true]

/-- The element test step of a section that hears another one's alarm ended, where its image still commands on. -/
def State.stepEnded (s : State) (l : LaneId) : State :=
  switching s (fun s => { s with field := { s.field with
    step := none, chan := s.field.chan.map (fun p => (p.1, if p.2.tested then { p.2.reclose l with tested := false } else p.2)) } })

theorem stepEnded_keeps (s : State) (l : LaneId) : (s.stepEnded l).field.step = none ∧ (s.stepEnded l).lanes = s.lanes ∧ (s.stepEnded l).mode = s.mode := by
  obtain ⟨k, c, heq⟩ := switching_eq s (fun s => { s with field := { s.field with
    step := none, chan := s.field.chan.map (fun p => (p.1, if p.2.tested then { p.2.reclose l with tested := false } else p.2)) } })
  unfold State.stepEnded
  rw [heq]
  exact ⟨rfl, rfl, rfl⟩

theorem sectionAlarm_heard (s : State) (l m : LaneId) (h : m ≠ l) (halarm : (s.sec m).alarm = true) :
    sectionAlarm s l m = judgeQuiet (if s.field.step = some l then s.stepEnded l else s) m := by
  unfold sectionAlarm State.stepEnded
  rw [if_neg (by rw [halarm]; simpa using Ne.symm h)]

theorem quietSectionsExcludeTheirLane : Parts.QuietSectionsExcludeTheirLane := by
  unfold Parts.QuietSectionsExcludeTheirLane
  intro s l m q
  have hsec : q.sec l = (s.sec l).quieted s.time.now := quietSection_sec s l
  have halive : (q.sec l).alive = false := by rw [hsec]; rfl
  have hlost : s.field.lost = false → q.field.lost = false := fun h => (quietSection_lost s l).trans h
  refine ⟨⟨rfl, by rw [hsec]; rfl, halive, fun ch => (quietSection_shuts s l ch).2⟩, fun hl hlow => ?_,
    fun hl hlow hall => ⟨judgeQuiet_all q l halive (hlost hl) hlow hall, ?_, fieldSupplyLoss_lanes q, fieldSupplyLoss_mode q⟩,
    fun hml halarm hstep => congrArg Host.Outcome.next ?_, fun hml halarm hstep => ?_⟩
  · rw [judgeQuiet_alone q l halive (hlost hl) hlow, quietSection_active]
  · rw [fieldSupplyLoss_field]
  · exact (sectionAlarm_heard s l m hml halarm).trans (by rw [if_neg hstep])
  · exact ⟨s.stepEnded l, congrArg Host.Outcome.next ((sectionAlarm_heard s l m hml halarm).trans (by rw [if_pos hstep])), stepEnded_keeps s l⟩

/-! ## A lane falls silent (03 R67, R68) -/

/-- A written record accounted for: the journal, and the count of writes. -/
theorem Lane.wrote_eq (ln : Lane) (r : Record) : (∃ g k, ln.wrote r = { ln with glue := g, reg := k }) ∧
    ∀ i j, regKey i j ≠ regKey 0x3045 1 → (ln.wrote r).rget i j = ln.rget i j := by
  unfold Lane.wrote
  dsimp only
  generalize ceilDiv (ln.glue.written + r.size) journalSize = n
  exact ⟨⟨_, _, rfl⟩, fun i j h => Lane.rget_rset_other { ln with glue := _ } 0x3045 1 i j n h⟩

/-- A commit in writing abandoned: the journal, and the count of writes. -/
theorem Lane.abandon_eq (ln : Lane) (now : Nat) : (∃ g k, ln.abandon now = { ln with glue := g, reg := k }) ∧
    ∀ i j, regKey i j ≠ regKey 0x3045 1 → (ln.abandon now).rget i j = ln.rget i j := by
  unfold Lane.abandon
  split
  · exact ⟨⟨_, _, rfl⟩, fun _ _ _ => rfl⟩
  · unfold Lane.append
    dsimp only
    generalize keepRing journalSize _ = journal
    obtain ⟨⟨g, k, heq⟩, hget⟩ := Lane.wrote_eq { ln with glue := { ln.glue with journal := journal } } _
    exact ⟨⟨_, _, by rw [heq]⟩, hget⟩

/-- A lane that has fallen silent. -/
def Lane.silenced (ln : Lane) (st : LaneStatus) (now : Nat) : Lane :=
  let ln := ln.stopEngines.abandon now
  { ln with status := st, hold := true, excludedAt := some now, incomplete := false, glue := { ln.glue with deferred := false } }

theorem Lane.rget_silenced (ln : Lane) (st : LaneStatus) (now i j : Nat) (h : regKey i j ≠ regKey 0x3045 1) :
    (ln.silenced st now).rget i j = ln.rget i j := by
  exact (ln.stopEngines.abandon_eq now).2 i j h

/-- A lane with another hold of the vectors. -/
def Lane.withVecs (ln : Lane) (v : Tri VecState) : Lane := { ln with vecs := v }

/-- A vector given up changes the hub and what the lanes hold of vectors. -/
theorem loseVector_eq (s : State) (l : LaneId) : ∃ h lns, loseVector s l = { s with vote := { s.vote with hub := h }, lanes := lns } ∧
    ∀ m, ∃ v, lns.get m = (s.lane m).withVecs v := by
  unfold loseVector
  split
  · exact ⟨_, _, rfl, fun m => ⟨_, Tri.get_mapId _ _ m⟩⟩
  · exact ⟨_, _, rfl, fun m => ⟨_, rfl⟩⟩

/-- What a lane's falling silent does: to itself, to the other lanes' hold of its vector, to its section. -/
theorem silence_eq (s : State) (l : LaneId) (cause : Nat) : ∃ k f h lns,
    silence s l cause = { s with free := k, field := f, vote := { s.vote with hub := h }, lanes := lns } ∧ f.shut l ∧
    (∃ v, lns.get l = ((s.lane l).silenced (if cause = 11 ∨ cause = 16 then .barred else .held) s.time.now).withVecs v) ∧
    ∀ m, m ≠ l → ∃ v, lns.get m = (s.lane m).withVecs v := by
  have hsilence : silence s l cause = loseVector (switching
      (s.modLane l (fun ln => ln.silenced (if cause = 11 ∨ cause = 16 then .barred else .held) s.time.now))
      (fun s => { s with field := s.field.openSection l })) l := by
    unfold silence Lane.silenced
    rfl
  rw [hsilence]
  generalize (if cause = 11 ∨ cause = 16 then LaneStatus.barred else LaneStatus.held) = st
  have hshut := switching_shut (s.modLane l (fun ln => ln.silenced st s.time.now)) (fun s => { s with field := s.field.openSection l }) l
    (FieldDie.openSection_shuts _ l)
  obtain ⟨k, c, hsw⟩ := switching_eq (s.modLane l (fun ln => ln.silenced st s.time.now)) (fun s => { s with field := s.field.openSection l })
  generalize switching (s.modLane l (fun ln => ln.silenced st s.time.now)) (fun s => { s with field := s.field.openSection l }) = x at hshut hsw ⊢
  have hself : x.lane l = (s.lane l).silenced st s.time.now := by
    rw [hsw]
    exact modLane_lane_self s l (fun ln => ln.silenced st s.time.now)
  have hother : ∀ m, m ≠ l → x.lane m = s.lane m := by
    intro m hm
    rw [hsw]
    exact modLane_lane_other s l m (fun ln => ln.silenced st s.time.now) hm
  have hx : ∃ f lns, x = { s with free := k, field := f, lanes := lns } := ⟨_, _, hsw⟩
  clear hsw
  obtain ⟨h, lns, heq, hlns⟩ := loseVector_eq x l
  obtain ⟨f, lns', hx⟩ := hx
  refine ⟨k, f, h, lns, by rw [heq, hx], by rw [hx] at hshut; exact hshut, ?_, fun m hm => ?_⟩
  · rw [← hself]
    exact hlns l
  · rw [← hother m hm]
    exact hlns m

/-! ## An exclusion in 2oo3 (03 R69, R90) -/

/-- The lane with a cause entered where none stands. -/
def Lane.withCause (ln : Lane) (cause : Nat) : Lane := if ln.rget 0x3001 1 = 0 then ln.rset 0x3001 1 cause else ln

theorem enterCause_eq (s : State) (l : LaneId) (cause : Nat) :
    ∃ r j, enterCause s l cause = { s.modLane l (fun ln => ln.withCause cause) with recorder := r, jreg := j } := by
  obtain ⟨r, j, h⟩ := record_eq (s.modLane l (fun ln => ln.withCause cause)) (laneSource l) 2
    (leBytes 1 l.num ++ leBytes 1 cause ++ leBytes 4 (((s.modLane l (fun ln => ln.withCause cause)).lane l).rget 0x3101 1))
  exact ⟨r, j, h⟩

theorem Lane.withCause_status (ln : Lane) (cause : Nat) : (ln.withCause cause).status = ln.status := by
  unfold Lane.withCause
  split <;> rfl

theorem Lane.rget_withCause (ln : Lane) (cause : Nat) (h : cause ≠ 0) (h0 : ln.rget 0x3001 1 = 0) : (ln.withCause cause).rget 0x3001 1 = cause := by
  unfold Lane.withCause
  rw [if_pos h0]
  exact Lane.rget_rset_self _ _ _ _ h

theorem vget_congr {s t : State} (h : t.lanes = s.lanes) (i j : Nat) : t.vget i j = s.vget i j := by
  unfold State.vget State.lead State.actives State.active State.lane
  rw [h]

/-- An active lane excluded in 2oo3: the lane falls silent and limp begins; the other lanes, the time, the ring and the dictionary stay. -/
theorem exclude_limp (s : State) (l : LaneId) (cause : Nat) (hact : (s.lane l).status = .active) (hmode : s.mode = .run2oo3) :
    ∃ t, exclude s l cause = t ∧ t.mode = .run2oo2 ∧ (t.lane l).status = (if cause = 11 ∨ cause = 16 then .barred else .held) ∧
      (t.lane l).hold = true ∧ (t.lane l).excludedAt = some s.time.now ∧
      (cause ≠ 0 → (s.lane l).rget 0x3001 1 = 0 → (t.lane l).rget 0x3001 1 = cause) ∧ t.vote.limpNs = some (1000000000 * t.vget 0x3004 0) ∧
      (∀ m, m ≠ l → ∃ v, t.lane m = (s.lane m).withVecs v) ∧ t.field.shut l ∧ t.time = s.time ∧ t.ring = s.ring ∧ t.dict = s.dict := by
  obtain ⟨r, j, hcause⟩ := enterCause_eq s l cause
  obtain ⟨k, f, h, lns, hsil, hshut, ⟨v, hself⟩, hother⟩ := silence_eq (enterCause s l cause) l cause
  have hexcl : exclude s l cause = emcy { silence (enterCause s l cause) l cause with
      mode := .run2oo2
      vote := { (silence (enterCause s l cause) l cause).vote with
        limpNs := some (1000000000 * (silence (enterCause s l cause) l cause).vget 0x3004 0), causeAt := [(l, (silence (enterCause s l cause) l cause).time.now)] } }
      0xFF01 cause l.num := by
    unfold exclude
    dsimp only
    rw [if_pos hact, hmode]
  have htold := State.Told.emcy { silence (enterCause s l cause) l cause with
      mode := .run2oo2
      vote := { (silence (enterCause s l cause) l cause).vote with
        limpNs := some (1000000000 * (silence (enterCause s l cause) l cause).vget 0x3004 0), causeAt := [(l, (silence (enterCause s l cause) l cause).time.now)] } }
      0xFF01 cause l.num
  rw [← hexcl] at htold
  generalize exclude s l cause = t at htold ⊢
  have hlanes : t.lanes = lns := by rw [htold.lanes_eq, hsil]
  have hcl : (enterCause s l cause).lane l = (s.lane l).withCause cause := by
    rw [hcause]
    exact modLane_lane_self s l (fun ln => ln.withCause cause)
  have hnow : (enterCause s l cause).time = s.time := by rw [hcause]; rfl
  have htl : t.lane l = (((s.lane l).withCause cause).silenced (if cause = 11 ∨ cause = 16 then .barred else .held) s.time.now).withVecs v := by
    rw [← hcl, ← hnow, ← hself, ← hlanes]
    rfl
  refine ⟨t, rfl, htold.mode_eq, by rw [htl]; rfl, by rw [htl]; rfl, by rw [htl]; rfl, fun hc h0 => ?_, ?_, fun m hm => ?_, ?_, ?_, ?_, ?_⟩
  · rw [htl]
    exact (Lane.rget_silenced _ (if cause = 11 ∨ cause = 16 then .barred else .held) s.time.now 0x3001 1 (by decide)).trans (Lane.rget_withCause _ _ hc h0)
  · rw [htold.vote_eq, vget_congr (s := silence (enterCause s l cause) l cause) (t := t) htold.lanes_eq]
  · obtain ⟨w, hw⟩ := hother m hm
    refine ⟨w, ?_⟩
    have hm' : (enterCause s l cause).lane m = s.lane m := by
      rw [hcause]
      exact modLane_lane_other s l m (fun ln => ln.withCause cause) hm
    rw [← hm', ← hw, ← hlanes]
    rfl
  · rw [htold.field_eq, hsil]
    exact hshut
  · rw [htold.time_eq, hsil, hnow]
  · rw [htold.ring_eq, hsil, hcause]
    rfl
  · rw [htold.dict_eq, hsil, hcause]
    rfl

theorem enterSafe_mode (s : State) (cause : Nat) : (enterSafe s cause).mode = .safe := by
  by_cases h : s.mode = .safe
  · unfold enterSafe enterSafeWith
    rw [if_pos h, h]
  · obtain ⟨t, ht, hsafe, -⟩ := enterSafeWith_enters s cause [] h
    unfold enterSafe
    rw [ht, hsafe]

theorem exclude_safe (s : State) (l : LaneId) (cause : Nat) (hact : (s.lane l).status = .active) (hmode : s.mode = .run2oo2) :
    (exclude s l cause).mode = .safe := by
  unfold exclude
  dsimp only
  rw [if_pos hact, hmode]
  dsimp only
  split <;> exact enterSafe_mode _ _

/-! ## Engine faults (03 R64 to R66) -/

/-- The lane of an engine whose comparators report: the pair disturbed, and 3101 showing the first engine to fault. -/
def Lane.faulted (ln : Lane) (slot : Nat) (p : Pair) : Lane :=
  let ln := { ln with pairs := Store.insert ln.pairs slot p }
  if ln.rget 0x3101 1 = 0 then ln.rset 0x3101 1 (2 ^ slot) else ln

theorem Lane.faulted_keeps (ln : Lane) (slot : Nat) (p : Pair) :
    (ln.faulted slot p).status = ln.status ∧ (ln.faulted slot p).rget 0x3001 1 = ln.rget 0x3001 1 := by
  unfold Lane.faulted
  dsimp only
  split
  · exact ⟨rfl, Lane.rget_rset_other _ _ _ _ _ _ (by decide)⟩
  · exact ⟨rfl, rfl⟩

/-- A report over a crossing that is ready excludes the lane. -/
theorem report_ready (s : State) (l : LaneId) (cause r : Nat) (hr : (if cause = 10 then 1 else if cause = 12 then 3 else 0) = r)
    (h : s.ready (7 * l.num + 3) r) : report s l cause = exclude (s.evented (7 * l.num + 3) r) l cause := by
  subst hr
  exact raiseEvent_ready s _ _ _ _ h

theorem engineFault_reported (s : State) (e : EngineId) (b g : Bool) (hbg : (b || g) = true) (hpair : s.paired e = true)
    (hhold : (s.lane e.lane).hold = false) (hrun : s.inRun = true) (hready : s.ready (7 * e.lane.num + 3) 0) :
    ∃ p, engineFault s e b g = exclude ((s.modLane e.lane (fun ln => ln.faulted e.slot p)).evented (7 * e.lane.num + 3) 0) e.lane
      (if b && g then 1 else 2) := by
  refine ⟨((s.lane e.lane).pair e.slot).disturbed b g, ?_⟩
  have hfault : engineFault s e b g = report (s.modLane e.lane (fun ln => ln.faulted e.slot (((s.lane e.lane).pair e.slot).disturbed b g))) e.lane
      (if b && g then 1 else 2) := by
    unfold engineFault
    dsimp only
    rw [if_pos (by rw [hbg, hpair, hhold, hrun]; rfl)]
    unfold comparatorFault State.modLane
    dsimp only
    rw [Tri.set_set, Tri.get_set_self]
    rfl
  rw [hfault]
  exact report_ready _ _ _ 0 (by cases b && g <;> rfl) hready

theorem exclusionEntersLimp : Parts.ExclusionEntersLimp := by
  unfold Parts.ExclusionEntersLimp
  intro s e b g hbg hpair hhold hact hready
  have hcause : ∀ x : Bool, (if x then 1 else 2) ≠ 0 ∧ ¬ ((if x then 1 else 2) = 11 ∨ (if x then 1 else 2) = 16) := by decide
  have hlane : ∀ p, ((s.modLane e.lane (fun ln => ln.faulted e.slot p)).evented (7 * e.lane.num + 3) 0).lane e.lane = (s.lane e.lane).faulted e.slot p :=
    fun p => modLane_lane_self s e.lane (fun ln => ln.faulted e.slot p)
  have hstatus : ∀ p, (((s.modLane e.lane (fun ln => ln.faulted e.slot p)).evented (7 * e.lane.num + 3) 0).lane e.lane).status = .active := by
    intro p
    rw [hlane, (Lane.faulted_keeps _ _ _).1]
    exact of_decide_eq_true hact
  refine ⟨fun hmode => ?_, fun hmode => ?_⟩
  · obtain ⟨p, hfault⟩ := engineFault_reported s e b g hbg hpair hhold (by unfold State.inRun; rw [hmode]; rfl) hready
    obtain ⟨t, ht, hm, hst, hh, hat, hc, hlimp, hother, hshut, htime, hring, hdict⟩ := exclude_limp
      ((s.modLane e.lane (fun ln => ln.faulted e.slot p)).evented (7 * e.lane.num + 3) 0) e.lane (if b && g then 1 else 2) (hstatus p) hmode
    refine ⟨t, congrArg Host.Outcome.next (hfault.trans ht), hm, by rw [hst, if_neg (hcause _).2], hh, hat, fun h0 => ?_, hlimp, fun l hl => ?_,
      fun ch => (hshut ch).2, htime, hring, hdict⟩
    · exact hc (hcause _).1 (by rw [hlane, (Lane.faulted_keeps _ _ _).2]; exact h0)
    · obtain ⟨v, hv⟩ := hother l hl
      have hl' : ((s.modLane e.lane (fun ln => ln.faulted e.slot p)).evented (7 * e.lane.num + 3) 0).lane l = s.lane l :=
        modLane_lane_other s e.lane l (fun ln => ln.faulted e.slot p) hl
      rw [hv, hl']
      exact ⟨rfl, rfl, rfl⟩
  · obtain ⟨p, hfault⟩ := engineFault_reported s e b g hbg hpair hhold (by unfold State.inRun; rw [hmode]; rfl) hready
    exact ⟨_, congrArg Host.Outcome.next hfault, exclude_safe _ _ _ (hstatus p) hmode⟩

/-- Settles O31: an exclusion silences its lane and nothing else of the lanes; the entry into the safe state holds every lane and opens every
element before it tells; a quiet section is judged by the low reports. -/
theorem exclusionsLimpAndSafeState : Obligations.ExclusionsLimpAndSafeState :=
  ⟨exclusionEntersLimp, limpEndsInTheSafeState, quietSectionsExcludeTheirLane⟩

end Sys2Proof.Machine
end

section
/-! The Dovetail vote: submissions, the outcomes of the voters, the release's deadline and the outputs that follow (01 R20 to R26, 03 R82 to R87). -/

namespace Sys2Proof.Machine

open Sys2Proof

/-! ## The lanes in their order (02 R40) -/

theorem laneOrder_perm (s : State) (t : Nat) : (s.laneOrder t).Perm LaneId.all := by
  have hinsert : ∀ (ls : List LaneId) (l : LaneId), (ls.filter (fun m => decide (s.laneAt m t ≤ s.laneAt l t)) ++ [l] ++
      ls.filter (fun m => decide (s.laneAt l t < s.laneAt m t))).Perm (ls ++ [l]) := by
    intro ls l
    have hnot : ls.filter (fun m => decide (s.laneAt l t < s.laneAt m t)) = ls.filter (fun m => !decide (s.laneAt m t ≤ s.laneAt l t)) :=
      List.filter_congr fun m _ => by rw [← decide_not, decide_eq_decide, Nat.not_le]
    rw [hnot, List.append_assoc]
    refine (List.perm_append_comm.append_left _).trans ?_
    rw [← List.append_assoc]
    exact (List.filter_append_perm _ ls).append_right [l]
  have hfold : ∀ (ls acc : List LaneId), (ls.foldl (fun acc l => acc.filter (fun m => decide (s.laneAt m t ≤ s.laneAt l t)) ++ [l] ++
      acc.filter (fun m => decide (s.laneAt l t < s.laneAt m t))) acc).Perm (acc ++ ls) := by
    intro ls
    induction ls with
    | nil => exact fun acc => by rw [List.append_nil]; exact .refl acc
    | cons l ls ih =>
      intro acc
      refine (ih _).trans ?_
      rw [List.append_cons]
      exact (hinsert acc l).append_right ls
  exact hfold LaneId.all []

theorem laneId_mem_all (l : LaneId) : l ∈ LaneId.all := by
  cases l <;> decide

/-! ## Submissions (03 R82) -/

/-- A lane with another reading of its counter. -/
def Lane.retimed (ln : Lane) (x : LaneTime) : Lane := { ln with time := x }

theorem advanceTo_lane (s : State) (t : Nat) (l : LaneId) : ∃ x, (advanceTo s t).lane l = (s.lane l).retimed x := by
  cases l <;> exact ⟨_, rfl⟩

/-- What a lane does at V_k does not depend on its counter. -/
theorem Lane.atVote_retimed (ln : Lane) (x : LaneTime) (c : Container) (vK : Nat) : (ln.retimed x).atVote c vK = (ln.atVote c vK).retimed x := by
  have hfold : ∀ (fs : List Flow) (a : Lane), fs.foldl (fun ln f =>
        if f.safe then ln.rset (0x4400 + f.id) 6 ((ln.rget (0x4400 + f.id) 6 + 1) % 4294967296) else ln) (a.retimed x) =
      (fs.foldl (fun ln f => if f.safe then ln.rset (0x4400 + f.id) 6 ((ln.rget (0x4400 + f.id) 6 + 1) % 4294967296) else ln) a).retimed x := by
    intro fs
    induction fs with
    | nil => exact fun a => rfl
    | cons f fs ih =>
      intro a
      rw [List.foldl_cons, List.foldl_cons, ← ih]
      by_cases hf : f.safe = true
      · rw [if_pos hf, if_pos hf]
        rfl
      · rw [if_neg hf, if_neg hf]
  unfold Lane.atVote
  dsimp only
  rw [show (ln.retimed x).pubs = ln.pubs from rfl, hfold]
  rfl

theorem Lane.submission_retimed (ln : Lane) (x : LaneTime) (c : Container) (v2 : Bool) : (ln.retimed x).submission c v2 = ln.submission c v2 := rfl

theorem Lane.pubs_atVote (ln : Lane) (c : Container) (vK : Nat) : (ln.atVote c vK).pubs = ln.pubs := by
  have hfold : ∀ (fs : List Flow) (a : Lane), (fs.foldl (fun ln f =>
      if f.safe then ln.rset (0x4400 + f.id) 6 ((ln.rget (0x4400 + f.id) 6 + 1) % 4294967296) else ln) a).pubs = a.pubs := by
    intro fs
    induction fs with
    | nil => exact fun a => rfl
    | cons f fs ih =>
      intro a
      rw [List.foldl_cons, ih]
      split <;> rfl
  exact hfold _ _

/-- What a vote in progress is about: its lanes, its mode and its cycle. -/
def Vote.terms (v : Vote) : Bool × Mode × List LaneId × Option Nat × Nat := (v.voting, v.modeV, v.partsV, v.kV, v.cV)

/-- What a lane submits at V_k, if it runs. -/
def State.submits (s : State) (c : Container) (vK : Nat) (l : LaneId) : Option Submission :=
  if s.runs l then some (((s.lane l).atVote c vK).submission c s.v2ring) else none

/-- A vote of which the lanes `done` have had their turn since `s`; the others are as they were but for their counters. -/
def State.Polled (c : Container) (vK : Nat) (s t : State) (done : List LaneId) : Prop :=
  t.v2ring = s.v2ring ∧ t.vote.terms = s.vote.terms ∧
  (∀ l, l ∉ done → (∃ x, t.lane l = (s.lane l).retimed x) ∧ t.flows (7 * l.num)) ∧
  ∀ l ∈ done, t.vote.subs.get l = s.submits c vK l ∧ t.vote.pubsV.get l = if s.runs l then (s.lane l).pubs else []

theorem laneId_num_inj {l m : LaneId} (h : l ≠ m) : 7 * l.num ≠ 7 * m.num := by
  cases l <;> cases m <;> simp [LaneId.num] at h ⊢

theorem submits_congr {s t : State} {l : LaneId} {x : LaneTime} (hlane : t.lane l = (s.lane l).retimed x) (hring : t.v2ring = s.v2ring) (c : Container)
    (vK : Nat) : t.submits c vK l = s.submits c vK l := by
  have hruns : t.runs l = s.runs l := by
    unfold State.runs
    rw [hlane]
    rfl
  unfold State.submits
  rw [hruns, hlane, hring, Lane.atVote_retimed, Lane.submission_retimed]

theorem runs_iff (s : State) (l : LaneId) : s.runs l = true ↔ (s.lane l).status = .active ∨ (s.lane l).status = .shadow := by
  unfold State.runs
  rw [Bool.or_eq_true, decide_eq_true_iff, decide_eq_true_iff]

/-- The lane that submits, at V_k and without a submission of the cycle yet. -/
def State.atSubmit (s : State) (c : Container) (vK : Nat) (l : LaneId) : State := (s.modLane l (fun ln => ln.atVote c vK)).noSubmission l

/-- A submission over a channel that flows. -/
theorem submit_sent (c : Container) (vK : Nat) (t : State) (l : LaneId) (hrun : t.runs l = true) (hflow : t.flows (7 * l.num)) :
    submit c vK t l = (let w := (advanceTo t (t.laneAt l vK)).atSubmit c vK l
      let u := through w (7 * l.num) (entriesOf 0 c.bOut)
      takeSubmission u l ((w.lane l).submission c t.v2ring) (u.lane l).pubs) := by
  obtain ⟨y, hy⟩ := advanceTo_lane t (t.laneAt l vK) l
  unfold submit
  dsimp only
  rw [if_pos (by rw [hy]; exact (runs_iff t l).1 hrun)]
  exact carry_flows ((advanceTo t (t.laneAt l vK)).atSubmit c vK l) _ _ _ _ _ hflow

/-- One lane's turn: it alone submits, and what it submits is its own. -/
theorem submit_taken (c : Container) (vK : Nat) (t : State) (l : LaneId) (hflow : t.flows (7 * l.num)) :
    (submit c vK t l).v2ring = t.v2ring ∧ (submit c vK t l).vote.terms = t.vote.terms ∧
    (submit c vK t l).vote.subs = t.vote.subs.set l (t.submits c vK l) ∧
    (submit c vK t l).vote.pubsV = t.vote.pubsV.set l (if t.runs l then (t.lane l).pubs else []) ∧
    ∀ m, m ≠ l → (∃ x, (submit c vK t l).lane m = (t.lane m).retimed x) ∧ (t.flows (7 * m.num) → (submit c vK t l).flows (7 * m.num)) := by
  obtain ⟨y, hy⟩ := advanceTo_lane t (t.laneAt l vK) l
  by_cases hrun : t.runs l = true
  · have hself : ((advanceTo t (t.laneAt l vK)).atSubmit c vK l).lane l = ((t.lane l).atVote c vK).retimed y := by
      rw [← Lane.atVote_retimed, ← hy]
      exact modLane_lane_self (advanceTo t (t.laneAt l vK)) l (fun ln => ln.atVote c vK)
    have hother : ∀ m, m ≠ l → ∃ z, ((advanceTo t (t.laneAt l vK)).atSubmit c vK l).lane m = (t.lane m).retimed z := by
      intro m hm
      obtain ⟨z, hz⟩ := advanceTo_lane t (t.laneAt l vK) m
      exact ⟨z, (modLane_lane_other (advanceTo t (t.laneAt l vK)) l m (fun ln => ln.atVote c vK) hm).trans hz⟩
    have hx41 : 7 * l.num ≤ 41 := by cases l <;> decide
    have hcross := State.Crossed.through ((advanceTo t (t.laneAt l vK)).atSubmit c vK l) (7 * l.num) (entriesOf 0 c.bOut)
    have hlanes := through_lanes ((advanceTo t (t.laneAt l vK)).atSubmit c vK l) (7 * l.num) (entriesOf 0 c.bOut)
    have hvote := through_vote ((advanceTo t (t.laneAt l vK)).atSubmit c vK l) (7 * l.num) (entriesOf 0 c.bOut)
    have hflows : ∀ m, m ≠ l → t.flows (7 * m.num) →
        (through ((advanceTo t (t.laneAt l vK)).atSubmit c vK l) (7 * l.num) (entriesOf 0 c.bOut)).flows (7 * m.num) :=
      fun m hm h => through_flows_other hx41 (laneId_num_inj hm) h
    have hsent := submit_sent c vK t l hrun hflow
    dsimp only at hsent
    rw [hself, Lane.submission_retimed] at hsent
    have hring : (through ((advanceTo t (t.laneAt l vK)).atSubmit c vK l) (7 * l.num) (entriesOf 0 c.bOut)).v2ring = t.v2ring := by
      unfold State.v2ring
      rw [hcross.jget_other (by decide) (.inl (by decide)) hx41]
      rfl
    have hpubs : ((through ((advanceTo t (t.laneAt l vK)).atSubmit c vK l) (7 * l.num) (entriesOf 0 c.bOut)).lane l).pubs = (t.lane l).pubs := by
      unfold State.lane at hself ⊢
      rw [hlanes, hself]
      exact Lane.pubs_atVote (t.lane l) c vK
    rw [hpubs] at hsent
    generalize through ((advanceTo t (t.laneAt l vK)).atSubmit c vK l) (7 * l.num) (entriesOf 0 c.bOut) = u at hsent hlanes hvote hflows hring
    rw [hsent]
    unfold State.submits
    rw [if_pos hrun, if_pos hrun]
    refine ⟨hring, ?_, ?_, ?_, fun m hm => ⟨?_, hflows m hm⟩⟩
    · change u.vote.terms = _
      rw [hvote]
      rfl
    · exact (congrArg (fun v : Vote => v.subs.set l _) hvote).trans (Tri.set_set ..)
    · exact (congrArg (fun v : Vote => v.pubsV.set l _) hvote).trans (Tri.set_set ..)
    · obtain ⟨z, hz⟩ := hother m hm
      exact ⟨z, (congrArg (fun x : Tri Lane => x.get m) hlanes).trans hz⟩
  · have hsent : submit c vK t l = (advanceTo t (t.laneAt l vK)).noSubmission l := by
      unfold submit
      exact if_neg (by rw [hy]; exact fun h => hrun ((runs_iff t l).2 h))
    rw [hsent]
    unfold State.submits
    rw [if_neg hrun, if_neg hrun]
    exact ⟨rfl, rfl, rfl, rfl, fun m hm => ⟨advanceTo_lane t _ m, fun h => h⟩⟩

theorem submit_polls (c : Container) (vK : Nat) {s t : State} {done : List LaneId} (h : State.Polled c vK s t done) {l : LaneId} (hl : l ∉ done) :
    State.Polled c vK s (submit c vK t l) (l :: done) := by
  obtain ⟨hring, hterms, hrest, hdone⟩ := h
  obtain ⟨⟨x, hx⟩, hflow⟩ := hrest l hl
  obtain ⟨kring, kterms, ksubs, kpubs, kother⟩ := submit_taken c vK t l hflow
  have hruns : t.runs l = s.runs l := by
    unfold State.runs
    rw [hx]
    rfl
  refine ⟨kring.trans hring, kterms.trans hterms, fun m hm => ?_, fun m hm => ?_⟩
  · obtain ⟨hml, hmd⟩ := not_or.1 (fun h => hm (List.mem_cons.2 h))
    obtain ⟨⟨z, hz⟩, hkept⟩ := kother m hml
    obtain ⟨⟨w, hw⟩, hfl⟩ := hrest m hmd
    exact ⟨⟨z, by rw [hz, hw]; rfl⟩, hkept hfl⟩
  · rw [ksubs, kpubs]
    by_cases hml : m = l
    · subst hml
      rw [Tri.get_set_self, Tri.get_set_self, submits_congr hx hring, hruns, hx]
      exact ⟨rfl, rfl⟩
    · rw [Tri.get_set_other _ _ hml, Tri.get_set_other _ _ hml]
      exact hdone m ((List.mem_cons.1 hm).resolve_left hml)

theorem submits_poll (c : Container) (vK : Nat) {s : State} (ls : List LaneId) (hls : ls.Nodup) : ∀ {t : State} {done : List LaneId},
    State.Polled c vK s t done → (∀ l ∈ ls, l ∉ done) → State.Polled c vK s (ls.foldl (submit c vK) t) (ls.reverse ++ done) := by
  induction ls with
  | nil => exact fun h _ => h
  | cons l ls ih =>
    intro t done h hnew
    obtain ⟨hl, hls⟩ := List.nodup_cons.1 hls
    have hrest : ∀ m ∈ ls, m ∉ l :: done :=
      fun m hm hmem => (List.mem_cons.1 hmem).elim (fun h => hl (h ▸ hm)) (hnew m (List.mem_cons_of_mem _ hm))
    rw [List.foldl_cons, List.reverse_cons, List.append_assoc]
    exact ih hls (submit_polls c vK h (hnew l List.mem_cons_self)) hrest

/-- The vote as it opens: its lanes, its mode and its cycle. -/
def State.voteOpened (s : State) : State := { s with vote := { s.vote with
  voting := true, modeV := s.mode, partsV := s.actives, kV := s.vote.k, cV := s.vote.cK, changeV := (s.lane s.lead).afterChange } }

/-- The monitors of the exchange take what they take, and note the cycle. -/
theorem exchangeMonitors_eq (s : State) : ∃ m k, exchangeMonitors s = { s with monitors := m, vote := { s.vote with monK := k } } := by
  have hanalog : ∀ (ns : List Nat) (t : State), ∃ m, ns.foldl (fun s n =>
      monitorTake s 9 n (signedOf 16 (if n < 8 then s.vget 0x5202 (n + 1) else s.vget 0x5303 (n - 7)))) t = { t with monitors := m } := by
    intro ns
    induction ns with
    | nil => exact fun t => ⟨_, rfl⟩
    | cons n ns ih =>
      intro t
      obtain ⟨m, hm⟩ := monitorTake_eq t 9 n (signedOf 16 (if n < 8 then t.vget 0x5202 (n + 1) else t.vget 0x5303 (n - 7)))
      obtain ⟨m', hm'⟩ := ih { t with monitors := m }
      rw [List.foldl_cons, hm, hm']
      exact ⟨_, rfl⟩
  unfold exchangeMonitors
  split
  · obtain ⟨m, hm⟩ := monitorTake_eq { s with vote := { s.vote with monK := s.vote.k } } 1 0 (jget s 0x3022 0 : Int)
    obtain ⟨m', hm'⟩ := hanalog (List.range 12) { s with vote := { s.vote with monK := s.vote.k }, monitors := m }
    rw [hm]
    exact ⟨_, _, hm'⟩
  · exact ⟨_, _, rfl⟩

theorem vote_opens (s : State) (c : Container) (hc : s.config = some c) (hrun : s.inRun = true) (hk : s.vote.k.isSome = true) (hkV : s.vote.kV ≠ s.vote.k)
    (hearly : s.firedEarly .vote = false) (hbad : s.badAt 4 (s.vote.cK + c.vOff) = false) :
    vote s = (((exchangeMonitors s).voteOpened).laneOrder (s.vote.cK + c.vOff)).foldl (submit c (s.vote.cK + c.vOff))
      (exchangeMonitors s).voteOpened := by
  unfold vote
  rw [once_first s _ _ hearly]
  unfold voteDue
  rw [hc]
  dsimp only
  rw [if_pos (by rw [hrun, hk, decide_eq_true hkV]; rfl), hbad, if_neg Bool.false_ne_true]
  rfl

theorem vote_polls (s : State) (c : Container) (hc : s.config = some c) (hrun : s.inRun = true) (hk : s.vote.k.isSome = true) (hkV : s.vote.kV ≠ s.vote.k)
    (hearly : s.firedEarly .vote = false) (hbad : s.badAt 4 (s.vote.cK + c.vOff) = false) (hflow : ∀ l : LaneId, s.flows (7 * l.num)) :
    ∃ t, vote s = t ∧ t.vote.voting = true ∧ t.vote.modeV = s.mode ∧ t.vote.partsV = s.actives ∧ t.vote.kV = s.vote.k ∧ t.vote.cV = s.vote.cK ∧
      ∀ l, t.vote.subs.get l = s.submits c (s.vote.cK + c.vOff) l ∧ t.vote.pubsV.get l = if s.runs l then (s.lane l).pubs else [] := by
  rw [vote_opens s c hc hrun hk hkV hearly hbad]
  obtain ⟨m, k, hmon⟩ := exchangeMonitors_eq s
  have hstart : State.Polled c (s.vote.cK + c.vOff) (exchangeMonitors s).voteOpened (exchangeMonitors s).voteOpened [] :=
    ⟨rfl, rfl, fun l _ => ⟨⟨_, rfl⟩, by rw [hmon]; exact hflow l⟩, fun l h => nomatch h⟩
  have hperm := laneOrder_perm (exchangeMonitors s).voteOpened (s.vote.cK + c.vOff)
  obtain ⟨-, hterms, -, hdone⟩ := submits_poll c _ _ (hperm.nodup_iff.2 (by decide)) hstart (fun _ _ h => nomatch h)
  generalize (((exchangeMonitors s).voteOpened).laneOrder (s.vote.cK + c.vOff)).foldl (submit c (s.vote.cK + c.vOff))
      (exchangeMonitors s).voteOpened = t at hterms hdone ⊢
  have hopened : (exchangeMonitors s).voteOpened.vote.terms = (true, s.mode, s.actives, s.vote.k, s.vote.cK) := by
    rw [hmon]
    rfl
  rw [hopened] at hterms
  refine ⟨t, rfl, congrArg (fun v => v.1) hterms, congrArg (fun v => v.2.1) hterms, congrArg (fun v => v.2.2.1) hterms,
    congrArg (fun v => v.2.2.2.1) hterms, congrArg (fun v => v.2.2.2.2) hterms, fun l => ?_⟩
  have hl := hdone l (by rw [List.append_nil, List.mem_reverse]; exact hperm.mem_iff.2 (laneId_mem_all l))
  rw [hmon] at hl
  exact hl

/-! ## The outcomes (03 R85, Table 03-6) -/

section Outcome

variable {s : State} {c : Container} {k : Nat}

/-- The verdict of the voters on what the active lanes submitted. -/
def State.verdicts (s : State) (c : Container) : Verdicts := judge c.bOut s.vote.partsV (fun l => if s.active l then s.vote.subs.get l else none)

/-- The device at the end of the vote, every lane in Db counted. -/
def State.counted (s : State) (c : Container) : State :=
  (s.verdicts c).db.foldl (fun t l => t.modLane l (fun ln => ln.rbump 0x3030 1))
    { advanceTo s (s.vote.cV + c.vOff + tVote c) with vote := { (advanceTo s (s.vote.cV + c.vOff + tVote c)).vote with voting := false } }

/-- The release of the vote's data, with the latency shown and the shadow judged. -/
def State.releasing (s : State) (c : Container) (k : Nat) : State :=
  let out := release (s.counted c) c k (s.verdicts c)
  judgeShadow (monitorTake (jset out 0x3030 4 (out.time.now - (s.vote.cV + c.vOff))) 3 0
    ((out.time.now - (s.vote.cV + c.vOff) : Nat) : Int)) (s.verdicts c)

theorem counted_modeV : (s.counted c).vote.modeV = s.vote.modeV := by
  have hfold : ∀ (ls : List LaneId) (t : State), (ls.foldl (fun t l => t.modLane l (fun ln => ln.rbump 0x3030 1)) t).vote = t.vote := by
    intro ls
    induction ls with
    | nil => exact fun t => rfl
    | cons l ls ih => exact fun t => ih _
  unfold State.counted
  rw [hfold]
  rfl

/-- The vote at its end, with the verdict `v`. -/
def State.decided (x : State) (c : Container) (k vK : Nat) (defect : Bool) (v : Verdicts) : State :=
  let s := v.db.foldl (fun s l => s.modLane l (fun ln => ln.rbump 0x3030 1)) x
  if defect || !v.agree then enterSafe s 4
  else if v.db.isEmpty ∨ (s.vote.modeV = .run2oo3 ∧ v.db.length = 1) then
    let s := release s c k v
    let lat := s.time.now - vK
    let s := monitorTake (jset s 0x3030 4 lat) 3 0 (lat : Int)
    let s := judgeShadow s v
    v.db.foldl (fun s l => if s.active l then exclude s l (minorityCause (s.vote.subs.get l)) else s) s
  else if s.vote.modeV = .run2oo3 then enterSafe s 3
  else enterSafe s 1

theorem verdicts_advanced (s : State) (t : Nat) (c : Container) :
    judge c.bOut s.vote.partsV (fun l => if ({ advanceTo s t with vote := { (advanceTo s t).vote with voting := false } } : State).active l then
      s.vote.subs.get l else none) = s.verdicts c := by
  have hact : ∀ l, ({ advanceTo s t with vote := { (advanceTo s t).vote with voting := false } } : State).active l = s.active l :=
    fun l => by cases l <;> rfl
  unfold State.verdicts
  simp only [hact]

variable (hc : s.config = some c) (hrun : s.inRun = true) (hkV : s.vote.kV = some k) (hvoting : s.vote.voting = true)
  (hpower : bitOf s.power.domains 7 = true) (hclock : s.domainRuns 3 = true)

include hc hrun hkV hvoting hpower hclock

theorem dovetailVote_eq (d : Bool) : dovetailVote s d =
    if d || !(s.verdicts c).agree then enterSafe (s.counted c) 4
    else if (s.verdicts c).db.isEmpty ∨ (s.vote.modeV = .run2oo3 ∧ (s.verdicts c).db.length = 1) then
      (s.verdicts c).db.foldl (fun t l => if t.active l then exclude t l (minorityCause (t.vote.subs.get l)) else t) (s.releasing c k)
    else if s.vote.modeV = .run2oo3 then enterSafe (s.counted c) 3 else enterSafe (s.counted c) 1 := by
  have hdecided : dovetailVote s d = State.decided { advanceTo s (s.vote.cV + c.vOff + tVote c) with
      vote := { (advanceTo s (s.vote.cV + c.vOff + tVote c)).vote with voting := false } } c k (s.vote.cV + c.vOff) d (s.verdicts c) := by
    rw [← verdicts_advanced s (s.vote.cV + c.vOff + tVote c)]
    unfold dovetailVote
    rw [hc, hkV]
    exact if_pos (by rw [hrun, hvoting, hpower, hclock]; rfl)
  rw [hdecided, ← counted_modeV (c := c)]
  rfl

end Outcome

theorem voteOutcomes : Parts.VoteOutcomes := by
  intro s c hc hrun
  refine ⟨fun hk hkV hearly hbad hflow => ?_, fun k d hkV hvoting hpower hclock => ?_, fun hk => ?_⟩
  · obtain ⟨t, ht, hrest⟩ := vote_polls s c hc hrun hk hkV hearly hbad hflow
    exact ⟨t, congrArg Host.Outcome.next ht, hrest⟩
  · have heq := dovetailVote_eq hc hrun hkV hvoting hpower hclock
    refine ⟨fun h => congrArg Host.Outcome.next ((heq d).trans (if_pos h)), fun hagree hlen hmode => congrArg Host.Outcome.next ((heq false).trans ?_),
      fun hagree hne hmode => congrArg Host.Outcome.next ((heq false).trans ?_), fun hagree hdb => congrArg Host.Outcome.next ((heq false).trans ?_)⟩
    · change 2 ≤ (s.verdicts c).db.length at hlen
      have hempty : (s.verdicts c).db.isEmpty = false := by cases h : (s.verdicts c).db <;> simp [h] at hlen ⊢
      rw [if_neg (by rw [show (s.verdicts c).agree = true from hagree]; decide),
        if_neg (fun h => h.elim (by rw [hempty]; exact Bool.false_ne_true) (fun h => by omega)), if_pos hmode]
      rfl
    · have hempty : (s.verdicts c).db.isEmpty = false := by
        cases h : (s.verdicts c).db with
        | nil => exact absurd h hne
        | cons x xs => rfl
      have hmode3 : s.vote.modeV ≠ .run2oo3 := by rw [hmode]; decide
      rw [if_neg (by rw [show (s.verdicts c).agree = true from hagree]; decide),
        if_neg (fun h => h.elim (by rw [hempty]; exact Bool.false_ne_true) (fun h => hmode3 h.1)), if_neg hmode3]
      rfl
    · have hone : (s.verdicts c).db.isEmpty = true ∨ s.vote.modeV = .run2oo3 ∧ (s.verdicts c).db.length = 1 := by
        obtain hnil | ⟨⟨l, hl⟩, hmode⟩ := hdb
        · exact .inl (List.isEmpty_iff.2 hnil)
        · exact .inr ⟨hmode, congrArg List.length hl⟩
      rw [if_neg (by rw [show (s.verdicts c).agree = true from hagree]; decide), if_pos hone]
      rfl
  · have hreleased : (advanceTo s s.applyNext.1).released s.applyNext.2 = true ↔
        s.vote.relK = some s.applyNext.2 ∨ (s.vote.relK = none ∧ s.vote.agreedLast = none ∧ s.vote.k ≠ some s.applyNext.2) := by
      change s.released _ = true ↔ _
      unfold State.released
      simp only [Bool.or_eq_true, Bool.and_eq_true, decide_eq_true_eq, Option.isNone_iff_eq_none, and_assoc]
    refine congrArg Host.Outcome.next (?_ : releaseDeadline s = _)
    unfold releaseDeadline
    rw [if_pos (by rw [hrun, hk]; rfl)]
    exact if_congr hreleased rfl rfl

/-! ## The outputs follow the release (01 R21, R23, 07 R199) -/

theorem voteBefore_taken (s : State) (c : Container) (t : Nat) (hc : s.config = some c) (h : s.vote.cK + c.vOff ≠ t ∨ s.vote.kV = s.vote.k) :
    voteBefore s t = s := by
  unfold voteBefore
  rw [hc]
  refine if_neg fun hdue => ?_
  simp only [Bool.and_eq_true, decide_eq_true_eq] at hdue
  obtain ⟨⟨-, ht⟩, hk⟩ := hdue
  exact h.elim (fun h => h ht) hk

theorem cycleBefore_later (s : State) (c : Container) (t : Nat) (hc : s.config = some c) (h : ¬(s.vote.cK < t ∧ nextC s c = t)) : cycleBefore s t = s := by
  unfold cycleBefore
  rw [hc]
  refine if_neg fun hdue => h ?_
  simp only [Bool.and_eq_true, decide_eq_true_eq] at hdue
  exact ⟨hdue.1.2, hdue.2⟩

/-- The device with an output apply noted. -/
def State.atApply (s : State) (t : Nat) : State := { s with vote := { s.vote with oAt := t } }

/-- The outputs at O_k once the image is released: samples, locks, sections, tests and pulses. -/
def State.appliesImages (c : Container) (o : Nat × Nat) (s : State) : State :=
  let s := (s.laneOrder o.1).foldl (sampleBefore o.1) s
  let s := switching s (fun s => if s.field.operating then (List.range 16).foldl lockChan s else s)
  let s := (s.laneOrder o.1).foldl (applyAt c o.1) s
  if s.field.operating then
    let s := planTests s c o.2
    (List.range 16).foldl (fun s ch => planPulse s c o.2 ch) s
  else s

/-- The output apply at its instant, `ok` saying whether the release has happened. -/
def State.appliesAt (c : Container) (o : Nat × Nat) (ok : Bool) (s : State) : State :=
  if !ok then enterSafe s 6 else if s.inRun && decide (s.vote.relK = some o.2) then s.appliesImages c o else s

theorem outputApply_eq (s : State) (c : Container) (hc : s.config = some c) (hrun : s.inRun = true) (hk : s.vote.k.isSome = true)
    (hbad : s.badAt 5 s.applyNext.1 = false) : outputApply s = State.appliesAt c s.applyNext (s.released s.applyNext.2)
      ((voteBefore (cycleBefore (advanceTo s s.applyNext.1) s.applyNext.1) s.applyNext.1).atApply s.applyNext.1) := by
  have hguard : (s.inRun && decide (s.vote.k.isSome = true)) = true := by rw [hrun, hk]; rfl
  have hbad' : ¬ (advanceTo s s.applyNext.1).badAt 5 s.applyNext.1 = true := by
    rw [show (advanceTo s s.applyNext.1).badAt 5 s.applyNext.1 = false from hbad]
    exact Bool.false_ne_true
  rw [show s.released s.applyNext.2 = (advanceTo s s.applyNext.1).released s.applyNext.2 from rfl]
  unfold outputApply State.appliesAt State.appliesImages State.atApply
  rw [hc]
  dsimp only
  rw [if_pos hguard, if_neg hbad']

theorem outputsFollowTheRelease : Parts.OutputsFollowTheRelease := by
  intro s c hc hrun hk o at_ hbad hvote hcycle
  have heq := outputApply_eq s c hc hrun hk hbad
  rw [cycleBefore_later (advanceTo s s.applyNext.1) c s.applyNext.1 hc hcycle,
    voteBefore_taken (advanceTo s s.applyNext.1) c s.applyNext.1 hc hvote] at heq
  refine ⟨fun hrel hop => ?_, fun hrel => ?_⟩
  · have hreleased : s.released s.applyNext.2 = true := by
      unfold State.released
      rw [decide_eq_true (show s.vote.relK = some s.applyNext.2 from hrel)]
      rfl
    have happlies : (((advanceTo s s.applyNext.1).atApply s.applyNext.1).inRun &&
        decide (((advanceTo s s.applyNext.1).atApply s.applyNext.1).vote.relK = some s.applyNext.2)) = true := by
      rw [show ((advanceTo s s.applyNext.1).atApply s.applyNext.1).inRun = true from hrun,
        decide_eq_true (show ((advanceTo s s.applyNext.1).atApply s.applyNext.1).vote.relK = some s.applyNext.2 from hrel)]
      rfl
    unfold State.appliesAt at heq
    rw [hreleased, if_neg (by decide), if_pos happlies] at heq
    refine congrArg Host.Outcome.next (heq.trans ?_)
    unfold State.appliesImages State.atApply
    dsimp only [at_, o]
  · unfold State.appliesAt at heq
    rw [show s.released s.applyNext.2 = false from hrel, if_pos (by decide)] at heq
    exact congrArg Host.Outcome.next heq

/-! ## One section takes the released image (07 R199, R213) -/

/-- A channel as section `l` takes its command; without a command of any section an off pulse ends. -/
def DoChan.taken (c : DoChan) (l : LaneId) (cmd : Bool) : DoChan :=
  let x := { applyChan c l cmd with mute := c.limited }
  if LaneId.all.any (fun m => (x.sec.get m).cmd) then x else { x with pulse := none }

theorem applyChan_cmd_self (c : DoChan) (l : LaneId) (cmd : Bool) : ((applyChan c l cmd).sec.get l).cmd = cmd := by
  unfold applyChan
  dsimp only
  cases cmd with
  | false => rw [if_neg Bool.false_ne_true, sec_modSec_self]
  | true =>
    rw [if_pos rfl]
    unfold DoChan.turnOn
    rw [sec_modSec_self]
    split
    · rfl
    · split <;> rfl

theorem applyChan_sec_other (c : DoChan) (l : LaneId) (cmd : Bool) {m : LaneId} (h : m ≠ l) : (applyChan c l cmd).sec.get m = c.sec.get m := by
  unfold applyChan
  dsimp only
  split
  · exact sec_modSec_other _ _ h
  · exact sec_modSec_other _ _ h

theorem DoChan.taken_sec (c : DoChan) (l : LaneId) (cmd : Bool) : (c.taken l cmd).sec = (applyChan c l cmd).sec := by
  unfold DoChan.taken
  dsimp only
  split <;> rfl

theorem DoChan.taken_pulse (c : DoChan) (l : LaneId) (cmd : Bool) (h : ∀ m, ((c.taken l cmd).sec.get m).cmd = false) : (c.taken l cmd).pulse = none := by
  rw [DoChan.taken_sec] at h
  unfold DoChan.taken
  dsimp only
  rw [if_neg]
  intro hany
  obtain ⟨m, -, hm⟩ := List.any_eq_true.1 hany
  exact Bool.false_ne_true ((h m).symm.trans hm)

/-- One channel's turn with section `l`. -/
def State.takesImage (cfg : Container) (l : LaneId) (s : State) (ch : Nat) : State :=
  let s := s.modChan ch (fun c => { applyChan c l (imageCmd cfg (s.lane l).released ch) with mute := c.limited })
  if LaneId.all.any (fun m => ((s.chan ch).sec.get m).cmd) then s else s.modChan ch (fun c => { c with pulse := none })

theorem takesImage_lanes (cfg : Container) (l : LaneId) (s : State) (n : Nat) : (s.takesImage cfg l n).lanes = s.lanes := by
  unfold State.takesImage
  dsimp only
  split <;> rfl

theorem takesImage_chan_self (cfg : Container) (l : LaneId) (s : State) (n : Nat) :
    (s.takesImage cfg l n).chan n = (s.chan n).taken l (imageCmd cfg (s.lane l).released n) := by
  unfold State.takesImage DoChan.taken
  dsimp only
  rw [chan_modChan_self]
  split
  · exact chan_modChan_self ..
  · rw [chan_modChan_self, chan_modChan_self]

theorem takesImage_chan_other (cfg : Container) (l : LaneId) (s : State) {n x : Nat} (h : x ≠ n) : (s.takesImage cfg l n).chan x = s.chan x := by
  unfold State.takesImage
  dsimp only
  split
  · exact chan_modChan_other _ _ h
  · rw [chan_modChan_other _ _ h, chan_modChan_other _ _ h]

/-- Over all channels each has its own turn once. -/
theorem takesImage_each (cfg : Container) (l : LaneId) (x : Nat) (ns : List Nat) : ∀ s : State, ns.Nodup →
    (ns.foldl (State.takesImage cfg l) s).chan x =
      if x ∈ ns then (s.chan x).taken l (imageCmd cfg (s.lane l).released x) else s.chan x := by
  induction ns with
  | nil => exact fun s _ => rfl
  | cons n ns ih =>
    intro s hns
    obtain ⟨hn, hns⟩ := List.nodup_cons.1 hns
    have hlane : (s.takesImage cfg l n).lane l = s.lane l := congrArg (fun t : Tri Lane => t.get l) (takesImage_lanes cfg l s n)
    rw [List.foldl_cons, ih _ hns, hlane]
    by_cases hx : x = n
    · subst hx
      rw [if_neg hn, if_pos List.mem_cons_self, takesImage_chan_self]
    · rw [takesImage_chan_other cfg l s hx]
      exact if_congr (by rw [List.mem_cons, or_iff_right hx]) rfl rfl

theorem applyOutputs_chan (cfg : Container) (s : State) (l : LaneId) {ch : Nat} (h : ch < 16) :
    (applyOutputs cfg s l).chan ch = (s.chan ch).taken l (imageCmd cfg (s.lane l).released ch) :=
  (takesImage_each cfg l ch (List.range 16) s List.nodup_range).trans (if_pos (List.mem_range.2 h))

theorem sectionsTakeTheReleasedImage : Parts.SectionsTakeTheReleasedImage := by
  intro s c l
  refine ⟨fun hact halive hop hflow ch hch => ?_, fun h => ?_⟩
  · have happly : applyLane c s l = applyOutputs c (through s (7 * l.num + 4) 1) l := by
      unfold applyLane
      rw [if_pos (by rw [hact, halive]; rfl), toField_flows s l _ _ hop hflow]
    have hchan : (applyLane c s l).chan ch = (s.chan ch).taken l (imageCmd c (s.lane l).released ch) := by
      rw [happly, applyOutputs_chan c _ l hch]
      unfold State.chan State.lane
      rw [through_field, through_lanes]
    rw [hchan]
    refine ⟨?_, DoChan.taken_pulse _ _ _, fun m hm => ?_⟩
    · rw [DoChan.taken_sec, applyChan_cmd_self]
    · rw [DoChan.taken_sec, applyChan_sec_other _ _ _ hm]
  · unfold applyLane
    refine if_neg fun hboth => ?_
    rw [Bool.and_eq_true] at hboth
    obtain ⟨hact, halive⟩ := hboth
    exact h.elim (fun h => Bool.false_ne_true (h.symm.trans hact)) (fun h => Bool.false_ne_true (h.symm.trans halive))

/-- Settles O30: the vote polls each lane in its turn, the outcomes are the branches of the voters, and every channel takes its command once. -/
theorem votesReleaseTheOutputs : Obligations.VotesReleaseTheOutputs :=
  ⟨voteOutcomes, outputsFollowTheRelease, sectionsTakeTheReleasedImage⟩

end Sys2Proof.Machine
end

section
/-! Samples and conversions (01 R14, R15, 08 R220 to R224). -/

namespace Sys2Proof.Machine

open Sys2Proof

/-! ## Sections and lanes -/

@[simp] theorem State.sec_modSec_self (s : State) (l : LaneId) (f : Section → Section) : (s.modSec l f).sec l = f (s.sec l) :=
  Tri.get_set_self ..

theorem State.sec_modSec_other (s : State) {l m : LaneId} (f : Section → Section) (h : m ≠ l) : (s.modSec l f).sec m = s.sec m :=
  Tri.get_set_other _ _ h

/-- What a lane shows of its codes is in its registers. -/
theorem showCodes_eq (s : State) (l : LaneId) : ∃ r, showCodes s l = s.modLane l (fun ln => { ln with reg := r }) := by
  have hfold : ∀ (ns : List Nat) (ln : Lane), ∃ r, ns.foldl (fun ln n => ln.rset 0x5204 (n + 1) (sampleOf s l (.ai n))) ln = { ln with reg := r } := by
    intro ns
    induction ns with
    | nil => exact fun ln => ⟨_, rfl⟩
    | cons n ns ih =>
      intro ln
      obtain ⟨r, hr⟩ := ih (ln.rset 0x5204 (n + 1) (sampleOf s l (.ai n)))
      exact ⟨r, hr⟩
  obtain ⟨r, hr⟩ := hfold (List.range 8) (s.lane l)
  unfold State.lane at hr
  unfold showCodes State.modLane
  dsimp only
  rw [hr]
  exact ⟨_, rfl⟩

/-- Results entered later change the lane's sampled vector alone. -/
theorem refreshSample_eq (s : State) (l : LaneId) (hits : FieldSrc → Bool) :
    ∃ b, refreshSample s l hits = s.modLane l (fun ln => { ln with sampled := b }) := by
  have hsame : s = s.modLane l (fun ln => { ln with sampled := (s.lane l).sampled }) := by
    cases l <;> rfl
  unfold refreshSample
  split
  · exact ⟨_, hsame⟩
  · dsimp only
    unfold State.modLane
    dsimp only
    split
    · exact ⟨_, rfl⟩
    · exact ⟨(s.lane l).sampled, by cases l <;> rfl⟩

/-- Codes that come nearest, within their range (08 R220). -/
theorem satCode_nearest (num : Int) : Parts.nearestCode (satCode (roundAway num 625)) num := by
  unfold Parts.nearestCode satCode roundAway clampInt
  dsimp only
  rw [show Nat.max 1 625 = 625 from rfl]
  split <;> omega

theorem codesRoundAndSaturate : Parts.CodesRoundAndSaturate := fun v =>
  ⟨rfl, satCode_nearest (2 * v), satCode_nearest (2 * v), satCode_nearest v, satCode_nearest v⟩

/-! ## Samples (01 R14) -/

/-- Monitors of the output currents change the monitors and the draws alone. -/
theorem currentMonitors_eq (l : LaneId) (ns : List Nat) : ∀ s : State, ∃ m k,
    ns.foldl (fun s ch => currentMonitor s (ch + 16 * l.num)) s = { s with monitors := m, free := k } := by
  induction ns with
  | nil => exact fun s => ⟨_, _, rfl⟩
  | cons n ns ih =>
    intro s
    have hone : ∃ m k, currentMonitor s (n + 16 * l.num) = { s with monitors := m, free := k } := by
      unfold currentMonitor
      split
      · obtain ⟨m, hm⟩ := monitorTake_eq s.drew 8 (n + 16 * l.num) ((s.freeVal % 1401 : Nat) : Int)
        exact ⟨m, s.free + 1, hm⟩
      · exact ⟨_, _, rfl⟩
    obtain ⟨m, k, hm⟩ := hone
    obtain ⟨m', k', hm'⟩ := ih { s with monitors := m, free := k }
    exact ⟨m', k', by rw [List.foldl_cons, hm, hm']⟩

/-- The state in which a lane's sample is taken, before its section hears of it. -/
def State.sampling (s : State) (l : LaneId) : State :=
  (advanceTo s (s.laneAt l (s.sampleAt l))).modLane l (fun ln => { ln with sampledAt := some (s.sampleAt l) })

/-- The event bits of a lane's sections begun anew. -/
def State.eventsBegun (s : State) (l : LaneId) : State :=
  { s with field := { s.field with chan := s.field.chan.map (fun p => (p.1, p.2.modSec l (fun x => { x with events := 0 }))) } }

theorem latchSection_operating (s : State) (l : LaneId) (h : s.field.operating = true) : latchSection s l = s.modSec l (fun x => { x with
    di := x.di.map (fun p => (p.1, { p.2 with shown := s.laneCount l p.1 }))
    converting := s.tiedStarts l ++ x.converting.filter (fun n => decide (n ≥ 2000)) }) := by
  unfold latchSection
  rw [h]
  rfl

theorem sampleDue_taken (s : State) (l : LaneId) (c : Container) (hc : s.config = some c) (hruns : s.runs l = true) (halive : (s.sec l).alive = true)
    (hop : s.field.operating = true) (hbad : s.badAt 2 (s.sampleAt l) = false) (hin : s.flows (7 * l.num + 4)) (hout : s.flows (7 * l.num + 5)) :
    sampleDue s l = (let begun := latchSection (through (s.sampling l) (7 * l.num + 4) 1) l
      (List.range 16).foldl (fun s ch => currentMonitor s (ch + 16 * l.num))
        ((takeSampled (through begun (7 * l.num + 5) (entriesOf 5 (sampleBytes begun l c).length)) l (sampleBytes begun l c)).eventsBegun l)) := by
  have hquiet : judgeQuiet (s.sampling l) l = s.sampling l := if_pos halive
  have hsent : toField (s.sampling l) l .sample (fun s => latchSection s l) = latchSection (through (s.sampling l) (7 * l.num + 4) 1) l :=
    toField_flows (s.sampling l) l .sample _ hop hin
  have hopen : (latchSection (through (s.sampling l) (7 * l.num + 4) 1) l).field.operating = true := by
    change (through (s.sampling l) (7 * l.num + 4) 1).field.operating = true
    rw [through_field]
    exact hop
  have hflow : (latchSection (through (s.sampling l) (7 * l.num + 4) 1) l).flows (7 * l.num + 5) :=
    through_flows_other (s := s.sampling l) (by cases l <;> decide) (by omega) hout
  unfold sampleDue
  rw [hc]
  dsimp only
  rw [if_pos hruns, hbad, if_neg Bool.false_ne_true]
  unfold State.sampling at hquiet hsent hopen hflow ⊢
  rw [hquiet, hsent]
  generalize latchSection _ l = begun at hopen hflow ⊢
  rw [fromField_flows begun l _ _ _ hopen hflow]
  rfl

theorem sampleLatchesEveryField : Parts.SampleLatchesEveryField := by
  intro s l c hc hruns halive hop hearly hbad hin hout at_ asked begun
  have hfieldOp : asked.field.operating = true := by
    change (through at_ (7 * l.num + 4) 1).field.operating = true
    rw [through_field]
    exact hop
  have hsample : sample s l = sampleDue s l := once_first s _ _ hearly
  rw [sampleDue_taken s l c hc hruns halive hop hbad hin hout] at hsample
  dsimp only at hsample
  rw [show latchSection (through (s.sampling l) (7 * l.num + 4) 1) l = begun from latchSection_operating asked l hfieldOp] at hsample
  obtain ⟨m, k, hmon⟩ := currentMonitors_eq l (List.range 16)
    ((takeSampled (through begun (7 * l.num + 5) (entriesOf 5 (sampleBytes begun l c).length)) l (sampleBytes begun l c)).eventsBegun l)
  rw [hmon] at hsample
  obtain ⟨r, hshow⟩ := showCodes_eq ((through begun (7 * l.num + 5) (entriesOf 5 (sampleBytes begun l c).length)).modLane l
    (fun ln => { ln with sampled := sampleBytes begun l c })) l
  unfold takeSampled at hsample
  rw [hshow] at hsample
  have hlanes : (through begun (7 * l.num + 5) (entriesOf 5 (sampleBytes begun l c).length)).lanes = at_.lanes :=
    (through_lanes ..).trans (through_lanes at_ ..)
  have htime : (through begun (7 * l.num + 5) (entriesOf 5 (sampleBytes begun l c).length)).time = at_.time :=
    (through_time ..).trans (through_time at_ ..)
  have hmode : (through begun (7 * l.num + 5) (entriesOf 5 (sampleBytes begun l c).length)).mode = s.mode :=
    (through_mode ..).trans (through_mode at_ ..)
  have hfield : (through begun (7 * l.num + 5) (entriesOf 5 (sampleBytes begun l c).length)).field = begun.field := through_field ..
  have hsecs : ∀ m, m ≠ l → begun.sec m = s.sec m := fun m hm => by
    refine (State.sec_modSec_other asked _ hm).trans ?_
    exact congrArg (fun f : FieldDie => f.sec.get m) (through_field at_ ..)
  generalize hbytes : sampleBytes begun l c = bytes at *
  generalize through begun (7 * l.num + 5) (entriesOf 5 bytes.length) = u at hsample hlanes htime hmode hfield
  refine ⟨_, congrArg Host.Outcome.next hsample, ?_, ?_, ?_, htime, hmode, ?_, fun m hm => ⟨?_, ?_⟩⟩
  · exact congrArg Lane.sampled ((modLane_lane_self _ l (fun ln => { ln with reg := r })).trans
      (congrArg (fun ln : Lane => { ln with reg := r }) (modLane_lane_self u l (fun ln => { ln with sampled := bytes }))))
  · refine (congrArg Lane.sampledAt ((modLane_lane_self _ l (fun ln => { ln with reg := r })).trans
      (congrArg (fun ln : Lane => { ln with reg := r }) (modLane_lane_self u l (fun ln => { ln with sampled := bytes }))))).trans ?_
    have hself := modLane_lane_self (advanceTo s (s.laneAt l (s.sampleAt l))) l (fun ln => { ln with sampledAt := some (s.sampleAt l) })
    exact congrArg Lane.sampledAt ((congrArg (fun x : Tri Lane => x.get l) hlanes).trans hself)
  · exact (congrArg (fun f : FieldDie => (f.sec.get l).converting) hfield : (u.field.sec.get l).converting = (begun.field.sec.get l).converting)
  · intro p hp
    obtain ⟨q, -, rfl⟩ := List.mem_map.1 hp
    exact congrArg DoSection.events (sec_modSec_self ..)
  · obtain ⟨x, hx⟩ := advanceTo_lane s (s.laneAt l (s.sampleAt l)) m
    have hother := modLane_lane_other (advanceTo s (s.laneAt l (s.sampleAt l))) l m (fun ln => { ln with sampledAt := some (s.sampleAt l) }) hm
    refine (congrArg Lane.sampled ((modLane_lane_other _ l m (fun ln => { ln with reg := r }) hm).trans
      (modLane_lane_other u l m (fun ln => { ln with sampled := bytes }) hm))).trans ?_
    refine (congrArg (fun x : Tri Lane => (x.get m).sampled) hlanes).trans ?_
    exact (congrArg Lane.sampled hother).trans (congrArg Lane.sampled hx :)
  · exact congrArg Section.converting ((congrArg (fun f : FieldDie => f.sec.get m) hfield).trans (hsecs m hm))

/-! ## Conversions (08 R220 to R224) -/

section Conversions

variable {s : State} {l : LaneId}

theorem converts_operating (h : s.converts l = true) : s.field.operating = true := by
  unfold State.converts at h
  simp only [Bool.and_eq_true] at h
  exact h.1.1

/-- A converter-start entry with a good check value asks its section for the conversion. -/
theorem converterStart_marks (hconv : s.converts l = true) (hflow : s.flows (7 * l.num + 4)) {i : Nat} {e : CutEntry} (hcut : s.cut i = some e)
    (hact : CutEntry.act e = 3) (hcheck : e.w3 = cutCheck e i) (hearly : s.firedEarly (.conv l i) = false)
    (hused : 8 ≤ CutEntry.tgt e ∨ s.aiMode l (CutEntry.tgt e) ≠ 0) : converterStart s l i =
      (through ((advanceTo s (s.laneAt l (s.laneFiring l i e))).modLane l (fun ln => { ln with fired := Store.insert ln.fired i (s.laneFiring l i e) }))
        (7 * l.num + 4) 1).modSec l (fun x => { x with converting := addAsc (2000 + i) x.converting }) := by
  have hmode : ((advanceTo s (s.laneAt l (s.laneFiring l i e))).modLane l
      (fun ln => { ln with fired := Store.insert ln.fired i (s.laneFiring l i e) })).aiMode l (CutEntry.tgt e) = s.aiMode l (CutEntry.tgt e) := by
    cases l <;> rfl
  have hunused : ¬(CutEntry.tgt e < 8 ∧ s.aiMode l (CutEntry.tgt e) = 0) := fun ⟨h8, h0⟩ => hused.elim (fun h => absurd h8 (Nat.not_lt.2 h)) (fun h => h h0)
  have hop := converts_operating hconv
  unfold converterStart
  rw [once_first s _ _ hearly]
  unfold converterDue atLaneEntry
  rw [if_pos hconv, hcut]
  dsimp only
  rw [if_neg (fun h => h hact), if_neg (fun h => h hcheck), hmode, if_neg hunused]
  exact toField_flows _ l _ _ hop hflow

/-- A conversion tied to the sample trigger. -/
theorem conversionResult_sample (hconv : s.converts l = true) (hflow : s.flows (7 * l.num + 5)) (n : Nat) (v : Int)
    (hmark : (s.sec l).converting.contains (1000 + n) = true) :
    conversionResult s l n none v = takeInput (through (s.modSec l (fun x => { x with
      ai := Store.put x.ai 0 n (if (Store.find? s.field.shunt n).isSome && decide (2 ≤ s.aiMode l n) then 0 else aiCode (s.aiMode l n) v)
      converting := x.converting.filter (fun m => decide (m ≠ 1000 + n)) })) (7 * l.num + 5) 1) l n := by
  have hop := converts_operating hconv
  unfold conversionResult
  rw [if_pos hconv]
  dsimp only
  rw [if_pos hmark]
  exact fromField_flows _ l _ _ _ hop hflow

/-- A conversion of a converter-start entry. -/
theorem conversionResult_entry (hconv : s.converts l = true) (hflow : s.flows (7 * l.num + 5)) (n : Nat) (v : Int) {i : Nat} {e : CutEntry}
    (hmark : (s.sec l).converting.contains (2000 + i) = true) (hcut : s.cut i = some e) (htgt : CutEntry.tgt e = n) :
    conversionResult s l n (some i) v = takeEntry (through (s.modSec l (fun x => { x with
      converting := x.converting.filter (fun m => decide (m ≠ 2000 + i)) })) (7 * l.num + 5) 1) l i
      (if (Store.find? s.field.shunt n).isSome && decide (2 ≤ s.aiMode l n) then 0 else aiCode (s.aiMode l n) v) := by
  have hop := converts_operating hconv
  unfold conversionResult
  rw [if_pos hconv]
  dsimp only
  rw [if_pos ⟨hmark, by rw [hcut]; exact decide_eq_true htgt⟩]
  exact fromField_flows _ l _ _ _ hop hflow

/-- Lane `l` alone differs, in its registers and its sampled vector. -/
theorem takeInput_eq (s : State) (l : LaneId) (n : Nat) : ∃ b r, takeInput s l n = s.modLane l (fun ln => { ln with sampled := b, reg := r }) := by
  obtain ⟨b, hb⟩ := refreshSample_eq s l (fun src => decide (src = .ai n) || decide (src = .aiStatus n))
  obtain ⟨r, hr⟩ := showCodes_eq (s.modLane l (fun ln => { ln with sampled := b })) l
  refine ⟨b, r, ?_⟩
  unfold takeInput
  rw [hb, hr]
  cases l <;> rfl

end Conversions

/-! ## Line-analog conversions (08 R224) -/

/-- The block boundary of a line-analog conversion leaves the crossings, the die and every other lane alone. -/
theorem boundaryBefore_flows {s : State} {x : Nat} (l : LaneId) (t : Nat) (h : s.flows x) : (boundaryBefore s l t).flows x := by
  unfold boundaryBefore
  split
  · exact h
  · exact h

theorem boundaryBefore_field (s : State) (l : LaneId) (t : Nat) : (boundaryBefore s l t).field = s.field := by
  unfold boundaryBefore
  split <;> rfl

theorem boundaryBefore_reg (s : State) (l : LaneId) (t : Nat) : ((boundaryBefore s l t).lane l).reg = (s.lane l).reg := by
  unfold boundaryBefore
  split
  · refine (congrArg Lane.reg (modLane_lane_self s l (fun ln => ln.closeBlock t))).trans ?_
    unfold Lane.closeBlock
    dsimp only
    split <;> rfl
  · rfl

/-- The line-analog conversion as its lane takes it. -/
theorem laConversion_taken {s : State} {l : LaneId} (hconv : s.converts l = true) (hflow : s.flows (7 * l.num + 5)) (n : Nat) (uV : Int) {at_ : State}
    (hat : boundaryBefore ((advanceTo s (s.laneAt l (s.laGrid l n))).modSec l (fun x => { x with laAt := Store.insert x.laAt n (s.laGrid l n) })) l
      (s.laGrid l n) = at_) :
    ∃ entries, laConversion s l n uV = takeLine (through (at_.modSec l (fun x => { x with
      laConv := Store.put x.laConv 0 n (laCode uV)
      converting := x.converting.filter (fun m => !entries.contains m && decide (m ≠ 1008 + n)) })) (7 * l.num + 5) 1) l n (laCode uV)
      ((at_.sec l).converting.contains (1008 + n)) entries := by
  have hop : at_.field.operating = true := by
    rw [← hat, boundaryBefore_field]
    exact (converts_operating hconv :)
  have hfl : at_.flows (7 * l.num + 5) := hat ▸ boundaryBefore_flows l _ hflow
  unfold laConversion
  rw [if_pos hconv]
  dsimp only
  rw [hat]
  exact ⟨_, fromField_flows _ l _ _ _ hop hfl⟩

theorem takeLine_eq (s : State) (l : LaneId) (n : Nat) (code : Int) (primary : Bool) (entries : List Nat) : ∃ b conv,
    takeLine s l n code primary entries = (s.modSec l (fun x => { x with la := if primary then Store.put x.la 0 n code else x.la, conv := conv })).modLane l
      (fun ln => { ln with sampled := b, recog := { ln.recog with
        uBlock := if (s.lane l).rget 0x5310 1 = n then code :: ln.recog.uBlock else ln.recog.uBlock
        iBlock := if (s.lane l).rget 0x5310 2 = n then code :: ln.recog.iBlock else ln.recog.iBlock } }) := by
  unfold takeLine
  dsimp only
  split
  · obtain ⟨b, hb⟩ := refreshSample_eq (s.modSec l (fun x => { x with
      la := Store.put x.la 0 n code, conv := entries.foldl (fun m e => Store.put m 0 (e - 2000) code) x.conv })) l
      (fun src => decide (src = .la n) || decide (src = .laStatus n))
    rw [hb]
    exact ⟨b, entries.foldl (fun m e => Store.put m 0 (e - 2000) code) (s.sec l).conv, by cases l <;> rfl⟩
  · exact ⟨(s.lane l).sampled, entries.foldl (fun m e => Store.put m 0 (e - 2000) code) (s.sec l).conv, by cases l <;> rfl⟩

theorem conversionsEnterTheirCodes : Parts.ConversionsEnterTheirCodes := by
  intro s l hconv hin hout
  refine ⟨fun i e hcut hact hcheck hearly hused =>
    congrArg Host.Outcome.next (converterStart_marks hconv hin hcut hact hcheck hearly hused), fun n v => ⟨fun hmark => ?_, fun i e hmark hcut htgt => ?_⟩,
    fun n uV => ?_⟩
  · have htaken := conversionResult_sample hconv hout n.val v hmark
    generalize hcode : (if (Store.find? s.field.shunt n.val).isSome && decide (2 ≤ s.aiMode l n.val) then 0 else aiCode (s.aiMode l n.val) v) = code at htaken ⊢
    obtain ⟨b, r, htake⟩ := takeInput_eq (through (s.modSec l (fun x => { x with
      ai := Store.put x.ai 0 n.val code, converting := x.converting.filter (fun m => decide (m ≠ 1000 + n.val)) })) (7 * l.num + 5) 1) l n.val
    rw [htake] at htaken
    have hfield := through_field (s.modSec l (fun x => { x with
      ai := Store.put x.ai 0 n.val code, converting := x.converting.filter (fun m => decide (m ≠ 1000 + n.val)) })) (7 * l.num + 5) 1
    have hlanes := through_lanes (s.modSec l (fun x => { x with
      ai := Store.put x.ai 0 n.val code, converting := x.converting.filter (fun m => decide (m ≠ 1000 + n.val)) })) (7 * l.num + 5) 1
    have hsec := (congrArg (fun f : FieldDie => f.sec.get l) hfield).trans (State.sec_modSec_self s l _)
    refine ⟨_, congrArg Host.Outcome.next htaken, (congrArg Section.ai hsec :), (congrArg Section.converting hsec :), (congrArg Section.conv hsec :),
      through_time .., through_mode .., fun m hm => ⟨?_, ?_⟩⟩
    · exact (modLane_lane_other _ l m (fun ln => { ln with sampled := b, reg := r }) hm).trans (congrArg (fun x : Tri Lane => x.get m) hlanes)
    · exact (congrArg (fun f : FieldDie => f.sec.get m) hfield).trans (State.sec_modSec_other s _ hm)
  · have htaken := conversionResult_entry hconv hout n.val v hmark hcut htgt
    generalize hcode : (if (Store.find? s.field.shunt n.val).isSome && decide (2 ≤ s.aiMode l n.val) then 0 else aiCode (s.aiMode l n.val) v) = code at htaken ⊢
    have hfield := through_field (s.modSec l (fun x => { x with converting := x.converting.filter (fun m => decide (m ≠ 2000 + i)) })) (7 * l.num + 5) 1
    have hsec := (congrArg (fun f : FieldDie => f.sec.get l) hfield).trans (State.sec_modSec_self s l _)
    have htake := (State.sec_modSec_self (through (s.modSec l (fun x => { x with converting := x.converting.filter (fun m => decide (m ≠ 2000 + i)) }))
      (7 * l.num + 5) 1) l (fun x => { x with conv := Store.put x.conv 0 i code })).trans
        (congrArg (fun x : Section => { x with conv := Store.put x.conv 0 i code }) hsec)
    exact ⟨_, congrArg Host.Outcome.next htaken, (congrArg Section.conv htake :), (congrArg Section.ai htake :), (congrArg Section.converting htake :),
      through_lanes .., through_time ..⟩
  · intro at_
    obtain ⟨entries, htaken⟩ := laConversion_taken hconv hout n.val uV (at_ := at_) rfl
    have hatfield : at_.field = ((advanceTo s (s.laneAt l (s.laGrid l n.val))).modSec l (fun x =>
        { x with laAt := Store.insert x.laAt n.val (s.laGrid l n.val) })).field := boundaryBefore_field ..
    have hatsec : at_.sec l = { s.sec l with laAt := Store.insert (s.sec l).laAt n.val (s.laGrid l n.val) } :=
      (congrArg (fun f : FieldDie => f.sec.get l) hatfield).trans (State.sec_modSec_self ..)
    have hatreg : (at_.lane l).reg = (s.lane l).reg := by
      obtain ⟨x, hx⟩ := advanceTo_lane s (s.laneAt l (s.laGrid l n.val)) l
      exact (boundaryBefore_reg ..).trans (congrArg Lane.reg hx :)
    generalize at_ = a at *
    generalize hmid : through (a.modSec l (fun x => { x with
      laConv := Store.put x.laConv 0 n.val (laCode uV)
      converting := x.converting.filter (fun m => !entries.contains m && decide (m ≠ 1008 + n.val)) })) (7 * l.num + 5) 1 = u at htaken
    have hlanes : u.lanes = a.lanes := by rw [← hmid, through_lanes]; rfl
    have htime : u.time = a.time := by rw [← hmid, through_time]; rfl
    have hsec : u.sec l = { a.sec l with
        laConv := Store.put (a.sec l).laConv 0 n.val (laCode uV)
        converting := (a.sec l).converting.filter (fun m => !entries.contains m && decide (m ≠ 1008 + n.val)) } := by
      rw [← hmid]
      exact (congrArg (fun f : FieldDie => f.sec.get l) (through_field ..)).trans (State.sec_modSec_self ..)
    have hlane : u.lane l = a.lane l := congrArg (fun x : Tri Lane => x.get l) hlanes
    have hrget : ∀ sub, (u.lane l).rget 0x5310 sub = (s.lane l).rget 0x5310 sub := fun sub => by
      unfold Lane.rget
      rw [hlane, hatreg]
    obtain ⟨b, conv, htake⟩ := takeLine_eq u l n.val (laCode uV) ((a.sec l).converting.contains (1008 + n.val)) entries
    rw [hrget, hrget] at htake
    rw [htake] at htaken
    have htsec := (State.sec_modSec_self u l (fun x => { x with
      la := if (a.sec l).converting.contains (1008 + n.val) then Store.put x.la 0 n.val (laCode uV) else x.la, conv := conv }))
    rw [hsec] at htsec
    have htlane := modLane_lane_self (u.modSec l (fun x => { x with
      la := if (a.sec l).converting.contains (1008 + n.val) then Store.put x.la 0 n.val (laCode uV) else x.la, conv := conv })) l
      (fun ln => { ln with sampled := b, recog := { ln.recog with
        uBlock := if (s.lane l).rget 0x5310 1 = n.val then laCode uV :: ln.recog.uBlock else ln.recog.uBlock
        iBlock := if (s.lane l).rget 0x5310 2 = n.val then laCode uV :: ln.recog.iBlock else ln.recog.iBlock } })
    rw [show (u.modSec l (fun x => { x with
      la := if (a.sec l).converting.contains (1008 + n.val) then Store.put x.la 0 n.val (laCode uV) else x.la, conv := conv })).lane l = a.lane l from hlane] at htlane
    have hmarks : (a.sec l).converting = (s.sec l).converting := (congrArg Section.converting hatsec :)
    refine ⟨_, congrArg Host.Outcome.next htaken, (congrArg Section.laConv htsec :).trans ?_, fun hmem => ?_, htime, fun hmark => ?_,
      (congrArg (fun ln : Lane => ln.recog.uBlock) htlane :), (congrArg (fun ln : Lane => ln.recog.iBlock) htlane :)⟩
    · exact (congrArg (fun x : Section => Store.put x.laConv 0 n.val (laCode uV)) hatsec :)
    · have hmem' := (congrArg (fun x : Section => (1008 + n.val) ∈ x.converting) htsec :).mp hmem
      have hkept := (List.mem_filter.1 hmem').2
      simp at hkept
    · rw [← hmarks] at hmark
      exact ((congrArg Section.la htsec :).trans (if_pos hmark)).trans (congrArg (fun x : Section => Store.put x.la 0 n.val (laCode uV)) hatsec :)

/-- Settles O25: a sample is what its section holds at S_k; a conversion's code goes to its section and lane alone. -/
theorem samplesAndConversions : Obligations.SamplesAndConversions :=
  ⟨sampleLatchesEveryField, conversionsEnterTheirCodes, codesRoundAndSaturate⟩

end Sys2Proof.Machine
end

section
/-! Recognition of the supply system and shunt protection (08 R222, R228 to R232). -/

namespace Sys2Proof.Machine

open Sys2Proof

theorem closeBlock_full (ln : Lane) (t : Nat) (hu : ln.recog.uBlock.length = 40) (hc : ln.rget 0x5310 2 = 255) : (ln.closeBlock t).recog = { ln.recog with
    uBlock := [], iBlock := [], blockAt := some t
    window := ({ t := t
                 u := blockValue ln.recog.uBlock (ln.rget 0x5300 (ln.rget 0x5310 1 + 1)) (ln.rget 0x5301 (ln.rget 0x5310 1 + 1))
                 i := 0, clip := ln.recog.uBlock.any overRange } :: ln.recog.window).take 15000 } := by
  unfold Lane.closeBlock
  dsimp only
  rw [if_pos ⟨hu, by rw [hc]; rfl⟩, if_pos hc, hc]
  dsimp only
  rw [show (decide (255 ≠ 255) && ln.recog.iBlock.any overRange) = false from rfl, Bool.or_false]

theorem closeBlock_broken (ln : Lane) (t : Nat) (hu : ln.recog.uBlock.length ≠ 40) : (ln.closeBlock t).recog.window = [] := by
  unfold Lane.closeBlock
  dsimp only
  rw [if_neg fun h => hu h.1]

theorem recognitionRuns : Parts.RecognitionRuns := by
  intro s l hconv
  refine ⟨congrArg Host.Outcome.next (if_pos hconv), congrArg Host.Outcome.next (if_pos hconv), fun hearly => ⟨?_, closeBlock_full _ _, closeBlock_broken _ _⟩⟩
  refine congrArg Host.Outcome.next ((if_pos hconv : decimatedSample s l = _).trans ?_)
  exact once_first s _ _ hearly

/-- Every path's code of an input set to 0. -/
theorem codesCleared (s : State) (n : Nat) : ∃ secs, LaneId.all.foldl (fun s l => s.modSec l (fun x => { x with ai := Store.put x.ai 0 n 0 })) s =
    { s with field := { s.field with sec := secs } } ∧ ∀ l, (secs.get l).ai = Store.put (s.sec l).ai 0 n 0 :=
  ⟨_, rfl, fun l => by cases l <;> rfl⟩

theorem shuntProtectionOpensAndRecloses : Parts.ShuntProtectionOpensAndRecloses := by
  intro s n
  refine ⟨fun uA hcurrent hop hmode => ?_, fun since hsince => congrArg Host.Outcome.next (?_ : shuntReclose s n.val = _)⟩
  · obtain ⟨secs, hall, hcodes⟩ := codesCleared { s with field := { s.field with shunt := Store.insert s.field.shunt n.val s.time.now } } n.val
    have hopened : shuntOpen s n.val uA = _ := (if_pos ⟨hcurrent, hop, hmode⟩).trans hall
    exact ⟨_, congrArg Host.Outcome.next hopened, Store.find?_insert_self .., hcodes, rfl, rfl, rfl⟩
  · unfold shuntReclose
    rw [hsince]
    rfl

/-- Settles O26: a full block of 40 codes becomes one sample; the switch opens in every path and closes a second later. -/
theorem recognitionAndShunts : Obligations.RecognitionAndShunts := ⟨recognitionRuns, shuntProtectionOpensAndRecloses⟩

end Sys2Proof.Machine
end

section
/-! The cycle start and the exchange of vectors (01 R11, R16, 03 R74, R75, 16 R429). -/

namespace Sys2Proof.Machine

open Sys2Proof

/-! ## What a cycle start does not do: change the mode -/

theorem foldl_mode {α : Type} (f : State → α → State) (hf : ∀ s x, (f s x).mode = s.mode) (xs : List α) : ∀ s : State, (xs.foldl f s).mode = s.mode := by
  induction xs with
  | nil => exact fun s => rfl
  | cons x xs ih => exact fun s => (ih (f s x)).trans (hf s x)

theorem emcyOne_mode (s : State) (c : CanCtl) (code b3 b4 : Nat) : (emcyOne s c code b3 b4).mode = s.mode :=
  (State.Told.sendEmcy (jset s 0x1001 0 (errorRegister (jget s 0x1001 0) code)) c code b3 b4).mode_eq

theorem judgeHeartbeats_mode (s : State) : (judgeHeartbeats s).mode = s.mode := by
  unfold judgeHeartbeats
  refine foldl_mode _ (fun t p => ?_) s.hbAt s
  dsimp only
  split
  · exact emcyOne_mode ..
  · rfl

theorem judgeStations_mode (s : State) (c : Container) (first : Bool) (flows : List FlowItem) (can : List (Nat × Bytes)) :
    (judgeStations s c first flows can).1.mode = s.mode := by
  have hfold : ∀ (xs : List Station) (acc : State × List (Nat × Nat) × List Nat × List Nat), (xs.foldl (fun acc x =>
      let s := acc.1
      let old := Store.get s.stationRun (3 * 65536) x.no
      let new := judgeStation (old / 65536) (old % 65536) (s.vget (0x5400 + x.no) 3) (s.vget (0x5400 + x.no) 4) first
        (stationExpired s c x) (stationFresh c x flows can)
      let s := { s with stationRun := Store.insert s.stationRun x.no (new.1 * 65536 + new.2) }
      let s := if new.1 = old / 65536 then s else record s (if x.no < 32 then 7 else 5) 18 (leBytes 1 x.no ++ leBytes 1 new.1)
      (s, acc.2.1 ++ [(x.no, new.1)],
        (if new.1 = 2 ∧ old / 65536 ≠ 2 then acc.2.2.1 ++ [x.no] else acc.2.2.1),
        (if new.1 = 1 ∧ old / 65536 ≠ 1 then acc.2.2.2 ++ [x.no] else acc.2.2.2))) acc).1.mode = acc.1.mode := by
    intro xs
    induction xs with
    | nil => exact fun acc => rfl
    | cons x xs ih =>
      intro acc
      rw [List.foldl_cons, ih]
      dsimp only
      split
      · rfl
      · exact record_mode ..
  exact hfold c.stations (s, [], [], [])

theorem closeBatch_mode (s : State) (c : Container) (k : Nat) (first : Bool) : (closeBatch s c k first).1.mode = s.mode :=
  (judgeStations_mode (judgeHeartbeats s) c first _ _).trans (judgeHeartbeats_mode s)

theorem stampForces_mode (s : State) (b : Batch) (cK : Nat) : (stampForces s b cK).mode = s.mode :=
  foldl_mode _ (fun t o => by cases o <;> rfl) b.forces s

theorem logEntry_mode (s : State) (client path index sub kind : Nat) (old new : Bytes) : (logEntry s client path index sub kind old new).mode = s.mode := by
  unfold logEntry
  split
  · rfl
  · exact record_mode ..

theorem releaseSlot_mode (s : State) (client path n : Nat) : (releaseSlot s client path n).mode = s.mode := by
  unfold releaseSlot
  split
  · exact logEntry_mode ..
  · rfl

theorem recordEnded_mode (s : State) (ended : List (Nat × Bytes)) (k dropped : Nat) : (recordEnded s ended k dropped).mode = s.mode :=
  foldl_mode _ (fun _ _ => record_mode ..) _ s

theorem endChange_mode (s : State) (result detail : Nat) : (endChange s result detail).mode = s.mode := by
  obtain ⟨c, d, j, r, h⟩ := endChange_eq s result detail
  rw [h]

theorem activate_mode (s : State) (d : Delta) (base : Container) (k : Nat) : (activate s d base k).mode = s.mode := by
  unfold activate
  dsimp only
  rw [record_mode, jset_mode, jset_mode]
  dsimp only
  rw [foldl_mode _ (fun t p => jset_mode ..)]
  dsimp only
  rw [foldl_mode _ (fun t n => releaseSlot_mode ..)]
  exact recordEnded_mode ..

theorem applyVerdict_mode (s : State) (b : Batch) : (applyVerdict s b).mode = s.mode := by
  unfold applyVerdict
  split
  · exact activate_mode ..
  · split <;> exact endChange_mode ..
  · rfl

theorem closeLane_linked (s : State) (l : LaneId) : s.Linked (closeLane s l) :=
  State.Linked.foldl _ (fun s i => State.Linked.closeCrossing s (7 * l.num + i) (laneWrites i)) _ s

theorem startReint_mode (s : State) (l : LaneId) : (startReint s l).mode = s.mode := by
  unfold startReint
  dsimp only
  rw [record_mode]
  exact (closeLane_linked _ l).mode_eq

theorem startDeferred_mode (s : State) : (startDeferred s).mode = s.mode := by
  unfold startDeferred
  split
  · split
    · rfl
    · split
      · exact startReint_mode ..
      · rfl
  · rfl

theorem reclassify_mode (s : State) (l : LaneId) : (reclassify s l).mode = s.mode := by
  unfold reclassify
  split
  · refine foldl_mode _ (fun t p => ?_) _ s
    split <;> rfl
  · rfl

/-! ## What a cycle start leaves: its index, its instant, the vectors awaited -/

/-- A fold over the lanes' channels leaves the vote, the lanes and the mode. -/
theorem throughs_keep (n : LaneId → Nat) (xs : List LaneId) : ∀ s : State,
    (xs.foldl (fun s l => through s (7 * l.num + 1) (n l)) s).vote = s.vote ∧
    (xs.foldl (fun s l => through s (7 * l.num + 1) (n l)) s).lanes = s.lanes ∧
    (xs.foldl (fun s l => through s (7 * l.num + 1) (n l)) s).mode = s.mode := by
  induction xs with
  | nil => exact fun s => ⟨rfl, rfl, rfl⟩
  | cons l xs ih =>
    intro s
    obtain ⟨hvote, hlanes, hmode⟩ := ih (through s (7 * l.num + 1) (n l))
    exact ⟨hvote.trans (through_vote ..), hlanes.trans (through_lanes ..), hmode.trans (through_mode ..)⟩

/-- The vote as a cycle starts, and the vectors that each lane awaits. -/
def State.cycleOpened (s : State) (k cK : Nat) : State :=
  let s := { s with power := { s.power with shedC := s.power.stage }
                    vote := { s.vote with cK := cK, k := some k, modeC := s.mode.code, agreed := none
                                          agreedLast := s.vote.agreed.orElse (fun _ => s.vote.agreedLast)
                                          hub := (Tri.mk LaneId.a LaneId.b LaneId.c).map (fun m =>
                                            if s.runs m then VecState.awaited else VecState.absent) } }
  s.modLanes (fun l ln => { ln with vecs := startVecs s l })

theorem cycleOpened_runs (s : State) (k cK : Nat) (m : LaneId) : (s.cycleOpened k cK).runs m = s.runs m := by
  cases m <;> rfl

/-- A cycle start ends with the vectors awaited and the batch sent, in the mode in which it began. -/
theorem startCycle_opens (s : State) (c : Container) (k cK : Nat) (first : Bool) : ∃ t : State, t.mode = s.mode ∧
    startCycle s c k cK first = (LaneId.all.filter (t.cycleOpened k cK).runs).foldl (fun s l => through s (7 * l.num + 1) (entriesOf 1 c.bIn))
      (t.cycleOpened k cK) := by
  unfold startCycle
  dsimp only
  refine ⟨_, ?_, rfl⟩
  rw [foldl_mode _ reclassify_mode]
  split
  · exact (startDeferred_mode _).trans ((applyVerdict_mode _ _).trans ((stampForces_mode _ _ _).trans (closeBatch_mode s c k first)))
  · exact (startDeferred_mode _).trans ((applyVerdict_mode _ _).trans ((stampForces_mode _ _ _).trans (closeBatch_mode s c k first)))

theorem startCycle_vote (s : State) (c : Container) (k cK : Nat) (first : Bool) : ∃ t, startCycle s c k cK first = t ∧ t.mode = s.mode ∧
    t.vote.k = some k ∧ t.vote.cK = cK ∧ t.vote.agreed = none ∧ ∀ m, t.vote.hub.get m = if t.runs m then .awaited else .absent := by
  obtain ⟨u, hmode, hopens⟩ := startCycle_opens s c k cK first
  obtain ⟨hvote, hlanes, hmode'⟩ := throughs_keep (fun _ => entriesOf 1 c.bIn) (LaneId.all.filter (u.cycleOpened k cK).runs) (u.cycleOpened k cK)
  rw [← hopens] at hvote hlanes hmode'
  refine ⟨_, rfl, hmode'.trans hmode, by rw [hvote]; rfl, by rw [hvote]; rfl, by rw [hvote]; rfl, fun m => ?_⟩
  have hruns : (startCycle s c k cK first).runs m = u.runs m := by
    rw [← cycleOpened_runs u k cK m]
    unfold State.runs State.lane
    rw [hlanes]
  rw [hvote, hruns]
  cases m <;> rfl

/-! ## Cycle starts in RUN (01 R11, R16) -/

theorem cycleStart_crosses (s : State) (hearly : s.firedEarly .cycle = false) (hready : s.ready 21 0) :
    cycleCrossing s = cycleStartNow (s.evented 21 0) :=
  (raiseEvent_ready s 21 0 _ cycleStartAny hready).trans (once_first (s.evented 21 0) _ _ hearly)

section InRun

variable {s : State} {c : Container} {k0 : Nat}

/-- The cycle start of a device in RUN. -/
theorem cycleDue_bad (hc : s.config = some c) (hk : s.vote.k = some k0) (hrun : s.inRun = true) (hbad : s.badAt 1 (nextC s c) = true) :
    cycleDue s = cutFault (advanceTo s (nextC s c)) := by
  unfold cycleDue
  rw [hc, hk]
  exact (if_pos hrun).trans (if_pos hbad)

theorem cycleDue_starts (hc : s.config = some c) (hk : s.vote.k = some k0) (hrun : s.inRun = true) (hbad : s.badAt 1 (nextC s c) = false)
    (hlimp : (advanceTo s (nextC s c)).vote.limpNs ≠ some 0)
    (hstill : (rejoinStep (transferStep (beforeBatch (advanceTo s (nextC s c)) (nextC s c))
      (k0 + (nextC s c - s.vote.cK) / Nat.max 1 c.tBase))).inRun = true) :
    cycleDue s = startCycle (rejoinStep (transferStep (beforeBatch (advanceTo s (nextC s c)) (nextC s c))
      (k0 + (nextC s c - s.vote.cK) / Nat.max 1 c.tBase))) c (k0 + (nextC s c - s.vote.cK) / Nat.max 1 c.tBase) (nextC s c) false := by
  have hgood : (advanceTo s (nextC s c)).badAt 1 (nextC s c) = false := hbad
  unfold cycleDue
  rw [hc, hk]
  refine (if_pos hrun).trans ?_
  dsimp only
  rw [hgood, if_neg Bool.false_ne_true, if_neg hlimp, if_pos hstill]

theorem cycleStartNow_inRun (hc : s.config = some c) (hstep : s.inStep 7 = false) : cycleStartNow s = cycleDue s := by
  unfold cycleStartNow
  rw [hc]
  exact if_neg (by rw [hstep]; exact Bool.false_ne_true)

end InRun

/-! ## Start-up (16 R429) -/

/-- Entering RUN at its first batch, up to the tests and step 8. -/
def State.entering (s : State) : State :=
  let three := decide (s.actives.length = 3)
  let s := { s with mode := if three then .run2oo3 else .run2oo2
                    ring := { s.ring with ran := true }
                    vote := { s.vote with limpNs := if three then none else some (limpAtStart s) } }
  let s := if s.power.restored then s else s.modLanes (fun _ ln => { ln with glue := { ln.glue with fullDue := true } })
  canRun (canRun (jset s 0x2000 7 (s.sinceVin / 1000000 % 4294967296)) .c0) .c1

theorem canRun_keeps (s : State) (c : CanCtl) : (canRun s c).mode = s.mode ∧ (canRun s c).config = s.config := by
  unfold canRun
  split
  · cases c <;> exact ⟨rfl, rfl⟩
  · exact ⟨rfl, rfl⟩

theorem entering_mode (s : State) : s.entering.mode = if s.actives.length = 3 then .run2oo3 else .run2oo2 := by
  have hthree : (if decide (s.actives.length = 3) = true then Mode.run2oo3 else .run2oo2) = if s.actives.length = 3 then .run2oo3 else .run2oo2 :=
    if_congr decide_eq_true_iff rfl rfl
  unfold State.entering
  refine (canRun_keeps _ .c1).1.trans ((canRun_keeps _ .c0).1.trans ?_)
  rw [jset_mode, ← hthree, apply_ite State.mode]
  exact ite_id _

theorem entering_config (s : State) : s.entering.config = s.config := by
  unfold State.entering
  refine (canRun_keeps _ .c1).2.trans ((canRun_keeps _ .c0).2.trans ?_)
  unfold State.config
  rw [jset_cfg, apply_ite State.cfg]
  exact congrArg Config.inForce (ite_id _)

theorem badAt_congr {s t : State} {c : Container} (hs : s.config = some c) (ht : t.config = some c) (act x : Nat) : t.badAt act x = s.badAt act x := by
  unfold State.badAt State.firesAt State.period State.tRound
  rw [hs, ht]

theorem enterRun_eq (s : State) (c : Container) (c1 : Nat) : enterRun s c c1 =
    if (beforeBatch (advanceTo s (s.firstVoted c c1)) (s.firstVoted c c1)).entering.badAt 1 (s.firstVoted c c1) then
      cutFault (beforeBatch (advanceTo s (s.firstVoted c c1)) (s.firstVoted c c1)).entering
    else startCycle (toStep (startTests (beforeBatch (advanceTo s (s.firstVoted c c1)) (s.firstVoted c c1)).entering) 8) c
      ((s.firstVoted c c1 - c.phi) / Nat.max 1 c.tBase) (s.firstVoted c c1) true := by
  unfold enterRun State.entering
  dsimp only

theorem enterRun_starts {s : State} {c : Container} {c1 cK : Nat} (hc : s.config = some c) (hK : s.firstVoted c c1 = cK) (hbad : s.badAt 1 cK = false)
    (hu : (beforeBatch (advanceTo s cK) cK).config = some c) : enterRun s c c1 =
      startCycle (toStep (startTests (beforeBatch (advanceTo s cK) cK).entering) 8) c ((cK - c.phi) / Nat.max 1 c.tBase) cK true := by
  have hgood : ¬ (beforeBatch (advanceTo s cK) cK).entering.badAt 1 cK = true := by
    rw [badAt_congr hc ((entering_config _).trans hu), hbad]
    exact Bool.false_ne_true
  rw [enterRun_eq, hK, if_neg hgood]

theorem firstStart_keeps (s : State) (c : Container) : (firstStart s c).power.c1 = some (firstStart s c).time.now ∧ (firstStart s c).can0.rx = [] ∧
    (firstStart s c).can1.rx = [] ∧ (firstStart s c).batchIn.triggers = [] ∧ ∀ p ∈ (firstStart s c).ring.rx, p.2.frame = none := by
  unfold firstStart
  dsimp only
  generalize beforeBatch (advanceTo s (s.beforeFirst c)) (advanceTo s (s.beforeFirst c)).time.now = u
  refine ⟨rfl, rfl, rfl, rfl, fun p hp => ?_⟩
  obtain ⟨q, -, rfl⟩ := List.mem_map.1 hp
  rfl

theorem cycleStartsFollowTheGrid : Parts.CycleStartsFollowTheGrid := by
  intro s c hc crossed
  have hcc : crossed.config = some c := hc
  refine ⟨?_, fun hstep hearly => ⟨fun hready hc1 => ?_, fun c1 hready hc1 => ?_, ?_⟩, ?_⟩
  · intro k0 hrun hstep hk hearly hready cK k u
    have hcross : cycleCrossing s = cycleDue crossed := (cycleStart_crosses s hearly hready).trans (cycleStartNow_inRun hcc hstep)
    refine ⟨fun hbad => congrArg Host.Outcome.next (hcross.trans (cycleDue_bad (s := crossed) hcc hk hrun hbad)), fun hbad hlimp hstill => ?_⟩
    have hstart := hcross.trans (cycleDue_starts (s := crossed) hcc hk hrun hbad hlimp hstill)
    obtain ⟨t, ht, -, hkt, hcK, hagreed, hhub⟩ := startCycle_vote u c k cK false
    exact ⟨t, congrArg Host.Outcome.next (hstart.trans ht), ht.symm, hkt, hcK, hagreed, hhub⟩
  · have hstart : cycleCrossing s = firstStart crossed c := by
      rw [cycleStart_crosses s hearly hready]
      unfold cycleStartNow
      rw [show (s.evented 21 0).config = some c from hc]
      dsimp only
      rw [if_pos (show (s.evented 21 0).inStep 7 = true from hstep), show (s.evented 21 0).power.c1 = none from hc1]
    exact ⟨_, congrArg Host.Outcome.next hstart, rfl, firstStart_keeps crossed c⟩
  · refine congrArg Host.Outcome.next (?_ : cycleCrossing s = enterRun crossed c c1)
    rw [cycleStart_crosses s hearly hready]
    unfold cycleStartNow
    rw [show (s.evented 21 0).config = some c from hc]
    dsimp only
    rw [if_pos (show (s.evented 21 0).inStep 7 = true from hstep), show (s.evented 21 0).power.c1 = some c1 from hc1]
  · refine congrArg Host.Outcome.next (?_ : firstVotedCycle s = _)
    unfold firstVotedCycle
    rw [hc]
    exact if_pos hstep
  · intro c1 g cK u hbad hu
    have hstart := enterRun_starts (c1 := c1) hc (show s.firstVoted c c1 = cK from rfl) hbad hu
    obtain ⟨t, ht, hmode, hkt, hcK, -⟩ := startCycle_vote (toStep (startTests u.entering) 8) c ((cK - c.phi) / Nat.max 1 c.tBase) cK true
    rw [hstart, ht]
    refine ⟨hcK, hkt, hmode.trans ?_⟩
    exact (record_mode ..).trans (entering_mode u)

/-! ## The exchange of vectors (03 R74, R75) -/

theorem vectorsAreExchanged : Parts.VectorsAreExchanged := by
  intro s c l src v hc hrun
  refine ⟨fun hflow hawaited => ?_, fun hk => ⟨fun hnone => ?_, fun hone => ?_⟩, fun w hflow hacc hruns hawaited => ?_⟩
  · intro at_ rejected
    have hcross := State.Crossed.through s (7 * l.num) (entriesOf (7 * l.num) v.length)
    have hlive : at_.config = some c := hcross.config_eq.trans hc
    have hopen : (!at_.inRun || decide (at_.vote.hub.get l ≠ .awaited)) = false := by
      rw [show at_.vote = s.vote from through_vote .., hawaited]
      unfold State.inRun
      rw [show at_.mode = s.mode from through_mode ..]
      exact (Bool.or_eq_false_iff).2 ⟨by rw [show (decide (s.mode = .run2oo3) || decide (s.mode = .run2oo2)) = true from hrun]; rfl, by decide⟩
    have harrive : crossing s (7 * l.num) v.length (.vectorReceived l v) = vectorReceived at_ l v := crossing_flows _ _ _ _ hflow
    refine ⟨fun hok => congrArg Host.Outcome.next (harrive.trans ?_), fun hbad => congrArg Host.Outcome.next (harrive.trans ?_)⟩
    · unfold vectorReceived
      rw [hlive]
      dsimp only
      rw [hopen, if_neg Bool.false_ne_true, if_pos hok]
    · unfold vectorReceived
      rw [hlive]
      dsimp only
      rw [hopen, if_neg Bool.false_ne_true, hbad, if_neg Bool.false_ne_true]
  · refine congrArg Host.Outcome.next (?_ : vectorDeadline s = _)
    unfold vectorDeadline
    rw [hc]
    dsimp only
    rw [if_pos (by rw [hrun, hk]; rfl), show outstanding (advanceTo s (s.vote.cK + tMx c - 200)) = [] from hnone]
    rfl
  · refine congrArg Host.Outcome.next (?_ : vectorDeadline s = _)
    unfold vectorDeadline
    rw [hc]
    dsimp only
    rw [if_pos (by rw [hrun, hk]; rfl), show outstanding (advanceTo s (s.vote.cK + tMx c - 200)) = [l] from hone]
    rfl
  · intro at_
    have hcross := State.Crossed.through s (7 * l.num + 1) (entriesOf (7 * l.num + 1) v.length)
    have hlive : at_.config = some c := hcross.config_eq.trans hc
    have hlane : at_.lane l = s.lane l := congrArg (fun x : Tri Lane => x.get l) (through_lanes ..)
    have hopen : (at_.inRun && at_.runs l && decide ((at_.lane l).vecs.get src = .awaited)) = true := by
      unfold State.inRun State.runs
      rw [hlane, decide_eq_true hawaited, show at_.mode = s.mode from through_mode ..]
      change (s.inRun && s.runs l && true) = true
      rw [hrun, hruns]
      rfl
    have harrive : crossing s (7 * l.num + 1) v.length (.forwardedVector l src v) = forwardedVector at_ l src v := crossing_flows _ _ _ _ hflow
    refine congrArg Host.Outcome.next (harrive.trans ?_)
    unfold forwardedVector
    rw [hlive]
    dsimp only
    rw [show at_.vote.hub.get src = .accepted w from (congrArg (fun x : Vote => x.hub.get src) (through_vote ..)).trans hacc]
    dsimp only
    rw [if_pos hopen]

/-- Settles O27: a cycle start is the model's own steps in their order, and ends with the vectors awaited in its mode. -/
theorem cyclesStartAndExchangeVectors : Obligations.CyclesStartAndExchangeVectors := ⟨cycleStartsFollowTheGrid, vectorsAreExchanged⟩

end Sys2Proof.Machine
end

section
/-! Reintegration of a lane (03 R72, R93 to R95, Table 03-8, 02 R44). -/

namespace Sys2Proof.Machine

open Sys2Proof

/-- A record changes the recorder and the registers alone. -/
theorem record_lane (s : State) (source type : Nat) (payload : Bytes) (m : LaneId) : (record s source type payload).lane m = s.lane m := by
  obtain ⟨r, j, h⟩ := record_eq s source type payload
  rw [h]
  rfl

theorem record_keepsVote (s : State) (source type : Nat) (payload : Bytes) : (record s source type payload).vote = s.vote := by
  obtain ⟨r, j, h⟩ := record_eq s source type payload
  rw [h]

theorem record_keepsField (s : State) (source type : Nat) (payload : Bytes) : (record s source type payload).field = s.field := by
  obtain ⟨r, j, h⟩ := record_eq s source type payload
  rw [h]

theorem State.Linked.vote_eq {s t : State} (h : s.Linked t) : t.vote = s.vote := by
  obtain ⟨_, _, rfl⟩ := h
  rfl

theorem State.Linked.time_eq {s t : State} (h : s.Linked t) : t.time = s.time := by
  obtain ⟨_, _, rfl⟩ := h
  rfl

theorem reopenLane_linked (s : State) (l : LaneId) : s.Linked (reopenLane s l) :=
  State.Linked.foldl _ (fun s i => State.Linked.reopen s (7 * l.num + i) (laneWrites i)) _ s

/-! ## The start (Table 03-8 step 1) -/

/-- A lane restarted: its memory, engines and counter begin anew. -/
def Lane.restarted (ln : Lane) : Lane :=
  { ln with status := .restarting, hold := false, engines := ln.engines.map (fun p => (p.1, Engine.blank)), pairs := [], lcv0 := none,
            lcv1 := none, time := LaneTime.zero, sampledAt := none, fired := [], recog := Recog.start, i := [], q := [], m := [], d := [], s := [],
            locals := [], published := [] }

theorem startReint_starts (s : State) (l : LaneId) : (startReint s l).vote.reint = some l ∧ (startReint s l).lane l = (s.lane l).restarted ∧
    (startReint s l).vote.starts = (s.time.now :: s.vote.starts).take 3 ∧ ∀ m, m ≠ l → (startReint s l).lane m = s.lane m := by
  have hlink := closeLane_linked { (countStart s).modLane l Lane.restarted with
    vote := { (countStart s).vote with reint := some l, blocksDue := [], passEnd := none, shadowOk := 0, deferred := none }
    power := { s.power with domains := Nat.lor s.power.domains (3 * 4 ^ l.num) } } l
  have hvote : (startReint s l).vote = _ := (record_keepsVote ..).trans hlink.vote_eq
  have hlane : ∀ m, (startReint s l).lane m = ((countStart s).modLane l Lane.restarted).lane m := fun m => (record_lane ..).trans (hlink.lane_eq m)
  rw [hvote]
  exact ⟨rfl, (hlane l).trans (modLane_lane_self ..), rfl, fun m hm => (hlane m).trans (modLane_lane_other _ _ _ _ hm)⟩

theorem automaticReint_starts {s : State} {l : LaneId} {at_ : Nat} (hat : (s.lane l).excludedAt = some at_) (hmode : s.mode = .run2oo2)
    (hheld : (s.lane l).status = .held) (hauto : jget s 0x3006 1 = 1) (hchange : s.change.state ≠ 6)
    (hbarred : reintBarred (advanceTo s (at_ + 100000000)) l = false) : automaticReint s l = startReint (advanceTo s (at_ + 100000000)) l := by
  unfold automaticReint
  dsimp only
  rw [hat]
  dsimp only
  rw [if_pos ⟨hmode, .inl hheld, hauto⟩, hbarred, if_neg Bool.false_ne_true]
  exact if_neg hchange

/-! ## The lane scribe test (03 R72) -/

/-- Every pattern of Table 03-2 brings what the table expects of a sound engine. -/
theorem engineReaction_expected : ∀ n < 64, engineReaction n = engineExpected n := by decide

theorem engineUnits_small {c : Container} {l : LaneId} {u : Nat} (h : u ∈ engineUnits c l) : u < 0x8000 := by
  obtain ⟨n, hn, rfl⟩ := List.mem_map.1 h
  have hn := List.mem_range.1 (List.mem_of_mem_filter hn)
  cases l <;> simp only [LaneId.num] <;> omega

theorem firstFailing_sound (c : Container) (l : LaneId) : firstFailing none (engineUnits c l) = none := by
  unfold firstFailing
  rw [List.find?_eq_none]
  intro x hx
  obtain ⟨n, hn, hx⟩ := List.mem_flatMap.1 hx
  obtain ⟨u, hu, rfl⟩ := List.mem_map.1 hx
  have hsmall := engineUnits_small hu
  have hsound : unitReaction none u n = expectedReaction u n := by
    unfold unitReaction soundReaction expectedReaction
    rw [if_neg (by simp), if_pos hsmall, if_pos hsmall]
    exact engineReaction_expected n (List.mem_range.1 hn)
  simp [hsound]

theorem firstFailing_defect (c : Container) (l : LaneId) (h : engineUnits c l ≠ []) :
    (firstFailing ((engineUnits c l).head?.map (fun u => (0, u))) (engineUnits c l)).isNone = false := by
  obtain ⟨u, us, hus⟩ := List.exists_cons_of_ne_nil h
  have hu : u < 0x8000 := engineUnits_small (c := c) (l := l) (hus ▸ List.mem_cons_self)
  rw [hus]
  unfold firstFailing
  have hmem : ((0, u) : Nat × Nat) ∈ (List.range 64).flatMap (fun n => (u :: us).map (fun u => (n, u))) :=
    List.mem_flatMap.2 ⟨0, List.mem_range.2 (by decide), List.mem_map.2 ⟨u, List.mem_cons_self, rfl⟩⟩
  have hfails : unitReaction (some (0, u)) u 0 ≠ expectedReaction u 0 := by
    unfold unitReaction expectedReaction
    rw [if_pos rfl, if_pos hu]
    decide
  rw [Option.isNone_eq_false_iff, List.find?_isSome]
  exact ⟨(0, u), hmem, decide_eq_true hfails⟩

/-- A reintegration given up: its lane silent, and 3006.04 telling so. -/
theorem abandonReint_gives (s : State) (l : LaneId) (step cause : Nat) : (abandonReint s l step cause).vote.reint = none ∧
    ((abandonReint s l step cause).lane l).status = (if cause = 11 ∨ cause = 16 then .barred else .held) ∧
    ((abandonReint s l step cause).lane l).hold = true ∧ jget (abandonReint s l step cause) 0x3006 4 = 2 := by
  obtain ⟨k, f, h, lns, hsil, -, ⟨v, hself⟩, -⟩ := silence_eq (enterCause s l cause) l cause
  have hlane : (abandonReint s l step cause).lane l = { (silence (enterCause s l cause) l cause).lane l with excludedAt := none } :=
    (record_lane ..).trans (modLane_lane_self (silence (enterCause s l cause) l cause) l (fun ln => { ln with excludedAt := none }))
  have hsilent : (silence (enterCause s l cause) l cause).lane l =
      (((enterCause s l cause).lane l).silenced (if cause = 11 ∨ cause = 16 then .barred else .held) (enterCause s l cause).time.now).withVecs v := by
    rw [hsil]
    exact hself
  refine ⟨(congrArg Vote.reint (record_keepsVote ..)).trans rfl, by rw [hlane, hsilent]; rfl, by rw [hlane, hsilent]; rfl, ?_⟩
  unfold abandonReint
  dsimp only
  rw [jget_record_other _ _ _ _ _ _ (by decide), jget_jset_self _ _ _ _ (by decide)]

section Scribe

variable {s : State} {l : LaneId} {c d : Container}

/-- A restarted lane with its container, before its test. -/
def State.scribing (s : State) (l : LaneId) (d : Container) : State :=
  resumeSection ((reopenLane s l).modLane l (fun ln => { ln.load0 d l s.v2serzel with status := .scribe })) l

theorem scribing_keeps (s : State) (l : LaneId) (d : Container) : (s.scribing l d).lane l = { (s.lane l).load0 d l s.v2serzel with status := .scribe } ∧
    (s.scribing l d).vote = s.vote ∧ (s.scribing l d).mode = s.mode ∧
    (s.field.operating = true → ((s.scribing l d).sec l).alive = true ∧ ((s.scribing l d).sec l).alarm = false) := by
  have hlink := reopenLane_linked s l
  have hlane := modLane_lane_self (reopenLane s l) l (fun ln => { ln.load0 d l s.v2serzel with status := .scribe })
  rw [hlink.lane_eq l] at hlane
  unfold State.scribing resumeSection
  split
  · exact ⟨hlane, hlink.vote_eq, hlink.mode_eq, fun _ => by
      rw [State.sec_modSec_self]
      exact ⟨rfl, rfl⟩⟩
  next hop =>
    refine ⟨hlane, hlink.vote_eq, hlink.mode_eq, fun h => absurd (?_ : _ = true) hop⟩
    exact (congrArg FieldDie.operating hlink.field_eq :).trans h

variable (hreint : s.vote.reint = some l) (hstatus : (s.lane l).status = .restarting) (hc : s.config = some c)

include hreint hstatus hc

theorem laneScribeTest_noCopy (sound : Bool) (hcopy : (s.lane l).ownCopy c = none) : laneScribeTest s l sound = abandonReint s l 1 16 := by
  unfold laneScribeTest
  rw [if_pos ⟨hreint, hstatus⟩, hc]
  dsimp only [Option.bind]
  rw [hcopy]

theorem laneScribeTest_barred (sound : Bool) (hcopy : (s.lane l).ownCopy c = some d) (hboot : s.pins.mayBoot d l = false) :
    laneScribeTest s l sound = abandonReint s l 1 16 := by
  unfold laneScribeTest
  rw [if_pos ⟨hreint, hstatus⟩, hc]
  dsimp only [Option.bind]
  rw [hcopy]
  dsimp only
  rw [hboot, if_neg Bool.false_ne_true]

/-- The lane boots and its comparators are tested. -/
theorem laneScribeTest_tested (sound : Bool) (hcopy : (s.lane l).ownCopy c = some d) (hboot : s.pins.mayBoot d l = true) :
    laneScribeTest s l sound =
      (let r := runScribe (s.scribing l d) (if sound then none else (engineUnits d l).head?.map (fun u => (0, u))) (engineUnits d l)
      if r.2.isNone then record r.1 (laneSource l) 3 (leBytes 1 l.num ++ leBytes 1 2 ++ leBytes 1 0) else abandonReint r.1 l 2 16) := by
  unfold laneScribeTest
  rw [if_pos ⟨hreint, hstatus⟩, hc]
  dsimp only [Option.bind]
  rw [hcopy]
  dsimp only
  rw [if_pos hboot]
  rfl

end Scribe

/-! ## The state transfer and the rejoin (Table 03-8 steps 3 to 6) -/

theorem stateTransferBlock_differs {s : State} {l : LaneId} {blk : Nat} {d : Bytes} {a b : Nat} (hreint : s.vote.reint = some l)
    (hstatus : (s.lane l).status = .transferring) (hdue : s.vote.blocksDue.contains blk = true) (hblk : blk < 1281) :
    stateTransferBlock s l blk d a b = if a ≠ b then enterSafe s 8 else if crc32c d ≠ a then abandonReint s l 4 15 else
      { s.modLane l (fun ln => ln.takeBlock blk d) with vote := { s.vote with
        blocksDue := s.vote.blocksDue.filter (fun b => decide (b ≠ blk) && decide (b ≠ blk + resend))
        passEnd := if s.vote.passEnd.isNone && !((s.vote.blocksDue.filter (fun b => decide (b ≠ blk) && decide (b ≠ blk + resend))).any
          (fun b => decide (b < resend))) then s.vote.k else s.vote.passEnd } } := by
  unfold stateTransferBlock
  exact if_pos ⟨hreint, hstatus, .inl hdue, hblk⟩

/-- An emergency message leaves every register but the error register and those of its crossing. -/
theorem jget_emcy_other (s : State) (code b3 b4 i j : Nat) (hj : j < 256) (hi : i ≠ 0x1001) (hx : i ≠ crossingIndex 33) :
    jget (emcy s code b3 b4) i j = jget s i j := by
  have hsend : ∀ (t : State) (w : Wire), jget (transmit t 33 2 w) i j = jget t i j := fun t w =>
    carry_keeps (P := fun u => jget u i j = jget t i j) rfl (fun _ _ hc h => (hc.2 i j hj hx).trans h) (fun _ h => h) (fun _ h => h)
  have hone : ∀ (t : State) (c : CanCtl), jget (sendEmcy t c code b3 b4) i j = jget t i j := by
    intro t c
    unfold sendEmcy
    dsimp only
    split
    · exact hsend t _
    · rfl
  unfold emcy
  dsimp only
  rw [hone, hone, jget_jset_other _ _ _ _ _ _ (regKey_ne hj (by decide) hi)]

/-- A lane active again, with a full commit due. -/
def Lane.rejoined (ln : Lane) : Lane := { ln with status := .active, hold := false, excludedAt := none, glue := { ln.glue with fullDue := true } }

theorem rejoinStep_rejoins {s : State} {l : LaneId} (hreint : s.vote.reint = some l) (hstatus : (s.lane l).status = .shadow)
    (hok : s.vote.shadowOk = 16) (hmode : s.mode = .run2oo2) : (rejoinStep s).mode = .run2oo3 ∧ ((rejoinStep s).lane l).status = .active ∧
      (rejoinStep s).vote.limpNs = none ∧ (rejoinStep s).vote.reint = none ∧ ((rejoinStep s).lane l).glue.fullDue = true ∧
      jget (rejoinStep s) 0x3006 4 = 1 := by
  have hstep : rejoinStep s = emcy (record (jset { (s.modLane l Lane.rejoined).modLanes (fun _ ln => { ln with seenSeq := [] }) with
      mode := .run2oo3, vote := { s.vote with reint := none, limpNs := none, shadowOk := 0, causeAt := [] } } 0x3006 4 1) (laneSource l) 3
      (leBytes 1 l.num ++ leBytes 1 6 ++ leBytes 1 1)) 0 0 0 := by
    unfold rejoinStep
    rw [hreint]
    exact if_pos ⟨hstatus, hok, hmode⟩
  rw [hstep]
  generalize hu : ({ (s.modLane l Lane.rejoined).modLanes (fun _ ln => { ln with seenSeq := [] }) with
      mode := .run2oo3, vote := { s.vote with reint := none, limpNs := none, shadowOk := 0, causeAt := [] } } : State) = u
  have hvote : u.vote.limpNs = none ∧ u.vote.reint = none ∧ u.mode = .run2oo3 := by rw [← hu]; exact ⟨rfl, rfl, rfl⟩
  have hlane : (u.lane l).status = .active ∧ (u.lane l).glue.fullDue = true := by
    rw [← hu]
    cases l <;> exact ⟨rfl, rfl⟩
  obtain ⟨hlimp, hnone, hrun⟩ := hvote
  obtain ⟨hactive, hdue⟩ := hlane
  have htold := State.Told.emcy (record (jset u 0x3006 4 1) (laneSource l) 3 (leBytes 1 l.num ++ leBytes 1 6 ++ leBytes 1 1)) 0 0 0
  have htoldLane : ∀ m, (emcy (record (jset u 0x3006 4 1) (laneSource l) 3 (leBytes 1 l.num ++ leBytes 1 6 ++ leBytes 1 1)) 0 0 0).lane m = u.lane m :=
    fun m => (congrArg (fun x : Tri Lane => x.get m) htold.lanes_eq :).trans (record_lane ..)
  have htoldVote := htold.vote_eq.trans (record_keepsVote ..)
  refine ⟨htold.mode_eq.trans ((record_mode ..).trans hrun), by rw [htoldLane, hactive], by rw [htoldVote]; exact hlimp, by rw [htoldVote]; exact hnone,
    by rw [htoldLane, hdue], ?_⟩
  rw [jget_emcy_other _ _ _ _ _ _ (by decide) (by decide) (by decide), jget_record_other _ _ _ _ _ _ (by decide), jget_jset_self _ _ _ _ (by decide)]

theorem transferStep_completes {s : State} {l : LaneId} {k e : Nat} (hreint : s.vote.reint = some l) (hstatus : (s.lane l).status = .transferring)
    (hend : s.vote.passEnd = some e) :
    (s.vote.blocksDue = [] → (transferStep s k).lane l = { (s.lane l).adopt (s.lane s.lead) with status := .shadow }) ∧
    (s.vote.blocksDue ≠ [] → transferStep s k = if e + 64 < k then abandonReint s l 4 15 else s) := by
  have hstep : transferStep s k = if s.vote.blocksDue.isEmpty then
      { record (s.modLane l (fun ln => { ln.adopt (s.lane s.lead) with status := .shadow })) (laneSource l) 3 (leBytes 1 l.num ++ leBytes 1 5 ++ leBytes 1 0) with
        vote := { (record (s.modLane l (fun ln => { ln.adopt (s.lane s.lead) with status := .shadow })) (laneSource l) 3
          (leBytes 1 l.num ++ leBytes 1 5 ++ leBytes 1 0)).vote with shadowOk := 0, passEnd := none } }
      else if k > e + 64 then abandonReint s l 4 15 else s := by
    unfold transferStep
    rw [hreint]
    dsimp only
    rw [if_pos hstatus, hend]
  rw [hstep]
  refine ⟨fun hdue => ?_, fun hdue => ?_⟩
  · rw [if_pos (List.isEmpty_iff.2 hdue)]
    exact (record_lane ..).trans (modLane_lane_self s l (fun ln => { ln.adopt (s.lane s.lead) with status := .shadow }))
  · rw [if_neg (fun h => hdue (List.isEmpty_iff.1 h))]

/-- Settles O32: each step of Table 03-8 from the state that it needs. -/
theorem laneReintegrates : Obligations.LaneReintegrates := by
  intro s l c
  refine ⟨?_, ?_, fun hmarks => ⟨fun hreint => ?_, fun hreint hstatus => ?_⟩, ?_, fun k e hreint hstatus hend =>
    transferStep_completes hreint hstatus hend, rejoinStep_rejoins⟩
  · intro at_ hat hmode hheld hauto hchange s' hbarred
    obtain ⟨hreint, hlane, hstarts, hothers⟩ := startReint_starts s' l
    refine ⟨_, congrArg Host.Outcome.next (automaticReint_starts hat hmode hheld hauto hchange hbarred), hreint, ?_⟩
    rw [hlane]
    exact ⟨rfl, rfl, rfl, rfl, rfl, rfl, hstarts, hothers⟩
  · intro hreint hstatus hc
    refine ⟨fun sound hcopy => congrArg Host.Outcome.next (laneScribeTest_noCopy hreint hstatus hc sound hcopy), fun d hcopy =>
      ⟨fun sound hboot => congrArg Host.Outcome.next (laneScribeTest_barred hreint hstatus hc sound hcopy hboot), fun hboot => ?_⟩⟩
    obtain ⟨hlane, hvote, hmode, hsec⟩ := scribing_keeps s l d
    have hpass := laneScribeTest_tested hreint hstatus hc true hcopy hboot
    have hfail := laneScribeTest_tested hreint hstatus hc false hcopy hboot
    dsimp only [runScribe] at hpass hfail
    rw [if_pos rfl, firstFailing_sound, if_pos (show (none : Option (Nat × Nat)).isNone = true from rfl)] at hpass
    generalize s.scribing l d = x at hpass hfail hlane hvote hmode hsec
    refine ⟨_, laneScribeTest s l false, congrArg Host.Outcome.next hpass, (record_lane ..).trans hlane, (record_keepsVote ..).trans hvote, (record_mode ..).trans hmode,
      fun hop => ?_, fun hunits => ?_⟩
    · obtain ⟨halive, halarm⟩ := hsec hop
      exact ⟨(congrArg (fun f : FieldDie => (f.sec.get l).alive) (record_keepsField ..) :).trans halive,
        (congrArg (fun f : FieldDie => (f.sec.get l).alarm) (record_keepsField ..) :).trans halarm⟩
    · rw [if_neg Bool.false_ne_true, firstFailing_defect d l hunits, if_neg Bool.false_ne_true] at hfail
      rw [hfail]
      obtain ⟨kreint, kstatus, khold, kreg⟩ := abandonReint_gives { x with
        power := { x.power with latches := testLatches ((engineUnits d l).head?.map (fun u => (0, u))) (engineUnits d l) } } l 2 16
      exact ⟨congrArg Host.Outcome.next hfail, kreint, kstatus, khold, kreg⟩
  · refine congrArg Host.Outcome.next ((if_pos hmarks : timeLock s l = _).trans ?_)
    exact if_neg fun h => hreint h.1
  · have htaken : timeLock s l = record { s.modLane l (fun ln => { ln with time := { ln.time with locked := true }, status := .transferring }) with
        vote := { s.vote with blocksDue := List.range 1281, passEnd := none } } (laneSource l) 3 (leBytes 1 l.num ++ leBytes 1 4 ++ leBytes 1 0) := by
      have hlane := modLane_lane_self s l (fun ln => { ln with time := { ln.time with locked := true } })
      unfold timeLock
      rw [if_pos hmarks]
      dsimp only
      rw [if_pos ⟨hreint, by rw [hlane]; exact hstatus⟩]
      cases l <;> rfl
    generalize List.range 1281 = blocks at htaken ⊢
    refine ⟨_, congrArg Host.Outcome.next htaken, ?_⟩
    have hlane := (record_lane { s.modLane l (fun ln => { ln with time := { ln.time with locked := true }, status := .transferring }) with
        vote := { s.vote with blocksDue := blocks, passEnd := none } } (laneSource l) 3 (leBytes 1 l.num ++ leBytes 1 4 ++ leBytes 1 0) l).trans
      (modLane_lane_self s l (fun ln => { ln with time := { ln.time with locked := true }, status := .transferring }))
    rw [hlane, record_keepsVote]
    exact ⟨rfl, rfl, rfl⟩
  · intro blk d a b hreint hstatus hdue hblk hflow at_
    have harrive : ∀ x y, exec (.stateTransferBlock l blk d x y) s = .next (stateTransferBlock at_ l blk d x y) := fun x y =>
      congrArg Host.Outcome.next (crossing_flows s (7 * l.num + 1) d.length (.stateTransferBlock l blk d x y) hflow)
    have hlanes : at_.lanes = s.lanes := through_lanes ..
    have hvote : at_.vote = s.vote := through_vote ..
    have hblock := fun x y => stateTransferBlock_differs (s := at_) (l := l) (blk := blk) (d := d) (a := x) (b := y)
      ((congrArg Vote.reint hvote).trans hreint) ((congrArg (fun x : Tri Lane => (x.get l).status) hlanes :).trans hstatus)
      (by rw [hvote]; exact hdue) hblk
    refine ⟨fun hne => ?_, fun hcrc => ?_, fun hcrc => ?_⟩
    · rw [harrive, hblock, if_pos hne]
    · rw [harrive, hblock, if_neg (fun h => h rfl), if_pos hcrc]
    · have hblock' := hblock a a
      rw [if_neg (fun h => h rfl), if_neg (fun h => h hcrc)] at hblock'
      refine ⟨_, (harrive a a).trans (congrArg Host.Outcome.next hblock'), ?_, ?_, fun m hm => ?_⟩
      · exact (modLane_lane_self at_ l (fun ln => ln.takeBlock blk d)).trans (congrArg (fun x : Tri Lane => (x.get l).takeBlock blk d) hlanes :)
      · simp
      · exact (modLane_lane_other at_ l m (fun ln => ln.takeBlock blk d) hm).trans (congrArg (fun x : Tri Lane => x.get m) hlanes :)

end Sys2Proof.Machine
end

section
/-! Lane time and outside time (02 R43 to R47, R55 to R61). -/

namespace Sys2Proof.Machine

open Sys2Proof

/-! ## Lane time (02 R43 to R47) -/

theorem advanceTo_locked (s : State) (t : Nat) (l : LaneId) : ((advanceTo s t).lane l).time.locked = (s.lane l).time.locked := by
  cases l <;> rfl

/-- A crossing of a lane's channel operates on every variant. -/
theorem laneChannel_live (s : State) (l : LaneId) : s.crossingLive (7 * l.num + 1) = true := by
  unfold State.crossingLive
  rw [show (crossingDomains (7 * l.num + 1)).contains 9 = false by cases l <;> decide]
  exact Bool.or_true _

section Marks

variable {s : State} {l : LaneId} (hhold : (s.lane l).hold = false)

include hhold

theorem takeMark_steers (node : Nat) (dev : Int) : takeMark s l node dev =
    (let told := s.modLane l (fun ln => Lane.showTime { ln with time := ln.time.mark node s.rateNow dev } ((s.lane l).time.offsetAt node dev))
    if (s.lane l).time.locked && decide (100 < ((s.lane l).time.offsetAt node dev).natAbs) then report told l 10 else told) := by
  unfold takeMark
  rw [if_neg (by rw [hhold]; exact Bool.false_ne_true)]

theorem timeMark_arrives (dev : Int) (hruns : s.domainRuns 4 = true) (hflow : s.flows (7 * l.num + 1)) : timeMark s l dev true =
    takeMark (through (advanceTo s (s.nextMark l)) (7 * l.num + 1) 1) l (advanceTo s (s.nextMark l)).time.now dev := by
  have hflow' : (advanceTo s (s.nextMark l)).flows (7 * l.num + 1) := hflow
  obtain ⟨-, hopen, -⟩ := hflow' (laneChannel_live _ l)
  have hopen' : ((advanceTo s (s.nextMark l)).crossing (7 * l.num + 1)).open_ = true := hopen
  unfold timeMark
  rw [if_neg (by rw [hhold, hruns]; exact Bool.false_ne_true)]
  dsimp only
  rw [if_pos rfl]
  unfold sendMark
  dsimp only
  rw [if_pos hopen']
  exact carry_flows _ _ _ _ _ _ hflow'

theorem timeMark_missed (dev : Int) (hruns : s.domainRuns 4 = true) :
    timeMark s l dev false = advanceTo (advanceTo s (s.nextMark l)) ((advanceTo s (s.nextMark l)).time.now + 1) := by
  unfold timeMark
  rw [if_neg (by rw [hhold, hruns]; exact Bool.false_ne_true)]
  exact if_neg Bool.false_ne_true

theorem missedTimeMarks_reports {m : Nat} (hlast : (s.lane l).time.lastMark = some m) (hlocked : (s.lane l).time.locked = true) :
    missedTimeMarks s l = report ((advanceTo s (m + 500000)).modLane l (fun ln => { ln with time := { ln.time with lastMark := some (m + 500000) } })) l 10 := by
  unfold missedTimeMarks
  rw [hlast]
  dsimp only
  rw [if_pos (by rw [hlocked, hhold]; rfl)]

/-- The lane with its rate deviation shown and its window begun anew. -/
def State.rateShown (s : State) (l : LaneId) : State :=
  s.modLane l (fun ln => { ln.rset 0x4009 1 (wrapTo 32 (rateDeviation ((s.lane l).time.window.take 17))) with
    time := { ln.time with window := ln.time.window.take 1 } })

theorem rateWindowCheck_eq (hwindow : 17 ≤ (s.lane l).time.window.length) : rateWindowCheck s l =
    if 200000 < (rateDeviation ((s.lane l).time.window.take 17)).natAbs then
      raiseEvent (s.rateShown l) (7 * l.num + 3) 2 (.fault l 11) (fun s => takeRate s l)
    else s.rateShown l := by
  unfold rateWindowCheck State.rateShown
  dsimp only
  rw [if_pos ⟨hwindow, by rw [hhold]; rfl⟩]

end Marks

theorem LaneTime.mark_first (x : LaneTime) (node : Nat) (rate dev : Int) (h : x.lastMark = none) :
    (x.mark node rate dev).now = node ∧ (x.mark node rate dev).marks = 1 ∧ (x.mark node rate dev).lastMark = some node := by
  unfold LaneTime.mark LaneTime.now
  rw [h]
  exact ⟨Nat.mul_div_cancel_left node (by decide), rfl, rfl⟩

/-- The judgement 4 ms after the first report. -/
theorem discrepancyJudgement_first {s : State} {r : LaneId × Nat} {rs : List (LaneId × Nat)} (h : s.reports = r :: rs) {first : LaneId × Nat}
    (hfirst : rs.foldl (fun a b => if b.2 < a.2 then b else a) r = first) : discrepancyJudgement s =
      if ((r :: rs).filter (fun x => decide (x.2 ≤ first.2 + 4000000))).length = 1 then exclude (advanceTo s (first.2 + 4000000)) first.1 11
      else junctionTimeFault (advanceTo s (first.2 + 4000000)) := by
  subst hfirst
  unfold discrepancyJudgement
  rw [h]

theorem discrepancyJudgement_alone {s : State} {l : LaneId} {t : Nat} (h : s.reports = [(l, t)]) :
    discrepancyJudgement s = exclude (advanceTo s (t + 4000000)) l 11 :=
  (discrepancyJudgement_first h rfl).trans (if_pos (by simp))

theorem discrepancyJudgement_two {s : State} {l m : LaneId} {t u : Nat} (h : s.reports = [(l, t), (m, u)]) (htu : t ≤ u) (hu : u ≤ t + 4000000) :
    discrepancyJudgement s = junctionTimeFault (advanceTo s (t + 4000000)) :=
  (discrepancyJudgement_first h (first := (l, t)) (if_neg (Nat.not_lt.2 htu))).trans (if_neg (by simp [hu]))

theorem laneTimeFollowsTheMarks : Parts.LaneTimeFollowsTheMarks := by
  intro s l hhold
  refine ⟨?_, fun node rate dev hlast => LaneTime.mark_first _ _ _ _ hlast,
    fun m hlast hlocked => congrArg Host.Outcome.next (missedTimeMarks_reports hhold hlast hlocked), fun hready => report_ready s l 10 1 rfl hready, ?_,
    fun t h => congrArg Host.Outcome.next (discrepancyJudgement_alone h), fun m t u h htu hu => congrArg Host.Outcome.next (discrepancyJudgement_two h htu hu)⟩
  · intro dev hruns u x offset told hflow
    refine ⟨congrArg Host.Outcome.next ?_, congrArg Host.Outcome.next (timeMark_missed hhold dev hruns)⟩
    have hlane : x.lane l = u.lane l := congrArg (fun y : Tri Lane => y.get l) (through_lanes ..)
    have hhold' : (x.lane l).hold = false := by
      obtain ⟨y, hy⟩ := advanceTo_lane s (s.nextMark l) l
      rw [hlane, hy]
      exact hhold
    have hrate : x.rateNow = s.rateNow := by
      unfold State.rateNow
      rw [show x.time = u.time from through_time ..]
      rfl
    have htaken := takeMark_steers hhold' u.time.now dev
    dsimp only at htaken
    rw [hlane, hrate, show (u.lane l).time.locked = (s.lane l).time.locked from advanceTo_locked ..] at htaken
    exact (timeMark_arrives hhold dev hruns hflow).trans htaken
  · intro hwindow dev told
    have heq := rateWindowCheck_eq hhold hwindow
    refine ⟨fun hsmall => congrArg Host.Outcome.next (heq.trans (if_neg (Nat.not_lt.2 hsmall))), fun hlarge hready => ?_⟩
    have hraised : rateWindowCheck s l = takeRate (told.evented (7 * l.num + 3) 2) l :=
      (heq.trans (if_pos hlarge)).trans (raiseEvent_ready told _ _ _ _ hready)
    refine ⟨_, congrArg Host.Outcome.next hraised, ?_, fun m hm => ?_, rfl, rfl⟩
    · refine (modLane_lane_self (told.evented (7 * l.num + 3) 2) l (fun ln =>
        { ln with time := { ln.time with reported := ln.time.reported.orElse (fun _ => some s.time.now) } })).trans ?_
      have htold : (told.lane l).time.reported = (s.lane l).time.reported := (congrArg (fun ln : Lane => ln.time.reported) (modLane_lane_self s l (fun ln =>
        { ln.rset 0x4009 1 (wrapTo 32 (rateDeviation ((s.lane l).time.window.take 17))) with time := { ln.time with window := ln.time.window.take 1 } })) :)
      rw [← htold]
      rfl
    · refine (modLane_lane_other (told.evented (7 * l.num + 3) 2) l m (fun ln =>
        { ln with time := { ln.time with reported := ln.time.reported.orElse (fun _ => some s.time.now) } }) hm).trans ?_
      exact modLane_lane_other s l m (fun ln => { ln.rset 0x4009 1 (wrapTo 32 (rateDeviation ((s.lane l).time.window.take 17))) with
        time := { ln.time with window := ln.time.window.take 1 } }) hm

/-! ## Outside time (02 R55 to R61) -/

/-- Registers and settings from which it follows whether PPS_IN is stamped and what it gives. -/
theorem ppsReference_congr {s t : State} (hreg : ∀ j, j < 256 → jget t 0x4003 j = jget s 0x4003 j) (hcfg : t.cfg = s.cfg) (hpins : t.pins = s.pins) :
    t.timeSource = s.timeSource ∧ t.ppsReference = s.ppsReference := by
  have hsource : t.timeSource = s.timeSource := by
    unfold State.timeSource State.coldstartNode State.config jbool
    rw [hreg 1 (by decide), hcfg, hpins]
  refine ⟨hsource, ?_⟩
  unfold State.ppsReference
  rw [hsource, hreg 2 (by decide)]

theorem State.Crossed.stampsPps_eq {x : Nat} {s t : State} (h : State.Crossed x s t) (hx : x ≤ 41) : t.stampsPps = s.stampsPps := by
  have hsame : t.cfg = s.cfg ∧ t.pins = s.pins := by
    obtain ⟨⟨_, _, _, rfl⟩, -⟩ := h
    exact ⟨rfl, rfl⟩
  unfold State.stampsPps
  rw [h.jbool_other (by decide) (.inr (by decide)) hx,
    (ppsReference_congr (fun j hj => h.jget_other hj (.inr (by decide)) hx) hsame.1 hsame.2).2]

theorem edgeAccepted_iff (s : State) (t : Nat) : s.edgeAccepted t = true ↔ ∀ d, s.time.ppsDue = some d → d ≤ t + 1000000 ∧ t ≤ d + 1000000 := by
  unfold State.edgeAccepted
  cases s.time.ppsDue with
  | none => simp
  | some d => simp

theorem passMissing_inTime {s : State} {t d : Nat} (hdue : s.time.ppsDue = some d) (ht : t ≤ d + 1000000) : passMissing s t = s := by
  unfold passMissing
  rw [hdue]
  exact if_neg (Nat.not_lt.2 ht)

theorem passMissing_one {s : State} {t d : Nat} (hdue : s.time.ppsDue = some d) (hmiss : s.time.ppsMiss + 1 < 3) (hd : d + 1000000 < t)
    (ht : t ≤ d + 1001000000) : passMissing s t =
      { jadd s 0x4021 3 1 with time := { s.time with ppsDue := some (d + 1000000000), ppsMiss := s.time.ppsMiss + 1 } } := by
  have hone : (t - d - 1000001) / 1000000000 + 1 = 1 := by omega
  unfold passMissing
  rw [hdue]
  dsimp only
  rw [if_pos hd, hone]
  unfold edgesMissed
  exact if_neg (Nat.not_le.2 hmiss)

/-- A state at an accepted edge, the next one expected at `due` and the TAI second consumed. -/
def State.edgeTaken (s : State) (due : Nat) : State := { s with time := { s.time with ppsDue := some due, taiSecond := none } }

/-- The same with no expected edge missed. -/
def State.edgeGood (s : State) (due : Nat) : State := { s with time := { s.time with ppsDue := some due, taiSecond := none, ppsMiss := 0 } }

theorem edgeTaken_reference {s u : State} (due : Nat) (hreg : ∀ j, j < 256 → jget u 0x4003 j = jget s 0x4003 j) (hcfg : u.cfg = s.cfg)
    (hpins : u.pins = s.pins) : (u.edgeTaken due).ppsReference = s.ppsReference := (ppsReference_congr (s := s) (t := u.edgeTaken due) hreg hcfg hpins).2

theorem jset_edge_reference (s : State) (v due : Nat) : ((jset s 0x4021 2 v).edgeTaken due).ppsReference = s.ppsReference :=
  edgeTaken_reference due (fun j hj => jget_jset_other s _ _ _ _ _ (regKey_ne hj (by decide) (by decide))) rfl rfl

/-- What an accepted edge does once it is stamped. -/
theorem acceptEdge_eq (s : State) (t : Nat) : acceptEdge s t =
    if s.ppsReference then
      match edgeSecond (jset s 0x4021 2 (ofLe (timeBytes t))) t with
      | some sec => takeSample ((jset s 0x4021 2 (ofLe (timeBytes t))).edgeGood (t + 1000000000)) (sec * 1000000000 - t)
      | none => edgesMissed ((jset s 0x4021 2 (ofLe (timeBytes t))).edgeTaken (t + 1000000000)) 1
    else (jset s 0x4021 2 (ofLe (timeBytes t))).edgeGood (t + 1000000000) := by
  rw [← jset_edge_reference s (ofLe (timeBytes t)) (t + 1000000000)]
  unfold acceptEdge
  generalize jset s 0x4021 2 (ofLe (timeBytes t)) = u
  dsimp only
  cases edgeSecond u t <;> rfl

theorem acceptEdge_free {s : State} (t : Nat) (href : s.ppsReference = false) : acceptEdge s t =
    { jset s 0x4021 2 (ofLe (timeBytes t)) with time := { s.time with ppsDue := some (t + 1000000000), taiSecond := none, ppsMiss := 0 } } := by
  rw [acceptEdge_eq, href, if_neg Bool.false_ne_true]
  generalize ofLe (timeBytes t) = v
  rfl

theorem acceptEdge_second {s : State} (t : Nat) {p : Nat × Nat} (hsource : s.timeSource = true) (href : jget s 0x4003 2 = 2)
    (hsecond : s.time.taiSecond = some p) : acceptEdge s t = takeSample { jset s 0x4021 2 (ofLe (timeBytes t)) with
      time := { s.time with ppsDue := some (t + 1000000000), taiSecond := none, ppsMiss := 0 } } ((p.1 : Int) * 1000000000 - t) := by
  have hphase : s.ppsReference = true := by
    unfold State.ppsReference
    rw [hsource, href]
    rfl
  have hvalue : edgeSecond (jset s 0x4021 2 (ofLe (timeBytes t))) t = some (p.1 : Int) := by
    unfold edgeSecond
    rw [jget_jset_other s _ _ _ _ _ (by decide), href, if_neg (by decide), if_pos rfl,
      show (jset s 0x4021 2 (ofLe (timeBytes t))).time.taiSecond = some p from hsecond]
    rfl
  rw [acceptEdge_eq, hphase, if_pos rfl, hvalue]
  generalize ofLe (timeBytes t) = v
  rfl

theorem jget_advanceTo (s : State) (t i j : Nat) : jget (advanceTo s t) i j = jget s i j := rfl

theorem jbump_advanceTo_jreg (s : State) (t i j : Nat) : (jbump (advanceTo s t) i j).jreg = (jbump s i j).jreg := by
  unfold jbump
  rw [jget_advanceTo]
  unfold jset
  dsimp only
  rw [advanceTo_jreg]

/-- The device at `t` with its TAI second discarded and counted. -/
def State.secondDiscarded (s : State) (t : Nat) : State :=
  { jbump (advanceTo s t) 0x4021 3 with time := { (advanceTo s t).time with taiSecond := none } }

theorem secondDiscarded_keeps (s : State) (t : Nat) : (s.secondDiscarded t).time.taiSecond = none ∧
    (s.secondDiscarded t).jreg = (jbump s 0x4021 3).jreg ∧ (s.secondDiscarded t).time.tai = s.time.tai ∧
    (s.secondDiscarded t).time.samples = s.time.samples :=
  ⟨rfl, jbump_advanceTo_jreg s t 0x4021 3, rfl, rfl⟩

theorem taiSecondDiscard_counts {s : State} {p : Nat × Nat} (h : s.time.taiSecond = some p) :
    taiSecondDiscard s = s.secondDiscarded (p.2 + 2000000000) := by
  unfold taiSecondDiscard
  rw [h]
  unfold State.secondDiscarded
  dsimp only
  rw [jbump_time]

theorem taiValues_advanceTo (s : State) (t : Nat) : (advanceTo s t).taiValues = s.taiValues := rfl

theorem leapSecondApplied_inserts {s : State} (h : jget s 0x4002 2 = 1) {at_ : Nat} (hat : ((s.time.now : Int) + (86400000000000 -
      (s.taiNow - signedOf 16 (jget s 0x4002 1) * 1000000000) % 86400000000000) + 1000000000).toNat = at_) : leapSecondApplied s =
    recordTai (jset (jset (advanceTo s at_) 0x4002 1 (wrapTo 16 (signedOf 16 (jget s 0x4002 1) + 1))) 0x4002 2 0) s.taiValues := by
  unfold leapSecondApplied
  dsimp only
  rw [if_pos (.inl h), if_pos h, if_pos h, hat, taiValues_advanceTo]

theorem outsideTimeIsTaken : Parts.OutsideTimeIsTaken := by
  intro s
  refine ⟨fun hstamps hflow t => ?_, fun t => ⟨edgeAccepted_iff s t, fun hdue => ?_, fun d hdue ht => passMissing_inTime hdue ht,
    fun d hdue hmiss hd ht => passMissing_one hdue hmiss hd ht⟩, fun t href => acceptEdge_free t href,
    fun t p hsource href hsecond => acceptEdge_second t hsource href hsecond, fun d hdue hstamps => ?_, fun n hn href => ?_, fun p hsecond => ?_,
    fun t hlost => ?_, ?_⟩
  · have harrive : crossing s 22 16 (.ppsInEdge t) = ppsInEdge (through s 22 (entriesOf 22 16)) t := crossing_flows s 22 16 _ hflow
    have hstamps' : (through s 22 (entriesOf 22 16)).stampsPps = true := ((State.Crossed.through s 22 _).stampsPps_eq (by decide)).trans hstamps
    exact congrArg Host.Outcome.next (harrive.trans (if_pos hstamps'))
  · unfold passMissing
    rw [hdue]
  · refine congrArg Host.Outcome.next (?_ : ppsInEdgeMissing s = _)
    unfold ppsInEdgeMissing
    rw [hdue]
    exact if_pos hstamps
  · unfold edgesMissed
    rw [if_pos hn, if_pos href]
    exact ⟨rfl, rfl, rfl, fun hlocked => if_pos hlocked⟩
  · exact ⟨_, congrArg Host.Outcome.next (taiSecondDiscard_counts hsecond), secondDiscarded_keeps s _⟩
  · refine congrArg Host.Outcome.next (?_ : correctionInvalidated s = _)
    unfold correctionInvalidated
    rw [hlost]
  · intro hleap off day at_
    exact congrArg Host.Outcome.next (leapSecondApplied_inserts hleap rfl)

end Sys2Proof.Machine
end

section
/-! The PTP ports (02 R49, R52 to R54). -/

namespace Sys2Proof.Machine

open Sys2Proof

/-! ## The best master clock decision (02 R53) -/

theorem ptpBetter_priority1 (d e : PtpDataset) (h : d.priority1 < e.priority1) : ptpBetter d e = true ∧ ptpBetter e d = false := by
  have hne : ¬ e.priority1 < d.priority1 := by omega
  have hneq : ¬ e.priority1 = d.priority1 := by omega
  unfold ptpBetter ptpRanks ranksBefore
  simp [h, hne, hneq]

/-! ## Messages that arrive (02 R52) -/

@[simp] theorem ptp_modPtp (s : State) (p : EcnPort) (f : PtpPort → PtpPort) : (s.modPtp p f).ptp p = f (s.ptp p) := by
  cases p <;> rfl

theorem modPtp_keeps (s : State) (p : EcnPort) (f : PtpPort → PtpPort) : (s.modPtp p f).jreg = s.jreg ∧ (s.modPtp p f).time = s.time ∧
    (s.modPtp p f).ecn0 = s.ecn0 ∧ (s.modPtp p f).ecn1 = s.ecn1 := by
  cases p <;> exact ⟨rfl, rfl, rfl, rfl⟩

theorem ptpIndex_far (p : EcnPort) : 0x4180 ≤ ptpIndex p := by
  unfold ptpIndex
  omega

section Arrival

variable {s : State} {p : EcnPort} (hon : s.ptpOn p = true)

include hon

theorem ptpOn_up : s.ecnUp p.num = true ∧ ptpGet s p 1 ≠ 0 := by
  unfold State.ptpOn at hon
  rw [Bool.and_eq_true, decide_eq_true_eq] at hon
  exact hon

/-- The state in which a message that has crossed is counted. -/
def State.ptpHeardAt (s : State) (p : EcnPort) (t : Nat) : State := jbump (advanceTo (through s 32 (entriesOf 32 64)) t) (ecnIndex p.num) 9

omit hon in
/-- Crossing and counting leave the settings of the port. -/
theorem ptpGet_heardAt (s : State) (p : EcnPort) (t sub : Nat) (hsub : sub < 256) : ptpGet (s.ptpHeardAt p t) p sub = ptpGet s p sub := by
  have hfar := ptpIndex_far p
  have hport : ptpIndex p ≠ ecnIndex p.num := by
    unfold ptpIndex ecnIndex
    omega
  unfold ptpGet State.ptpHeardAt
  rw [jget_jbump_other _ _ _ _ _ (regKey_ne hsub (by decide) hport)]
  exact (State.Crossed.through s 32 _).jget_other hsub (.inr (by omega)) (by decide)

theorem ptpMessage_heard (m : PtpMsg) (t : Nat) (hflow : s.flows 32) : crossing s 32 64 (.ptpMessage p m t) =
    if ptpUnsupported m then jbump (s.ptpHeardAt p t) (ptpIndex p) 14
    else if m.domain ≠ ptpGet s p 5 ∨ m.transport ≠ ptpGet s p 4 then s.ptpHeardAt p t
    else if ptpGet s p 1 = 1 then ptpExport (s.ptpHeardAt p t) p m t else ptpMonitor (s.ptpHeardAt p t) p m t := by
  obtain ⟨hup, hmode⟩ := ptpOn_up hon
  have harrive : crossing s 32 64 (.ptpMessage p m t) = ptpMessage (through s 32 (entriesOf 32 64)) p m t := crossing_flows s 32 64 _ hflow
  have hup' : (through s 32 (entriesOf 32 64)).ecnUp p.num = true :=
    ((State.Crossed.through s 32 _).ecnUp_eq (by decide) _ (by cases p <;> decide)).trans hup
  have hmode' : ¬ ptpGet (s.ptpHeardAt p t) p 1 = 0 := by
    rw [ptpGet_heardAt s p t 1 (by decide)]
    exact hmode
  rw [harrive, ← ptpGet_heardAt s p t 5 (by decide), ← ptpGet_heardAt s p t 4 (by decide), ← ptpGet_heardAt s p t 1 (by decide)]
  unfold ptpMessage
  exact (if_pos hup').trans (if_neg hmode')

end Arrival

/-! ## Export and monitor (02 R53, R54) -/

theorem ptpExport_announce {s : State} {p : EcnPort} {m : PtpMsg} (t : Nat) {d : PtpDataset} (hm : m.kind = .announce d) (hstate : ptpGet s p 13 = 6) :
    ptpExport s p m t = if ptpBetter d (ptpDataset s p) then
      record (ptpState (s.modPtp p (fun x => { x with master := some m.source, data := some d })) p 7) 6 25 (leBytes 1 p.num ++ leBytes 1 7) else s := by
  unfold ptpExport
  rw [hm]
  dsimp only
  unfold ptpHeard
  dsimp only
  by_cases hbetter : ptpBetter d (ptpDataset s p) = true
  · rw [if_pos ⟨hstate, hbetter⟩, if_pos hbetter]
  · rw [if_neg (fun h => hbetter h.2), if_neg (by rw [hstate]; exact fun h => absurd h.1 (by decide)), if_neg hbetter]

theorem ptpExport_delayReq {s : State} {p : EcnPort} {m : PtpMsg} (t : Nat) {n : Nat} (hm : m.kind = .delayReq n) (hstate : ptpGet s p 13 = 6)
    (hmech : ptpGet s p 3 = 1) : ptpExport s p m t = ptpSend s p (.delayResp n (ptpArrival s p t)) := by
  unfold ptpExport
  rw [hm]
  exact if_pos ⟨hstate, hmech⟩

theorem ptpMonitor_follows {s : State} {p : EcnPort} {m : PtpMsg} (t : Nat) {d : PtpDataset} (hm : m.kind = .announce d) (hmaster : (s.ptp p).master = none)
    (hdata : (s.ptp p).data = none) : ∃ u, ptpMonitor s p m t = u ∧ (u.ptp p).master = some m.source ∧ (u.ptp p).data = some d ∧
      jget u (ptpIndex p) 13 = 9 ∧ u.time = s.time := by
  have hfollow : ptpMonitor s p m t = ptpState (s.modPtp p (fun x =>
      { PtpPort.blank with seq := x.seq, sampleAt := x.sampleAt, master := some m.source, data := some d })) p 9 := by
    unfold ptpMonitor
    rw [hm]
    dsimp only
    unfold ptpFollow
    dsimp only
    rw [hmaster, hdata, if_neg (by simp)]
    exact if_pos rfl
  have hport := ptp_modPtp s p (fun x => { PtpPort.blank with seq := x.seq, sampleAt := x.sampleAt, master := some m.source, data := some d })
  refine ⟨_, hfollow, (congrArg PtpPort.master hport :), (congrArg PtpPort.data hport :), ?_, (modPtp_keeps ..).2.1⟩
  exact jget_jset_self _ _ _ _ (by cases p <;> decide)

theorem ptpMonitor_peer {s : State} {p : EcnPort} {m : PtpMsg} (t : Nat) {n : Nat} {t1 v : Int} (hreq : (s.ptp p).reqT = some (n, t1))
    (hmech : ptpGet s p 3 = 2) :
    (m.kind = .pdelayResp n false v → ptpMonitor s p m t = peerDelay s p ((ptpArrival s p t - t1 - v) / 2)) ∧
    (∀ t2 t4, (s.ptp p).respT = some (t2, t4) → m.kind = .pdelayRespFollowUp n v →
      ptpMonitor s p m t = peerDelay s p (((t4 - t1) - (v - t2)) / 2)) := by
  refine ⟨fun hm => ?_, fun t2 t4 hresp hm => ?_⟩
  · unfold ptpMonitor
    rw [hm]
    dsimp only
    rw [hreq]
    exact (if_pos ⟨rfl, hmech⟩).trans (if_neg Bool.false_ne_true)
  · unfold ptpMonitor
    rw [hm]
    dsimp only
    rw [hreq, hresp]
    exact if_pos rfl

/-! ## Intervals (02 R53, R54) -/

theorem ptpOn_guard {s : State} {p : EcnPort} (hon : s.ptpOn p = true) (hmode : ptpGet s p 1 = 1) (hstate : ptpGet s p 13 = 6) :
    (s.ptpOn p && decide (ptpGet s p 1 = 1) && decide (ptpGet s p 13 = 6)) = true := by
  rw [hon, hmode, hstate]
  rfl

theorem ptpSyncInterval_announce {s : State} {p : EcnPort} (hon : s.ptpOn p = true) (hmode : ptpGet s p 1 = 1) (hstate : ptpGet s p 13 = 6)
    (hat : (s.ptp p).announceAt = none) : ptpSyncInterval s p true =
      ecnSend (s.modPtp p (fun x => { x with announceAt := some s.time.now })) p.num 2 (ptpFrameLen s p 64) (decide (ptpGet s p 4 = 1))
        (.ptpAnnounce p (ptpDataset s p) (ptpQuality s p).2 (signedOf 16 (jget s 0x4002 1)) s.time.utcValid) := by
  unfold ptpSyncInterval
  rw [if_pos (ptpOn_guard hon hmode hstate), if_pos rfl, hat]
  dsimp only [Option.elim]
  rw [advanceTo_past s 0 (Nat.zero_le _)]
  cases p <;> rfl

theorem ptpSyncInterval_sync {s : State} {p : EcnPort} (hon : s.ptpOn p = true) (hmode : ptpGet s p 1 = 1) (hstate : ptpGet s p 13 = 6)
    (hat : (s.ptp p).syncAt = none) (hstep : ptpGet s p 2 = 1) : ptpSyncInterval s p false =
      ptpSend (s.modPtp p (fun x => { x with syncAt := some s.time.now, seq := (x.seq + 1) % 65536 })) p
        (.sync (((s.ptp p).seq + 1) % 65536) (some (ptpDeparture s p))) := by
  unfold ptpSyncInterval
  rw [if_pos (ptpOn_guard hon hmode hstate), if_neg Bool.false_ne_true, hat]
  dsimp only [Option.elim]
  rw [advanceTo_past s 0 (Nat.zero_le _)]
  cases p <;> exact if_pos hstep

theorem ptpMonitorSample_records {s : State} {p : EcnPort} (hon : s.ptpOn p = true) (hmode : ptpGet s p 1 = 2) (hsource : s.timeSource = false)
    {at_ : Nat} (hat : (s.ptp p).sampleAt.elim 0 (fun t => t + 1000000000) = at_) :
    ptpMonitorSample s p = record ((advanceTo s at_).modPtp p (fun x => { x with sampleAt := some (advanceTo s at_).time.now }))
        6 9 (leBytes 1 p.num ++ leBytes 8 (ptpGet s p 11) ++ leBytes 8 (ptpGet s p 12)) := by
  unfold ptpMonitorSample
  rw [if_pos (by rw [hon, hmode, hsource]; rfl), hat]
  cases p <;> rfl

theorem ptpPortsServeTheirModes : Parts.PtpPortsServeTheirModes := by
  intro s p hon
  refine ⟨fun m t hflow => ?_, fun m t => ⟨fun d hm hstate => ptpExport_announce t hm hstate, fun n hm hstate hmech => ptpExport_delayReq t hm hstate hmech,
    fun d hm hmaster hdata => ptpMonitor_follows t hm hmaster hdata, fun n t1 v hreq hmech => ptpMonitor_peer t hreq hmech⟩, ptpBetter_priority1,
    fun hmode hstate hsync hann => ?_, fun hmode hstate => ?_, fun hmode hsource => ?_⟩
  · intro u
    have hheard := ptpMessage_heard hon m t hflow
    refine ⟨fun h => congrArg Host.Outcome.next (hheard.trans (if_pos h)), fun h hdomain htransport => congrArg Host.Outcome.next (hheard.trans ?_),
      fun h hother => congrArg Host.Outcome.next (hheard.trans ?_)⟩
    · rw [h, if_neg Bool.false_ne_true, if_neg (fun h => h.elim (fun h => h hdomain) (fun h => h htransport))]
      rfl
    · rw [h, if_neg Bool.false_ne_true, if_pos hother]
      rfl
  · rw [advanceTo_past s 0 (Nat.zero_le _)]
    exact ⟨congrArg Host.Outcome.next (ptpSyncInterval_announce hon hmode hstate hann),
      fun hstep => congrArg Host.Outcome.next (ptpSyncInterval_sync hon hmode hstate hsync hstep)⟩
  · exact congrArg Host.Outcome.next ((if_pos hon : foreignMasterDisappears s p = _).trans ((if_pos hmode).trans (if_pos hstate)))
  · exact congrArg Host.Outcome.next (ptpMonitorSample_records hon hmode hsource rfl)

/-- Settles O34: marks steer their lane, edges of PPS_IN are counted and stamped, PTP messages are judged behind their crossing. -/
theorem laneAndOutsideTime : Obligations.LaneAndOutsideTime := ⟨laneTimeFollowsTheMarks, outsideTimeIsTaken, ptpPortsServeTheirModes⟩

end Sys2Proof.Machine
end

section
/-! Compares, user events and pulses (02 R37 to R41, R60, R245). -/

namespace Sys2Proof.Machine

open Sys2Proof

/-! ## Epoch compares and pulses (02 R37, R60) -/

theorem epochCompareArming_closes {s : State} {n : Fin 4} {x : Compare} (hx : s.time.ec[n.val]? = some x) (hstate : x.state = 1)
    (hclose : x.close = false) : epochCompareArming s n = setEc (advanceTo s ((x.sec - 1) * 1000000000)) n.val { x with close := true } := by
  unfold epochCompareArming
  rw [hx]
  exact if_pos ⟨hstate, by rw [hclose]; rfl⟩

theorem epochCompareFire_fires {s : State} {n : Nat} {x : Compare} (hx : s.time.ec[n]? = some x) (hstate : x.state = 1) (hclose : x.close = true)
    (hfree : n = 3 → s.ppsSecond = false) (hearly : s.firedEarly (.epoch n) = false) {t : Nat}
    (ht : Nat.max s.time.now (x.sec * 1000000000 + x.ns) = t) (halone : s.nothingDue t 8 n) :
    epochCompareFire s n = raiseTrigger (setEc (advanceTo s t) n { x with state := 2 }) x.id := by
  have hnot : ¬(n = 3 ∧ s.ppsSecond = true) := fun ⟨h3, hpps⟩ => Bool.false_ne_true ((hfree h3).symm.trans hpps)
  have hat : s.ecAt n = some t := by
    unfold State.ecAt
    rw [if_neg hnot, hx]
    dsimp only
    rw [if_pos ⟨hstate, hclose⟩, ht]
  have hx' : (advanceTo s t).time.ec[n]? = some x := hx
  have hpast : x.sec * 1000000000 + x.ns ≤ (advanceTo s t).time.now := by
    rw [advanceTo_now]
    exact Nat.le_trans (Nat.le_max_right _ _) (Nat.le_trans (Nat.le_of_eq ht) (Nat.le_max_right _ _))
  rw [epochCompareFire_alone s n t hearly hat halone]
  unfold epochCompareDue
  rw [if_neg (show ¬(n = 3 ∧ (advanceTo s t).ppsSecond = true) from hnot), hx']
  dsimp only
  rw [if_pos ⟨hstate, hclose⟩, advanceTo_past _ _ hpast]

/-- At a second-aligned instant the next one is that instant. -/
theorem nextSecond_there (s : State) (h : s.time.now ≤ s.nextSecond) : (advanceTo s s.nextSecond).nextSecond = s.nextSecond := by
  have hnow : (advanceTo s s.nextSecond).time.now = s.nextSecond := (advanceTo_now _ _).trans (Nat.max_eq_right h)
  have hgrid : ∀ (now : Nat) (start b : Nat), now ≤ gridFrom (Nat.max now start) b 1000000000 →
      gridFrom (Nat.max (gridFrom (Nat.max now start) b 1000000000) start) b 1000000000 = gridFrom (Nat.max now start) b 1000000000 := by
    intro now start b hle
    refine gridFrom_between _ _ _ _ (Nat.max_le.2 ⟨Nat.le_trans hle (Nat.le_max_left _ _), Nat.le_max_right _ _⟩) fun hp => ?_
    exact Nat.max_le.2 ⟨Nat.le_refl _, Nat.le_trans (Nat.le_max_right _ _) (le_gridFrom _ _ _ hp)⟩
  have heq : ∀ m, (advanceTo s m).nextSecond = gridFrom (Nat.max (advanceTo s m).time.now (s.time.ppsStart.elim 0 (fun t => t + 1)))
      (1000000000 - if jget s 0x4020 4 = 1 then (s.time.tai % 1000000000).toNat else 0) 1000000000 := fun m => rfl
  rw [heq, hnow]
  exact hgrid _ _ _ h

theorem epochCompareFire_pulse {s : State} (hpps : s.ppsSecond = true) (hearly : s.firedEarly (.epoch 3) = false) (halone : s.nothingDue s.nextSecond 8 3)
    (hle : s.time.now ≤ s.nextSecond) : epochCompareFire s 3 = startPulse (advanceTo s s.nextSecond) := by
  have hat : s.ecAt 3 = some s.nextSecond := if_pos ⟨rfl, hpps⟩
  have hpast : s.nextSecond ≤ (advanceTo s s.nextSecond).time.now := by
    rw [advanceTo_now]
    exact Nat.le_max_right _ _
  rw [epochCompareFire_alone s 3 s.nextSecond hearly hat halone]
  unfold epochCompareDue
  rw [if_pos ⟨rfl, show (advanceTo s s.nextSecond).ppsSecond = true from hpps⟩, nextSecond_there s hle, advanceTo_past _ _ hpast]

/-! ## Entries (02 R41, R245) -/

/-- The command of an entry that is the first due at its instant comes to it. -/
theorem entryCommand_comes {s : State} {i act : Nat} {e : CutEntry} (f : State → State) (hcut : s.cut i = some e) (hact : CutEntry.act e = act)
    (hearly : s.firedEarly (.entry i) = false) (hfirst : ∀ j, j < i → (s.comesTo i e).due (s.firing i e 0) j = false) :
    entryCommand s i act f = f (s.comesTo i e) := by
  unfold entryCommand
  rw [once_first s _ _ hearly, hcut]
  dsimp only
  rw [if_pos hact]
  refine (congrArg (fun t => once t (.entry i) f) (fireBefore_none (s.comesTo i e) _ _ hfirst)).trans ?_
  exact once_first _ _ _ (firedEarly_advanceTo _ _ _ hearly)

theorem entryCommand_bad {s : State} {i act : Nat} {e : CutEntry} (f : State → CutEntry → State) (hcut : s.cut i = some e) (hact : CutEntry.act e = act)
    (hcheck : e.w3 ≠ cutCheck e i) (hearly : s.firedEarly (.entry i) = false)
    (hfirst : ∀ j, j < i → (s.comesTo i e).due (s.firing i e 0) j = false) :
    entryCommand s i act (fun s => atEntry s i act f) = cutFault (s.comesTo i e) :=
  (entryCommand_comes _ hcut hact hearly hfirst).trans (atEntry_bad (s.comesTo i e) i act e f hcut hact hcheck)

theorem raiseTrigger_flows (s : State) (id : Nat) (h : s.flows 22) : raiseTrigger s id = takeTrigger (through s 22 1) id := carry_flows _ _ _ _ _ _ h

/-- Settles O35: a compare that comes alone fires at its target; an armed entry fires at its instant. -/
theorem comparesFireAtTheirTargets : Obligations.ComparesFireAtTheirTargets := by
  intro s
  refine ⟨fun n x hx hstate => ⟨fun hclose => congrArg Host.Outcome.next (epochCompareArming_closes hx hstate hclose), fun hclose hfree hearly => ?_⟩,
    fun hpps hearly halone hle => ?_, fun n x hx hstate hearly => ?_, fun i e harmed => congrArg Host.Outcome.next (entryCommand_fires s i 9 e _ harmed),
    fun id hflow => ?_, fun i e harmed => congrArg Host.Outcome.next (entryCommand_fires s i 10 e _ harmed),
    fun i act e hcut hact hcheck hearly hfirst => ⟨?_, ?_⟩, fun hz => if_neg hz, fun t ht => ?_⟩
  · intro t halone
    exact congrArg Host.Outcome.next (epochCompareFire_fires hx hstate hclose (fun h => hfree (Fin.ext h)) hearly rfl halone)
  · have hpulse := epochCompareFire_pulse hpps hearly halone hle
    exact ⟨congrArg Host.Outcome.next hpulse, congrArg Host.Outcome.next ((if_pos hpps : ppsOut s none = _).trans hpulse)⟩
  · intro t halone
    exact congrArg Host.Outcome.next (directCompareFire_armed s n.val x hx hstate hearly halone)
  · refine ⟨_, raiseTrigger_flows s id hflow, ?_, through_time .., through_lanes .., through_mode ..⟩
    exact congrArg (fun b : Batch => { b with triggers := b.triggers ++ [id] }) (through_batchIn s 22 1)
  · rintro rfl
    exact congrArg Host.Outcome.next (entryCommand_bad _ hcut hact hcheck hearly hfirst)
  · rintro rfl
    exact congrArg Host.Outcome.next (entryCommand_bad _ hcut hact hcheck hearly hfirst)
  · refine congrArg Host.Outcome.next (?_ : ppsOutPulseEnd s = _)
    unfold ppsOutPulseEnd
    rw [ht]

end Sys2Proof.Machine
end

section
/-! The entries of the ring in the cutting list (chapters 09 and 10). -/

namespace Sys2Proof.Machine

open Sys2Proof

/-! ## Transmit slots (09 R254, R262) -/

theorem slotDeadline_locks {s : State} {i : Nat} {e : CutEntry} (hcut : s.cut i = some e) (hact : CutEntry.act e = 6) :
    slotDeadline s i = (advanceTo s (s.firing i e 4000 - 4000)).modTx (CutEntry.tgt e) (TxCtx.lock i) := by
  unfold slotDeadline
  rw [hcut]
  exact if_pos hact

theorem frameLeftPort_unlocks {s : State} {i : Nat} {e : CutEntry} (hcut : s.cut i = some e) (hact : CutEntry.act e = 6) :
    frameLeftPort s i = s.modTx (CutEntry.tgt e) (TxCtx.unlock i) := by
  unfold frameLeftPort
  rw [hcut]
  exact if_pos hact

/-- The payload that a slot has to send: none outside the safe state with no buffer locked. -/
def slotPayload (s : State) (i : Nat) (e : CutEntry) : Option Bytes :=
  if s.mode = .safe then some []
  else (Store.find? (s.txOf (CutEntry.tgt e)).locked i).map (fun b => withCvu s 0 (CutEntry.tgt e) b.data)

/-- A slot with a payload, at its instant. -/
def sendSlot (s : State) (i : Nat) (e : CutEntry) (d : Bytes) : State :=
  if !s.transmits || ((s.port .east).wrapped && (s.port .west).wrapped) then emptySlot s (CutEntry.tgt e)
  else if s.contends .east s.time.now (if s.v2ring then Nat.max 30 d.length else d.length) then
    emptySlot (jbump s (portIndex (s.egress .east)) 8) (CutEntry.tgt e)
  else sendFlow s i e d

theorem ringSlotDue_eq (s : State) (i : Nat) :
    ringSlotDue s i = atEntry s i 6 (fun s e => (slotPayload s i e).elim (emptySlot s (CutEntry.tgt e)) (sendSlot s i e)) := by
  unfold ringSlotDue
  congr 1
  funext s e
  dsimp only
  have hp : (if s.mode = .safe then some [] else (Store.find? (s.txOf (CutEntry.tgt e)).locked i).map fun b => withCvu s 0 (CutEntry.tgt e) b.data) =
    slotPayload s i e := rfl
  rw [hp]
  cases slotPayload s i e <;> rfl

theorem ringTransmitSlot_fires {s : State} {i : Nat} {e : CutEntry} (h : s.armed i 6 e) :
    ringTransmitSlot s i = (slotPayload (s.fires i e) i e).elim (emptySlot (s.fires i e) (CutEntry.tgt e)) (sendSlot (s.fires i e) i e) := by
  unfold ringTransmitSlot
  rw [show (fun s => ringSlotDue s i) = _ from funext fun s => ringSlotDue_eq s i]
  exact entryCommand_fires s i 6 e _ h

theorem slotPayload_none {s : State} {i : Nat} {e : CutEntry} (hmode : s.mode ≠ .safe)
    (hnone : Store.find? (s.txOf (CutEntry.tgt e)).locked i = none) : slotPayload s i e = none := by
  unfold slotPayload
  rw [if_neg hmode, hnone]
  rfl

theorem slotPayload_some {s : State} {i : Nat} {e : CutEntry} {d : Bytes}
    (h : (s.mode = .safe ∧ d = []) ∨ (s.mode ≠ .safe ∧ ∃ b, Store.find? (s.txOf (CutEntry.tgt e)).locked i = some b ∧
      d = withCvu s 0 (CutEntry.tgt e) b.data)) : slotPayload s i e = some d := by
  unfold slotPayload
  obtain ⟨hmode, rfl⟩ | ⟨hmode, b, hb, rfl⟩ := h
  · exact if_pos hmode
  · rw [if_neg hmode, hb]
    rfl

theorem fires_txOf (s : State) (i : Nat) (e : CutEntry) (id : Nat) : (s.fires i e).txOf id = s.txOf id := rfl

theorem sendSlot_eq (s : State) (i : Nat) (e : CutEntry) (d : Bytes) :
    sendSlot s i e d = if !(s.transmits && !((s.port .east).wrapped && (s.port .west).wrapped)) then emptySlot s (CutEntry.tgt e)
      else if s.contends .east s.time.now (if s.v2ring then Nat.max 30 d.length else d.length) then
        emptySlot (jbump s (portIndex (s.egress .east)) 8) (CutEntry.tgt e)
      else sendFlow s i e d := by
  unfold sendSlot
  rw [Bool.not_and, Bool.not_not]

/-! ## Receive windows (09 R256 to R258) -/

theorem modRx_congr (s : State) (id : Nat) (f g : RxCtx → RxCtx) (h : f (s.rxOf id) = g (s.rxOf id)) : s.modRx id f = s.modRx id g := by
  exact congrArg (fun x => s.modRing fun r => { r with rx := Store.insert s.ring.rx id x }) h

theorem closeWindow_shut {s : State} {id : Nat} (h : (s.rxOf id).opened = none) : closeWindow s id = s := by
  unfold closeWindow
  dsimp only
  rw [h]

/-- A receive context whose window has ended without a frame. -/
def RxCtx.missed (x : RxCtx) : RxCtx :=
  { x with opened := none, taken := false, held := none, west := none, windows := x.windows + 1, after := x.after + 1 }

/-- A receive context whose window has ended with the frame `f`. -/
def RxCtx.delivered (f : RFrame) (x : RxCtx) : RxCtx :=
  { x with opened := none, taken := false, held := none, west := none, windows := x.windows + 1, frame := some f, after := 0 }

theorem closeWindow_missed {s : State} {id : Nat} {w : Nat × Nat} (hopen : (s.rxOf id).opened = some w) (hheld : (s.rxOf id).held = none) :
    closeWindow s id = (jbump (advanceTo s w.2) (flowIndex id) 7).modRx id RxCtx.missed := by
  unfold closeWindow
  simp only [hopen, hheld, Option.isSome_none, Bool.false_and, Bool.false_eq_true, if_false]
  refine modRx_congr _ _ _ _ ?_
  have hx : (jbump (advanceTo s w.2) (flowIndex id) 7).rxOf id = s.rxOf id := rfl
  rw [hx, hheld]
  rfl

theorem closeWindow_delivered {s : State} {id : Nat} {w : Nat × Nat} {f : RFrame} (hopen : (s.rxOf id).opened = some w)
    (hheld : (s.rxOf id).held = some f) :
    closeWindow s id =
      (if (s.rxOf id).frame.isSome then jbump (advanceTo s w.2) (flowIndex id) 18 else advanceTo s w.2).modRx id (RxCtx.delivered f) := by
  unfold closeWindow
  simp only [hopen, hheld, Option.isSome_some, Bool.true_and, if_true]
  refine modRx_congr _ _ _ _ ?_
  have hx : (if (s.rxOf id).frame.isSome then jbump (advanceTo s w.2) (flowIndex id) 18 else advanceTo s w.2).rxOf id = s.rxOf id := by split <;> rfl
  rw [hx, hheld]
  rfl

theorem rxWindowEnds_closes {s : State} {i : Nat} {e : CutEntry} (hcut : s.cut i = some e) (hact : CutEntry.act e = 7) :
    rxWindowEnds s i = closeWindow s (CutEntry.tgt e) := by
  unfold rxWindowEnds
  rw [hcut]
  exact if_pos hact

/-! ## Sync slots and windows (10 R269, R277, R278) -/

theorem syncWindowEnds_closes {s : State} {i : Nat} {e : CutEntry} (hcut : s.cut i = some e) (hact : CutEntry.act e = 13) {w : Nat × Nat × Bool}
    (hw : Store.find? s.ring.windows (CutEntry.tgt e) = some w) :
    syncWindowEnds s i = (advanceTo s w.2.1).modRing (fun r => { r with windows := Store.erase r.windows (CutEntry.tgt e) }) := by
  unfold syncWindowEnds
  rw [hcut]
  dsimp only
  rw [if_pos hact, hw]

/-- A sync frame that a node in ACTIVE sends, noted as its own. -/
def noteOwn (s : State) (f : RFrame) (r : State × Bool) : State :=
  if r.2 then r.1.modRing (fun x => { x with seen := x.seen.filter (fun y => decide (y.node ≠ f.sender)) ++ [seenOf s f s.time.now (some 0)] }) else r.1

theorem noteOwn_sendSync {s : State} (f : RFrame) (hport : ((s.port .east).wrapped && (s.port .west).wrapped) = false) :
    noteOwn s f (sendSync s f) = if s.contends .east s.time.now f.len then jbump s (portIndex (s.egress .east)) 8
      else (sendVia (occupy s .east s.time.now f.len) .east f s.time.now).modRing (fun x =>
        { x with seen := x.seen.filter (fun y => decide (y.node ≠ f.sender)) ++ [seenOf s f s.time.now (some 0)] }) := by
  unfold sendSync
  rw [if_neg (by rw [hport]; exact Bool.false_ne_true)]
  split <;> rfl

/-- The sync frame of entry `i` in a running state. -/
def ownSync (s : State) (i : Nat) (e : CutEntry) : RFrame :=
  ringFrame s 1 ((if CutEntry.sync e then 1 else 0) + (if CutEntry.cstart e then 2 else 0) + (if s.mode = .safe then 16 else 0)) i 65535 0
    (s.time.now + 64) (syncPayload s)

theorem ownSync_sender (s : State) (i : Nat) (e : CutEntry) : (ownSync s i e).sender = s.pins.node := rfl

theorem syncSlot_fires {s : State} {i : Nat} {e : CutEntry} (h : s.armed i 12 e) (hstate : s.ring.state = .active) :
    syncSlot s i = noteOwn (s.fires i e) (ownSync (s.fires i e) i e) (sendSync (s.fires i e) (ownSync (s.fires i e) i e)) := by
  have hring : (s.fires i e).ring.state = .active := hstate
  refine (entryCommand_fires s i 12 e _ h).trans ?_
  dsimp only
  rw [hring, if_neg (by decide), if_pos (by unfold State.transmits; rw [hring]; rfl)]
  rfl

/-! ## Best-effort windows (09 R264) -/

theorem bestWindowDue_running {s : State} (p : RingPort) (i : Nat) (h : s.ring.state ≠ .off) :
    bestWindowDue s p i = atEntry s i 11 (fun s e =>
      if (if CutEntry.dir e then RingPort.west else RingPort.east) ≠ p then s
      else (sendQueue (sendAnswers (sendNotices
        { state := s, at_ := s.time.now, stop := s.time.now + CutEntry.lenNs e, full := false } p) p) p).state) := if_neg h

theorem bestEffortWindow_fires {s : State} {i : Nat} {e : CutEntry} {p : RingPort} (hstate : s.ring.state ≠ .off)
    (hp : p = (if CutEntry.dir e then RingPort.west else RingPort.east)) (h : s.armed i 11 e) :
    bestEffortWindow s p i = (sendQueue (sendAnswers (sendNotices
      { state := s.fires i e, at_ := (s.fires i e).time.now, stop := (s.fires i e).time.now + CutEntry.lenNs e, full := false } p) p) p).state := by
  obtain ⟨hcut, hact, hcheck, _⟩ := id h
  refine (entryCommand_armed s i 11 e _ h).trans ((bestWindowDue_running (s := s.comesTo i e) p i hstate).trans ?_)
  rw [atEntry_fires (s.comesTo i e) i 11 e _ hcut hact hcheck, comesTo_fires]
  exact if_neg (not_not_intro hp.symm)

theorem bestEffortWindow_bad {s : State} {i : Nat} {e : CutEntry} (p : RingPort) (hstate : s.ring.state ≠ .off) (hcut : s.cut i = some e)
    (hact : CutEntry.act e = 11) (hcheck : e.w3 ≠ cutCheck e i) (hearly : s.firedEarly (.entry i) = false)
    (hfirst : ∀ j, j < i → (s.comesTo i e).due (s.firing i e 0) j = false) : bestEffortWindow s p i = cutFault (s.comesTo i e) :=
  (entryCommand_comes _ hcut hact hearly hfirst).trans
    ((bestWindowDue_running (s := s.comesTo i e) p i hstate).trans (atEntry_bad (s.comesTo i e) i 11 e _ hcut hact hcheck))

/-- Settles O37: each entry by the rule of its action, which fires it where it is armed and is the junction time fault where its check value is wrong. -/
theorem ringEntriesFire : Obligations.RingEntriesFire := by
  intro s i e hcut
  refine ⟨fun hact => ⟨congrArg Host.Outcome.next (slotDeadline_locks hcut hact), congrArg Host.Outcome.next (frameLeftPort_unlocks hcut hact)⟩,
    fun harmed => ⟨fun hmode hnone => ?_, fun d hd => ?_⟩, fun harmed => congrArg Host.Outcome.next (entryCommand_fires s i 7 e _ harmed),
    fun hact => congrArg Host.Outcome.next (rxWindowEnds_closes hcut hact), closeWindow_shut,
    fun w hw => ⟨closeWindow_missed hw, fun f hf => closeWindow_delivered hw hf⟩,
    fun harmed => congrArg Host.Outcome.next (entryCommand_fires s i 13 e _ harmed),
    fun hact w hw => congrArg Host.Outcome.next (syncWindowEnds_closes hcut hact hw), fun harmed hstate hport => ?_,
    fun hstate p hp harmed => congrArg Host.Outcome.next (bestEffortWindow_fires hstate hp harmed), fun hcheck hearly hfirst => ⟨?_, ?_, ?_, ?_, ?_⟩⟩
  · refine congrArg Host.Outcome.next ((ringTransmitSlot_fires harmed).trans ?_)
    rw [slotPayload_none (s := s.fires i e) hmode hnone]
    rfl
  · refine congrArg Host.Outcome.next ((ringTransmitSlot_fires harmed).trans ?_)
    rw [slotPayload_some (s := s.fires i e) hd]
    exact sendSlot_eq (s.fires i e) i e d
  · exact congrArg Host.Outcome.next ((syncSlot_fires harmed hstate).trans (noteOwn_sendSync (s := s.fires i e) _ hport))
  · intro hact
    refine congrArg Host.Outcome.next (?_ : entryCommand s i 6 _ = _)
    rw [show (fun s => ringSlotDue s i) = _ from funext fun s => ringSlotDue_eq s i]
    exact entryCommand_bad _ hcut hact hcheck hearly hfirst
  · exact fun hact => congrArg Host.Outcome.next (entryCommand_bad _ hcut hact hcheck hearly hfirst)
  · exact fun hact => congrArg Host.Outcome.next (entryCommand_bad _ hcut hact hcheck hearly hfirst)
  · exact fun hact => congrArg Host.Outcome.next (entryCommand_bad _ hcut hact hcheck hearly hfirst)
  · exact fun hact hstate p => congrArg Host.Outcome.next (bestEffortWindow_bad p hstate hcut hact hcheck hearly hfirst)

end Sys2Proof.Machine
end

section
/-! Frames that the ring's ports take (chapters 09 and 10). -/

namespace Sys2Proof.Machine

open Sys2Proof

/-! ## Arrivals (09 R246, R247, R256, R261, 15 R403) -/

theorem Arrival.take_flows {a : Arrival} {p : RingPort} (n : Nat) (c : Instr) (g : State → State) (hvalid : a.valid = true)
    (hflow : a.state.flows (27 + p.num)) : a.take p n c g = g (through a.state (27 + p.num) (entriesOf 27 (24 + n))) :=
  (if_pos hvalid).trans (carry_flows _ _ _ _ _ _ hflow)

/-- A sound frame of a named sender that is neither stripped nor past its hop limit is forwarded and may be accepted. -/
theorem arrive_forwards {s : State} {p : RingPort} {f : RFrame} {t : Nat} (hhears : s.hears p = true)
    (hsound : (frameForeign (hear s p f.len t).v2ring f || frameInvalid (hear s p f.len t).v2ring f) = false) (hfcs : f.fcsOk = true)
    (hnamed : senderNamed f = true) (hstrip : strips (hear s p f.len t) p f = false) (hhop : (hear s p f.len t).hopLimit f = false) :
    arrive s p f t = ⟨forwardFrame (hear s p f.len t) p f t, true⟩ := by
  unfold arrive
  rw [hhears]
  rw [if_neg (by decide : ¬(!true) = true)]
  dsimp only
  rw [if_pos hfcs, hsound, if_neg Bool.false_ne_true, hstrip, if_neg Bool.false_ne_true, hhop,
    if_neg Bool.false_ne_true, hfcs, hnamed]
  rfl

/-- A sound frame of another named node that is not cut through may be accepted. -/
theorem arriveLocal_accepts {s : State} {p : RingPort} {f : RFrame} {kind : Nat} (hhears : s.hears p = true)
    (hsound : (frameForeign (hear s p f.len s.time.now).v2ring f || frameInvalid (hear s p f.len s.time.now).v2ring f) = false)
    (hfcs : f.fcsOk = true) (hnamed : senderNamed f = true) (hkind : f.kind = kind)
    (hhop : kind ≠ 3 → (hear s p f.len s.time.now).hopLimit f = false) : arriveLocal s p f kind = ⟨hear s p f.len s.time.now, true⟩ := by
  unfold arriveLocal
  rw [hhears]
  rw [if_neg (by decide : ¬(!true) = true), hfcs]
  rw [if_neg (by decide : ¬(!true) = true), hsound, decide_eq_false (not_not_intro hkind), Bool.or_false,
    if_neg Bool.false_ne_true, if_neg (fun ⟨h3, _, h⟩ => Bool.false_ne_true ((hhop h3).symm.trans h)), hnamed]

/-- A best-effort frame for this node alone, of the expected service. -/
theorem arriveBest_accepts {s : State} {p : RingPort} {f : RFrame} {service : Nat} (hlocal : arriveLocal s p f 6 = ⟨hear s p f.len s.time.now, true⟩)
    (hsender : f.sender ≠ s.pins.node) (hdest : bestDest f = s.pins.node) (hservice : bestService f = service) (hrange : 1 ≤ service ∧ service ≤ 3) :
    arriveBest s p f service = ⟨hear s p f.len s.time.now, true⟩ := by
  unfold arriveBest
  dsimp only
  rw [hlocal]
  rw [if_neg (by decide : ¬(!true) = true), if_neg (by omega), if_pos hdest, decide_eq_true hsender, decide_eq_true hdest, Bool.or_true]
  rfl

/-! ## Data frames (09 R256) -/

theorem acceptData_shut {s : State} {p : RingPort} {f : RFrame} {t : Nat} {c : Flow} (hc : consumedFlow s f.flow = some c)
    (hopen : (s.rxOf f.flow).opened = none) : acceptData s p f t = jbump s (flowIndex f.flow) 15 := by
  have hbefore : ((s.rxOf f.flow).before p t).opened = none := by
    unfold RxCtx.before
    split
    · split <;> exact hopen
    · exact hopen
  unfold acceptData
  rw [hc]
  dsimp only
  rw [hbefore, if_pos (by rw [Option.any_none, Bool.not_false, Bool.or_true])]

theorem RxCtx.before_fresh {x : RxCtx} (p : RingPort) (t : Nat) (hwest : x.west = none) : x.before p t = x := by
  unfold RxCtx.before
  rw [hwest]
  cases p <;> rfl

/-- A receive context that has accepted the frame `f`, whose data wait for the window's end. -/
def RxCtx.took (x : RxCtx) (p : RingPort) (f : RFrame) (t n : Nat) : RxCtx :=
  { x with taken := true, seq := some f.seq, west := if p = .west then some (t, x.seq) else none
           held := some { f with payload := f.payload.take n, len := n } }

theorem acceptData_accepts {s : State} {p : RingPort} {f : RFrame} {t : Nat} {c : Flow} (hc : consumedFlow s f.flow = some c) {w : Nat × Nat}
    (hopen : (s.rxOf f.flow).opened = some w) (hfrom : w.1 ≤ t) (hto : t < w.2) (hkind : f.kind = 0) (hsender : f.sender = c.producer)
    (hcli : f.cli = c.srcCli) (hlen : f.len = c.aux) (hflag : bitOf f.flags 4 = false) (hv2 : s.v2ring = false)
    (htaken : (s.rxOf f.flow).taken = false) (hwest : (s.rxOf f.flow).west = none) (hseq : seqFollows (s.rxOf f.flow).seq f.seq = true)
    (hdiverged : jbool s 0x4231 8 = false) (hunit : unitOf s 0 f.flow = none) :
    acceptData s p f t = (monitorTake (jset s (flowIndex f.flow) 5 f.seq) 4 f.flow ((t : Int) - w.1)).modRx f.flow (fun _ =>
      (s.rxOf f.flow).took p f t c.aux) := by
  have hdata : stripCvu s 0 f.flow (f.payload.take c.aux) = some (f.payload.take c.aux) := by
    unfold stripCvu
    rw [hunit]
  unfold acceptData
  rw [hc]
  dsimp only
  rw [RxCtx.before_fresh p t hwest, hv2, hopen, htaken, hflag, hseq, hdiverged]
  simp only [Bool.and_false, Bool.or_false, Bool.false_eq_true, if_false, decide_eq_true hkind, decide_eq_true hsender, decide_eq_true hcli,
    decide_eq_true hlen, Option.any_some, decide_eq_true hfrom, decide_eq_true hto, Bool.not_true, Bool.and_self, Bool.or_self, Bool.or_true]
  rw [if_neg (by decide : ¬(false && !false) = true), hdata]
  unfold RxCtx.took
  rw [hopen]

/-! ## Sync and coldstart frames (10 R271, R273, R278) -/

theorem takeSync_listen {s : State} {p : RingPort} {f : RFrame} {t : Nat} (hconcern : s.concerns f 1 = true) (hstate : s.ring.state = .listen) :
    takeSync s p f t = integrate s { frame := f, at_ := t, port := p } := by
  unfold takeSync
  dsimp only
  rw [hconcern, if_neg (by decide), hstate]

theorem not_adopts {s : State} (f : RFrame) (h : s.ring.state = .active) : s.adopts f = false := by
  unfold State.adopts
  rw [h]
  rfl

theorem takeSync_active {s : State} {p : RingPort} {f : RFrame} {t : Nat} (hconcern : s.concerns f 1 = true) (hstate : s.ring.state = .active)
    (hfollow : s.ring.follow = none) {w : Nat × Nat × Bool} (hw : Store.find? s.ring.windows f.sender = some w) (hfrom : w.1 ≤ arrivalAt s p t)
    (hto : arrivalAt s p t < w.2.1) (hnamed : payloadByte f 6 = ownNamed s) : takeSync s p f t = acceptSync s p f (arrivalAt s p t) := by
  have hin : inSyncWindow s f (arrivalAt s p t) = true := by
    unfold inSyncWindow
    rw [hfollow, hw]
    dsimp only
    rw [decide_eq_true hfrom, decide_eq_true hto, Bool.and_self, Bool.or_true]
  have hown : s.foreign f (arrivalAt s p t) = false := by
    unfold State.foreign
    rw [hstate, hw]
    dsimp only [Option.any_some]
    rw [decide_eq_true hfrom, decide_eq_true hto, decide_eq_false (not_not_intro hnamed)]
    rfl
  unfold takeSync
  dsimp only
  rw [hconcern, if_neg (by decide), hstate]
  dsimp only
  rw [not_adopts f hstate, if_neg (by decide), hown, if_neg Bool.false_ne_true, hin, if_pos rfl]

theorem takeColdstart_listen {s : State} {p : RingPort} {f : RFrame} {t : Nat} (hconcern : s.concerns f 2 = true) (hstate : s.ring.state = .listen) :
    takeColdstart s p f t = integrate s { frame := f, at_ := t, port := p } := by
  unfold takeColdstart
  dsimp only
  rw [hconcern, if_neg (by decide), hstate]

theorem takeColdstart_contest {s : State} {p : RingPort} {f : RFrame} {t : Nat} (hconcern : s.concerns f 2 = true)
    (hstate : s.ring.state = .coldstart) :
    takeColdstart s p f t = if contestLost (recordSync s 0) f (arrivalAt s p t) then
      integrate (jbump (recordSync s 0) 0x4230 7) { frame := f, at_ := t, port := p } else recordSync s 0 := by
  unfold takeColdstart
  dsimp only
  rw [hconcern, if_neg (by decide), hstate]

theorem takeColdstart_active {s : State} {p : RingPort} {f : RFrame} {t : Nat} (hconcern : s.concerns f 2 = true) (hstate : s.ring.state = .active)
    (hin : inSyncWindow s f (arrivalAt s p t) = true) : takeColdstart s p f t = acceptSync s p f (arrivalAt s p t) := by
  unfold takeColdstart
  dsimp only
  rw [hconcern, if_neg (by decide), hstate]
  dsimp only
  rw [not_adopts f hstate, if_neg (by decide), hin, if_pos rfl]

theorem ringFramesTaken : Parts.RingFramesAreTaken := by
  intro s p f t hhears heard onw got at_ here hsound hfcs hnamed hstrip hhop hflow
  have harrive : arrive s p f t = ⟨onw, true⟩ := arrive_forwards hhears hsound hfcs hnamed hstrip hhop
  have htake : ∀ (c : Instr) (g : State → State), (arrive s p f t).take p f.len c g = g got := fun c g => by
    rw [harrive]
    exact Arrival.take_flows (a := ⟨onw, true⟩) f.len c g rfl hflow
  refine ⟨congrArg Host.Outcome.next (htake _ _), fun c hc => ⟨acceptData_shut hc, fun w => acceptData_accepts hc⟩,
    fun hconcern => ⟨fun hstate => ?_, fun w hstate hfollow hw hfrom hto hown => ?_⟩,
    fun hconcern => ⟨fun hstate => ?_, fun hstate => ?_, fun hstate hin => ?_⟩⟩
  · exact congrArg Host.Outcome.next ((htake _ _).trans (takeSync_listen hconcern hstate))
  · exact congrArg Host.Outcome.next ((htake _ _).trans (takeSync_active hconcern hstate hfollow hw hfrom hto hown))
  · exact congrArg Host.Outcome.next ((htake _ _).trans (takeColdstart_listen hconcern hstate))
  · exact congrArg Host.Outcome.next ((htake _ _).trans (takeColdstart_contest hconcern hstate))
  · exact congrArg Host.Outcome.next ((htake _ _).trans (takeColdstart_active hconcern hstate hin))

end Sys2Proof.Machine
end

section
/-! Frames of one hop and of the best-effort services of the ring (09 R249, R263, 10 R274, R291, R296, 16 R419). -/

namespace Sys2Proof.Machine

open Sys2Proof

/-! ## Ticks and leave frames (09 R263, 16 R419) -/

theorem port_modPort_self (s : State) (p : RingPort) (f : RingPortState → RingPortState) : (s.modPort p f).port p = f (s.port p) := by cases p <;> rfl

theorem modPort_mode (s : State) (p : RingPort) (f : RingPortState → RingPortState) : (s.modPort p f).mode = s.mode := by cases p <;> rfl

theorem modPort_lanes (s : State) (p : RingPort) (f : RingPortState → RingPortState) : (s.modPort p f).lanes = s.lanes := by cases p <;> rfl

theorem port_congr {s t : State} (h : t.ring = s.ring) (p : RingPort) : t.port p = s.port p := by cases p <;> simp only [State.port, h]

/-- A tick counted, its sender noted. -/
def tickNoted (s : State) (p : RingPort) (f : RFrame) : State := (jbump s (portIndex p) 3).modPort p (fun x => { x with neighbour := f.sender })

theorem takeTick_eq (s : State) (p : RingPort) (f : RFrame) : ∃ r j, takeTick s p f = { tickNoted s p f with recorder := r, jreg := j } := by
  have hrecord : ∀ (b : Bool) (payload : Bytes), ∃ r j,
      (if b then record (tickNoted s p f) 5 16 payload else tickNoted s p f) = { tickNoted s p f with recorder := r, jreg := j } := by
    intro b payload
    cases b with
    | true => exact record_eq _ _ _ _
    | false => exact ⟨_, _, rfl⟩
  obtain ⟨r, j, h⟩ := hrecord (decide (f.sender = ((tickNoted s p f).neighbours p).2) &&
    decide (((tickNoted s p f).neighbours p).1 ≠ ((tickNoted s p f).neighbours p).2) && !jbool (tickNoted s p f) 0x4237 (2 + p.num))
    (noticeBody (tickNoted s p f) p 0 0)
  unfold takeTick
  dsimp only
  exact ⟨r, _, (congrArg (fun t => jset t 0x4237 (2 + p.num) (if decide (f.sender = ((tickNoted s p f).neighbours p).2) &&
    decide (((tickNoted s p f).neighbours p).1 ≠ ((tickNoted s p f).neighbours p).2) then 1 else 0)) h :)⟩

theorem takeTick_neighbour (s : State) (p : RingPort) (f : RFrame) : ((takeTick s p f).port p).neighbour = f.sender := by
  obtain ⟨r, j, h⟩ := takeTick_eq s p f
  rw [h]
  exact congrArg RingPortState.neighbour (port_modPort_self _ p _)

theorem takeTick_mode (s : State) (p : RingPort) (f : RFrame) : (takeTick s p f).mode = s.mode := by
  obtain ⟨r, j, h⟩ := takeTick_eq s p f
  rw [h]
  exact modPort_mode _ p _

theorem takeTick_lanes (s : State) (p : RingPort) (f : RFrame) : (takeTick s p f).lanes = s.lanes := by
  obtain ⟨r, j, h⟩ := takeTick_eq s p f
  rw [h]
  exact modPort_lanes _ p _

theorem v2ring_congr {s t : State} (h : jget t 0x2000 4 = jget s 0x2000 4) : t.v2ring = s.v2ring := congrArg (bitOf · 0) h

theorem wrapping_congr {s t : State} (hring : t.ring = s.ring) (hv2 : t.v2ring = s.v2ring) (q : RingPort) (x : Nat) :
    t.wrapping q x = s.wrapping q x := by
  unfold State.wrapping State.wrapNs State.slow
  rw [port_congr hring, hv2]

/-- A leave frame counted, its sender and reason shown. -/
def leaveCounted (s : State) (f : RFrame) : State :=
  jset (jbump s 0x2107 1) 0x2107 2 (f.sender + 256 * (((f.payload.drop 4).headD 0).toNat % 8))

theorem leaveCounted_v2ring (s : State) (f : RFrame) : (leaveCounted s f).v2ring = s.v2ring :=
  v2ring_congr ((jget_jset_other _ _ _ _ _ _ (by decide)).trans (jget_jbump_other _ _ _ _ _ (by decide)))

theorem hopNs_congr {s t : State} (h : t.v2ring = s.v2ring) : t.hopNs = s.hopNs := by
  unfold State.hopNs
  rw [h]

theorem leaveCounted_keeps (s : State) (f : RFrame) :
    (leaveCounted s f).ring = s.ring ∧ (leaveCounted s f).time = s.time ∧ (leaveCounted s f).nodes = s.nodes := ⟨rfl, rfl, rfl⟩

theorem takeLeave_counts {s : State} {p : RingPort} {f : RFrame} (hsender : f.sender ≠ s.pins.node) :
    takeLeave s p f = if s.wrapping (onward p) s.time.now then lostAtWrap (leaveCounted s f) (onward p)
      else if f.hop + 1 < s.nodes then sendVia (leaveCounted s f) (onward p) { f with hop := f.hop + 1 } (s.time.now + s.hopNs)
      else leaveCounted s f := by
  obtain ⟨hring, htime, hnodes⟩ := leaveCounted_keeps s f
  unfold takeLeave
  dsimp only
  rw [if_pos hsender, show jset (jbump s 0x2107 1) 0x2107 2 (f.sender + 256 * (((f.payload.drop 4).headD 0).toNat % 8)) = leaveCounted s f from rfl,
    wrapping_congr hring (leaveCounted_v2ring s f), htime, hnodes, hopNs_congr (leaveCounted_v2ring s f)]

/-! ## Wrap notices (10 R291) -/

theorem takeNotice_nobody {s : State} {p : RingPort} {f : RFrame} (h : ((f.payload.drop 4).headD 0).toNat = 0 ∨ 64 < ((f.payload.drop 4).headD 0).toNat) :
    takeNotice s p f = s := by
  unfold takeNotice
  refine if_neg fun hall => ?_
  simp only [Bool.and_eq_true, decide_eq_true_eq] at hall
  omega

/-- A notice of a break recorded and shown. -/
def noticeShown (s : State) (f : RFrame) : State :=
  showBreak (record s 5 16 (f.payload.take 24)) ((f.payload.drop 4).headD 0).toNat ((f.payload.drop 5).headD 0).toNat false

theorem noticeShown_ring (s : State) (f : RFrame) : (noticeShown s f).ring = s.ring := record_ring s 5 16 _

theorem noticeShown_time (s : State) (f : RFrame) : (noticeShown s f).time = s.time := record_time s 5 16 _

theorem noticeShown_v2ring (s : State) (f : RFrame) : (noticeShown s f).v2ring = s.v2ring :=
  v2ring_congr ((jget_jset_other _ _ _ _ _ _ (by decide)).trans (jget_record_other _ _ _ _ _ _ (by decide)))

theorem takeNotice_break {s : State} {p : RingPort} {f : RFrame} (hsender : f.sender ≠ s.pins.node) (hident : ofLe (f.payload.take 4) = s.ringIdent)
    (hfrom : 1 ≤ ((f.payload.drop 4).headD 0).toNat) (hto : ((f.payload.drop 4).headD 0).toNat ≤ 64) (hcause : noticeCause f ≠ 3)
    (hknown : s.ring.breakKnown ≠ none) (hmended : bitOf (jget s 0x4235 1) 9 = false) :
    takeNotice s p f = if s.wrapping (onward p) s.time.now then lostAtWrap (noticeShown s f) (onward p)
      else (noticeShown s f).modPort (onward p) (fun x => { x with notices := x.notices ++ [(0, { f with hop := f.hop + 1 })] }) := by
  have hkeep : ¬((noticeShown s f).ring.breakKnown.isNone = true ∨ bitOf (jget s 0x4235 1) 9 = true) := by
    rw [noticeShown_ring, hmended]
    rintro (h | h)
    · exact hknown (Option.isNone_iff_eq_none.1 h)
    · exact Bool.false_ne_true h
  unfold takeNotice
  dsimp only
  rw [if_pos (by simp only [Bool.and_eq_true, decide_eq_true_eq]; exact ⟨⟨⟨hsender, hident⟩, hfrom⟩, hto⟩), decide_eq_false hcause]
  rw [show showBreak (record s 5 16 (f.payload.take 24)) ((f.payload.drop 4).headD 0).toNat ((f.payload.drop 5).headD 0).toNat false =
    noticeShown s f from rfl, if_neg hcause, if_neg hkeep, wrapping_congr (noticeShown_ring s f) (noticeShown_v2ring s f), noticeShown_time]

/-! ## Best-effort services (02 R55, 09 R249, 10 R274) -/

theorem judgeAnnouncement_kept {s : State} {f : RFrame} (hsource : s.timeSource = false) (hseen : s.time.sourceSeen = some f.sender) :
    judgeAnnouncement s f = takeAnnouncement s f.sender (bestBody f) := by
  have hkept : s.sourceKept = some f.sender := (if_neg (by rw [hsource]; exact Bool.false_ne_true)).trans hseen
  unfold judgeAnnouncement
  rw [hkept]
  exact if_pos rfl

theorem judgeAnnouncement_conflict {s : State} {f : RFrame} (hsource : s.timeSource = true) (hseen : s.time.sourceSeen = none)
    (hsender : f.sender ≠ s.pins.node) :
    judgeAnnouncement s f = if f.sender < s.pins.node then takeAnnouncement (record s 5 10 (leBytes 1 f.sender)) f.sender (bestBody f)
      else record s 5 10 (leBytes 1 f.sender) := by
  have hkept : s.sourceKept = some s.pins.node := by
    unfold State.sourceKept
    rw [if_pos hsource, hseen]
    rfl
  unfold judgeAnnouncement
  rw [hkept]
  exact if_neg (Ne.symm hsender)

theorem takeAnswer_adopts {s : State} {p : RingPort} {f : RFrame} {t id node sent : Nat} {ad : Adopt} (hanswer : ((bestBody f).headD 0).toNat = 2)
    (hid : ofLe (((bestBody f).drop 2).take 2) = id) (hquery : s.ring.query = some (id, node, sent)) (hadopting : s.ring.adopting = some ad)
    (hstate : s.ring.state = .integrate) (hrun : s.hasRun = false) :
    takeAnswer s p f t = adoptTime s ad (nearest32
      ((ofTimeBytes (((bestBody f).drop 4).take 10) : Int) - ((arrivalAt s p t : Int) - arrivalAt s ad.port ad.at_)) ad.frame.send) := by
  unfold takeAnswer
  dsimp only
  rw [hquery, hadopting]
  dsimp only
  rw [decide_eq_true hanswer, decide_eq_true hid, decide_eq_true hstate, hrun]
  exact if_pos rfl

theorem hear_keeps (s : State) (p : RingPort) (n t : Nat) : (hear s p n t).mode = s.mode ∧ (hear s p n t).pins = s.pins ∧
    (hear s p n t).time.sourceSeen = s.time.sourceSeen ∧ (hear s p n t).hasRun = s.hasRun ∧ (hear s p n t).ring.query = s.ring.query ∧
    (hear s p n t).ring.adopting = s.ring.adopting ∧ (hear s p n t).ring.state = s.ring.state := by
  cases p <;> exact ⟨rfl, rfl, rfl, rfl, rfl, rfl, rfl⟩

theorem hasRun_congr {s t : State} (hmode : t.mode = s.mode) (hring : t.ring = s.ring) : t.hasRun = s.hasRun := by
  unfold State.hasRun State.inRun
  rw [hmode, hring]

theorem serviceFramesServed : Parts.ServiceFramesAreServed := by
  intro s p f hhears heard got hsound hfcs hnamed hsender hflow
  obtain ⟨hmode, hpins, hseen, hrun, hquery, hadopting, hstate⟩ := hear_keeps s p f.len s.time.now
  have hcross : State.Crossed (27 + p.num) heard got := State.Crossed.through _ _ _
  have hring : got.ring = heard.ring := through_ring ..
  have hnode : got.pins = s.pins := (through_pins ..).trans hpins
  have hsender' : f.sender ≠ got.pins.node := by rw [hnode]; exact hsender
  have htake : ∀ (c : Instr) (g : State → State), Arrival.take ⟨heard, true⟩ p f.len c g = g got := fun c g =>
    Arrival.take_flows (a := ⟨heard, true⟩) f.len c g rfl hflow
  refine ⟨fun hkind => ⟨?_, takeTick_neighbour got p f, ?_, (takeTick_lanes got p f).trans (through_lanes ..)⟩, fun hhop => ?_⟩
  · have harrive : arriveLocal s p f 3 = ⟨heard, true⟩ := arriveLocal_accepts hhears hsound hfcs hnamed hkind (fun h => absurd rfl h)
    exact congrArg Host.Outcome.next ((congrArg (fun a => Arrival.take a p f.len (.tick p f) _) harrive).trans (htake _ _))
  · exact (takeTick_mode got p f).trans ((through_mode ..).trans hmode)
  have harrive : ∀ kind, f.kind = kind → arriveLocal s p f kind = ⟨heard, true⟩ := fun kind hkind =>
    arriveLocal_accepts hhears hsound hfcs hnamed hkind (fun _ => hhop)
  refine ⟨?_, ?_, fun hkind hdest => ?_⟩
  · intro hkind hident hknown hmended node shown
    have hexec : exec (.wrapNotice p f) s = .next (takeNotice got p f) :=
      congrArg Host.Outcome.next ((congrArg (fun a => Arrival.take a p f.len (.wrapNotice p f) _) (harrive 4 hkind)).trans (htake _ _))
    have hident' : ofLe (f.payload.take 4) = got.ringIdent := by
      unfold State.ringIdent
      rw [hcross.config_eq]
      exact hident
    refine ⟨fun hnobody => hexec.trans (congrArg _ (takeNotice_nobody hnobody)), fun hfrom hto hcause => hexec.trans (congrArg _ ?_)⟩
    exact takeNotice_break hsender' hident' hfrom hto hcause (by rw [hring]; exact hknown) hmended
  · intro hkind counted
    exact congrArg Host.Outcome.next ((congrArg (fun a => Arrival.take a p f.len (.leaveFrame p f) _) (harrive 5 hkind)).trans
      ((htake _ _).trans (takeLeave_counts hsender')))
  · have hbest : ∀ service, bestService f = service → 1 ≤ service ∧ service ≤ 3 → ∀ (c : Instr) (g : State → State),
        (arriveBest s p f service).take p f.len c g = g got := fun service hservice hrange c g => by
      rw [arriveBest_accepts (harrive 6 hkind) hsender hdest hservice hrange]
      exact htake c g
    refine ⟨fun hservice => ?_, fun hservice => ⟨?_, fun hsource hkept => ?_, fun hsource hnone => ?_⟩, fun hservice hhead => ?_,
      fun id node sent ad t hservice hhead hid hq had hst hr => ?_⟩
    · exact congrArg Host.Outcome.next (hbest 1 hservice (by decide) _ _)
    · exact congrArg Host.Outcome.next (hbest 2 hservice (by decide) _ _)
    · exact judgeAnnouncement_kept hsource ((congrArg TimeBase.sourceSeen (through_time ..)).trans (hseen.trans hkept))
    · have h := judgeAnnouncement_conflict hsource ((congrArg TimeBase.sourceSeen (through_time ..)).trans (hseen.trans hnone)) hsender'
      rw [hnode] at h
      exact h
    · refine congrArg Host.Outcome.next ((hbest 3 hservice (by decide) _ _).trans (if_pos ⟨hhead, ?_⟩))
      rw [hnode]
      exact hdest
    · refine congrArg Host.Outcome.next ((hbest 3 hservice (by decide) _ _).trans (takeAnswer_adopts (node := node) (sent := sent) hhead hid ?_ ?_ ?_ ?_))
      · exact (congrArg Ring.query hring).trans (hquery.trans hq)
      · exact (congrArg Ring.adopting hring).trans (hadopting.trans had)
      · exact (congrArg Ring.state hring).trans (hstate.trans hst)
      · exact (hasRun_congr (through_mode ..) hring).trans (hrun.trans hr)

/-- Settles O38: a sound frame that has crossed to the fabric is taken as its kind says. -/
theorem ringFramesAreTaken : Obligations.RingFramesAreTaken := ⟨ringFramesTaken, serviceFramesServed⟩

end Sys2Proof.Machine
end

section
/-! The ring's start, its breaks and their healing (09 R263, 10 R272, R274, R287 to R297). -/

namespace Sys2Proof.Machine

open Sys2Proof

/-! ## Breaks and wraps (10 R287 to R292) -/

/-- A port as its wrap leaves it. -/
def RingPortState.wrap (now : Nat) (x : RingPortState) : RingPortState :=
  { x with wrapped := true, wrapAt := now, lost := 0, upAt := none, ownNotice := none, peerNotice := none }

/-- The ring with one port changed. -/
def Ring.modPort (r : Ring) (p : RingPort) (f : RingPortState → RingPortState) : Ring :=
  match p with
  | .east => { r with east := f r.east }
  | .west => { r with west := f r.west }

/-- A port of the ring. -/
def Ring.port (r : Ring) : RingPort → RingPortState
  | .east => r.east
  | .west => r.west

theorem port_eq (s : State) (p : RingPort) : s.port p = s.ring.port p := by cases p <;> rfl

theorem modPort_ring (s : State) (p : RingPort) (f : RingPortState → RingPortState) : (s.modPort p f).ring = s.ring.modPort p f := by cases p <;> rfl

theorem Ring.port_modPort (r : Ring) (p : RingPort) (f : RingPortState → RingPortState) : (r.modPort p f).port p = f (r.port p) := by cases p <;> rfl

theorem Ring.port_modPort_other (r : Ring) (p : RingPort) (f : RingPortState → RingPortState) : (r.modPort p f).port p.other = r.port p.other := by
  cases p <;> rfl

/-- A port with a notice made ready is wrapped or not, up or not, as before. -/
theorem Ring.port_notice (r : Ring) (q : Nat × RFrame) (p : RingPort) :
    ∃ n, (r.modPort .west (fun x => { x with notices := x.notices ++ [q] })).port p = { r.port p with notices := n } := by
  cases p
  · exact ⟨_, rfl⟩
  · exact ⟨_, rfl⟩

/-- The ring with a break known. -/
def Ring.know (r : Ring) (b : Nat × Nat) : Ring := { r with breakKnown := some b }

/-- A wrap made and shown, not yet recorded. -/
def wrapShown (s : State) (p : RingPort) : State :=
  let s := s.modPort p (fun x => { x with wrapped := true, wrapAt := s.time.now, lost := 0, upAt := none, ownNotice := none, peerNotice := none })
  let s := jbump (jset s 0x4232 (p.num + 1) 1) 0x4233 (p.num + 1)
  showBreak (s.modRing (fun r => { r with breakKnown := some (s.pins.node, p.num) })) s.pins.node p.num false

theorem wrapShown_ring (s : State) (p : RingPort) :
    (wrapShown s p).ring = (s.ring.modPort p (RingPortState.wrap s.time.now)).know (s.pins.node, p.num) := by cases p <;> rfl

theorem wrapShown_mode (s : State) (p : RingPort) : (wrapShown s p).mode = s.mode := by cases p <;> rfl

theorem queueNotice_ring (s : State) (p : RingPort) (cause n : Nat) :
    ∃ q, (queueNotice s p cause n).ring = s.ring.modPort .west (fun x => { x with notices := x.notices ++ [q] }) := ⟨_, rfl⟩

theorem wrapPort_eq (s : State) (p : RingPort) (cause : Nat) : ∃ b n, wrapPort s p cause = queueNotice (record (wrapShown s p) 5 16 b) p cause n :=
  ⟨_, _, rfl⟩

theorem wrapPort_ring (s : State) (p : RingPort) (cause : Nat) : ∃ q, (wrapPort s p cause).ring =
    ((s.ring.modPort p (RingPortState.wrap s.time.now)).know (s.pins.node, p.num)).modPort .west (fun x => { x with notices := x.notices ++ [q] }) := by
  obtain ⟨b, n, h⟩ := wrapPort_eq s p cause
  obtain ⟨q, hq⟩ := queueNotice_ring (record (wrapShown s p) 5 16 b) p cause n
  exact ⟨q, by rw [h, hq, record_ring, wrapShown_ring]⟩

theorem wrapPort_mode (s : State) (p : RingPort) (cause : Nat) : (wrapPort s p cause).mode = s.mode := by
  obtain ⟨b, n, h⟩ := wrapPort_eq s p cause
  rw [h]
  exact (record_mode _ 5 16 _).trans (wrapShown_mode s p)

theorem breakDetected_running {s : State} {p : RingPort} (h : s.ring.state ≠ .off) :
    breakDetected s p = breakAt (advanceTo s ((s.port p).lastHeard + s.breakNs)) p 1 := if_neg h

theorem breakAt_intact {s : State} {p : RingPort} (cause : Nat) (hstate : s.ring.state ≠ .off) (h : (s.port p).wrapped = false) :
    breakAt s p cause = wrapPort s p cause := by
  unfold breakAt
  rw [if_neg hstate, h]
  rfl

theorem breakAt_wrapped {s : State} {p : RingPort} (cause : Nat) (hstate : s.ring.state ≠ .off) (h : (s.port p).wrapped = true) :
    breakAt s p cause = (s.modPort p (fun x => { x with upAt := none, ownNotice := none, peerNotice := none })).modPort .west
      (fun x => { x with notices := x.notices.filter (fun q => !s.ownRestoration p q.2) }) := by
  unfold breakAt
  rw [if_neg hstate, if_pos h]

/-- A port of which the link is lost. -/
def linkDown (s : State) (p : RingPort) : State := jset (s.modPort p (fun x => { x with link := 0 })) 0x4202 (p.num + 1) 0

theorem linkDown_ring (s : State) (p : RingPort) : (linkDown s p).ring = s.ring.modPort p (fun x => { x with link := 0 }) := modPort_ring s p _

theorem ringLinkLoss_eq (s : State) (p : RingPort) : ringLinkLoss s p = breakAt (linkDown s p) p 2 := rfl

theorem linkDown_state (s : State) (p : RingPort) : (linkDown s p).ring.state = s.ring.state := by cases p <;> rfl

theorem linkDown_node (s : State) (p : RingPort) : (linkDown s p).pins = s.pins := by cases p <;> rfl

theorem linkDown_port (s : State) (p : RingPort) : (linkDown s p).port p = { s.port p with link := 0 } := by cases p <;> rfl

theorem linkDown_port_other (s : State) (p : RingPort) : (linkDown s p).port p.other = s.port p.other := by cases p <;> rfl

theorem Ring.modPort_state (r : Ring) (p : RingPort) (f : RingPortState → RingPortState) : (r.modPort p f).state = r.state := by cases p <;> rfl

theorem Ring.modPort_breakKnown (r : Ring) (p : RingPort) (f : RingPortState → RingPortState) : (r.modPort p f).breakKnown = r.breakKnown := by
  cases p <;> rfl

theorem Ring.port_know (r : Ring) (b : Nat × Nat) (p : RingPort) : (r.know b).port p = r.port p := by cases p <;> rfl

theorem ringLinkLoss_intact {s : State} {p : RingPort} (hstate : s.ring.state ≠ .off) (h : (s.port p).wrapped = false) :
    ∃ t, ringLinkLoss s p = t ∧ (t.port p).wrapped = true ∧ (t.port p).link = 0 ∧ (t.port p.other).wrapped = (s.port p.other).wrapped ∧
      t.ring.breakKnown = some (s.pins.node, p.num) ∧ t.ring.state = s.ring.state ∧ t.mode = s.mode := by
  have hwrap : ringLinkLoss s p = wrapPort (linkDown s p) p 2 :=
    breakAt_intact (s := linkDown s p) 2 (by rw [linkDown_state]; exact hstate) (by rw [linkDown_port]; exact h)
  obtain ⟨q, hq⟩ := wrapPort_ring (linkDown s p) p 2
  rw [← hwrap] at hq
  obtain ⟨n, hn⟩ := Ring.port_notice (((linkDown s p).ring.modPort p (RingPortState.wrap (linkDown s p).time.now)).know
    ((linkDown s p).pins.node, p.num)) q p
  obtain ⟨n', hn'⟩ := Ring.port_notice (((linkDown s p).ring.modPort p (RingPortState.wrap (linkDown s p).time.now)).know
    ((linkDown s p).pins.node, p.num)) q p.other
  rw [Ring.port_know, Ring.port_modPort, ← port_eq, linkDown_port] at hn
  rw [Ring.port_know, Ring.port_modPort_other, ← port_eq, linkDown_port_other] at hn'
  refine ⟨_, rfl, ?_, ?_, ?_, ?_, ?_, ?_⟩
  · rw [port_eq, hq, hn]
    rfl
  · rw [port_eq, hq, hn]
    rfl
  · rw [port_eq, hq, hn']
  · rw [hq, Ring.modPort_breakKnown, linkDown_node]
    rfl
  · rw [hq, Ring.modPort_state]
    exact (Ring.modPort_state _ _ _).trans (linkDown_state s p)
  · rw [hwrap]
    exact (wrapPort_mode _ _ _).trans (modPort_mode s p _)

theorem ringLinkLoss_wrapped {s : State} {p : RingPort} (hstate : s.ring.state ≠ .off) (h : (s.port p).wrapped = true) :
    ∃ t, ringLinkLoss s p = t ∧ (t.port p).wrapped = true ∧ (t.port p).link = 0 ∧ (t.port p).upAt = none := by
  refine ⟨_, breakAt_wrapped (s := linkDown s p) 2 (by rw [linkDown_state]; exact hstate) (by rw [linkDown_port]; exact h), ?_, ?_, ?_⟩
  · cases p <;> exact h
  · cases p <;> rfl
  · cases p <;> rfl

theorem linkRestored_announces {s : State} {p : RingPort} {t : Nat} (hstate : s.ring.state ≠ .off) (hwrap : (s.port p).wrapped = true)
    (hup : (s.port p).upAt = some t) (hlink : (s.port p).link ≠ 0) (hown : (s.port p).ownNotice = none)
    (hnone : ∀ q ∈ s.ring.west.notices, s.ownRestoration p q.2 = false) :
    linkRestored s p = queueNotice (advanceTo s (t + s.tRound)) p 3 (advanceTo s (t + s.tRound)).time.now := by
  have hany : s.ring.west.notices.any (fun q => s.ownRestoration p q.2) = false := List.any_eq_false.2 fun q hq => by
    rw [hnone q hq]
    exact Bool.false_ne_true
  unfold linkRestored
  dsimp only
  rw [hup]
  dsimp only
  rw [if_pos ⟨hstate, hwrap, hlink, by rw [hown]; rfl, by rw [hany]; rfl⟩]

/-- A port unwrapped at `t`. -/
def portIntact (s : State) (p : RingPort) (t : Nat) : State :=
  (advanceTo s t).modPort p (fun x => { x with wrapped := false, upAt := none, ownNotice := none, peerNotice := none })

/-- The end of a wrap shown. -/
def portUnwrapped (s : State) (p : RingPort) (t : Nat) : State :=
  showBreak (jset (portIntact s p t) 0x4232 (p.num + 1) 0) (portIntact s p t).pins.node p.num true

theorem portUnwrapped_keeps (s : State) (p : RingPort) (t : Nat) :
    ((portUnwrapped s p t).port p).wrapped = false ∧ (portUnwrapped s p t).port p.other = s.port p.other ∧ (portUnwrapped s p t).mode = s.mode ∧
      (portUnwrapped s p t).time = (advanceTo s t).time ∧ (portUnwrapped s p t).ring.state = s.ring.state := by
  cases p <;> exact ⟨rfl, rfl, rfl, rfl, rfl⟩

/-- The known break forgotten where it is this port's. -/
def breakForgotten (s : State) (p : RingPort) : State :=
  if s.ring.breakKnown = some (s.pins.node, p.num) then s.modRing (fun r => { r with breakKnown := none }) else s

theorem breakForgotten_keeps (s : State) (p : RingPort) :
    (∀ q, (breakForgotten s p).port q = s.port q) ∧ (breakForgotten s p).mode = s.mode ∧ (breakForgotten s p).time = s.time ∧
      (breakForgotten s p).ring.state = s.ring.state := by
  unfold breakForgotten
  split
  · exact ⟨fun q => by cases q <;> rfl, rfl, rfl, rfl⟩
  · exact ⟨fun _ => rfl, rfl, rfl, rfl⟩

theorem unwrap_eq {s : State} {p : RingPort} {a b : Nat} (hstate : s.ring.state ≠ .off) (hwrap : (s.port p).wrapped = true)
    (hown : (s.port p).ownNotice = some a) (hb : Nat.min ((s.port p).peerNotice.getD (a + 4 * s.tRound)) (a + 4 * s.tRound) = b) :
    ∃ body, unwrap s p = record (breakForgotten (portUnwrapped s p ((Nat.max a b / s.tRound + 2) * s.tRound)) p) 5 16 body := by
  unfold unwrap
  dsimp only
  rw [hown]
  dsimp only
  rw [if_pos ⟨hstate, hwrap⟩, hb]
  exact ⟨_, rfl⟩

theorem advanceTo_now_add (s : State) (t : Nat) : (advanceTo s t).time.now = s.time.now + (t - s.time.now) := by
  rw [advanceTo_now]
  have hmax : Nat.max s.time.now t = max s.time.now t := rfl
  omega

theorem unwrap_ends {s : State} {p : RingPort} {a b : Nat} (hstate : s.ring.state ≠ .off) (hwrap : (s.port p).wrapped = true)
    (hown : (s.port p).ownNotice = some a) (hb : Nat.min ((s.port p).peerNotice.getD (a + 4 * s.tRound)) (a + 4 * s.tRound) = b) :
    ∃ t, unwrap s p = t ∧ (t.port p).wrapped = false ∧ t.time.now = s.time.now + ((Nat.max a b / s.tRound + 2) * s.tRound - s.time.now) ∧
      (t.port p.other).wrapped = (s.port p.other).wrapped ∧ t.ring.state = s.ring.state ∧ t.mode = s.mode := by
  obtain ⟨body, h⟩ := unwrap_eq hstate hwrap hown hb
  generalize (Nat.max a b / s.tRound + 2) * s.tRound = t at h
  obtain ⟨hport, hother, hmode, htime, hring⟩ := portUnwrapped_keeps s p t
  obtain ⟨hport', hmode', htime', hring'⟩ := breakForgotten_keeps (portUnwrapped s p t) p
  refine ⟨_, h, ?_, ?_, ?_, ?_, ?_⟩
  · rw [port_congr (record_ring _ 5 16 body), hport']
    exact hport
  · rw [record_time, htime', htime, advanceTo_now_add]
  · rw [port_congr (record_ring _ 5 16 body), hport', hother]
  · rw [record_ring, hring', hring]
  · rw [record_mode, hmode', hmode]

/-! ## Ticks and the start (09 R263, 10 R272) -/

theorem tickTransmit_sends {s quiet : State} {p : RingPort} (hstate : s.ring.state ≠ .off)
    (hquiet : quiet = advanceTo s ((s.port p).lastSent + s.idleNs)) (hawait : quiet.awaiting p = false)
    (hfits : s.egress .east = p → ∀ t, quiet.nextOwnSlot = some t → quiet.time.now + quiet.tWire 0 ≤ t) :
    tickTransmit s p = putOnWire quiet p (ringFrame quiet 3 0 65535 65535 0 0 []) quiet.time.now := by
  have hslot : (decide (quiet.egress .east ≠ p) || quiet.nextOwnSlot.all (fun t => decide (quiet.time.now + quiet.tWire 0 ≤ t))) = true := by
    by_cases hp : s.egress .east = p
    · rw [Bool.or_eq_true]
      refine .inr ?_
      cases hnext : quiet.nextOwnSlot with
      | none => rfl
      | some t => exact decide_eq_true (hfits hp t hnext)
    · rw [decide_eq_true (show quiet.egress .east ≠ p by rw [hquiet]; exact hp), Bool.true_or]
  unfold tickTransmit
  dsimp only
  rw [if_neg hstate, ← hquiet, hawait, hslot]
  rfl

theorem tickTransmit_awaits {s quiet : State} {p : RingPort} (hstate : s.ring.state ≠ .off)
    (hquiet : quiet = advanceTo s ((s.port p).lastSent + s.idleNs)) (hawait : quiet.awaiting p = true) : tickTransmit s p = quiet := by
  unfold tickTransmit
  dsimp only
  rw [if_neg hstate, ← hquiet, hawait]
  rfl

theorem tickTransmit_late {s quiet : State} {p : RingPort} {t : Nat} (hstate : s.ring.state ≠ .off)
    (hquiet : quiet = advanceTo s ((s.port p).lastSent + s.idleNs)) (hp : s.egress .east = p) (hnext : quiet.nextOwnSlot = some t)
    (hlate : t < quiet.time.now + quiet.tWire 0) : tickTransmit s p = quiet := by
  have hslot : (decide (quiet.egress .east ≠ p) || quiet.nextOwnSlot.all (fun t => decide (quiet.time.now + quiet.tWire 0 ≤ t))) = false := by
    rw [decide_eq_false (show ¬(quiet.egress .east ≠ p) by rw [hquiet]; exact not_not_intro hp), hnext]
    exact decide_eq_false (Nat.not_le.2 hlate)
  unfold tickTransmit
  dsimp only
  rw [if_neg hstate, ← hquiet, hslot, Bool.and_false]
  rfl

theorem ringState_coldstart (s : State) :
    (s.modRing (fun r => { r with state := .coldstart, since := s.time.now })).Corrected (ringState s .coldstart) :=
  ((State.Corrected.jset _ _ _ _).trans (.jset _ _ _ _)).trans (.sendCorrection _ _ _)

theorem listenTimeout_eq {s : State} {d : Nat} (hdelay : coldDelay s s.pins.node = some d) (hstate : s.ring.state = .listen) :
    listenTimeout s =
      let u := (ringState (advanceTo s (s.ring.since + 2 * s.tRound + 1000 * d)) .coldstart).modRing (fun r => { r with attempts := 0, confirmed := false })
      u.modRing (fun r => { r with since := u.roundStart 1, lastEnd := u.roundStart 1 }) := by
  unfold listenTimeout
  rw [hdelay]
  exact if_pos hstate

theorem listenTimeout_claims {s : State} {d : Nat} (hdelay : coldDelay s s.pins.node = some d) (hstate : s.ring.state = .listen) :
    ∃ t, listenTimeout s = t ∧ t.ring.state = .coldstart ∧
      t.ring.attempts = 0 ∧ t.ring.confirmed = false ∧ t.time.now = s.time.now + (s.ring.since + 2 * s.tRound + 1000 * d - s.time.now) ∧
      t.ring.since = (t.time.now / s.tRound + 1) * s.tRound ∧ t.ring.lastEnd = t.ring.since ∧ t.mode = s.mode ∧ t.ring.tx = s.ring.tx ∧
      t.ring.rx = s.ring.rx := by
  have h := listenTimeout_eq hdelay hstate
  generalize s.ring.since + 2 * s.tRound + 1000 * d = T at h ⊢
  obtain ⟨_, _, _, _, x, hx, hu⟩ := ringState_coldstart (advanceTo s T)
  rw [hu] at h
  refine ⟨_, h, rfl, rfl, rfl, ?_, rfl, rfl, rfl, rfl, rfl⟩
  exact hx.trans (advanceTo_now_add s T)

/-! ## Queries and announcements (10 R274, 09 R249) -/

theorem queueBest_west (s : State) (f : RFrame) :
    (queueBest s .west f).ring.query = s.ring.query ∧ (queueBest s .west f).ring.state = s.ring.state ∧ (queueBest s .west f).mode = s.mode ∧
      (queueBest s .west f).lanes = s.lanes ∧ (queueBest s .west f).time = s.time ∧ (queueBest s .west f).ring.east = s.ring.east := by
  unfold queueBest
  split <;> exact ⟨rfl, rfl, rfl, rfl, rfl, rfl⟩

theorem queueBest_room {s : State} (f : RFrame) (h : s.ring.west.queue.length < 16) :
    (queueBest s .west f).ring.west.queue = s.ring.west.queue ++ [f] := by
  have hroom : queueBest s .west f = s.modPort .west (fun x => { x with queue := x.queue ++ [f] }) := if_pos h
  rw [hroom]
  rfl

theorem timeQueryTimeout_repeats {s : State} {id node sent : Nat} (hquery : s.ring.query = some (id, node, sent)) (hstate : s.ring.state = .integrate) :
    timeQueryTimeout s = sendQuery (advanceTo s (sent + 1000000000)) node := by
  unfold timeQueryTimeout
  rw [hquery]
  exact if_pos hstate

/-- A query noted as sent to a node. -/
def queryNoted (s : State) (node : Nat) : State :=
  s.modRing (fun r => { r with query := some ((s.ring.queryNo + 1) % 65536, node, s.time.now), queryNo := (s.ring.queryNo + 1) % 65536 })

theorem sendQuery_eq (s : State) (node : Nat) : ∃ f, sendQuery s node = queueBest (queryNoted s node) .west f := ⟨_, rfl⟩

theorem sendQuery_notes (s : State) (node : Nat) :
    (sendQuery s node).ring.query = some ((s.ring.queryNo + 1) % 65536, node, s.time.now) ∧ (sendQuery s node).ring.state = s.ring.state ∧
      (sendQuery s node).mode = s.mode ∧ (sendQuery s node).lanes = s.lanes := by
  obtain ⟨f, hf⟩ := sendQuery_eq s node
  obtain ⟨hquery, hstate, hmode, hlanes, -, -⟩ := queueBest_west (queryNoted s node) f
  rw [hf]
  exact ⟨hquery, hstate, hmode, hlanes⟩

theorem bestFrame_sender (s : State) (dest service : Nat) (body : Bytes) : (bestFrame s dest service body).sender = s.pins.node := rfl

/-- A frame's payload begins as it was given, whatever its level pads. -/
theorem ringFrame_payload (s : State) (kind flags cli flow seq send : Nat) (payload : Bytes) :
    ∃ pad, (ringFrame s kind flags cli flow seq send payload).payload = payload ++ pad := by
  unfold ringFrame padTo
  dsimp only
  split
  · exact ⟨_, by rw [List.take_of_length_le (Nat.le_max_right _ _)]⟩
  · exact ⟨[], (List.append_nil _).symm⟩

theorem bestFrame_names (s : State) (dest service : Nat) (body : Bytes) (hdest : dest < 256) (hservice : service < 256) :
    bestDest (bestFrame s dest service body) = dest ∧ bestService (bestFrame s dest service body) = service := by
  obtain ⟨pad, hpad⟩ := ringFrame_payload s 6 0 65535 65535 0 0 (bestPayload dest service body)
  have hbytes : ∃ rest, (bestFrame s dest service body).payload = BitVec.ofNat 8 dest :: BitVec.ofNat 8 service :: rest := ⟨_, hpad⟩
  obtain ⟨rest, hrest⟩ := hbytes
  unfold bestDest bestService
  rw [hrest]
  exact ⟨Nat.mod_eq_of_lt hdest, Nat.mod_eq_of_lt hservice⟩

/-- An announcement's instant noted. -/
def announced (s : State) : State := { s with time := { s.time with announcedAt := some s.time.now } }

theorem timeAnnouncement_sends {s : State} (hsource : s.timeSource = true) (hstate : s.ring.state ≠ .off)
    (hknown : s.time.taiValid = true ∨ s.time.announcedAt.isSome = true) :
    ∃ body, timeAnnouncement s = queueBest (announced (advanceTo s (s.time.announcedAt.elim 0 (fun t => t + 1000000000)))) .west
      (bestFrame (announced (advanceTo s (s.time.announcedAt.elim 0 (fun t => t + 1000000000)))) 0 2 body) := by
  unfold timeAnnouncement
  rw [hsource, decide_eq_true hstate, if_pos (by rcases hknown with h | h <;> rw [h] <;> simp)]
  exact ⟨_, rfl⟩

theorem timeAnnouncement_announces {s : State} (hsource : s.timeSource = true) (hstate : s.ring.state ≠ .off)
    (hknown : s.time.taiValid = true ∨ s.time.announcedAt.isSome = true) :
    ∃ t, timeAnnouncement s = t ∧ t.time.announcedAt = some t.time.now ∧ t.ring.east = s.ring.east ∧ t.time.tai = s.time.tai ∧
      t.time.now = s.time.now + (s.time.announcedAt.elim 0 (fun a => a + 1000000000) - s.time.now) ∧
      (s.ring.west.queue.length < 16 → ∃ f, t.ring.west.queue = s.ring.west.queue ++ [f] ∧ f.sender = s.pins.node ∧ bestService f = 2 ∧
        bestDest f = 0) := by
  obtain ⟨body, h⟩ := timeAnnouncement_sends hsource hstate hknown
  generalize s.time.announcedAt.elim 0 (fun t => t + 1000000000) = T at h ⊢
  obtain ⟨hdest, hservice⟩ := bestFrame_names (announced (advanceTo s T)) 0 2 body (by decide) (by decide)
  obtain ⟨-, -, -, -, htime, heast⟩ := queueBest_west (announced (advanceTo s T)) (bestFrame (announced (advanceTo s T)) 0 2 body)
  refine ⟨_, h, ?_, heast, ?_, ?_, fun hroom => ⟨_, queueBest_room _ hroom, rfl, hservice, hdest⟩⟩
  · rw [htime]
    rfl
  · rw [htime]
    rfl
  · rw [htime]
    exact advanceTo_now_add s T

theorem ringLinkUp_sets {s : State} (p : RingPort) (h : s.booted = true) :
    ringLinkUp s p = jset (s.modPort p (fun x => { x with link := if s.v2ring then 2 else 1, upAt := none })) 0x4202 (p.num + 1)
      (if s.v2ring then 2 else 1) := if_pos h

theorem bypassRelease_opens {s : State} {t : Nat} (h : s.ring.leaveAt = some t) :
    bypassRelease s = (setBypass (advanceTo s (t + 50000)) false).modRing (fun r => { r with leaveAt := none }) := by
  unfold bypassRelease
  rw [h]

/-- Settles O39: what breaks, links, leaves, ticks, timeouts and announcements do. -/
theorem ringStartsAndHeals : Obligations.RingStartsAndHeals := by
  intro s p
  refine ⟨fun hstate hwrap => ⟨?_, ?_⟩, fun hstate hwrap => ⟨?_, ?_, fun t hup hlink hown hnone => ?_, fun a b hown hb => ?_⟩,
    fun hbooted => congrArg Host.Outcome.next (ringLinkUp_sets p hbooted), fun t ht => congrArg Host.Outcome.next (bypassRelease_opens ht), ?_,
    fun d hdelay hstate => ?_, fun id node sent hquery hstate => ⟨?_, ?_⟩, fun hsource hstate hknown => ?_⟩
  · exact congrArg Host.Outcome.next ((breakDetected_running hstate).trans
      (breakAt_intact (s := advanceTo s ((s.port p).lastHeard + s.breakNs)) 1 hstate (by cases p <;> exact hwrap)))
  · obtain ⟨t, h, ht⟩ := ringLinkLoss_intact hstate hwrap
    exact ⟨t, congrArg Host.Outcome.next h, ht⟩
  · exact congrArg Host.Outcome.next ((breakDetected_running hstate).trans
      (breakAt_wrapped (s := advanceTo s ((s.port p).lastHeard + s.breakNs)) 1 hstate (by cases p <;> exact hwrap)))
  · obtain ⟨t, h, ht⟩ := ringLinkLoss_wrapped hstate hwrap
    exact ⟨t, congrArg Host.Outcome.next h, ht⟩
  · exact congrArg Host.Outcome.next (linkRestored_announces hstate hwrap hup hlink hown hnone)
  · obtain ⟨t, h, ht⟩ := unwrap_ends hstate hwrap hown hb
    exact ⟨t, congrArg Host.Outcome.next h, ht⟩
  · intro hstate quiet sent
    exact ⟨fun hawait hfits => congrArg Host.Outcome.next (tickTransmit_sends hstate rfl hawait hfits),
      fun hawait => congrArg Host.Outcome.next (tickTransmit_awaits hstate rfl hawait),
      fun t hp hnext hlate => congrArg Host.Outcome.next (tickTransmit_late hstate rfl hp hnext hlate)⟩
  · obtain ⟨t, h, ht⟩ := listenTimeout_claims hdelay hstate
    exact ⟨t, congrArg Host.Outcome.next h, ht⟩
  · exact congrArg Host.Outcome.next (timeQueryTimeout_repeats hquery hstate)
  · obtain ⟨hq, hst, hmode, hlanes⟩ := sendQuery_notes (advanceTo s (sent + 1000000000)) node
    exact ⟨_, congrArg Host.Outcome.next (timeQueryTimeout_repeats hquery hstate), hq, hst.trans hstate, hmode, hlanes⟩
  · obtain ⟨t, h, ht⟩ := timeAnnouncement_announces hsource hstate hknown
    exact ⟨t, congrArg Host.Outcome.next h, ht⟩

end Sys2Proof.Machine
end

section
/-! Sessions, the plug, JTAG and the sensors (13 R353, R356, R357, R366, 14 R391, 16 R471). -/

namespace Sys2Proof.Machine

open Sys2Proof

/-! ## Sessions (13 R356, R357) -/

theorem sessionIdle_ends {s : State} {h : Sender} (hholder : s.priv.holder = some h) :
    sessionIdle s = recordSession { advanceTo s (s.priv.lastAt + 1000000000 * jget s 0x8010 5) with
      priv := { (advanceTo s (s.priv.lastAt + 1000000000 * jget s 0x8010 5)).priv with holder := none } } 3 h.client h.path.code := by
  have hend : sessionIdle s = endSession (advanceTo s (s.priv.lastAt + 1000000000 * jget s 0x8010 5)) 3 := by
    unfold sessionIdle
    rw [hholder]
  have hholder' : (advanceTo s (s.priv.lastAt + 1000000000 * jget s 0x8010 5)).priv.holder = some h := hholder
  rw [hend]
  unfold endSession
  rw [hholder']

theorem lockoutOver_ends {s : State} (h : 0 < s.priv.lockNs) :
    ∃ t, lockoutOver s = t ∧ t.priv.fails = 0 ∧ t.priv.lockNs = 0 ∧ t.priv.holder = s.priv.holder ∧ t.time.now = s.time.now + s.priv.lockNs := by
  refine ⟨_, if_pos (decide_eq_true h), rfl, rfl, rfl, ?_⟩
  exact (advanceTo_now_add s (s.time.now + s.priv.lockNs)).trans (by omega)

/-! ## The plug (13 R353) -/

theorem plugReading_unbooted {s : State} (j : Nat) (ls : Tri Nat) (h : s.booted = false) :
    plugReading s j ls = { s with pins := { s.pins with escJ := j, escL := ls } } := by
  unfold plugReading
  rw [h]
  rfl

/-- The readings taken and shown. -/
def plugTaken (s : State) (j : Nat) (ls : Tri Nat) : State :=
  showPlug { advanceTo s (s.pins.readAt + 10000000) with
    pins := { s.pins.read j ls with readAt := (advanceTo s (s.pins.readAt + 10000000)).time.now } }

/-- A state that differs at most in its recorder and its registers. -/
def State.Shown (s t : State) : Prop := ∃ r g, t = { s with recorder := r, jreg := g }

namespace State.Shown

variable {s t u : State}

theorem refl (s : State) : s.Shown s := ⟨_, _, rfl⟩

theorem trans (h : s.Shown t) (h' : t.Shown u) : s.Shown u := by
  obtain ⟨_, _, rfl⟩ := h
  obtain ⟨_, _, rfl⟩ := h'
  exact ⟨_, _, rfl⟩

theorem jset (s : State) (i j v : Nat) : s.Shown (jset s i j v) := ⟨_, _, rfl⟩

theorem record (s : State) (source type : Nat) (payload : Bytes) : s.Shown (record s source type payload) := record_eq _ _ _ _

theorem ite {c : Prop} [Decidable c] (h : s.Shown t) : s.Shown (if c then t else s) := by
  split
  · exact h
  · exact refl s

end State.Shown

theorem plugReading_booted {s : State} (j : Nat) (ls : Tri Nat) (h : s.booted = true) : (plugTaken s j ls).Shown (plugReading s j ls) := by
  unfold plugReading
  rw [h]
  dsimp only
  rw [if_neg (by decide : ¬(!true) = true)]
  exact ((State.Shown.ite (.jset _ _ _ _)).trans (.ite (.jset _ _ _ _))).trans (.ite (.record _ _ _ _))

theorem Pins.read_esc7_keeps {p : Pins} {j : Nat} (ls : Tri Nat) (h : p.esc7Runs < 2 ∨ bitOf p.escJ 7 ≠ bitOf j 7) :
    (p.read j ls).esc7 = p.esc7 := by
  refine if_neg ?_
  split
  · rename_i heq
    have hruns : p.esc7Runs < 2 := h.resolve_right (not_not_intro (of_decide_eq_true heq))
    have hmin : Nat.min 3 (p.esc7Runs + 1) = min 3 (p.esc7Runs + 1) := rfl
    omega
  · decide

theorem Pins.read_esc7_takes {p : Pins} {j : Nat} (ls : Tri Nat) (hruns : 2 ≤ p.esc7Runs) (h : bitOf p.escJ 7 = bitOf j 7) :
    (p.read j ls).esc7 = bitOf j 7 := by
  refine if_pos ?_
  rw [if_pos (decide_eq_true h)]
  have hmin : Nat.min 3 (p.esc7Runs + 1) = min 3 (p.esc7Runs + 1) := rfl
  omega

theorem plugReading_takes {s : State} (j : Nat) (ls : Tri Nat) (h : s.booted = true) :
    ∃ t, plugReading s j ls = t ∧ t.time.now = s.time.now + (s.pins.readAt + 10000000 - s.time.now) ∧
      t.pins = { s.pins.read j ls with readAt := t.time.now } ∧ t.mode = s.mode ∧
      ((s.pins.esc7Runs < 2 ∨ bitOf s.pins.escJ 7 ≠ bitOf j 7) → t.pins.esc7 = s.pins.esc7) ∧
      (2 ≤ s.pins.esc7Runs → bitOf s.pins.escJ 7 = bitOf j 7 → t.pins.esc7 = bitOf j 7) := by
  obtain ⟨_, _, heq⟩ := plugReading_booted j ls h
  exact ⟨_, heq, advanceTo_now_add s _, rfl, rfl, Pins.read_esc7_keeps ls, Pins.read_esc7_takes ls⟩

/-! ## JTAG (13 R366) -/

/-- The instruction that takes effect. -/
def jtagSelect (s : State) (c : JtagCode) : State := { s with pins := { s.pins with jtag := c } }

/-- An instruction that came too late: BYPASS, counted but in start-up. -/
def jtagRefuse (s : State) : State := if s.mode = .startUp then jtagSelect s .bypass else jbump (jtagSelect s .bypass) 0x8030 2

theorem jtagLoad_plain {s : State} {i : JtagCode} (h : i ∈ [JtagCode.bypass, .idcode, .samplePreload]) : jtagLoad s i = jtagSelect s i := by
  simp only [List.mem_cons, List.not_mem_nil, or_false] at h
  rcases h with rfl | rfl | rfl <;> rfl

theorem jtagLoad_extest (s : State) : jtagLoad s .extest = if s.beforeRing7 then jtagSelect s .extest else jtagRefuse s := rfl

theorem jtagLoad_takesLands (s : State) : jtagLoad s .takesLands = if !s.beforeRing7 then jtagRefuse s
    else if s.pins.unsealedMode then jtagSelect s .takesLands else jtagSelect s .bypass := rfl

theorem jtagLoad_factory (s : State) :
    jtagLoad s .factory = if s.beforeRing7 && s.pins.unsealedMode then jtagSelect s .factory else jtagSelect s .bypass := rfl

theorem jtagLoad_early {s : State} {i : JtagCode} (hi : i ∈ [JtagCode.takesLands, .factory]) (h : s.beforeRing7 = true) :
    jtagLoad s i = if s.pins.unsealedMode then jtagSelect s i else jtagSelect s .bypass := by
  simp only [List.mem_cons, List.not_mem_nil, or_false] at hi
  rcases hi with rfl | rfl
  · rw [jtagLoad_takesLands, h]
    rfl
  · rw [jtagLoad_factory, h, Bool.true_and]

theorem jtagLoad_late {s : State} {i : JtagCode} (hi : i ∈ [JtagCode.takesLands, .extest]) (h : s.beforeRing7 = false) :
    jtagLoad s i = jtagRefuse s := by
  simp only [List.mem_cons, List.not_mem_nil, or_false] at hi
  rcases hi with rfl | rfl
  · rw [jtagLoad_takesLands, h]
    rfl
  · rw [jtagLoad_extest, h]
    rfl

/-! ## Rails and dies (14 R391, 16 R471) -/

/-- A rail's voltage kept and taken by the monitors. -/
def railTaken (s t : State) (rail mV : Nat) : State :=
  monitorTake { t with power := { t.power with mV := Store.insert s.power.mV rail mV } } 6 rail mV

/-- A sample seen, once it is kept: taken by the monitors of a booted module. -/
theorem railTaken_booted {s u : State} (rail mV : Nat) (h : u.booted = true) :
    (if ({ u with power := { u.power with mV := Store.insert s.power.mV rail mV } } : State).booted then
      monitorTake { u with power := { u.power with mV := Store.insert s.power.mV rail mV } } 6 rail mV
      else { u with power := { u.power with mV := Store.insert s.power.mV rail mV } }) = railTaken s u rail mV := if_pos h

theorem railSample_lane {s : State} {rail : Nat} (mV : Nat) {l : LaneId} (h : s.booted = true) (hl : LaneId.ofNum rail = some l) :
    railSample s rail mV = railTaken s (s.modLane l (fun ln => ln.rset 0x2101 1 (mV % 65536))) rail mV := by
  unfold railSample
  rw [hl]
  exact railTaken_booted rail mV h

theorem LaneId.ofNum_none {n : Nat} (h : 3 ≤ n) : LaneId.ofNum n = none := by
  match n, h with
  | n + 3, _ => rfl

/-- What the junction sees of a rail that is no lane's. -/
def railSeen (s : State) (rail mV : Nat) : State :=
  if rail = 3 then jset s 0x2101 4 (mV % 65536) else if rail = 4 ∧ s.variantF then seeSupplyAll s (mV % 65536) else s

theorem railSeen_power (s : State) (rail mV : Nat) : (railSeen s rail mV).power = s.power := by
  unfold railSeen
  split
  · rfl
  · split <;> rfl

theorem railSample_seen {s : State} {rail : Nat} (mV : Nat) (h : s.booted = true) (hrail : 3 ≤ rail) :
    railSample s rail mV = railTaken s (railSeen s rail mV) rail mV := by
  have hbooted : (railSeen s rail mV).booted = true := (congrArg (fun p : Power => decide (p.step ≠ 0) && decide (p.stage < 4)) (railSeen_power s rail mV)).trans h
  rw [← railTaken_booted (s := s) rail mV hbooted, ← railSeen_power s rail mV]
  unfold railSample
  rw [LaneId.ofNum_none hrail]
  rfl

theorem railSeen_field (s : State) (mV : Nat) : railSeen s 4 mV = if s.variantF then seeSupplyAll s (mV % 65536) else s :=
  (if_neg (by decide)).trans (if_congr (and_iff_right rfl) rfl rfl)

theorem railSeen_rest {rail : Nat} (s : State) (mV : Nat) (h : 5 ≤ rail) : railSeen s rail mV = s :=
  (if_neg (by omega)).trans (if_neg fun h4 => absurd h4.1 (by omega))

/-- A die's reading counted where it is hot and taken by the monitors. -/
def dieTaken (u : State) (die : Nat) (t : Int) : State := monitorTake (if 1250 ≤ t then jbump u 0x2108 (die + 6) else u) 7 die t

theorem dieTemperature_reads {s : State} {die : Nat} (h : s.booted = true) (hfield : die = 4 → s.variantF = true ∧ s.field.operating = true) :
    (s.booted && (decide (die ≠ 4) || (s.variantF && s.field.operating))) = true := by
  rw [h, Bool.true_and, Bool.or_eq_true]
  by_cases hd : die = 4
  · obtain ⟨hv, ho⟩ := hfield hd
    rw [hv, ho]
    exact .inr rfl
  · exact .inl (decide_eq_true hd)

theorem dieTemperature_lane {s : State} {die : Nat} (t : Int) {l : LaneId} (h : s.booted = true)
    (hfield : die = 4 → s.variantF = true ∧ s.field.operating = true) (hl : LaneId.ofNum die = some l) :
    dieTemperature s die t = dieTaken (s.modLane l (fun ln => ln.rset 0x2108 1 (wrapTo 16 t))) die t := by
  unfold dieTemperature
  rw [if_pos (dieTemperature_reads h hfield), hl]
  rfl

theorem dieTemperature_rest {s : State} {die : Nat} (t : Int) (h : s.booted = true)
    (hfield : die = 4 → s.variantF = true ∧ s.field.operating = true) (hdie : 3 ≤ die) :
    dieTemperature s die t = dieTaken (jset s 0x2108 (die + 1) (wrapTo 16 t)) die t := by
  unfold dieTemperature
  rw [if_pos (dieTemperature_reads h hfield), LaneId.ofNum_none hdie]
  rfl

/-- Settles O48: sessions, the plug, JTAG and the sensors, each by its rule. -/
theorem sessionsPinsAndSensors : Obligations.SessionsPinsAndSensors := by
  intro s
  refine ⟨fun h hholder => congrArg Host.Outcome.next (sessionIdle_ends hholder), fun hlock => ?_, fun j ls => ⟨fun hb => ?_, fun hb => ?_⟩, ?_,
    fun hb => ⟨fun rail mV => ?_, fun die t hfield => ?_⟩⟩
  · obtain ⟨t, h, ht⟩ := lockoutOver_ends hlock
    exact ⟨t, congrArg Host.Outcome.next h, ht⟩
  · exact congrArg Host.Outcome.next (plugReading_unbooted j.val (ls.map (fun x => x.val)) hb)
  · obtain ⟨t, h, ht⟩ := plugReading_takes j.val (ls.map (fun x => x.val)) hb
    exact ⟨t, congrArg Host.Outcome.next h, ht⟩
  · refine ⟨fun i hi => congrArg Host.Outcome.next (jtagLoad_plain hi), rfl,
      fun hb => ⟨congrArg Host.Outcome.next ((jtagLoad_extest s).trans (if_pos hb)), fun i hi => congrArg Host.Outcome.next (jtagLoad_early hi hb)⟩,
      fun hb => ⟨congrArg Host.Outcome.next ((jtagLoad_factory s).trans (if_neg (by rw [hb]; exact Bool.false_ne_true))),
        fun i hi => congrArg Host.Outcome.next (jtagLoad_late hi hb)⟩⟩
  · refine ⟨fun l hl => congrArg Host.Outcome.next (railSample_lane mV hb hl), fun h3 => congrArg Host.Outcome.next ?_,
      fun h4 => congrArg Host.Outcome.next ?_, fun h5 => congrArg Host.Outcome.next ((railSample_seen mV hb (by omega)).trans
        (congrArg (fun u => railTaken s u rail.val mV) (railSeen_rest s mV h5)))⟩
    · rw [railSample_seen mV hb (Nat.le_of_eq h3.symm), h3]
      rfl
    · rw [railSample_seen mV hb (by omega), h4, railSeen_field]
      rfl
  · exact ⟨fun l hl => congrArg Host.Outcome.next (dieTemperature_lane t hb hfield hl),
      fun hd => congrArg Host.Outcome.next (dieTemperature_rest t hb hfield hd)⟩

end Sys2Proof.Machine
end

section
/-! The stages of a sagging supply (16 R414 to R418, R421, R423, R424). -/

namespace Sys2Proof.Machine

open Sys2Proof

/-! ## What a leave frame changes (16 R419, 10 R295) -/

/-- A state that differs at most in what the ring's leaving changes: the ring, the time base, registers other than the counts of 2102 and the cause
3002, the crossings, the draws and what has left the device. -/
def State.Left (s t : State) : Prop :=
  (∃ j c k w x r, t = { s with jreg := j, crossings := c, free := k, wires := w, time := x, ring := r }) ∧
  ∀ i sub, sub < 256 → i = 0x2102 ∨ i = 0x3002 → jget t i sub = jget s i sub

namespace State.Left

variable {s t u : State}

theorem refl (s : State) : s.Left s := ⟨⟨_, _, _, _, _, _, rfl⟩, fun _ _ _ _ => rfl⟩

theorem trans (h : s.Left t) (h' : t.Left u) : s.Left u := by
  obtain ⟨⟨_, _, _, _, _, _, ht⟩, hj⟩ := h
  obtain ⟨⟨_, _, _, _, _, _, rfl⟩, hj'⟩ := h'
  subst ht
  exact ⟨⟨_, _, _, _, _, _, rfl⟩, fun i sub hs hi => (hj' i sub hs hi).trans (hj i sub hs hi)⟩

theorem jset (s : State) {i j : Nat} (v : Nat) (hj : j < 256) (hi : i ≠ 0x2102 ∧ i ≠ 0x3002) : s.Left (jset s i j v) :=
  ⟨⟨_, _, _, _, _, _, rfl⟩, fun a b hb ha => jget_jset_other _ _ _ _ _ _ (regKey_ne hb hj (by omega))⟩

theorem modRing (s : State) (f : Ring → Ring) : s.Left (s.modRing f) := ⟨⟨_, _, _, _, _, _, rfl⟩, fun _ _ _ _ => rfl⟩

theorem modPort (s : State) (p : RingPort) (f : RingPortState → RingPortState) : s.Left (s.modPort p f) := by
  cases p <;> exact ⟨⟨_, _, _, _, _, _, rfl⟩, fun _ _ _ _ => rfl⟩

theorem withTime (s : State) (x : TimeBase) : s.Left { s with time := x } := ⟨⟨_, _, _, _, _, _, rfl⟩, fun _ _ _ _ => rfl⟩

theorem emit (s : State) (w : Wire) : s.Left (s.emit w) := ⟨⟨_, _, _, _, _, _, rfl⟩, fun _ _ _ _ => rfl⟩

theorem of_crossed {x : Nat} (hx : x ≤ 41) (h : State.Crossed x s t) : s.Left t := by
  have hj : ∀ i sub, sub < 256 → i = 0x2102 ∨ i = 0x3002 → jget t i sub = jget s i sub := fun i sub hs hi =>
    h.jget_other hs (by omega) hx
  obtain ⟨⟨_, _, _, rfl⟩, -⟩ := h
  exact ⟨⟨_, _, _, _, _, _, rfl⟩, hj⟩

theorem carry {x n : Nat} {i : XItem} {f : State → State} (s : State) (hx : x ≤ 41) (hf : ∀ a : State, a.Left (f a)) :
    s.Left (carry s x n i id f) :=
  carry_keeps (P := s.Left) (refl s) (fun _ _ hc h => h.trans (of_crossed hx hc)) (fun _ h => h) (fun _ h => h.trans (hf _))

theorem putOnWire (s : State) (p : RingPort) (f : RFrame) (start : Nat) : s.Left (putOnWire s p f start) := by
  have hstart : ∀ a : State, a.Left (startFrame a p f start) := fun a => (modPort a p _).trans (emit _ _)
  unfold Machine.putOnWire
  split
  · exact carry s (by decide) hstart
  · exact hstart s

theorem sendVia (s : State) (p : RingPort) (f : RFrame) (start : Nat) : s.Left (sendVia s p f start) := by
  unfold Machine.sendVia
  split
  · exact putOnWire ..
  · split
    · exact putOnWire ..
    · exact refl s

theorem ringState (s : State) (st : RingState) : s.Left (ringState s st) := by
  have hset : s.Left (Machine.jset (Machine.jset (s.modRing (fun r => { r with state := st, since := s.time.now })) 0x4230 1 st.code) 0x4230 6
      (ownNamed (Machine.jset (s.modRing (fun r => { r with state := st, since := s.time.now })) 0x4230 1 st.code))) :=
    ((modRing s _).trans (jset _ _ (by decide) (by decide))).trans (jset _ _ (by decide) (by decide))
  unfold Machine.ringState
  dsimp only
  split
  · exact hset.trans (carry _ (by decide) fun a => withTime a _)
  · exact hset

theorem sendLeave (s : State) (reason : Nat) : s.Left (sendLeave s reason) := by
  have hboth : s.Left (leaveBy (leaveBy s .east reason) .west reason) := (sendVia s .east _ _).trans (sendVia _ .west _ _)
  unfold Machine.sendLeave
  split
  · exact refl s
  · dsimp only
    refine trans (trans (trans hboth ?_) (ringState _ .off)) (withTime _ _)
    split
    · exact (modRing _ _).trans (jset _ _ (by decide) (by decide))
    · exact modRing _ _

end State.Left

/-! ## What the entry into the safe state leaves of the supply -/

/-- The supply, the ECN ports' power and the counts of the stages are as they were. -/
structure State.Fed (s t : State) : Prop where
  power : t.power = s.power
  on0 : t.ecn0.on = s.ecn0.on
  on1 : t.ecn1.on = s.ecn1.on
  count : ∀ i, i < 256 → jget t 0x2102 i = jget s 0x2102 i

namespace State.Fed

variable {s t u : State}

theorem refl (s : State) : s.Fed s := ⟨rfl, rfl, rfl, fun _ _ => rfl⟩

theorem trans (h : s.Fed t) (h' : t.Fed u) : s.Fed u :=
  ⟨h'.power.trans h.power, h'.on0.trans h.on0, h'.on1.trans h.on1, fun i hi => (h'.count i hi).trans (h.count i hi)⟩

theorem of_left (h : s.Left t) : s.Fed t := by
  obtain ⟨⟨_, _, _, _, _, _, rfl⟩, hj⟩ := h
  exact ⟨rfl, rfl, rfl, fun i hi => hj 0x2102 i hi (.inl rfl)⟩

theorem jset (s : State) {i j : Nat} (v : Nat) (hj : j < 256) (hi : i ≠ 0x2102) : s.Fed (jset s i j v) :=
  ⟨rfl, rfl, rfl, fun _ hb => jget_jset_other _ _ _ _ _ _ (regKey_ne hb hj hi.symm)⟩

theorem record (s : State) (source type : Nat) (payload : Bytes) : s.Fed (record s source type payload) := by
  have hj : ∀ i, i < 256 → jget (Machine.record s source type payload) 0x2102 i = jget s 0x2102 i := fun i hi =>
    jget_record_other _ _ _ _ _ _ (regKey_ne hi (by decide) (by decide))
  obtain ⟨r, j, h⟩ := record_eq s source type payload
  rw [h] at hj ⊢
  exact ⟨rfl, rfl, rfl, hj⟩

theorem endChange (s : State) (result detail : Nat) : s.Fed (endChange s result detail) := by
  have hj : ∀ i, i < 256 → jget (Machine.endChange s result detail) 0x2102 i = jget s 0x2102 i := fun i hi =>
    jget_endChange_other _ _ _ _ _ (regKey_ne hi (by decide) (by decide)) (regKey_ne hi (by decide) (by decide)) (regKey_ne hi (by decide) (by decide))
  obtain ⟨_, _, _, _, h⟩ := endChange_eq s result detail
  rw [h] at hj ⊢
  exact ⟨rfl, rfl, rfl, hj⟩

theorem emcy (s : State) (code b3 b4 : Nat) : s.Fed (emcy s code b3 b4) := by
  have hj : ∀ i, i < 256 → jget (Machine.emcy s code b3 b4) 0x2102 i = jget s 0x2102 i := fun i hi =>
    jget_emcy_other _ _ _ _ _ _ hi (by decide) (by decide)
  obtain ⟨_, _, _, _, h⟩ := State.Told.emcy s code b3 b4
  rw [h] at hj ⊢
  exact ⟨rfl, rfl, rfl, hj⟩

theorem stopped (s : State) : s.Fed s.stopped := by
  obtain ⟨k, c, heq⟩ := switching_eq (stampRegions (s.modLanes (fun l ln => ln.enterSafe l s.pGlue s.time.now)))
    (fun s => { s with field := s.field.openAll })
  unfold State.stopped
  rw [heq]
  exact ⟨rfl, rfl, rfl, fun _ _ => rfl⟩

theorem safeTold (s : State) (cause before : Nat) (extra : Bytes) : s.Fed (s.safeTold cause before extra) := by
  have hreint : s.Fed (if s.vote.reint.isSome then Machine.jset s 0x3006 4 3 else s) := by
    split
    · exact jset _ _ (by decide) (by decide)
    · exact refl s
  have htell : ∀ (a : State) (v : Vote) (payload : Bytes), s.Fed a →
      s.Fed (Machine.record (Machine.jset (Machine.jset { a with vote := v } 0x3002 0 cause) 0x3003 0 cause) 0 1 payload) := fun a v payload ha =>
    ((ha.trans (⟨rfl, rfl, rfl, fun _ _ => rfl⟩ : a.Fed { a with vote := v })).trans ((jset _ _ (by decide) (by decide)).trans
      (jset _ _ (by decide) (by decide)))).trans (record _ _ _ _)
  unfold State.safeTold
  dsimp only
  generalize (if s.vote.reint.isSome then Machine.jset s 0x3006 4 3 else s) = a at hreint ⊢
  split
  · refine trans ?_ (endChange _ _ _)
    exact htell _ _ _ hreint
  · exact htell _ _ _ hreint

theorem enterSafe (s : State) (cause : Nat) : s.Fed (enterSafe s cause) := by
  by_cases h : s.mode = .safe
  · unfold Machine.enterSafe enterSafeWith
    rw [if_pos h]
    exact refl s
  · unfold Machine.enterSafe
    rw [enterSafeWith_eq s cause [] h]
    exact ((emcy s _ _ _).trans (stopped _)).trans (safeTold _ _ _ _)

end State.Fed

end Sys2Proof.Machine
end

section
/-! The stages of a sagging supply: their entries, the power-fail warning and stage 4 (16 R414 to R424). -/

namespace Sys2Proof.Machine

open Sys2Proof

/-! ## Shedding (16 R415, R417) -/

/-- A state in which at most the engines of the lanes, the monitors and the count 2104.00 have gone on. -/
def State.Shed (s t : State) : Prop :=
  (∃ lanes m j, t = { s with lanes := lanes, monitors := m, jreg := j }) ∧
  ∀ index sub, regKey index sub ≠ regKey 0x2104 0 → jget t index sub = jget s index sub

namespace State.Shed

variable {s t u : State}

theorem refl (s : State) : s.Shed s := ⟨⟨_, _, _, rfl⟩, fun _ _ _ => rfl⟩

theorem trans (h : s.Shed t) (h' : t.Shed u) : s.Shed u := by
  obtain ⟨⟨_, _, _, ht⟩, hj⟩ := h
  obtain ⟨⟨_, _, _, rfl⟩, hj'⟩ := h'
  subst ht
  exact ⟨⟨_, _, _, rfl⟩, fun i j hij => (hj' i j hij).trans (hj i j hij)⟩

theorem of_runsOn {l : LaneId} (h : s.RunsOn l t) : s.Shed t := ⟨h.rest, h.registers⟩

theorem foldl {α : Type} (f : State → α → State) (hf : ∀ a x, State.Shed a (f a x)) (xs : List α) : ∀ a : State, a.Shed (xs.foldl f a) := by
  induction xs with
  | nil => exact refl
  | cons x xs ih => exact fun a => (hf a x).trans (ih _)

theorem stopHalves (s : State) : s.Shed (stopHalves s) := by
  have hset : ∀ (b : State) (l : LaneId) (f : Lane → Lane), b.Shed (b.modLane l f) := fun _ _ _ => ⟨⟨_, _, _, rfl⟩, fun _ _ _ => rfl⟩
  unfold Machine.stopHalves
  refine foldl _ (fun a l => ?_) _ s
  split
  · refine foldl _ (fun b n => ?_) _ a
    exact (hset b l _).trans (of_runsOn (.walkEngine _ l n))
  · exact refl a

end State.Shed

/-- The power as a stage is entered. -/
def Power.staged (p : Power) (n : Nat) : Power := { p with stage := n, shedC := Nat.max p.shedC n }

theorem shedFrom_shed (s : State) (n : Nat) : State.Shed { s with power := s.power.staged n } (shedFrom s n) := by
  unfold shedFrom
  dsimp only
  split
  · exact State.Shed.stopHalves _
  · exact .refl _

theorem shedFrom_one (s : State) : shedFrom s 1 = { s with power := s.power.staged 1 } := by
  unfold shedFrom
  exact if_neg (by decide : ¬2 ≤ 1)

/-- What the entry into a stage leaves, before it is recorded. -/
theorem enterStage_enters (s : State) {n : Nat} (mV : Nat) (hn : n = 1 ∨ n = 2 ∨ n = 3) :
    ∃ u, enterStage s n mV = recordStage u mV ∧ u.power = s.power.staged n ∧ jget u 0x2102 n = bump32 (jget s 0x2102 n) ∧
      u.mode = s.mode ∧ u.time = s.time ∧ (n = 1 → u.lanes = s.lanes) ∧ u.ecn0 = s.ecn0 ∧ u.ecn1 = s.ecn1 := by
  have hdefault : tableDefault (regKey 0x2102 n) = 0 := by rcases hn with rfl | rfl | rfl <;> decide
  have hkey : regKey 0x2102 n ≠ regKey 0x2104 0 := by rcases hn with rfl | rfl | rfl <;> decide
  have hlanes : n = 1 → (shedFrom s n).lanes = s.lanes := by
    rintro rfl
    rw [shedFrom_one]
  obtain ⟨⟨lanes, m, j, heq⟩, hj⟩ := shedFrom_shed s n
  have hcount : jget (jbump (shedFrom s n) 0x2102 n) 0x2102 n = bump32 (jget s 0x2102 n) := by
    rw [jget_jbump_self _ _ _ hdefault, hj _ _ hkey]
    rfl
  refine ⟨_, rfl, ?_, hcount, ?_, ?_, hlanes, ?_, ?_⟩
  all_goals rw [heq]
  all_goals rfl

theorem record_recorder (s : State) (source type : Nat) (payload : Bytes) :
    (record s source type payload).recorder = (s.recorder.tellLost s.time.now).offer s.time.now source type payload := by
  unfold record
  dsimp only
  split <;> rfl

theorem recordStage_keeps (u : State) (mV : Nat) :
    (recordStage u mV).recorder = Parts.stageRecorded u u.power.stage mV ∧ (recordStage u mV).lanes = u.lanes ∧
      (recordStage u mV).power = u.power ∧ (recordStage u mV).mode = u.mode ∧ ∀ i, i < 256 → jget (recordStage u mV) 0x2102 i = jget u 0x2102 i :=
  ⟨record_recorder .., record_lanes .., record_power .., record_mode .., (State.Fed.record u 0 5 _).count⟩

theorem recordStage_ecn (u : State) (mV : Nat) : (recordStage u mV).ecn0 = u.ecn0 ∧ (recordStage u mV).ecn1 = u.ecn1 :=
  ⟨record_ecn0 .., record_ecn1 ..⟩

theorem enterStage_keeps (s : State) {n : Nat} (mV : Nat) (hn : n = 1 ∨ n = 2 ∨ n = 3) :
    (enterStage s n mV).power = s.power.staged n ∧ jget (enterStage s n mV) 0x2102 n = bump32 (jget s 0x2102 n) ∧
      (enterStage s n mV).mode = s.mode ∧ (enterStage s n mV).ecn0 = s.ecn0 ∧ (enterStage s n mV).ecn1 = s.ecn1 := by
  obtain ⟨u, heq, hpower, hcount, hmode, -, -, hecn0, hecn1⟩ := enterStage_enters s mV hn
  obtain ⟨-, -, kpower, kmode, kcount⟩ := recordStage_keeps u mV
  obtain ⟨kecn0, kecn1⟩ := recordStage_ecn u mV
  rw [heq]
  exact ⟨kpower.trans hpower, (kcount n (by omega)).trans hcount, kmode.trans hmode, kecn0.trans hecn0, kecn1.trans hecn1⟩

/-! ## The ECN ports (16 R417) -/

theorem switchEcn_keeps (s : State) (on : Bool) :
    (switchEcn s on).ecn0.on = on ∧ (switchEcn s on).ecn1.on = on ∧ (switchEcn s on).power = s.power ∧ (switchEcn s on).mode = s.mode ∧
      (switchEcn s on).lanes = s.lanes ∧ (switchEcn s on).recorder = s.recorder ∧ (switchEcn s on).time = s.time ∧
      ∀ i, i < 256 → jget (switchEcn s on) 0x2102 i = jget s 0x2102 i := by
  refine ⟨rfl, rfl, rfl, rfl, rfl, rfl, rfl, fun i hi => ?_⟩
  unfold switchEcn
  dsimp only
  rw [jget_jset_other _ _ _ _ _ _ (regKey_ne hi (by decide) (by decide)), jget_jset_other _ _ _ _ _ _ (regKey_ne hi (by decide) (by decide))]
  rfl

theorem showVinJ_keeps (s : State) (mV : Nat) :
    (showVinJ s mV).power = { s.power with mV := Store.insert s.power.mV 3 mV } ∧ (showVinJ s mV).mode = s.mode ∧ (showVinJ s mV).ecn0 = s.ecn0 ∧
      (showVinJ s mV).ecn1 = s.ecn1 ∧ ∀ i, i < 256 → jget (showVinJ s mV) 0x2102 i = jget s 0x2102 i := by
  refine ⟨rfl, rfl, rfl, rfl, fun i hi => ?_⟩
  exact jget_jset_other _ _ _ _ _ _ (regKey_ne hi (by decide) (by decide))

theorem shedPorts_keeps (s : State) :
    (shedPorts s).power = s.power ∧ (shedPorts s).mode = s.mode ∧ (s.power.stage < 2 → (shedPorts s).ecn0.on = false ∧ (shedPorts s).ecn1.on = false) ∧
      ∀ i, i < 256 → jget (shedPorts s) 0x2102 i = jget s 0x2102 i := by
  obtain ⟨hon0, hon1, hpower, hmode, -, -, -, hcount⟩ := switchEcn_keeps s false
  unfold shedPorts
  split
  case isTrue h => exact ⟨hpower, hmode, fun _ => ⟨hon0, hon1⟩, hcount⟩
  case isFalse h => exact ⟨rfl, rfl, fun h' => absurd h' h, fun _ _ => rfl⟩

/-! ## The power-fail warning (16 R418) -/

/-- PFW_N driven low. -/
def State.lowPfw (s : State) : State := { s with power := { s.power with pfw := true } }

/-- The junction as the warning leaves it before the leave frame. -/
def State.warned (s : State) : State :=
  if s.mode = .startUp then stopAt s 11 else enterSafe s 9

theorem failSupply_eq (s : State) : failSupply s = sendLeave (saveJunction
    { s.lowPfw.warned with
      recorder := { s.lowPfw.warned.recorder with holder := none } }) 1 := rfl

theorem failSupply_keeps (s : State) :
    (failSupply s).mode = s.lowPfw.warned.mode ∧
      (failSupply s).power = s.lowPfw.warned.power ∧ (failSupply s).recorder.holder = none ∧
      (failSupply s).ecn0.on = s.lowPfw.warned.ecn0.on ∧
      (failSupply s).ecn1.on = s.lowPfw.warned.ecn1.on ∧
      ∀ i sub, sub < 256 → i = 0x2102 ∨ i = 0x3002 →
        jget (failSupply s) i sub = jget s.lowPfw.warned i sub := by
  rw [failSupply_eq]
  generalize s.lowPfw.warned = w
  obtain ⟨⟨_, _, _, _, _, _, heq⟩, hj⟩ := State.Left.sendLeave (saveJunction { w with recorder := { w.recorder with holder := none } }) 1
  refine ⟨?_, ?_, ?_, ?_, ?_, fun i sub hs hi => hj i sub hs hi⟩
  all_goals rw [heq]
  all_goals rfl

theorem failSupply_stage (s : State) : (failSupply s).power.stage = s.power.stage ∧ (failSupply s).power.pfw = true ∧
    (failSupply s).ecn0.on = s.ecn0.on ∧ (failSupply s).ecn1.on = s.ecn1.on ∧ ∀ i, i < 256 → jget (failSupply s) 0x2102 i = jget s 0x2102 i := by
  obtain ⟨-, hpower, -, hon0, hon1, hj⟩ := failSupply_keeps s
  have hwarned : s.lowPfw.warned.power.stage = s.power.stage ∧
      s.lowPfw.warned.power.pfw = true ∧
      s.lowPfw.warned.ecn0.on = s.ecn0.on ∧
      s.lowPfw.warned.ecn1.on = s.ecn1.on ∧
      ∀ i, i < 256 → jget s.lowPfw.warned 0x2102 i = jget s 0x2102 i := by
    unfold State.warned
    split
    · exact ⟨rfl, rfl, rfl, rfl, fun _ _ => rfl⟩
    · obtain ⟨kpower, kon0, kon1, kcount⟩ := State.Fed.enterSafe s.lowPfw 9
      exact ⟨(congrArg Power.stage kpower :), (congrArg Power.pfw kpower :), kon0, kon1, kcount⟩
  obtain ⟨hstage, hpfw, kon0, kon1, kcount⟩ := hwarned
  exact ⟨(congrArg Power.stage hpower).trans hstage, (congrArg Power.pfw hpower).trans hpfw, hon0.trans kon0, hon1.trans kon1,
    fun i hi => (hj 0x2102 i hi (.inl rfl)).trans (kcount i hi)⟩

theorem failSupply_run (s : State) (h : s.inRun = true) : (failSupply s).mode = .safe ∧ jget (failSupply s) 0x3002 0 = 9 := by
  obtain ⟨hmode, -, -, -, -, hj⟩ := failSupply_keeps s
  have hstart : s.mode ≠ .startUp := fun hs => by
    unfold State.inRun at h
    rw [hs] at h
    exact absurd h (by decide)
  have hsafe : s.mode ≠ .safe := fun hs => by
    unfold State.inRun at h
    rw [hs] at h
    exact absurd h (by decide)
  have hwarned : s.lowPfw.warned = enterSafeWith s.lowPfw 9 [] :=
    if_neg hstart
  obtain ⟨t, ht, tmode, -, -, -, -, -, -, -, hcause⟩ := enterSafeWith_enters s.lowPfw 9 [] hsafe
  rw [hwarned, ht] at hmode hj
  exact ⟨hmode.trans tmode, (hj 0x3002 0 (by decide) (.inr rfl)).trans (hcause (by decide)).1⟩

theorem failSupply_startUp (s : State) (h : s.mode = .startUp) : (failSupply s).mode = .startUp ∧ (failSupply s).power.stop = 11 := by
  obtain ⟨hmode, hpower, -⟩ := failSupply_keeps s
  have hwarned : s.lowPfw.warned = stopAt s.lowPfw 11 :=
    if_pos h
  rw [hwarned] at hmode hpower
  exact ⟨hmode.trans h, congrArg Power.stop hpower⟩

end Sys2Proof.Machine
end

section
/-! Module resets and what survives them (16 R425, R431, R434, 13 R352, R357, 06 R187). -/

namespace Sys2Proof.Machine

open Sys2Proof

/-! ## The recorder (14 R383, R385) -/

/-- A recorder that has taken further records: the kept ones stand, the staged ones come first. -/
structure Recorder.Grows (r r' : Recorder) : Prop where
  arm : r'.sArm = r.sArm
  head : r.head ≤ r'.head
  staged : ∃ more, r'.staged = r.staged ++ more
  keep : ∀ i, i < r.head - r.sArm → Store.find? r'.keep i = Store.find? r.keep i

namespace Recorder.Grows

variable {r r' r'' : Recorder}

theorem refl (r : Recorder) : r.Grows r := ⟨rfl, Nat.le_refl _, ⟨[], (List.append_nil _).symm⟩, fun _ _ => rfl⟩

theorem trans (h : r.Grows r') (h' : r'.Grows r'') : r.Grows r'' := by
  obtain ⟨more, hm⟩ := h.staged
  obtain ⟨more', hm'⟩ := h'.staged
  refine ⟨h'.arm.trans h.arm, Nat.le_trans h.head h'.head, ⟨more ++ more', by rw [hm', hm, List.append_assoc]⟩, fun i hi => ?_⟩
  have harm := h.arm
  have hhead := h.head
  exact (h'.keep i (by omega)).trans (h.keep i hi)

theorem place (r : Recorder) (e : EvRec) (he : e.seq = r.head) : r.Grows { r.place e with head := r.head + 1 } := by
  unfold Recorder.place
  split
  · exact ⟨rfl, Nat.le_succ _, ⟨[], (List.append_nil _).symm⟩, fun i hi => Store.find?_insert_other _ _ (by omega)⟩
  · exact ⟨rfl, Nat.le_succ _, ⟨[], (List.append_nil _).symm⟩, fun _ _ => rfl⟩

theorem offer (r : Recorder) (time source type : Nat) (payload : Bytes) : r.Grows (r.offer time source type payload) := by
  unfold Recorder.offer
  dsimp only
  split
  · split
    · exact ⟨rfl, Nat.le_succ _, ⟨_, rfl⟩, fun _ _ => rfl⟩
    · exact ⟨rfl, Nat.le_refl _, ⟨[], (List.append_nil _).symm⟩, fun _ _ => rfl⟩
  · exact place r _ rfl

theorem tellLost (r : Recorder) (time : Nat) : r.Grows (r.tellLost time) := by
  unfold Recorder.tellLost
  split
  · obtain ⟨harm, hhead, hstaged, hkeep⟩ := offer r time 10 20 (leBytes 4 r.lost)
    exact ⟨harm, hhead, hstaged, hkeep⟩
  · exact refl r

theorem record (s : State) (source type : Nat) (payload : Bytes) : s.recorder.Grows (record s source type payload).recorder := by
  rw [record_recorder]
  exact (tellLost _ _).trans (offer _ _ _ _ _)

end Recorder.Grows

/-! ## What ROM boot leaves (16 R426) -/

/-- A lane of which the registers alone may have changed. -/
def Lane.Relabelled (a b : Lane) : Prop := ∃ r, b = { a with reg := r }

/-- What a reset and the first step of start-up keep: the mode, the keys, the session, the forces, the log, the lanes but for their registers, the
reset's source and count, and what the recorder holds. -/
structure State.Survives (s t : State) : Prop where
  mode : t.mode = s.mode
  keys : t.keys = s.keys
  revoked : t.revoked = s.revoked
  priv : t.priv = s.priv
  forces : t.forces = s.forces
  log : t.log = s.log
  lanes : ∀ l, (s.lane l).Relabelled (t.lane l)
  source : ∀ i, i = 8 ∨ i = 9 → jget t 0x2000 i = jget s 0x2000 i
  recorder : s.recorder.Grows t.recorder

namespace State.Survives

variable {s t u : State}

theorem refl (s : State) : s.Survives s := ⟨rfl, rfl, rfl, rfl, rfl, rfl, fun _ => ⟨_, rfl⟩, fun _ _ => rfl, .refl _⟩

theorem trans (h : s.Survives t) (h' : t.Survives u) : s.Survives u := by
  refine ⟨h'.mode.trans h.mode, h'.keys.trans h.keys, h'.revoked.trans h.revoked, h'.priv.trans h.priv, h'.forces.trans h.forces, h'.log.trans h.log,
    fun l => ?_, fun i hi => (h'.source i hi).trans (h.source i hi), h.recorder.trans h'.recorder⟩
  obtain ⟨_, hr⟩ := h.lanes l
  obtain ⟨_, hr'⟩ := h'.lanes l
  rw [hr']
  exact ⟨_, by rw [hr]⟩

theorem withPower (s : State) (p : Power) : s.Survives { s with power := p } :=
  ⟨rfl, rfl, rfl, rfl, rfl, rfl, fun _ => ⟨_, rfl⟩, fun _ _ => rfl, .refl _⟩

end State.Survives

/-- The same, with the power and the plug as they were. -/
structure State.Boots (s t : State) : Prop extends s.Survives t where
  power : t.power = s.power
  pins : t.pins = s.pins

namespace State.Boots

variable {s t u : State}

theorem refl (s : State) : s.Boots s := ⟨.refl s, rfl, rfl⟩

theorem trans (h : s.Boots t) (h' : t.Boots u) : s.Boots u := ⟨h.toSurvives.trans h'.toSurvives, h'.power.trans h.power, h'.pins.trans h.pins⟩

theorem jset (s : State) {i j : Nat} (v : Nat) (hj : j < 256) (hi : i ≠ 0x2000) : s.Boots (jset s i j v) :=
  ⟨⟨rfl, rfl, rfl, rfl, rfl, rfl, fun _ => ⟨_, rfl⟩, fun _ hb => jget_jset_other _ _ _ _ _ _ (regKey_ne (by omega) hj hi.symm), .refl _⟩, rfl, rfl⟩

/-- A register of 2000 other than the source and the count of resets. -/
theorem jset2000 (s : State) {j : Nat} (v : Nat) (hj : j < 8) : s.Boots (Machine.jset s 0x2000 j v) :=
  ⟨⟨rfl, rfl, rfl, rfl, rfl, rfl, fun _ => ⟨_, rfl⟩, fun _ hb => jget_jset_other _ _ _ _ _ _ (by unfold regKey; omega), .refl _⟩, rfl, rfl⟩

theorem record (s : State) (source type : Nat) (payload : Bytes) : s.Boots (record s source type payload) := by
  have hj : ∀ i, i = 8 ∨ i = 9 → jget (Machine.record s source type payload) 0x2000 i = jget s 0x2000 i := fun i hi =>
    jget_record_other _ _ _ _ _ _ (regKey_ne (by omega) (by decide) (by decide))
  exact ⟨⟨record_mode .., record_keys .., record_revoked .., record_priv .., record_forces .., record_log .., fun l => ⟨_, record_lane ..⟩, hj,
    .record ..⟩, record_power .., record_pins ..⟩

theorem canBoot (s : State) (c : CanCtl) : s.Boots (canBoot s c) := by
  have hcan : ∀ (a : State) (f : Can → Can), a.Boots (a.modCan c f) := fun a f => by
    cases c <;> exact ⟨⟨rfl, rfl, rfl, rfl, rfl, rfl, fun _ => ⟨_, rfl⟩, fun _ _ => rfl, .refl _⟩, rfl, rfl⟩
  have hcross : ∀ {a b : State}, State.Crossed 33 a b → a.Boots b := fun {a b} hc => by
    have hj : ∀ i, i = 8 ∨ i = 9 → jget b 0x2000 i = jget a 0x2000 i := fun i hi => hc.jget_other (by omega) (by omega) (by decide)
    obtain ⟨⟨_, _, _, rfl⟩, -⟩ := hc
    exact ⟨⟨rfl, rfl, rfl, rfl, rfl, rfl, fun _ => ⟨_, rfl⟩, hj, .refl _⟩, rfl, rfl⟩
  have hsend : ∀ (a : State) (w : Wire), a.Boots (transmit a 33 2 w) := fun a w =>
    carry_keeps (P := a.Boots) (refl a) (fun _ _ hc hb => hb.trans (hcross hc)) (fun _ hb => hb)
      (fun b hb => hb.trans ⟨⟨rfl, rfl, rfl, rfl, rfl, rfl, fun _ => ⟨_, rfl⟩, fun _ _ => rfl, .refl _⟩, rfl, rfl⟩)
  have hbeat : ∀ a : State, a.Boots (if a.canUp c then sendHeartbeat a c 0 else a) := fun a => by
    split
    · exact hsend _ _
    · exact refl a
  have hstop : ∀ a : State, a.Boots (if a.mode = .safe then a.modCan c (fun x => { x with nmt := .stopped }) else a) := fun a => by
    split
    · exact hcan a _
    · exact refl a
  exact ((hcan s _).trans (hbeat _)).trans (hstop _)

theorem choosePtpMode (s : State) (p : EcnPort) (m : Nat) : s.Boots (choosePtpMode s p m) := by
  have hindex : ptpIndex p ≠ 0x2000 := by cases p <;> decide
  have hptp : ∀ (a : State) (f : PtpPort → PtpPort), a.Boots (a.modPtp p f) := fun a f => by
    cases p <;> exact ⟨⟨rfl, rfl, rfl, rfl, rfl, rfl, fun _ => ⟨_, rfl⟩, fun _ _ => rfl, .refl _⟩, rfl, rfl⟩
  exact ((jset s _ (by decide) hindex).trans (hptp _ _)).trans (jset _ _ (by decide) hindex)

theorem showPlug (s : State) : s.Boots (showPlug s) :=
  (jset (i := 0x8000) (j := 1) s s.pins.escJ (by decide) (by decide)).trans
    ⟨⟨rfl, rfl, rfl, rfl, rfl, rfl, fun l => by cases l <;> exact ⟨_, rfl⟩, fun _ _ => rfl, .refl _⟩, rfl, rfl⟩

end State.Boots

/-- The module as ROM boot finds it: its lands in service, its domains on, the plug read. -/
def State.romStart (s : State) : State :=
  let s := setLands s Lands.on
  { s with power := { s.power with step := 1, stop := 0, stage := 0, pfw := false, vinGood := some s.time.now, restored := false,
                                   c1 := none, phyReset := true, bootAt := s.time.now, domains := 8128, shedC := 0, upNs := 0,
                                   restart := none }
           pins := { s.pins.boot with readAt := s.time.now }, time := { s.time with ppsOut := .low }
           dict := { s.dict with port := jget s 0x1E00 1 } }

/-- The source and the count of resets rest on the registers alone. -/
theorem jget_2000_congr {s t : State} (h : t.jreg = s.jreg) {i : Nat} (hi : i = 8 ∨ i = 9) : jget t 0x2000 i = jget s 0x2000 i := by
  rcases hi with rfl | rfl <;> exact congrArg (fun m => Store.get m _ _) h

theorem romStart_survives (s : State) : s.Survives s.romStart :=
  ⟨rfl, rfl, rfl, rfl, rfl, rfl, fun _ => ⟨_, rfl⟩, fun _ hi => jget_2000_congr (s := s) (t := s.romStart) rfl hi, .refl _⟩

/-- ROM boot with its readings shown, the controllers and the PTP ports started. -/
def State.romShown (s : State) : State :=
  let s := jset (showPlug s) 0x8000 5 (if s.pins.plugOk then 1 else 0)
  let s := recordStep s 1
  let s := canBoot (canBoot s .c0) .c1
  choosePtpMode (choosePtpMode s .e0 (ptpGet s .e0 1)) .e1 (ptpGet s .e1 1)

theorem romShown_boots (s : State) : s.Boots s.romShown :=
  ((((((State.Boots.showPlug s).trans (.jset _ _ (by decide) (by decide))).trans (.record _ _ _ _)).trans (.canBoot _ .c0)).trans
    (.canBoot _ .c1)).trans (.choosePtpMode _ .e0 _)).trans (.choosePtpMode _ .e1 _)

/-- Where step 1 leads. -/
def State.romNext (s : State) : State :=
  if !s.pins.plugOk then stopAt (recordPlug s) 1
  else s.pins.compatOk.elim (stopAt s 2) (fun v => toStep (jset (jset s 0x2000 3 v) 0x2000 4 (Nat.lor v (jget s 0x2000 2))) 2)

theorem romBoot_eq (s : State) : romBoot s = s.romStart.romShown.romNext := by
  unfold romBoot
  extract_lets on time dict power pins started named recorded running shown
  have hstart : s.romStart = started := rfl
  rw [hstart]
  clear_value started
  have hshown : started.romShown = shown := by
    unfold State.romShown
    rfl
  rw [hshown]
  clear_value shown
  unfold State.romNext
  cases shown.pins.compatOk <;> rfl

theorem romNext_survives (s : State) : s.Survives s.romNext := by
  unfold State.romNext
  split
  · exact (State.Boots.record s 0 22 _).toSurvives.trans (.withPower _ _)
  · cases s.pins.compatOk with
    | none => exact .withPower _ _
    | some v =>
      exact (((State.Boots.jset2000 s _ (by decide)).trans (.jset2000 _ _ (by decide))).toSurvives.trans (.withPower _ _)).trans
        (State.Boots.record _ 0 6 _).toSurvives

theorem romBoot_survives (s : State) : s.Survives (romBoot s) := by
  rw [romBoot_eq]
  exact ((romStart_survives s).trans (romShown_boots _).toSurvives).trans (romNext_survives _)

theorem romNext_booted {s : State} (hstep : s.power.step = 1) (hstage : s.power.stage = 0) : s.romNext.booted = true := by
  have hgo : ∀ p : Power, p.step ≠ 0 → p.stage = 0 → ∀ u : State, u.power = p → u.booted = true := fun p h1 h2 u hu => by
    unfold State.booted
    rw [hu, decide_eq_true h1, h2]
    rfl
  unfold State.romNext
  split
  · exact hgo { s.power with stop := 1 } (by rw [hstep]; decide) hstage _ (congrArg (fun p : Power => { p with stop := 1 }) (record_power s 0 22 _))
  · cases s.pins.compatOk with
    | none => exact hgo { s.power with stop := 2 } (by rw [hstep]; decide) hstage _ rfl
    | some v => exact hgo { s.power with step := 2, stop := 0, stepAt := s.time.now } (by decide : (2 : Nat) ≠ 0) hstage _ (record_power _ 0 6 _)

theorem romBoot_booted (s : State) : (romBoot s).booted = true := by
  have hpower : s.romStart.romShown.power = s.romStart.power := (romShown_boots _).power
  rw [romBoot_eq]
  exact romNext_booted (by rw [hpower]; rfl) (by rw [hpower]; rfl)

theorem stopAt_power (s : State) (code : Nat) : (stopAt s code).power = { s.power with stop := code } := rfl

/-- A plug on which the readings disagree or that names no node stops step 1. -/
theorem romBoot_unplugged {s : State} (h : s.pins.boot.plugOk = false) : (romBoot s).power.step = 1 ∧ (romBoot s).power.stop = 1 := by
  have hpower : s.romStart.romShown.power = s.romStart.power := (romShown_boots _).power
  have hplug : s.romStart.romShown.pins.plugOk = false := by
    rw [(romShown_boots _).pins]
    exact h
  have hstop : s.romStart.romShown.romNext = stopAt (recordPlug s.romStart.romShown) 1 := by
    unfold State.romNext
    rw [hplug]
    rfl
  rw [romBoot_eq, hstop]
  have hrec : (recordPlug s.romStart.romShown).power = s.romStart.power := (record_power _ 0 22 _).trans hpower
  rw [stopAt_power, hrec]
  exact ⟨rfl, rfl⟩

end Sys2Proof.Machine
end

section
/-! Module resets: their source, their count and what survives them (16 R425, 13 R357, 06 R187). -/

namespace Sys2Proof.Machine

open Sys2Proof

/-! ## The session's end and the forces that do not persist -/

/-- No session open. -/
def State.unheld (s : State) : State := { s with priv := { s.priv with holder := none } }

theorem endSession_boots (s : State) (event : Nat) :
    s.unheld.Boots (endSession s event) ∧ (endSession s event).time = s.time ∧ (endSession s event).lanes = s.lanes := by
  unfold endSession
  cases h : s.priv.holder with
  | none =>
    have hunheld : s.unheld = s := by
      unfold State.unheld
      rw [← h]
    rw [hunheld]
    exact ⟨.refl s, rfl, rfl⟩
  | some r => exact ⟨.record _ _ _ _, record_time .., record_lanes ..⟩

theorem logEntry_room {s : State} (client path index sub kind : Nat) (old new : Bytes) (h : logRoom s 1 = true) :
    ∃ e : LogEntry, e.kind = kind ∧ logEntry s client path index sub kind old new = { s with log := s.log ++ [e] } := ⟨_, rfl, if_pos h⟩

theorem clearForces_clears (s : State) : ∃ lg, (lg = s.log ∨ ∃ e : LogEntry, lg = s.log ++ [e] ∧ e.kind = 4) ∧
    State.Boots { s with forces := s.forces.filter (fun p => p.2.persistent), log := lg } (clearForces s) := by
  unfold clearForces
  dsimp only
  split
  · exact ⟨s.log, .inl rfl, .refl _⟩
  · split
    · rename_i hroom
      obtain ⟨e, hkind, he⟩ := logEntry_room 255 4 0x6400 3 4 (leBytes 2 (s.forces.filter (fun p => !p.2.persistent)).length) [] hroom
      rw [he]
      exact ⟨_, .inr ⟨e, rfl, hkind⟩, .refl _⟩
    · exact ⟨s.log, .inl rfl, (State.Boots.jset _ _ (by decide) (by decide)).trans (.record _ _ _ _)⟩

/-! ## Every domain reset (16 R425) -/

theorem Store.find?_filter {α : Type} {q : Nat × α → Bool} {k : Nat} (hq : ∀ v, q (k, v) = true) (m : Store α) :
    Store.find? (m.filter q) k = Store.find? m k := by
  induction m with
  | nil => rfl
  | cons p m ih =>
    obtain ⟨j, v⟩ := p
    by_cases hj : j = k
    · subst hj
      rw [List.filter_cons_of_pos (hq v)]
      simp [Store.find?]
    · by_cases hqp : q (j, v) = true
      · rw [List.filter_cons_of_pos hqp]
        simpa [Store.find?, hj] using ih
      · rw [List.filter_cons_of_neg hqp, ih]
        simp [Store.find?, hj]

theorem jget_resetDomains (s : State) {i : Nat} (hi : i = 8 ∨ i = 9) : jget (resetDomains s) 0x2000 i = jget s 0x2000 i := by
  have hkeep : ∀ v : Nat, survives ((regKey 0x2000 i, v).1) = true := fun v => by
    unfold survives
    rw [Bool.or_eq_true]
    refine .inl (?_ : persistKeys.contains (regKey 0x2000 i) = true)
    rcases hi with rfl | rfl <;> decide
  have hdefault : ∀ u : State, jDefault u (regKey 0x2000 i) = tableDefault (regKey 0x2000 i) := fun u =>
    if_neg (by rcases hi with rfl | rfl <;> decide)
  unfold jget Store.get
  rw [hdefault, hdefault]
  exact congrArg (fun o => Option.getD o _) (Store.find?_filter hkeep s.jreg)

theorem Lane.abandon_idle {ln : Lane} (now : Nat) (h : ln.glue.writing = none) : ln.abandon now = ln := by
  unfold Lane.abandon
  rw [h]

theorem Lane.afterReset_keeps (ln : Lane) (now : Nat) : (ln.afterReset now).glue.journal = (ln.abandon now).glue.journal ∧
    (ln.afterReset now).stored = ln.stored ∧ (ln.afterReset now).m = [] ∧ (ln.afterReset now).engines = [] := by
  obtain ⟨⟨g, k, h⟩, -⟩ := ln.abandon_eq now
  refine ⟨rfl, ?_, rfl, rfl⟩
  have hstored : (ln.afterReset now).stored = (ln.abandon now).stored := rfl
  rw [hstored, h]

/-! ## The reset of the module (16 R425, R434) -/

/-- The module with its session ended and its lands in reset. -/
def State.resetAsked (s : State) (src : ResetSource) : State :=
  setLands (endSession s 3) { Lands.off with pfw := if s.pfwInReset src then .low else .hiZ }

/-- The power of a module in reset. -/
def Power.inReset (p : Power) (src : ResetSource) (low : Bool) : Power :=
  { p with step := 0, stop := 0, domains := 0, stage := if src = .stage4 then 4 else 0, pfw := low && decide (src = .stage4 ∨ src = .resetN),
           vinGood := none, restart := none, phyReset := true }

/-- Every domain reset, the source and the count entered. -/
def State.resetMade (s : State) (src : ResetSource) : State := jbump (jset (resetDomains s) 0x2000 8 src.code) 0x2000 9

/-- The module in reset. -/
def State.resetHeld (s : State) (src : ResetSource) : State :=
  clearForces { (s.resetAsked src).resetMade src with
    power := ((s.resetAsked src).resetMade src).power.inReset src (s.pfwInReset src) }

theorem resetModule_eq (s : State) (src : ResetSource) :
    resetModule s src = if src = .stage4 ∨ (src = .resetN ∧ !(s.resetHeld src).vinIsGood) then s.resetHeld src else romBoot (s.resetHeld src) := rfl

/-- What the module in reset holds. -/
structure State.Held (s : State) (src : ResetSource) (t : State) : Prop where
  mode : t.mode = .startUp
  keys : t.keys = s.keys
  revoked : t.revoked = s.revoked
  digest : t.priv.digest = s.priv.digest
  holder : t.priv.holder = none
  forces : t.forces = s.forces.filter (fun p => p.2.persistent)
  log : t.log = s.log ∨ ∃ e : LogEntry, t.log = s.log ++ [e] ∧ e.kind = 4
  lanes : ∀ l, ((s.lane l).afterReset s.time.now).Relabelled (t.lane l)
  source : jget t 0x2000 8 = src.code
  count : jget t 0x2000 9 = bump32 (jget s 0x2000 9)
  recorder : s.recorder.Grows t.recorder

theorem State.Held.survives {s t u : State} {src : ResetSource} (h : s.Held src t) (h' : t.Survives u) : s.Held src u := by
  refine ⟨h'.mode.trans h.mode, h'.keys.trans h.keys, h'.revoked.trans h.revoked, by rw [h'.priv, h.digest], by rw [h'.priv, h.holder],
    h'.forces.trans h.forces, by rw [h'.log]; exact h.log, fun l => ?_, (h'.source 8 (.inl rfl)).trans h.source, (h'.source 9 (.inr rfl)).trans h.count,
    h.recorder.trans h'.recorder⟩
  obtain ⟨_, hr⟩ := h.lanes l
  obtain ⟨_, hr'⟩ := h'.lanes l
  rw [hr']
  exact ⟨_, by rw [hr]⟩

theorem resetAsked_boots (s : State) (src : ResetSource) :
    s.unheld.Survives (s.resetAsked src) ∧ (s.resetAsked src).time = s.time ∧ (s.resetAsked src).lanes = s.lanes ∧
      (s.resetAsked src).power.mV = s.power.mV := by
  obtain ⟨hboots, htime, hlanes⟩ := endSession_boots s 3
  have hlands : (endSession s 3).Survives (s.resetAsked src) := ⟨rfl, rfl, rfl, rfl, rfl, rfl, fun _ => ⟨_, rfl⟩, fun _ _ => rfl, .refl _⟩
  have hpower : (endSession s 3).power = s.power := hboots.power
  exact ⟨hboots.toSurvives.trans hlands, htime, hlanes, (congrArg Power.mV hpower :)⟩

theorem resetMade_source (s : State) (src : ResetSource) :
    jget (s.resetMade src) 0x2000 8 = src.code ∧ jget (s.resetMade src) 0x2000 9 = bump32 (jget s 0x2000 9) := by
  unfold State.resetMade
  refine ⟨?_, ?_⟩
  · rw [jget_jbump_other _ _ _ _ _ (by decide), jget_jset_self _ _ _ _ (by cases src <;> decide)]
  · rw [jget_jbump_self _ _ _ (by decide), jget_jset_other _ _ _ _ _ _ (by decide), jget_resetDomains s (.inr rfl)]

/-- The module in reset, its forces not yet cleared. -/
def State.resetReady (s : State) (src : ResetSource) : State :=
  { (s.resetAsked src).resetMade src with power := ((s.resetAsked src).resetMade src).power.inReset src (s.pfwInReset src) }

theorem resetReady_lanes (s : State) (src : ResetSource) (l : LaneId) :
    (s.resetReady src).lane l = ((s.resetAsked src).lane l).afterReset (s.resetAsked src).time.now := by cases l <;> rfl

theorem resetHeld_held (s : State) (src : ResetSource) : s.Held src (s.resetHeld src) ∧ (s.resetHeld src).power = (s.resetReady src).power := by
  obtain ⟨hasked, htime, hlanes, -⟩ := resetAsked_boots s src
  obtain ⟨lg, hlg, hclear⟩ := clearForces_clears (s.resetReady src)
  obtain ⟨hsource, hcount⟩ := resetMade_source (s.resetAsked src) src
  have hlog : (s.resetAsked src).log = s.log := hasked.log
  have hpriv : (s.resetAsked src).priv = s.unheld.priv := hasked.priv
  have hforces : (s.resetAsked src).forces = s.forces := hasked.forces
  have hnine : jget (s.resetAsked src) 0x2000 9 = jget s 0x2000 9 := hasked.source 9 (.inr rfl)
  have hrec : s.recorder.Grows (s.resetAsked src).recorder := hasked.recorder
  refine ⟨State.Held.survives (t := { s.resetReady src with
    forces := (s.resetReady src).forces.filter (fun p => p.2.persistent), log := lg }) ?_ hclear.toSurvives, hclear.power⟩
  refine ⟨rfl, hasked.keys, hasked.revoked, (congrArg Priv.digest hpriv :), rfl, (congrArg (List.filter _) hforces :), ?_, fun l => ?_, hsource, ?_, ?_⟩
  · rw [← hlog]
    exact hlg
  · have hlane : (s.resetReady src).lane l = (s.lane l).afterReset s.time.now := by
      rw [resetReady_lanes, htime, show (s.resetAsked src).lane l = s.lane l from congrArg (fun m : Tri Lane => m.get l) hlanes]
    exact ⟨((s.lane l).afterReset s.time.now).reg, hlane⟩
  · exact hcount.trans (congrArg bump32 hnine)
  · exact hrec.trans ⟨rfl, Nat.le_refl _, ⟨[], (List.append_nil _).symm⟩, fun _ _ => rfl⟩

theorem resetHeld_power (s : State) (src : ResetSource) : (s.resetHeld src).power.step = 0 ∧ (s.resetHeld src).power.domains = 0 ∧
    (s.resetHeld src).power.stage = (if src = .stage4 then 4 else 0) ∧ (s.resetHeld src).power.mV = s.power.mV := by
  obtain ⟨-, -, -, hmV⟩ := resetAsked_boots s src
  rw [(resetHeld_held s src).2]
  exact ⟨rfl, rfl, rfl, hmV⟩

theorem resetHeld_vin (s : State) (src : ResetSource) : (s.resetHeld src).vinIsGood = s.vinIsGood := by
  unfold State.vinIsGood State.laneMv
  rw [(resetHeld_power s src).2.2.2]

/-- A reset that lasts, and one that goes on at ROM boot. -/
theorem resetModule_waits {s : State} {src : ResetSource} (h : src = .stage4 ∨ (src = .resetN ∧ s.vinIsGood = false)) :
    resetModule s src = s.resetHeld src := by
  rw [resetModule_eq, resetHeld_vin]
  refine if_pos (h.imp_right fun ⟨hsrc, hvin⟩ => ⟨hsrc, ?_⟩)
  rw [hvin]
  rfl

theorem resetModule_boots {s : State} {src : ResetSource} (h : ¬(src = .stage4 ∨ (src = .resetN ∧ s.vinIsGood = false))) :
    resetModule s src = romBoot (s.resetHeld src) := by
  rw [resetModule_eq, resetHeld_vin]
  refine if_neg fun h' => h (h'.imp_right fun ⟨hsrc, hvin⟩ => ⟨hsrc, ?_⟩)
  simpa using hvin

theorem resetModule_held (s : State) (src : ResetSource) : s.Held src (resetModule s src) := by
  by_cases h : src = .stage4 ∨ (src = .resetN ∧ s.vinIsGood = false)
  · rw [resetModule_waits h]
    exact (resetHeld_held s src).1
  · rw [resetModule_boots h]
    exact (resetHeld_held s src).1.survives (romBoot_survives _)

theorem resetModule_booted (s : State) (src : ResetSource) :
    (resetModule s src).booted = true ↔ ¬(src = .stage4 ∨ (src = .resetN ∧ s.vinIsGood = false)) := by
  by_cases h : src = .stage4 ∨ (src = .resetN ∧ s.vinIsGood = false)
  · have hoff : (s.resetHeld src).booted = false := by
      unfold State.booted
      rw [(resetHeld_power s src).1]
      rfl
    rw [resetModule_waits h, hoff]
    exact iff_of_false Bool.false_ne_true (not_not_intro h)
  · rw [resetModule_boots h]
    exact iff_of_true (romBoot_booted _) h

end Sys2Proof.Machine
end

section
/-! The supply's stages and the module's resets, settled (16 R414 to R425, R434). -/

namespace Sys2Proof.Machine

open Sys2Proof

/-! ## Stages entered and left (16 R414 to R417) -/

theorem stage2Entry_enters (s : State) (mV : Nat) : ∀ t, switchEcn (enterStage (showVinJ s mV) 2 mV) false = t →
    t.power.stage = 2 ∧ t.ecn0.on = false ∧ t.ecn1.on = false ∧ t.mode = s.mode ∧ jget t 0x2102 2 = bump32 (jget s 0x2102 2) := by
  rintro t rfl
  obtain ⟨hon0, hon1, hpower, hmode, -, -, -, hcount⟩ := switchEcn_keeps (enterStage (showVinJ s mV) 2 mV) false
  obtain ⟨kpower, kcount, kmode, -, -⟩ := enterStage_keeps (showVinJ s mV) mV (n := 2) (by decide)
  obtain ⟨-, vmode, -, -, vcount⟩ := showVinJ_keeps s mV
  refine ⟨?_, hon0, hon1, hmode.trans (kmode.trans vmode), ?_⟩
  · rw [hpower, kpower]
    rfl
  · rw [hcount 2 (by decide), kcount, vcount 2 (by decide)]

theorem stage2Exit_leaves {s : State} {mV : Nat} (hbooted : s.booted = true) (hstage : s.power.stage = 2) (hmV : 9700 ≤ mV) :
    ∃ t, stage2Exit s mV = t ∧ t.power.stage = 1 ∧ t.ecn0.on = true ∧ t.ecn1.on = true ∧ t.mode = s.mode ∧ t.lanes = s.lanes ∧
      t.recorder = Parts.stageRecorded s 1 mV := by
  have hexit : stage2Exit s mV = recordStage (switchEcn (showVinJ { s with power := { s.power with stage := 1 } } mV) true) mV :=
    if_pos ⟨hbooted, hstage, hmV⟩
  obtain ⟨hrec, hlanes, hpower, hmode, -⟩ := recordStage_keeps (switchEcn (showVinJ { s with power := { s.power with stage := 1 } } mV) true) mV
  obtain ⟨hecn0, hecn1⟩ := recordStage_ecn (switchEcn (showVinJ { s with power := { s.power with stage := 1 } } mV) true) mV
  refine ⟨_, hexit, ?_, ?_, ?_, hmode, hlanes, hrec⟩
  · rw [hpower]
    rfl
  · rw [hecn0]
    rfl
  · rw [hecn1]
    rfl

/-! ## The power-fail warning and stage 4 (16 R414, R418) -/

theorem powerFail_warns (s : State) (mV : Nat) : ∀ t, failSupply (enterStage (showVinJ (shedPorts s) mV) 3 mV) = t →
    t.power.pfw = true ∧ t.power.stage = 3 ∧ (s.power.stage < 2 → t.ecn0.on = false ∧ t.ecn1.on = false) ∧ t.recorder.holder = none ∧
      jget t 0x2102 3 = bump32 (jget s 0x2102 3) ∧ (s.inRun = true → t.mode = .safe ∧ jget t 0x3002 0 = 9) ∧
      (s.mode = .startUp → t.mode = .startUp ∧ t.power.stop = 11) := by
  rintro t rfl
  obtain ⟨-, -, hholder, -⟩ := failSupply_keeps (enterStage (showVinJ (shedPorts s) mV) 3 mV)
  obtain ⟨hstage, hpfw, hon0, hon1, hcount⟩ := failSupply_stage (enterStage (showVinJ (shedPorts s) mV) 3 mV)
  obtain ⟨kpower, kcount, kmode, kecn0, kecn1⟩ := enterStage_keeps (showVinJ (shedPorts s) mV) mV (n := 3) (by decide)
  obtain ⟨-, vmode, vecn0, vecn1, vcount⟩ := showVinJ_keeps (shedPorts s) mV
  obtain ⟨-, pmode, pon, pcount⟩ := shedPorts_keeps s
  have hmode : (enterStage (showVinJ (shedPorts s) mV) 3 mV).mode = s.mode := kmode.trans (vmode.trans pmode)
  refine ⟨hpfw, ?_, fun h => ?_, hholder, ?_, fun h => failSupply_run _ ?_, fun h => failSupply_startUp _ (hmode.trans h)⟩
  · rw [hstage, kpower]
    rfl
  · rw [hon0, hon1, kecn0, kecn1, vecn0, vecn1]
    exact pon h
  · rw [hcount 3 (by decide), kcount, vcount 3 (by decide), pcount 3 (by decide)]
  · unfold State.inRun
    rw [hmode]
    exact h

theorem shedFrom_power (s : State) (n : Nat) : (shedFrom s n).power = s.power.staged n := by
  obtain ⟨⟨_, _, _, h⟩, -⟩ := shedFrom_shed s n
  rw [h]

/-- The module as stage 4 is recorded. -/
def State.fourth (s : State) (mV : Nat) : State :=
  recordStage (if s.power.stage < 3 then failSupply (shedFrom (showVinJ (shedPorts s) mV) 4) else shedFrom (showVinJ (shedPorts s) mV) 4) mV

theorem fourth_stage (s : State) (mV : Nat) : (s.fourth mV).power.stage = 4 := by
  have hshed : (shedFrom (showVinJ (shedPorts s) mV) 4).power.stage = 4 := congrArg Power.stage (shedFrom_power _ 4)
  have hrecord : ∀ u : State, (recordStage u mV).power = u.power := fun u => record_power ..
  unfold State.fourth
  rw [hrecord]
  split
  · exact (failSupply_stage _).1.trans hshed
  · exact hshed

theorem stage4_resets {s : State} {mV : Nat} (hbooted : s.booted = true) (hmV : mV < 8000) : stage4 s mV = resetModule (s.fourth mV) .stage4 :=
  if_pos ⟨hbooted, hmV⟩

theorem resetModule_stage4 (s : State) : (resetModule s .stage4).power.stage = 4 ∧ (resetModule s .stage4).power.step = 0 ∧
    (resetModule s .stage4).power.domains = 0 ∧ (resetModule s .stage4).booted = false := by
  obtain ⟨hstep, hdomains, hstage, -⟩ := resetHeld_power s .stage4
  rw [resetModule_waits (.inl rfl)]
  refine ⟨hstage, hstep, hdomains, ?_⟩
  unfold State.booted
  rw [hstep]
  rfl

/-! ## Lane supplies (16 R423, R424) -/

/-- A lane whose supply has sagged, before its report. -/
def State.sagged (s : State) (l : LaneId) (mV : Nat) : State :=
  (showVin (jbump s 0x2103 0) l mV).modLane l (fun ln =>
    { ln.abandon s.time.now with glue := { (ln.abandon s.time.now).glue with fullDue := true } })

/-- A sagged lane excluded, its domains off and its wait for reintegration suspended. -/
def State.sagHeld (s : State) (l : LaneId) : State :=
  (switchLane (exclude (s.evented (7 * l.num + 3) 3) l 12) l false).modLane l (fun ln => { ln with excludedAt := none })

theorem laneSag_excludes {s : State} {l : LaneId} {mV : Nat} (hbooted : s.booted = true) (hmV : mV < 7800)
    (hready : (s.sagged l mV).ready (7 * l.num + 3) 3) : laneSag s l mV = closeLane ((s.sagged l mV).sagHeld l) l := by
  have hsag : laneSag s l mV = closeLane ((switchLane (report (s.sagged l mV) l 12) l false).modLane l (fun ln => { ln with excludedAt := none })) l :=
    if_pos ⟨hbooted, hmV⟩
  rw [hsag, report_ready _ l 12 3 rfl hready]
  rfl

theorem closeLane_excludedAt (s : State) (l : LaneId) : ((closeLane (s.sagHeld l) l).lane l).excludedAt = none := by
  rw [(closeLane_linked (s.sagHeld l) l).lane_eq]
  exact congrArg Lane.excludedAt (modLane_lane_self (switchLane (exclude (s.evented (7 * l.num + 3) 3) l 12) l false) l
    (fun ln => { ln with excludedAt := none }))

theorem laneRecovers_waits {s : State} {l : LaneId} {mV : Nat} (hbooted : s.booted = true) (hmV : 9000 ≤ mV) (hstatus : (s.lane l).status = .held)
    (hexcluded : (s.lane l).excludedAt = none) :
    laneRecovers s l mV = (showVin s l mV).modLane l (fun ln => { ln with excludedAt := some s.time.now }) := by
  have hlane : (showVin s l mV).lane l = (s.lane l).rset 0x2101 1 (mV % 65536) :=
    modLane_lane_self { s with power := { s.power with mV := Store.insert s.power.mV l.num mV } } l (fun ln => ln.rset 0x2101 1 (mV % 65536))
  unfold laneRecovers
  rw [if_pos ⟨hbooted, hmV⟩]
  dsimp only
  rw [if_pos (by rw [hlane]; exact ⟨hstatus, hexcluded⟩)]
  rfl

/-- Settles O50: each stage is entered, recorded and left by its rule, and stage 4 resets the module. -/
theorem supplyStages : Obligations.SupplyStages := by
  intro s hbooted
  refine ⟨fun n mV hn => ?_, recordStage_keeps, fun mV hstage hmV => ?_, fun mV hstage hmV => ?_, fun mV hstage hmV => ⟨?_, stage2Entry_enters s mV⟩,
    fun mV hstage hmV => ?_, fun mV hstage hmV => ⟨?_, powerFail_warns s mV⟩, fun mV hmV => ?_, fun mV hpfw hmV => ?_, ?_,
    fun l mV hmV hstatus hexcluded => congrArg Host.Outcome.next (laneRecovers_waits hbooted hmV hstatus hexcluded)⟩
  · obtain ⟨u, heq, hpower, hcount, hmode, htime, hlanes, -, -⟩ := enterStage_enters s mV hn
    exact ⟨u, heq, (congrArg Power.stage hpower :), hcount, hmode, htime, hlanes⟩
  · exact congrArg Host.Outcome.next (if_pos ⟨hbooted, hstage, hmV⟩ : stage1Entry s mV = _)
  · exact congrArg Host.Outcome.next (if_pos ⟨hbooted, hstage, hmV⟩ : stage1Exit s mV = _)
  · exact congrArg Host.Outcome.next (if_pos ⟨hbooted, hstage, hmV⟩ : stage2Entry s mV = _)
  · obtain ⟨t, h, ht⟩ := stage2Exit_leaves hbooted hstage hmV
    exact ⟨t, congrArg Host.Outcome.next h, ht⟩
  · exact congrArg Host.Outcome.next (if_pos ⟨hbooted, hstage, hmV⟩ : powerFail s mV = _)
  · obtain ⟨hstage, hstep, hdomains, hoff⟩ := resetModule_stage4 (s.fourth mV)
    have hheld := resetModule_held (s.fourth mV) .stage4
    exact ⟨s.fourth mV, _, congrArg Host.Outcome.next (stage4_resets hbooted hmV), rfl, rfl, fourth_stage s mV, hstage, hstep, hdomains, hoff,
      hheld.source, hheld.count⟩
  · exact congrArg Host.Outcome.next (if_pos ⟨hbooted, hpfw, hmV⟩ : supplyRestart s mV = _)
  · intro l mV hmV sagged hready
    exact ⟨_, congrArg Host.Outcome.next (laneSag_excludes hbooted hmV hready), closeLane_excludedAt _ l, rfl⟩

end Sys2Proof.Machine
end

section
/-! The module's resets and the steps of start-up (16 R425 to R430, 03 R70, R71, R88, 14 R380, 10 R297). -/

namespace Sys2Proof.Machine

open Sys2Proof

/-! ## Resets and their sources (16 R425) -/

/-- The module with the voltage of VIN_J forgotten. -/
def State.vinForgotten (s : State) : State := { s with power := { s.power with mV := s.power.mV.filter (fun p => decide (p.1 ≠ 3)) } }

theorem powerOn_off {s : State} (h : s.booted = false) :
    powerOn s = if s.power.stage = 4 ∨ jget s 0x2000 8 = ResetSource.resetN.code then romBoot s.vinForgotten else resetModule s.vinForgotten .powerOn := by
  unfold powerOn
  rw [h, if_neg Bool.false_ne_true]
  rfl

theorem restartEffect_at {s : State} {t : Nat} (h : s.power.restart = some t) :
    restartEffect s = resetModule (sendLeave (saveJunction (if s.inRun then stampRegions ((advanceTo s t).modLanes (fun l ln =>
      if ln.status = .active then ln.stopEngines.finalWhole l (advanceTo s t).pGlue (advanceTo s t).time.now else ln)) else advanceTo s t)) 2)
      .commanded := by
  unfold restartEffect
  rw [h]
  rfl

theorem resetModule_survives (s : State) (src : ResetSource) :
    let t := resetModule s src
    t.mode = .startUp ∧ t.keys = s.keys ∧ t.revoked = s.revoked ∧ t.priv.digest = s.priv.digest ∧ t.priv.holder = none ∧
    jget t 0x2000 8 = src.code ∧ jget t 0x2000 9 = bump32 (jget s 0x2000 9) ∧
    (t.booted = true ↔ ¬ (src = .stage4 ∨ (src = .resetN ∧ s.vinIsGood = false))) ∧
    (∀ l, (t.lane l).glue.journal = ((s.lane l).abandon s.time.now).glue.journal ∧ (t.lane l).stored = (s.lane l).stored ∧
      ((s.lane l).glue.writing = none → ((s.lane l).abandon s.time.now).glue.journal = (s.lane l).glue.journal) ∧
      (t.lane l).m = [] ∧ (t.lane l).engines = []) ∧
    t.forces = s.forces.filter (fun p => p.2.persistent) ∧
    (t.log = s.log ∨ ∃ x, t.log = s.log ++ [x] ∧ x.kind = 4) ∧
    t.recorder.sArm = s.recorder.sArm ∧ s.recorder.head ≤ t.recorder.head ∧ (∃ more, t.recorder.staged = s.recorder.staged ++ more) ∧
    (∀ i, i < s.recorder.head - s.recorder.sArm → Store.find? t.recorder.keep i = Store.find? s.recorder.keep i) := by
  intro t
  obtain ⟨hmode, hkeys, hrevoked, hdigest, hholder, hforces, hlog, hlanes, hsource, hcount, hrec⟩ := resetModule_held s src
  refine ⟨hmode, hkeys, hrevoked, hdigest, hholder, hsource, hcount, resetModule_booted s src, fun l => ?_, hforces, hlog, hrec.arm, hrec.head, hrec.staged,
    hrec.keep⟩
  obtain ⟨r, hr⟩ := hlanes l
  obtain ⟨hjournal, hstored, hm, hengines⟩ := Lane.afterReset_keeps (s.lane l) s.time.now
  have hlane : t.lane l = { (s.lane l).afterReset s.time.now with reg := r } := hr
  rw [hlane]
  exact ⟨hjournal, hstored, fun h => by rw [Lane.abandon_idle _ h], hm, hengines⟩

theorem resetsRestartTheModule : Parts.ResetsRestartTheModule := by
  intro s
  refine ⟨?_, fun hbooted => ⟨?_, ?_, ?_, fun hpfw => ?_⟩, fun t ht => ⟨rfl, congrArg Host.Outcome.next (restartEffect_at ht)⟩, resetModule_survives s⟩
  · intro hoff u waits
    have hpower : powerOn s = if waits then romBoot u else resetModule u .powerOn := powerOn_off hoff
    exact ⟨fun h => ⟨congrArg Host.Outcome.next (hpower.trans (if_neg h)), congrArg Host.Outcome.next (hpower.trans (if_neg h))⟩,
      fun h => ⟨congrArg Host.Outcome.next (hpower.trans (if_pos h)), congrArg Host.Outcome.next (hpower.trans (if_pos h))⟩⟩
  · exact congrArg Host.Outcome.next (if_pos hbooted)
  · exact congrArg Host.Outcome.next (if_pos hbooted)
  · exact congrArg Host.Outcome.next (if_pos hbooted)
  · exact congrArg Host.Outcome.next (if_pos (by rw [hbooted, hpfw]; rfl))

/-! ## The first steps (16 R426, R427) -/

theorem resetHeld_pins (s : State) (src : ResetSource) : (s.resetHeld src).pins = s.pins := by
  obtain ⟨lg, -, hclear⟩ := clearForces_clears (s.resetReady src)
  have hheld : (s.resetHeld src).pins = (s.resetReady src).pins := hclear.pins
  have hasked : (s.resetReady src).pins = (endSession s 3).pins := rfl
  exact hheld.trans (hasked.trans (endSession_boots s 3).1.pins)

theorem powerOn_unplugged {s : State} (hoff : s.booted = false) (hheld : ¬(s.power.stage = 4 ∨ jget s 0x2000 8 = ResetSource.resetN.code))
    (hplug : s.pins.boot.plugOk = false) : (powerOn s).power.step = 1 ∧ (powerOn s).power.stop = 1 ∧ (powerOn s).mode = .startUp := by
  have hon : powerOn s = resetModule s.vinForgotten .powerOn := (powerOn_off hoff).trans (if_neg hheld)
  have hboot : resetModule s.vinForgotten .powerOn = romBoot (s.vinForgotten.resetHeld .powerOn) := resetModule_boots fun h => h.elim ResetSource.noConfusion fun h => ResetSource.noConfusion h.1
  have hpins : (s.vinForgotten.resetHeld .powerOn).pins = s.pins := resetHeld_pins ..
  obtain ⟨hstep, hstop⟩ := romBoot_unplugged (s := s.vinForgotten.resetHeld .powerOn) (by rw [hpins, hplug])
  have hmode := (resetModule_held s.vinForgotten .powerOn).mode
  rw [hon]
  rw [hboot] at hmode ⊢
  exact ⟨hstep, hstop, hmode⟩

theorem powerOn_delivered : (powerOn State.reset).power.step = 1 ∧ (powerOn State.reset).power.stop = 1 ∧ (powerOn State.reset).mode = .startUp :=
  powerOn_unplugged (by decide +kernel) (by decide +kernel) (by decide +kernel)

theorem containerLoad_step {s : State} (hgauge : s.cfg.gauge = none) (hmode : s.mode = .startUp) (hstep : s.power.step = 2)
    (hstop : s.power.stop = 0 ∨ s.power.stop = 3) (hbooted : s.booted = true) :
    containerLoad s = (let fed := LaneId.all.foldl admitSupply s
      if fed.actives.length < 2 then stopAt fed 10
      else if fed.copies.isEmpty then stopAt fed 3
      else (agreedCopy fed.copies).elim (stopAt fed 6) (fun c => admitStored (LaneId.all.foldl (fun s l => copyContainer s c l) fed) c)) := by
  have hready : s.cfg.gauge.isNone ∧ s.mode = .startUp ∧ s.power.step = 2 ∧ (s.power.stop = 0 ∨ s.power.stop = 3) ∧ s.booted :=
    ⟨Option.isNone_iff_eq_none.2 hgauge, hmode, hstep, hstop, hbooted⟩
  unfold containerLoad
  rw [if_pos hready]
  generalize LaneId.all.foldl admitSupply s = fed
  dsimp only
  cases agreedCopy fed.copies <;> rfl

/-! ## The scribe test (03 R70, R71) -/

/-- Every pattern of Table 03-2 brings what the table expects of a sound voter. -/
theorem voterReaction_expected : ∀ n < 64, ∀ sig : Bool, voterReaction sig n = voterExpected sig n := by decide +kernel

theorem soundReaction_expected {n : Nat} (u : Nat) (hn : n < 64) : soundReaction u n = expectedReaction u n := by
  unfold soundReaction expectedReaction
  split
  · exact engineReaction_expected n hn
  · exact voterReaction_expected n hn _

theorem firstFailing_none (units : List Nat) : firstFailing none units = none := by
  unfold firstFailing
  rw [List.find?_eq_none]
  intro x hx
  obtain ⟨n, hn, hx⟩ := List.mem_flatMap.1 hx
  obtain ⟨u, hu, rfl⟩ := List.mem_map.1 hx
  have hsound : unitReaction none u n = expectedReaction u n := (if_neg (by simp)).trans (soundReaction_expected u (List.mem_range.1 hn))
  simp [hsound]

theorem expectedReaction_small : ∀ (u : Nat) {n : Nat}, n < 64 → expectedReaction u n ≠ 255 := by
  have hengine : ∀ n < 64, engineExpected n ≠ 255 := by decide
  have hvoter : ∀ n < 64, ∀ sig : Bool, voterExpected sig n ≠ 255 := by decide +kernel
  intro u n hn
  unfold expectedReaction
  split
  · exact hengine n hn
  · exact hvoter n hn _

theorem firstFailing_only {n u : Nat} {units : List Nat} (hn : n < 64) (hu : u ∈ units) : firstFailing (some (n, u)) units = some (n, u) := by
  have hfails : ∀ m v, m < 64 → (unitReaction (some (n, u)) v m ≠ expectedReaction v m ↔ (m, v) = (n, u)) := by
    intro m v hm
    unfold unitReaction
    split
    case isTrue h => exact iff_of_true (Ne.symm (expectedReaction_small v hm)) (Option.some.inj h).symm
    case isFalse h => exact iff_of_false (not_not_intro (soundReaction_expected v hm)) fun he => h (congrArg some he.symm)
  have hmem : ((n, u) : Nat × Nat) ∈ (List.range 64).flatMap (fun n => units.map (fun u => (n, u))) :=
    List.mem_flatMap.2 ⟨n, List.mem_range.2 hn, List.mem_map.2 ⟨u, hu, rfl⟩⟩
  unfold firstFailing
  cases hfind : ((List.range 64).flatMap (fun n => units.map (fun u => (n, u)))).find? (fun x =>
    decide (unitReaction (some (n, u)) x.2 x.1 ≠ expectedReaction x.2 x.1)) with
  | none => exact absurd (decide_eq_true ((hfails n u hn).2 rfl)) (List.find?_eq_none.1 hfind (n, u) hmem)
  | some x =>
    obtain ⟨m, v⟩ := x
    obtain ⟨m', hm', hx⟩ := List.mem_flatMap.1 (List.mem_of_find?_eq_some hfind)
    obtain ⟨v', -, hpair⟩ := List.mem_map.1 hx
    have hm : m < 64 := by
      rw [← (Prod.mk.inj hpair).1]
      exact List.mem_range.1 hm'
    have hfailing := List.find?_some hfind
    exact congrArg some ((hfails m v hm).1 (of_decide_eq_true hfailing))

theorem find?_foldl_insert (g : Nat → Nat) (u : Nat) (us : List Nat) : ∀ m : Store Nat, u ∈ us ∨ Store.find? m u = some (g u) →
    Store.find? (us.foldl (fun m v => Store.insert m v (g v)) m) u = some (g u) := by
  induction us with
  | nil => exact fun m h => h.resolve_left List.not_mem_nil
  | cons v us ih =>
    intro m h
    refine ih _ ?_
    by_cases hv : u = v
    · subst hv
      exact .inr (Store.find?_insert_self ..)
    · rw [Store.find?_insert_other _ _ hv]
      exact h.imp_left fun hu => (List.mem_cons.1 hu).resolve_left hv

theorem testLatches_defect {n u : Nat} {units : List Nat} (hn : n < 64) (hu : u ∈ units) :
    Store.find? (testLatches (some (n, u)) units) u = some 255 := by
  unfold testLatches
  rw [firstFailing_only hn hu]
  exact (find?_foldl_insert (fun v => unitReaction (some (n, u)) v n) u units [] (.inl hu)).trans (congrArg some (if_pos rfl))

theorem scribeUnits_small {s : State} {u : Nat} (h : u ∈ s.scribeUnits) : u < 65535 := by
  unfold State.scribeUnits at h
  rcases List.mem_append.1 h with h | h
  · split at h
    · obtain ⟨l, -, hl⟩ := List.mem_flatMap.1 h
      exact Nat.lt_trans (engineUnits_small hl) (by decide)
    · exact absurd h List.not_mem_nil
  · simp only [voterUnits, List.mem_cons, List.not_mem_nil, or_false] at h
    omega

/-- The verdict of a scribe test entered and recorded. -/
def State.scribed (s : State) (latches : Store Nat) (r p u : Nat) : State :=
  let s := { s with power := { s.power with latches := latches } }
  record (jset (jset (jset s 0x3010 1 r) 0x3010 2 (p % 256)) 0x3010 3 (u % 65536)) 0 4 (leBytes 1 r ++ leBytes 1 p ++ leBytes 2 u)

theorem scribed_keeps (s : State) (latches : Store Nat) (r p u : Nat) :
    (s.scribed latches r p u).lanes = s.lanes ∧ (s.scribed latches r p u).mode = s.mode ∧
      (s.scribed latches r p u).power = { s.power with latches := latches } := ⟨record_lanes .., record_mode .., record_power ..⟩

theorem scribed_result (s : State) (latches : Store Nat) {r : Nat} (p u : Nat) (hr : r ≠ 0) :
    jget (s.scribed latches r p u) 0x3010 1 = r ∧ (p % 256 ≠ 255 → jget (s.scribed latches r p u) 0x3010 2 = p % 256) ∧
      (u % 65536 ≠ 65535 → jget (s.scribed latches r p u) 0x3010 3 = u % 65536) := by
  have hpattern : tableDefault (regKey 0x3010 2) = 255 := by decide
  have hunit : tableDefault (regKey 0x3010 3) = 65535 := by decide
  unfold State.scribed
  refine ⟨?_, fun hp => ?_, fun hu => ?_⟩
  · rw [jget_record_other _ _ _ _ _ _ (by decide), jget_jset_other _ _ _ _ _ _ (by decide), jget_jset_other _ _ _ _ _ _ (by decide),
      jget_jset_self _ _ _ _ hr]
  · rw [jget_record_other _ _ _ _ _ _ (by decide), jget_jset_other _ _ _ _ _ _ (by decide), jget_jset_self _ _ _ _ (hpattern ▸ hp)]
  · rw [jget_record_other _ _ _ _ _ _ (by decide), jget_jset_self _ _ _ _ (hunit ▸ hu)]

theorem scribeTest_passes {s : State} (h : s.inStep 3 = true) :
    scribeTest s none = toStep (s.scribed (testLatches none s.scribeUnits) 1 255 65535) 4 := by
  unfold scribeTest runScribe
  rw [if_pos h, firstFailing_none]
  rfl

theorem scribeTest_fails {s : State} {n u : Nat} (h : s.inStep 3 = true) (hn : n < 64) (hu : u ∈ s.scribeUnits) :
    scribeTest s (some (n, u)) = stopAt (s.scribed (testLatches (some (n, u)) s.scribeUnits) 2 n u) 7 := by
  unfold scribeTest runScribe
  rw [if_pos h, firstFailing_only hn hu]
  rfl

theorem inStep_iff (s : State) (n : Nat) : s.inStep n = true ↔ s.mode = .startUp ∧ s.power.step = n ∧ s.power.stop = 0 ∧ s.booted = true := by
  unfold State.inStep
  simp only [Bool.and_eq_true, decide_eq_true_eq, and_assoc]

theorem toStep_keeps (s : State) (n : Nat) : (toStep s n).power.step = n ∧ (toStep s n).power.stop = 0 ∧ (toStep s n).lanes = s.lanes ∧
    (toStep s n).mode = s.mode := by
  have hpower : (toStep s n).power = { s.power with step := n, stop := 0, stepAt := s.time.now } := record_power ..
  rw [hpower]
  exact ⟨rfl, rfl, record_lanes .., record_mode ..⟩

theorem jget_toStep_other (s : State) (n i j : Nat) (h : regKey i j ≠ regKey 0x7011 4) : jget (toStep s n) i j = jget s i j :=
  jget_record_other _ _ _ _ _ _ h

/-! ## State restore (14 R380) -/

theorem offers_empty {s : State} (c : Container) (h : ∀ l, (s.lane l).glue.journal = []) : offers s c = s.actives.map (fun l => (l, [])) := by
  unfold offers
  refine List.map_congr_left fun l _ => ?_
  unfold Lane.candidates Glue.commits
  rw [h l]
  rfl

theorem agreedCommit_empty (ls : List LaneId) : agreedCommit (ls.map (fun l => (l, []))) = none := by
  have hnone : (ls.map (fun l => (l, ([] : List Candidate)))).flatMap (fun o => o.2) = [] := by simp
  unfold agreedCommit
  rw [hnone]
  rfl

theorem stateRestore_agreed {s : State} {c : Container} {x : Candidate} (hstep : s.inStep 5 = true) (hconfig : s.config = some c)
    (h : agreedCommit (offers s c) = some x) : stateRestore s = restoreFrom s c (offers s c) x := by
  unfold stateRestore
  rw [hconfig]
  dsimp only
  rw [if_pos hstep, h]

theorem stateRestore_fresh {s : State} {c : Container} (hstep : s.inStep 5 = true) (hconfig : s.config = some c)
    (hjournals : ∀ l, (s.lane l).glue.journal = []) (hactives : 2 ≤ s.actives.length) : stateRestore s = startFresh s 0 := by
  have hcount : ((s.actives.map (fun l => (l, ([] : List Candidate)))).filter (fun o => o.2.isEmpty)).length = s.actives.length := by
    rw [List.filter_eq_self.2 fun o ho => ?_, List.length_map]
    obtain ⟨l, -, rfl⟩ := List.mem_map.1 ho
    rfl
  unfold stateRestore
  rw [hconfig]
  dsimp only
  rw [if_pos hstep, offers_empty c hjournals, agreedCommit_empty]
  exact if_pos (hcount.symm ▸ hactives)

/-! ## The steps together -/

theorem containerLoad_agreed {s : State} (c : Container) (hgauge : s.cfg.gauge = none) (hmode : s.mode = .startUp) (hstep : s.power.step = 2)
    (hstop : s.power.stop = 0 ∨ s.power.stop = 3) (hbooted : s.booted = true) :
    let fed := LaneId.all.foldl admitSupply s
    (fed.actives.length < 2 → containerLoad s = stopAt fed 10) ∧
    (2 ≤ fed.actives.length → fed.copies = [] → containerLoad s = stopAt fed 3) ∧
    (2 ≤ fed.actives.length → fed.copies ≠ [] → agreedCopy fed.copies = none → containerLoad s = stopAt fed 6) ∧
    (2 ≤ fed.actives.length → agreedCopy fed.copies = some c →
      containerLoad s = admitStored (LaneId.all.foldl (fun u l => copyContainer u c l) fed) c) := by
  rw [containerLoad_step hgauge hmode hstep hstop hbooted]
  generalize LaneId.all.foldl admitSupply s = fed
  refine ⟨fun h => if_pos h, fun h hnone => ?_, fun h hsome hagreed => ?_, fun h hagreed => ?_⟩
  · exact (if_neg (Nat.not_lt.2 h)).trans (if_pos (List.isEmpty_iff.2 hnone))
  · refine (if_neg (Nat.not_lt.2 h)).trans ((if_neg fun he => hsome (List.isEmpty_iff.1 he)).trans ?_)
    rw [hagreed]
    rfl
  · have hsome : fed.copies ≠ [] := by
      intro he
      rw [he] at hagreed
      exact absurd hagreed (by simp [agreedCopy])
    refine (if_neg (Nat.not_lt.2 h)).trans ((if_neg fun he => hsome (List.isEmpty_iff.1 he)).trans ?_)
    rw [hagreed]
    rfl

theorem containerLoad_waits {s : State} (h : s.cfg.gauge ≠ none) : containerLoad s = s := by
  unfold containerLoad
  rw [if_neg fun hall => h (Option.isNone_iff_eq_none.1 hall.1)]

theorem scribeTest_sound {s : State} (h : s.inStep 3 = true) :
    (scribeTest s none).power.step = 4 ∧ (scribeTest s none).power.stop = 0 ∧ jget (scribeTest s none) 0x3010 1 = 1 ∧
      (scribeTest s none).lanes = s.lanes ∧ (scribeTest s none).mode = s.mode := by
  rw [scribeTest_passes h]
  obtain ⟨hlanes, hmode, -⟩ := scribed_keeps s (testLatches none s.scribeUnits) 1 255 65535
  obtain ⟨hstep, hstop, hlanes', hmode'⟩ := toStep_keeps (s.scribed (testLatches none s.scribeUnits) 1 255 65535) 4
  refine ⟨hstep, hstop, ?_, hlanes'.trans hlanes, hmode'.trans hmode⟩
  rw [jget_toStep_other _ _ _ _ (by decide)]
  exact (scribed_result _ _ _ _ (by decide)).1

theorem scribeTest_defect {s : State} {n u : Nat} (h : s.inStep 3 = true) (hn : n < 64) (hu : u ∈ s.scribeUnits) :
    let t := scribeTest s (some (n, u))
    t.power.step = 3 ∧ t.power.stop = 7 ∧ jget t 0x3010 1 = 2 ∧ jget t 0x3010 2 = n ∧ jget t 0x3010 3 = u ∧
      Store.find? t.power.latches u = some 255 ∧ t.lanes = s.lanes ∧ t.mode = s.mode := by
  have husmall := scribeUnits_small hu
  obtain ⟨-, hstep, -, -⟩ := (inStep_iff s 3).1 h
  obtain ⟨hlanes, hmode, hpower⟩ := scribed_keeps s (testLatches (some (n, u)) s.scribeUnits) 2 n u
  obtain ⟨hresult, hpattern, hunit⟩ := scribed_result s (testLatches (some (n, u)) s.scribeUnits) (r := 2) n u (by decide)
  have hlatches := testLatches_defect hn hu
  intro t
  have ht : t = stopAt (s.scribed (testLatches (some (n, u)) s.scribeUnits) 2 n u) 7 := scribeTest_fails h hn hu
  rw [Nat.mod_eq_of_lt (by omega)] at hpattern hunit
  rw [ht]
  refine ⟨?_, rfl, hresult, hpattern (by omega), hunit (by omega), ?_, hlanes, hmode⟩
  · exact (congrArg Power.step hpower).trans hstep
  · exact (congrArg (fun p => Store.find? p.latches u) hpower).trans hlatches

theorem laneBoot_boots {s : State} {c : Container} (hstep : s.inStep 4 = true) (hconfig : s.config = some c) (ok : Tri Bool) :
    laneBoot s ok = (let booted := LaneId.all.foldl (fun t l => bootLane t c ok l) s
      if booted.actives.length < 2 then stopAt booted 8 else toStep (lockLanes booted) 5) := by
  unfold laneBoot
  rw [hconfig]
  exact if_pos hstep

theorem startUpSteps : Parts.StartUpSteps := by
  refine ⟨⟨powerOn State.reset, rfl, powerOn_delivered⟩, fun s c => ⟨fun h => congrArg Host.Outcome.next (containerLoad_waits h),
    fun hgauge hmode hstep hstop hbooted => ?_, fun h => ⟨?_, fun n u hn hu => ?_⟩, fun h hconfig ok => ?_, fun h hconfig => ⟨fun x hx => ?_,
    fun hjournals hactives => ?_⟩, fun h => ⟨fun hring => ?_, fun hunsure => ?_⟩⟩⟩
  · obtain ⟨hfew, hblank, hdiffer, hagreed⟩ := containerLoad_agreed c hgauge hmode hstep hstop hbooted
    exact ⟨fun h => congrArg Host.Outcome.next (hfew h), fun h hn => congrArg Host.Outcome.next (hblank h hn),
      fun h hs hn => congrArg Host.Outcome.next (hdiffer h hs hn), fun h ha => congrArg Host.Outcome.next (hagreed h ha)⟩
  · exact ⟨scribeTest s none, rfl, scribeTest_sound h⟩
  · obtain ⟨hstep, hstop, hresult, hpattern, hunit, hkept⟩ := scribeTest_defect h hn hu
    exact ⟨scribeTest s (some (n, u)), rfl, hstep, hstop, hresult, fun _ => hpattern, fun _ => hunit, hkept⟩
  · exact congrArg Host.Outcome.next (laneBoot_boots h hconfig ok)
  · exact congrArg Host.Outcome.next (stateRestore_agreed h hconfig hx)
  · exact congrArg Host.Outcome.next (stateRestore_fresh h hconfig hjournals hactives)
  · exact congrArg Host.Outcome.next (if_pos ⟨h, hring⟩)
  · exact congrArg Host.Outcome.next (if_pos ⟨h, hunsure⟩)

/-- Settles O52: the reset keeps what `resetModule_held` says, every source leads to it, and each step of start-up is the branch that its
conditions select. -/
theorem resetsAndStartUpSteps : Obligations.ResetsAndStartUpSteps := ⟨resetsRestartTheModule, startUpSteps⟩

end Sys2Proof.Machine
end

section
/-! The canonical form of everything that a lane keeps byte by byte: what each operation of a lane on its byte stores makes of it. -/

namespace Sys2Proof.Machine

open Sys2Proof

/-! ## Canonical lanes and states -/

/-- The byte stores of a lane, every one in canonical form. -/
structure Lane.Canonical (ln : Lane) : Prop where
  i : Memory.wf ln.i = true
  q : Memory.wf ln.q = true
  m : Memory.wf ln.m = true
  d : Memory.wf ln.d = true
  s : Memory.wf ln.s = true
  locals : Store.wf ([] : Store Byte) ln.locals = true
  eachLocal : ln.locals.all (fun p => Memory.wf p.2) = true
  iBase : Memory.wf ln.iBase = true
  published : Store.wf ([] : Store Byte) ln.published = true
  eachPublished : ln.published.all (fun p => Memory.wf p.2) = true

/-- Every lane's byte stores in canonical form. -/
structure State.Canonical (s : State) : Prop where
  lane : ∀ {l}, (s.lane l).Canonical

theorem Lane.canonical_iff (ln : Lane) : ln.canonical = true ↔ ln.Canonical := by
  constructor
  · intro h
    simp only [Lane.canonical, Bool.and_eq_true, and_assoc] at h
    obtain ⟨hmem, hbase, hpub, hall⟩ := h
    obtain ⟨hi, hq, hm, hd, hs, hloc, heach⟩ := ln.memoryWf_iff.1 hmem
    exact ⟨hi, hq, hm, hd, hs, hloc, heach, hbase, hpub, hall⟩
  · intro h
    simp only [Lane.canonical, Bool.and_eq_true, and_assoc]
    exact ⟨ln.memoryWf_iff.2 ⟨h.i, h.q, h.m, h.d, h.s, h.locals, h.eachLocal⟩, h.iBase, h.published, h.eachPublished⟩

theorem State.canonical_iff (s : State) : s.canonical = true ↔ s.Canonical := by
  simp only [State.canonical, Bool.and_eq_true, Lane.canonical_iff]
  exact ⟨fun ⟨⟨ha, hb⟩, hc⟩ => ⟨fun {l} => by cases l <;> assumption⟩, fun h => ⟨⟨h.lane (l := .a), h.lane (l := .b)⟩, h.lane (l := .c)⟩⟩

namespace Lane.Canonical

variable {ln donor : Lane}

theorem memoryWf (h : ln.Canonical) : ln.memoryWf = true := ln.memoryWf_iff.2 ⟨h.i, h.q, h.m, h.d, h.s, h.locals, h.eachLocal⟩

/-- What a lane keeps besides its byte stores is free. -/
theorem same (h : ln.Canonical) {status hold excludedAt reg rel relSeen istore engines pairs lcv0 lcv1 sampled view vecs exchanged executing
    incomplete agreedC agreedK image imagePrev newFields batch batchCrc first afterChange afterRestore ctxs pubs seenSeq lastGood diffs reports
    forces forcesRel glue time sampledAt fired recog container stored spare released} :
    ({ status, hold, excludedAt, reg, rel, relSeen, i := ln.i, q := ln.q, m := ln.m, d := ln.d, s := ln.s, published := ln.published,
       locals := ln.locals, istore, engines, pairs, lcv0, lcv1, sampled, view, vecs, exchanged, executing, incomplete, agreedC, agreedK, image,
       imagePrev, newFields, iBase := ln.iBase, batch, batchCrc, first, afterChange, afterRestore, ctxs, pubs, seenSeq, lastGood, diffs, reports,
       forces, forcesRel, glue, time, sampledAt, fired, recog, container, stored, spare, released } : Lane).Canonical :=
  ⟨h.i, h.q, h.m, h.d, h.s, h.locals, h.eachLocal, h.iBase, h.published, h.eachPublished⟩

theorem ite {c : Prop} [Decidable c] (h : ln.Canonical) (h' : donor.Canonical) : (if c then ln else donor).Canonical := by
  split <;> assumption

theorem foldl {α : Type} {g : Lane → α → Lane} {xs : List α} (h : ln.Canonical) (hg : ∀ {ln : Lane} {x : α}, ln.Canonical → (g ln x).Canonical) :
    (xs.foldl g ln).Canonical := by
  induction xs generalizing ln with
  | nil => exact h
  | cons x xs ih => exact ih (hg h)

theorem foldlFst {α β : Type} {g : Lane × β → α → Lane × β} {xs : List α} {p : Lane × β} (h : p.1.Canonical)
    (hg : ∀ {p : Lane × β} {x : α}, p.1.Canonical → (g p x).1.Canonical) : (xs.foldl g p).1.Canonical :=
  List.foldlRecOn (motive := fun p => p.1.Canonical) xs g h fun _ h _ _ => hg h

theorem runsTo (h : ln.Canonical) (hr : ln.RunsTo donor) : donor.Canonical := by
  obtain ⟨_, _, _, _, _, rfl, -⟩ := hr
  exact h.same

/-! ## Writes to the byte stores -/

theorem area (h : ln.Canonical) (a : Area) (eng : Nat) : Memory.wf (ln.area a eng) = true := Lane.wf_area h.memoryWf a eng

theorem setArea (h : ln.Canonical) {a : Area} {eng : Nat} {m : Store Byte} (hm : Memory.wf m = true) : (ln.setArea a eng m).Canonical := by
  obtain ⟨hi, hq, hm', hd, hs, hloc, heach⟩ := (Lane.memoryWf_iff _).1 (Lane.memoryWf_setArea h.memoryWf a eng hm)
  have hrest : (ln.setArea a eng m).iBase = ln.iBase ∧ (ln.setArea a eng m).published = ln.published := by cases a <;> exact ⟨rfl, rfl⟩
  exact ⟨hi, hq, hm', hd, hs, hloc, heach, hrest.1 ▸ h.iBase, hrest.2 ▸ h.published, hrest.2 ▸ h.eachPublished⟩

theorem store (h : ln.Canonical) {a : Area} {eng ofs : Nat} {bs : Bytes} : (ln.store a eng ofs bs).Canonical := by
  obtain ⟨g, hg⟩ := Lane.store_eq ln a eng ofs bs
  rw [hg]
  exact (same h (glue := g)).setArea (Store.wf_putBytes 0 bs _ ofs (h.area a eng))

theorem withI (h : ln.Canonical) {m : Store Byte} (hm : Memory.wf m = true) : ({ ln with i := m } : Lane).Canonical := h.setArea (a := .i) (eng := 0) hm

theorem withQ (h : ln.Canonical) {m : Store Byte} (hm : Memory.wf m = true) : ({ ln with q := m } : Lane).Canonical := h.setArea (a := .q) (eng := 0) hm

/-- What an instruction of an engine stores keeps its lane canonical, whatever its core has seen. -/
theorem op {b : Bool} {f : Exec → Exec} {x : Exec} (hf : EngineOp b f) (h : x.ln.Canonical) : (f x).ln.Canonical := by
  cases b with
  | false =>
    obtain ⟨_, _, _, hk⟩ := keepsLane_of_op hf x
    rw [hk]
    exact h.same
  | true =>
    rcases stores_of_op hf x with hs | ⟨a, eng, ofs, bs, hs⟩
    · rw [hs]
      exact h
    · rw [hs]
      exact h.store

theorem withIBase (h : ln.Canonical) {m : Store Byte} (hm : Memory.wf m = true) : ({ ln with iBase := m } : Lane).Canonical :=
  ⟨h.i, h.q, h.m, h.d, h.s, h.locals, h.eachLocal, hm, h.published, h.eachPublished⟩

end Lane.Canonical

namespace State.Canonical

variable {s t : State}

/-- What the device keeps besides its lanes is free. -/
theorem same (h : s.Canonical) {pending free wires jreg mode vote time ptp0 ptp1 field ring ecn0 ecn1 can0 can1 host cvu dict cfg change forces priv
    keys revoked recorder log monitors power pins domains crossings batchIn stationRun hbAt hbExpired scrub} :
    ({ pending, free, wires, jreg, mode, lanes := s.lanes, vote, time, ptp0, ptp1, field, ring, ecn0, ecn1, can0, can1, host, cvu, dict, cfg, change,
       forces, priv, keys, revoked, recorder, log, monitors, power, pins, domains, crossings, batchIn, stationRun, hbAt, hbExpired,
       scrub } : State).Canonical :=
  ⟨h.lane⟩

theorem ite {c : Prop} [Decidable c] (h : s.Canonical) (h' : t.Canonical) : (if c then s else t).Canonical := by
  split <;> assumption

theorem foldl {α : Type} {g : State → α → State} {xs : List α} (h : s.Canonical) (hg : ∀ {s : State} {x : α}, s.Canonical → (g s x).Canonical) :
    (xs.foldl g s).Canonical := by
  induction xs generalizing s with
  | nil => exact h
  | cons x xs ih => exact ih (hg h)

theorem elim {α : Type} {o : Option α} {g : α → State} (h : s.Canonical) (hg : ∀ {x : α}, (g x).Canonical) : (o.elim s g).Canonical := by
  cases o with
  | none => exact h
  | some x => exact hg

theorem modLane (h : s.Canonical) {l : LaneId} {f : Lane → Lane} (hf : ∀ {ln : Lane}, ln.Canonical → (f ln).Canonical) :
    (s.modLane l f).Canonical := by
  refine ⟨fun {m} => ?_⟩
  by_cases hm : m = l
  · rw [hm, modLane_lane_self]
    exact hf h.lane
  · rw [modLane_lane_other _ _ _ _ hm]
    exact h.lane

theorem modLanes (h : s.Canonical) {f : LaneId → Lane → Lane} (hf : ∀ {l : LaneId} {ln : Lane}, ln.Canonical → (f l ln).Canonical) :
    (s.modLanes f).Canonical := by
  refine ⟨fun {l} => ?_⟩
  cases l with
  | a => exact hf (h.lane (l := .a))
  | b => exact hf (h.lane (l := .b))
  | c => exact hf (h.lane (l := .c))

theorem mapLanes (h : s.Canonical) {f : Lane → Lane} {pending free wires jreg mode vote time ptp0 ptp1 field ring ecn0 ecn1 can0 can1 host cvu dict cfg
    change forces priv keys revoked recorder log monitors power pins domains crossings batchIn stationRun hbAt hbExpired scrub}
    (hf : ∀ {ln : Lane}, ln.Canonical → (f ln).Canonical) :
    ({ pending, free, wires, jreg, mode, lanes := s.lanes.map f, vote, time, ptp0, ptp1, field, ring, ecn0, ecn1, can0, can1, host, cvu, dict, cfg,
       change, forces, priv, keys, revoked, recorder, log, monitors, power, pins, domains, crossings, batchIn, stationRun, hbAt, hbExpired,
       scrub } : State).Canonical :=
  (h.modLanes (f := fun _ => f) hf).same

theorem foldlFst {α β : Type} {g : State × β → α → State × β} {xs : List α} {p : State × β} (h : p.1.Canonical)
    (hg : ∀ {p : State × β} {x : α}, p.1.Canonical → (g p x).1.Canonical) : (xs.foldl g p).1.Canonical :=
  List.foldlRecOn (motive := fun p => p.1.Canonical) xs g h fun _ h _ _ => hg h

theorem foldlWindow {α : Type} {g : BestWindow → α → BestWindow} {xs : List α} {w : BestWindow} (h : w.state.Canonical)
    (hg : ∀ {w : BestWindow} {x : α}, w.state.Canonical → (g w x).state.Canonical) : (xs.foldl g w).state.Canonical :=
  List.foldlRecOn (motive := fun w => w.state.Canonical) xs g h fun _ h _ _ => hg h

theorem runsOn {l : LaneId} (h : s.Canonical) (hr : s.RunsOn l t) : t.Canonical := by
  refine ⟨fun {m} => ?_⟩
  by_cases hm : m = l
  · rw [hm]
    exact h.lane.runsTo hr.lane
  · rw [hr.others m hm]
    exact h.lane

end State.Canonical

end Sys2Proof.Machine
end

section
/-! The canonical form is kept: the lanes, the field dies and the cycle start. -/

namespace Sys2Proof.Machine

open Sys2Proof

variable {s : State} {ln : Lane}

/-! ## A blank lane -/

theorem Lane.Canonical.blank : Lane.blank.Canonical := ⟨rfl, rfl, rfl, rfl, rfl, rfl, rfl, rfl, rfl, rfl⟩

/-! ## Registers, lanes and time -/

theorem State.Canonical.jset (h : s.Canonical) {index sub v : Nat} : (Machine.jset s index sub v).Canonical := h.same

theorem State.Canonical.jbump (h : s.Canonical) {index sub : Nat} : (Machine.jbump s index sub).Canonical := h.jset

theorem State.Canonical.jadd (h : s.Canonical) {index sub n : Nat} : (Machine.jadd s index sub n).Canonical := h.jset

theorem Lane.Canonical.rset (h : ln.Canonical) {index sub v : Nat} : (ln.rset index sub v).Canonical := h.same

theorem Lane.Canonical.rbump (h : ln.Canonical) {index sub : Nat} : (ln.rbump index sub).Canonical := h.rset

theorem Lane.Canonical.radd (h : ln.Canonical) {index sub n : Nat} : (ln.radd index sub n).Canonical := h.rset

theorem State.Canonical.drew (h : s.Canonical) : s.drew.Canonical := h.same

theorem State.Canonical.emit (h : s.Canonical) {w : Wire} : (s.emit w).Canonical := h.same

theorem State.Canonical.advanceTo (h : s.Canonical) {t : Nat} : (Machine.advanceTo s t).Canonical := h.mapLanes (fun h => h.same)

theorem State.Canonical.record (h : s.Canonical) {source type : Nat} {payload : Bytes} : (Machine.record s source type payload).Canonical :=
  h.same.jbump.ite h.same

theorem State.Canonical.recordStep (h : s.Canonical) {step : Nat} : (Machine.recordStep s step).Canonical := h.record

theorem State.Canonical.recordUnlogged (h : s.Canonical) {client index sub : Nat} : (Machine.recordUnlogged s client index sub).Canonical :=
  h.record

theorem State.Canonical.logEntry (h : s.Canonical) {client path index sub kind : Nat} {old new : Bytes} :
    (Machine.logEntry s client path index sub kind old new).Canonical :=
  h.same.ite h.jbump.recordUnlogged

theorem State.Canonical.monitorOne (h : s.Canonical) {kind sel : Nat} {x : Int} {n : Nat} : (Machine.monitorOne s kind sel x n).Canonical :=
  h.same.ite h

theorem State.Canonical.monitorTake (h : s.Canonical) {kind sel : Nat} {x : Int} : (Machine.monitorTake s kind sel x).Canonical :=
  h.foldl (fun h => h.monitorOne)

/-! ## The journal (14 R368 to R380) -/

theorem Lane.Canonical.touch (h : ln.Canonical) {b : Nat} : (ln.touch b).Canonical := h.same

theorem Lane.Canonical.storeBit (h : ln.Canonical) {a : Area} {eng ofs bit : Nat} {v : Bool} : (ln.storeBit a eng ofs bit v).Canonical := h.store

theorem Lane.Canonical.wrote (h : ln.Canonical) {r : Record} : (ln.wrote r).Canonical := h.same.rset

theorem Lane.Canonical.append (h : ln.Canonical) {r : Record} : (ln.append r).Canonical := h.same.wrote

theorem Lane.Canonical.voidMarker (h : ln.Canonical) {k : Nat} : (ln.voidMarker k).Canonical := h.append

theorem Lane.Canonical.snapshot (h : ln.Canonical) {l : LaneId} {k now : Nat} {f : FixedPart} : (ln.snapshot l k now f).Canonical :=
  (h.voidMarker.ite h).same

theorem Lane.Canonical.glueRelease (h : ln.Canonical) {l : LaneId} {k now : Nat} {commit : Bool} {limp : Option Nat} :
    (ln.glueRelease l k now commit limp).Canonical :=
  ((h.same.same.same.rbump.ite h.same.same.snapshot).ite h.same.same).same

theorem Lane.Canonical.carryPieces {l : LaneId} {r : Record} {n : Nat} {bs : List Nat} (h : ln.Canonical) :
    (Lane.carryPieces l r n bs ln).Canonical := by
  induction n generalizing bs ln with
  | zero =>
    unfold Lane.carryPieces
    exact h
  | succ n ih =>
    cases bs with
    | nil =>
      unfold Lane.carryPieces
      exact h
    | cons b bs =>
      unfold Lane.carryPieces
      exact ih h.append

theorem Lane.Canonical.carryAhead (h : ln.Canonical) {l : LaneId} {n : Nat} : (ln.carryAhead l n).Canonical := by
  unfold Lane.carryAhead
  split
  · exact h
  · exact h.carryPieces

theorem Lane.Canonical.commitDone (h : ln.Canonical) {l : LaneId} {now : Nat} : (ln.commitDone l now).Canonical := by
  unfold Lane.commitDone
  split
  · exact h
  · exact h.carryAhead.append.same.rset.rset.rset.rset

theorem Lane.Canonical.abandon (h : ln.Canonical) {now : Nat} : (ln.abandon now).Canonical := by
  unfold Lane.abandon
  split
  · exact h
  · exact h.append.same

theorem Lane.Canonical.finalCommit (h : ln.Canonical) {l : LaneId} {p now : Nat} : (ln.finalCommit l p now).Canonical :=
  h.abandon.same.same.ite h.abandon.same

theorem Lane.Canonical.finalWhole (h : ln.Canonical) {l : LaneId} {p now : Nat} : (ln.finalWhole l p now).Canonical := h.finalCommit.commitDone

theorem State.Canonical.stampRegions (h : s.Canonical) : (Machine.stampRegions s).Canonical := h.same.modLanes (fun h => h.same)

theorem State.Canonical.stampCopies (h : s.Canonical) {ls : List LaneId} {place : Nat} : (Machine.stampCopies s ls place).Canonical := h.same

theorem Lane.Canonical.clearState (h : ln.Canonical) : ln.clearState.Canonical :=
  ⟨h.i, h.q, rfl, rfl, rfl, rfl, rfl, h.iBase, h.published, h.eachPublished⟩

theorem Lane.Canonical.putBlock (h : ln.Canonical) {b : Nat} {bs : Bytes} : (ln.putBlock b bs).Canonical :=
  h.setArea (Store.wf_putBytes 0 bs _ _ (h.area _ _))

/-- The working copies of one lane in another. -/
theorem Lane.Canonical.withWork {donor : Lane} (h : ln.Canonical) (hd : donor.Canonical) :
    ({ ln with m := donor.m, d := donor.d, s := donor.s, locals := donor.locals } : Lane).Canonical :=
  ⟨h.i, h.q, hd.m, hd.d, hd.s, hd.locals, hd.eachLocal, h.iBase, h.published, h.eachPublished⟩

theorem Lane.Canonical.reconstruct {ini : Lane} {seq : Nat} (h : ln.Canonical) (hini : ini.Canonical) : (ln.reconstruct ini seq).Canonical := by
  unfold Lane.reconstruct
  exact (h.clearState.ite (h.withWork hini)).foldl fun h => h.putBlock

/-! ## Crossings (15 R394 to R405) -/

theorem State.Canonical.setCrossing (h : s.Canonical) {x : Nat} {c : Crossing} : (s.setCrossing x c).Canonical := h.same

theorem State.Canonical.clearCrossing (h : s.Canonical) {x : Nat} : (Machine.clearCrossing s x).Canonical := h.setCrossing.jset.jset.jset.jset

theorem State.Canonical.clearCrossings (h : s.Canonical) : (Machine.clearCrossings s).Canonical := h.foldl (fun h => h.clearCrossing)

theorem State.Canonical.raiseMark (h : s.Canonical) {x n : Nat} : (Machine.raiseMark s x n).Canonical := h.jset

theorem State.Canonical.through (h : s.Canonical) {x n : Nat} : (Machine.through s x n).Canonical := h.ite h.drew.setCrossing.raiseMark

theorem State.Canonical.holdItem (h : s.Canonical) {x n : Nat} {i : XItem} : (Machine.holdItem s x n i).Canonical :=
  h.setCrossing.raiseMark.ite h.setCrossing

theorem State.Canonical.offer (h : s.Canonical) {x n : Nat} {i : XItem} : (Machine.offer s x n i).Canonical := h.setCrossing

theorem State.Canonical.overrun (h : s.Canonical) {x n : Nat} : (Machine.overrun s x n).Canonical := h.setCrossing.jset

theorem State.Canonical.dropEntries (h : s.Canonical) {x n : Nat} : (Machine.dropEntries s x n).Canonical := h.overrun.jadd

theorem State.Canonical.spill {x n : Nat} {lost : State → State} (h : s.Canonical) (hlost : ∀ {s : State}, s.Canonical → (lost s).Canonical) :
    (Machine.spill s x n lost).Canonical :=
  hlost ((h.ite h.holdItem).dropEntries)

theorem State.Canonical.carry {x n : Nat} {i : XItem} {lost f : State → State} (h : s.Canonical)
    (hlost : ∀ {s : State}, s.Canonical → (lost s).Canonical) (hf : ∀ {s : State}, s.Canonical → (f s).Canonical) :
    (Machine.carry s x n i lost f).Canonical :=
  (hf h).ite (h.ite ((hf h.through).ite (h.holdItem.ite (h.offer.ite (h.spill (fun h' => hlost h'))))))

theorem State.Canonical.transmit (h : s.Canonical) {x n : Nat} {w : Wire} : (Machine.transmit s x n w).Canonical :=
  h.carry (fun h => h) (fun h => h.emit)

theorem State.Canonical.raiseEvent {x r : Nat} {i : XItem} {f : State → State} (h : s.Canonical)
    (hf : ∀ {s : State}, s.Canonical → (f s).Canonical) : (Machine.raiseEvent s x r i f).Canonical :=
  h.ite (h.overrun.ite (h.overrun.ite ((hf h.setCrossing).ite h.setCrossing.holdItem)))

theorem State.Canonical.followCounts (h : s.Canonical) {l : LaneId} : (Machine.followCounts s l).Canonical := h.setCrossing.ite h

theorem State.Canonical.closeCrossing (h : s.Canonical) {x : Nat} {src : Bool} : (Machine.closeCrossing s x src).Canonical := by
  unfold Machine.closeCrossing
  refine .ite (.setCrossing ?_) h
  split
  · exact h.jset.ite h
  · exact h

theorem State.Canonical.closeLane (h : s.Canonical) {l : LaneId} : (Machine.closeLane s l).Canonical := h.foldl (fun h => h.closeCrossing)

theorem State.Canonical.closeField (h : s.Canonical) {l : LaneId} : (Machine.closeField s l).Canonical := h.foldl (fun h => h.closeCrossing)

theorem State.Canonical.handshake (h : s.Canonical) {x : Nat} {src dst : Bool} : (Machine.handshake s x src dst).Canonical := h.setCrossing.jbump

theorem State.Canonical.reopen (h : s.Canonical) {x : Nat} {src : Bool} : (Machine.reopen s x src).Canonical :=
  (h.setCrossing.handshake.ite h.setCrossing.setCrossing).ite h

theorem State.Canonical.reopenLane (h : s.Canonical) {l : LaneId} : (Machine.reopenLane s l).Canonical := h.foldl (fun h => h.reopen)

theorem State.Canonical.reopenField (h : s.Canonical) {l : LaneId} : (Machine.reopenField s l).Canonical := (h.foldl (fun h => h.reopen)).ite h

theorem State.Canonical.toField {l : LaneId} {i : FieldFrame} {f : State → State} (h : s.Canonical)
    (hf : ∀ {s : State}, s.Canonical → (f s).Canonical) : (Machine.toField s l i f).Canonical :=
  (h.carry (fun h => h) (fun h' => hf h')).ite h.dropEntries

theorem State.Canonical.fromField {l : LaneId} {n : Nat} {r : FieldReport} {f : State → State} (h : s.Canonical)
    (hf : ∀ {s : State}, s.Canonical → (f s).Canonical) : (Machine.fromField s l n r f).Canonical :=
  (hf h).ite (h.carry (fun h => h) (fun h' => hf h'))

/-! ## Exclusion and the safe state (03 R90 to R98) -/

theorem State.Canonical.modCan (h : s.Canonical) {c : CanCtl} {f : Can → Can} : (s.modCan c f).Canonical := by
  unfold State.modCan
  split
  · exact h.same
  · exact h.same

theorem State.Canonical.sendEmcy (h : s.Canonical) {c : CanCtl} {code b3 b4 : Nat} : (Machine.sendEmcy s c code b3 b4).Canonical := h.transmit.ite h

theorem State.Canonical.emcyOne (h : s.Canonical) {c : CanCtl} {code b3 b4 : Nat} : (Machine.emcyOne s c code b3 b4).Canonical := h.jset.sendEmcy

theorem State.Canonical.emcy (h : s.Canonical) {code b3 b4 : Nat} : (Machine.emcy s code b3 b4).Canonical := h.jset.sendEmcy.sendEmcy

theorem State.Canonical.modChan (h : s.Canonical) {n : Nat} {f : DoChan → DoChan} : (s.modChan n f).Canonical := h.same

theorem State.Canonical.settleChan (h1 : s.Canonical) {before : State} {ch : Nat} : (Machine.settleChan before s ch).Canonical :=
  h1.drew.modChan.ite (h1.modChan.ite h1)

theorem State.Canonical.switching {f : State → State} (h : s.Canonical) (hf : ∀ {s : State}, s.Canonical → (f s).Canonical) :
    (Machine.switching s f).Canonical :=
  (hf h).foldl (fun h => h.settleChan)

theorem Lane.Canonical.stopEngines (h : ln.Canonical) : ln.stopEngines.Canonical := h.same

theorem State.Canonical.enterCause (h : s.Canonical) {l : LaneId} {cause : Nat} : (Machine.enterCause s l cause).Canonical :=
  (h.modLane (fun h => h.rset.ite h)).record

theorem State.Canonical.loseVector (h : s.Canonical) {l : LaneId} : (Machine.loseVector s l).Canonical := (h.same.modLanes (fun h => h.same)).ite h

theorem State.Canonical.silence (h : s.Canonical) {l : LaneId} {cause : Nat} : (Machine.silence s l cause).Canonical :=
  ((h.modLane (fun h => h.stopEngines.abandon.same)).switching (fun h => h.same)).loseVector

theorem State.Canonical.endChange (h : s.Canonical) {result detail : Nat} : (Machine.endChange s result detail).Canonical := h.same.jset.jset.record

theorem State.Canonical.abandonReint (h : s.Canonical) {l : LaneId} {step cause : Nat} : (Machine.abandonReint s l step cause).Canonical :=
  (h.enterCause.silence.modLane (fun h => h.same)).same.jset.record

theorem Lane.Canonical.enterSafe (h : ln.Canonical) {l : LaneId} {p now : Nat} : (ln.enterSafe l p now).Canonical :=
  (h.finalCommit.ite h).stopEngines.same

theorem State.Canonical.enterSafeWith (h : s.Canonical) {cause : Nat} {extra : Bytes} : (Machine.enterSafeWith s cause extra).Canonical := by
  unfold Machine.enterSafeWith
  refine h.ite ?_
  extract_lets before told stamped opened held marked vote ended shown recorded
  have hopened : opened.Canonical := (h.emcy.modLanes fun h => h.enterSafe).stampRegions.switching fun h => h.same
  have hmarked : marked.Canonical := hopened.same.jset.ite hopened.same
  have hrecorded : recorded.Canonical := hmarked.same.jset.jset.record
  exact hrecorded.endChange.ite hrecorded

theorem State.Canonical.enterSafe (h : s.Canonical) {cause : Nat} : (Machine.enterSafe s cause).Canonical := h.enterSafeWith

theorem State.Canonical.exclude (h : s.Canonical) {l : LaneId} {cause : Nat} : (Machine.exclude s l cause).Canonical := by
  unfold Machine.exclude
  refine .ite ?_ (h.enterCause.abandonReint.ite h.enterCause)
  split
  · exact h.enterCause.silence.same.emcy
  · exact h.enterCause.enterSafe.ite h.enterCause.enterSafe
  · exact h.enterCause.silence.emcy
  · exact h.enterCause

theorem State.Canonical.report (h : s.Canonical) {l : LaneId} {cause : Nat} : (Machine.report s l cause).Canonical :=
  h.raiseEvent (fun h => h.exclude)

/-! ## The cutting list (09 R243 to R245) -/

theorem State.Canonical.junctionTimeFault (h : s.Canonical) : (Machine.junctionTimeFault s).Canonical := h.same.enterSafe

theorem State.Canonical.cutFault (h : s.Canonical) : (Machine.cutFault s).Canonical := h.jbump.junctionTimeFault

theorem State.Canonical.markEarly (h : s.Canonical) {x : Trig} : (Machine.markEarly s x).Canonical := h.same

theorem State.Canonical.once {x : Trig} {f : State → State} (h : s.Canonical) (hf : ∀ {s : State}, s.Canonical → (f s).Canonical) :
    (Machine.once s x f).Canonical :=
  h.same.ite (hf h)

theorem State.Canonical.atEntry {i act : Nat} {f : State → CutEntry → State} (h : s.Canonical)
    (hf : ∀ {s : State} {y : CutEntry}, s.Canonical → (f s y).Canonical) : (Machine.atEntry s i act f).Canonical := by
  unfold Machine.atEntry
  split
  · exact h.ite (h.cutFault.ite (hf h.advanceTo.same))
  · exact h

theorem State.Canonical.atLaneEntry {l : LaneId} {i : Nat} {f : State → CutEntry → State} (h : s.Canonical)
    (hf : ∀ {s : State} {y : CutEntry}, s.Canonical → (f s y).Canonical) : (Machine.atLaneEntry s l i f).Canonical := by
  unfold Machine.atLaneEntry
  split
  · exact h.ite (h.cutFault.ite (hf (h.advanceTo.modLane (fun h => h.same))))
  · exact h

/-! ## Inputs, bridges and their tests (chapter 07) -/

theorem State.Canonical.modSec (h : s.Canonical) {l : LaneId} {f : Section → Section} : (s.modSec l f).Canonical := h.same

theorem State.Canonical.seeSupply (h : s.Canonical) {l : LaneId} {mV : Nat} : (Machine.seeSupply s l mV).Canonical :=
  h.modSec.modLane (fun h => h.rset)

theorem State.Canonical.seeSupplyAll (h : s.Canonical) {mV : Nat} : (Machine.seeSupplyAll s mV).Canonical := h.foldl (fun h => h.seeSupply)

theorem State.Canonical.fieldSupplyLoss (h : s.Canonical) : (Machine.fieldSupplyLoss s).Canonical := by
  unfold Machine.fieldSupplyLoss
  exact (h.same.foldl (fun h => h.closeField)).record

theorem State.Canonical.quietSection (h : s.Canonical) {l : LaneId} : (Machine.quietSection s l).Canonical := by
  unfold Machine.quietSection
  exact (h.switching (fun h => h.same)).modSec

theorem State.Canonical.judgeQuiet (h : s.Canonical) {l : LaneId} : (Machine.judgeQuiet s l).Canonical :=
  h.ite (h.ite ((h.fieldSupplyLoss.ite (h.ite (h.exclude.ite h))).ite (h.exclude.ite h)))

theorem State.Canonical.channelQuiet (h : s.Canonical) {l : LaneId} : (Machine.channelQuiet s l).Canonical := h.quietSection.judgeQuiet

theorem State.Canonical.sectionAlarm (h : s.Canonical) {l src : LaneId} : (Machine.sectionAlarm s l src).Canonical :=
  h.ite (((h.switching (fun h => h.same)).ite h).judgeQuiet)

theorem State.Canonical.fieldUndervoltage (h : s.Canonical) {l : LaneId} {mV : Nat} : (Machine.fieldUndervoltage s l mV).Canonical :=
  h.seeSupply.modSec.ite h.seeSupply

theorem State.Canonical.fieldUndervoltageClear (h : s.Canonical) {l : LaneId} {mV : Nat} : (Machine.fieldUndervoltageClear s l mV).Canonical :=
  h.seeSupply.modSec.ite h.seeSupply

theorem State.Canonical.fieldDieReset (h : s.Canonical) {mV : Nat} : (Machine.fieldDieReset s mV).Canonical := by
  unfold Machine.fieldDieReset
  refine .ite ?_ (((h.modLanes fun h => h.rset).foldl fun h => h.closeField).ite h)
  extract_lets loss field quiet judged
  have hquiet : quiet.Canonical := h.same.foldl fun h => h.quietSection
  have hjudged : judged.Canonical := hquiet.fieldSupplyLoss.ite (hquiet.foldl fun h => h.judgeQuiet)
  exact (hjudged.modLanes fun h => h.rset).foldl fun h => h.closeField

theorem State.Canonical.fieldDieBoot (h : s.Canonical) {mV : Nat} : (Machine.fieldDieBoot s mV).Canonical := by
  unfold Machine.fieldDieBoot
  refine .ite ?_ h
  extract_lets wasLost back field blank booted reopened seen shown
  have hseen : seen.Canonical := ((h.mapLanes fun h => h.same).foldl fun h => h.reopenField).seeSupplyAll
  have hshown : shown.Canonical := (hseen.modLanes fun h => h.rset).ite hseen
  exact hshown.record.ite hshown

theorem State.Canonical.classify (h : s.Canonical) {l : LaneId} {n band : Nat} : (Machine.classify s l n band).Canonical := by
  unfold Machine.classify
  exact h.modSec

theorem State.Canonical.diRaw (h : s.Canonical) {l : LaneId} {n uA : Nat} : (Machine.diRaw s l n uA).Canonical := (h.drew.ite h).classify.ite h

theorem State.Canonical.reclassify (h : s.Canonical) {l : LaneId} : (Machine.reclassify s l).Canonical :=
  (h.foldl (fun h => h.classify.ite h)).ite h

theorem State.Canonical.filterExpiry (h : s.Canonical) {l : LaneId} {n : Nat} : (Machine.filterExpiry s l n).Canonical := by
  unfold Machine.filterExpiry
  refine h.ite ?_
  split
  · exact h
  · exact h.advanceTo.modSec

theorem State.Canonical.pulseCount (h : s.Canonical) {l : LaneId} {n : Nat} : (Machine.pulseCount s l n).Canonical := h.modSec.followCounts.ite h

theorem State.Canonical.overload (h : s.Canonical) {ch : Nat} : (Machine.overload s ch).Canonical := h.modChan.ite h

theorem State.Canonical.thermalShutdown (h : s.Canonical) {ch : Nat} : (Machine.thermalShutdown s ch).Canonical :=
  (h.switching (fun h => h.modChan)).modLanes (fun h => h.rbump.ite h)

theorem State.Canonical.thermalRestart (h : s.Canonical) {ch : Nat} : (Machine.thermalRestart s ch).Canonical := h.switching (fun h => h.modChan)

theorem State.Canonical.demagEnd (h : s.Canonical) {l : LaneId} {ch : Nat} : (Machine.demagEnd s l ch).Canonical := h.switching (fun h => h.modChan)

theorem State.Canonical.demagOverrun (h : s.Canonical) {ch : Nat} : (Machine.demagOverrun s ch).Canonical := by
  unfold Machine.demagOverrun
  split
  · exact h
  · exact h.advanceTo.modChan

theorem State.Canonical.openWireOn (h : s.Canonical) {l : LaneId} {ch uA : Nat} : (Machine.openWireOn s l ch uA).Canonical :=
  h.modChan.modChan.ite h.modChan

theorem State.Canonical.openWireOff (h : s.Canonical) {l : LaneId} {ch mV : Nat} : (Machine.openWireOff s l ch mV).Canonical :=
  h.modChan.modChan.ite (h.modChan.modChan.ite h.modChan)

theorem State.Canonical.groupLoss (h : s.Canonical) {g mV : Nat} : (Machine.groupLoss s g mV).Canonical := (h.same.foldl (fun h => h.modChan)).ite h

theorem State.Canonical.groupRestored (h : s.Canonical) {g mV : Nat} : (Machine.groupRestored s g mV).Canonical := h.same.ite h

theorem State.Canonical.standingPath (h : s.Canonical) {l : LaneId} {ch mid out p : Nat} : (Machine.standingPath s l ch mid out p).Canonical :=
  h.modChan.ite (h.modChan.ite h)

theorem State.Canonical.standingCheck (h : s.Canonical) {l : LaneId} {ch : Nat} {mids : Tri Nat} {out : Nat} :
    (Machine.standingCheck s l ch mids out).Canonical :=
  (h.advanceTo.modChan.foldl (fun h => h.standingPath)).ite h.advanceTo

theorem State.Canonical.pathNotConducting (h : s.Canonical) {l : LaneId} {ch p total : Nat} : (Machine.pathNotConducting s l ch p total).Canonical :=
  h.modChan.modChan.ite h.modChan

theorem State.Canonical.elementMeasure (h : s.Canonical) {l : LaneId} {ch : Nat} {paths : Tri Nat} : (Machine.elementMeasure s l ch paths).Canonical := by
  unfold Machine.elementMeasure
  dsimp only
  split
  · exact h.advanceTo
  · exact h.advanceTo.modChan.ite h.advanceTo

theorem State.Canonical.elementOpen (h : s.Canonical) : (Machine.elementOpen s).Canonical := by
  unfold Machine.elementOpen
  dsimp only
  split
  · exact h.advanceTo
  · exact h.advanceTo.ite (h.advanceTo.switching (fun h => h.same))

theorem State.Canonical.elementCheck (h : s.Canonical) {l : LaneId} {ch : Nat} {paths : Tri Nat} : (Machine.elementCheck s l ch paths).Canonical := by
  unfold Machine.elementCheck
  dsimp only
  split
  · exact h.advanceTo
  · exact (h.advanceTo.ite h.advanceTo.modChan).ite h.advanceTo

theorem State.Canonical.elementReclose (h : s.Canonical) : (Machine.elementReclose s).Canonical := by
  unfold Machine.elementReclose
  dsimp only
  split
  · exact h.advanceTo
  · exact ((h.advanceTo.switching (fun h => h.same)).modLanes (fun h => h.rbump.ite h)).ite (h.advanceTo.switching (fun h => h.same))

theorem State.Canonical.offPulseStart (h : s.Canonical) {ch : Nat} : (Machine.offPulseStart s ch).Canonical := by
  unfold Machine.offPulseStart
  split
  · exact (h.advanceTo.switching (fun h => h.modChan)).same.ite h.advanceTo
  · exact h

theorem State.Canonical.offPulseCheck (h : s.Canonical) {l : LaneId} {ch mV : Nat} : (Machine.offPulseCheck s l ch mV).Canonical := by
  unfold Machine.offPulseCheck
  split
  · exact h
  · exact h.advanceTo.modChan.modChan.ite h.advanceTo.modChan

theorem State.Canonical.offPulseEnd (h : s.Canonical) {ch : Nat} : (Machine.offPulseEnd s ch).Canonical := by
  unfold Machine.offPulseEnd
  split
  · exact h
  · exact h.advanceTo.switching (fun h => h.modChan)

theorem State.Canonical.healthToggle (h : s.Canonical) {l : LaneId} : (Machine.healthToggle s l).Canonical := by
  unfold Machine.healthToggle
  exact h.advanceTo.modSec

theorem State.Canonical.lockChan (h : s.Canonical) {ch : Nat} : (Machine.lockChan s ch).Canonical := h.modChan.ite h

theorem State.Canonical.applyOutputs (h : s.Canonical) {cfg : Container} {l : LaneId} : (Machine.applyOutputs cfg s l).Canonical :=
  h.foldl (fun h => h.modChan.ite h.modChan.modChan)

theorem State.Canonical.applyLane (h : s.Canonical) {cfg : Container} {l : LaneId} : (Machine.applyLane cfg s l).Canonical :=
  (h.toField (fun h => h.applyOutputs)).ite h

theorem State.Canonical.planTests (h : s.Canonical) {c : Container} {k : Nat} : (Machine.planTests s c k).Canonical :=
  ((h.same.ite h).same.ite (h.same.ite h)).same

theorem State.Canonical.planPulse (h : s.Canonical) {c : Container} {k ch : Nat} : (Machine.planPulse s c k ch).Canonical :=
  h.modChan.ite (h.modChan.ite h)

theorem State.Canonical.startTests (h : s.Canonical) : (Machine.startTests s).Canonical := h.same

/-! ## Samples and conversions (chapter 08) -/

theorem State.Canonical.refreshSample (h : s.Canonical) {l : LaneId} {hits : FieldSrc → Bool} : (Machine.refreshSample s l hits).Canonical := by
  unfold Machine.refreshSample
  split
  · exact h
  · exact h.modLane (fun h => h.same.ite h)

theorem State.Canonical.showCodes (h : s.Canonical) {l : LaneId} : (Machine.showCodes s l).Canonical :=
  h.modLane (fun h => (h.foldl (fun h => h.rset)).rset)

theorem State.Canonical.currentMonitor (h : s.Canonical) {sel : Nat} : (Machine.currentMonitor s sel).Canonical := h.drew.monitorTake.ite h

theorem State.Canonical.latchSection (h : s.Canonical) {l : LaneId} : (Machine.latchSection s l).Canonical := h.modSec

theorem State.Canonical.takeSampled (h : s.Canonical) {l : LaneId} {bytes : Bytes} : (Machine.takeSampled s l bytes).Canonical :=
  (h.modLane (fun h => h.same)).showCodes

theorem State.Canonical.sampleDue (h : s.Canonical) {l : LaneId} : (Machine.sampleDue s l).Canonical := by
  unfold Machine.sampleDue
  split
  · exact h
  · exact (h.cutFault.ite ((((h.advanceTo.modLane (fun h => h.same)).judgeQuiet.toField (fun h => h.latchSection)).fromField (fun h =>
      h.takeSampled)).same.foldl (fun h => h.currentMonitor))).ite h

theorem State.Canonical.sample (h : s.Canonical) {l : LaneId} : (Machine.sample s l).Canonical := h.once (fun h => h.sampleDue)

theorem State.Canonical.markConversion (h : s.Canonical) {l : LaneId} {entry : Nat} : (Machine.markConversion s l entry).Canonical := h.modSec

theorem State.Canonical.converterDue (h : s.Canonical) {l : LaneId} {entry : Nat} : (Machine.converterDue s l entry).Canonical :=
  (h.atLaneEntry (fun h => h.ite (h.toField (fun h => h.markConversion)))).ite h

theorem State.Canonical.converterStart (h : s.Canonical) {l : LaneId} {entry : Nat} : (Machine.converterStart s l entry).Canonical :=
  h.once (fun h => h.converterDue)

theorem State.Canonical.takeInput (h : s.Canonical) {l : LaneId} {n : Nat} : (Machine.takeInput s l n).Canonical := h.refreshSample.showCodes

theorem State.Canonical.takeEntry (h : s.Canonical) {l : LaneId} {e : Nat} {code : Int} : (Machine.takeEntry s l e code).Canonical := h.modSec

theorem State.Canonical.conversionResult (h : s.Canonical) {l : LaneId} {n : Nat} {entry : Option Nat} {v : Int} :
    (Machine.conversionResult s l n entry v).Canonical := by
  unfold Machine.conversionResult
  refine .ite ?_ h
  dsimp only
  split
  · exact (h.modSec.fromField (fun h => h.takeInput)).ite h
  · exact (h.modSec.fromField (fun h => h.takeEntry)).ite h

theorem State.Canonical.shuntOpen (h : s.Canonical) {n uA : Nat} : (Machine.shuntOpen s n uA).Canonical := (h.same.foldl (fun h => h.modSec)).ite h

theorem State.Canonical.shuntReclose (h : s.Canonical) {n : Nat} : (Machine.shuntReclose s n).Canonical := by
  unfold Machine.shuntReclose
  split
  · exact h
  · exact h.advanceTo.same

theorem Lane.Canonical.closeBlock (h : ln.Canonical) {t : Nat} : (ln.closeBlock t).Canonical := h.same.ite h.same

theorem State.Canonical.boundaryBefore (h : s.Canonical) {l : LaneId} {t : Nat} : (Machine.boundaryBefore s l t).Canonical :=
  (h.modLane (fun h => h.closeBlock)).markEarly.ite h

theorem State.Canonical.takeLine (h : s.Canonical) {l : LaneId} {n : Nat} {code : Int} {primary : Bool} {entries : List Nat} :
    (Machine.takeLine s l n code primary entries).Canonical :=
  (h.modSec.refreshSample.ite h.modSec).modLane (fun h => h.same)

theorem State.Canonical.laConversion (h : s.Canonical) {l : LaneId} {n : Nat} {uV : Int} : (Machine.laConversion s l n uV).Canonical :=
  (h.advanceTo.modSec.boundaryBefore.modSec.fromField (fun h => h.takeLine)).ite h

theorem State.Canonical.decimatedSample (h : s.Canonical) {l : LaneId} : (Machine.decimatedSample s l).Canonical :=
  (h.once (fun h => h.advanceTo.modLane (fun h => h.closeBlock))).ite h

theorem State.Canonical.recognitionEvaluation (h : s.Canonical) {l : LaneId} : (Machine.recognitionEvaluation s l).Canonical :=
  (h.advanceTo.modLane (fun h => h.same)).ite h

theorem State.Canonical.recognitionPublication (h : s.Canonical) {l : LaneId} : (Machine.recognitionPublication s l).Canonical :=
  (h.advanceTo.modLane (fun h => h.same)).ite h

/-! ## A container brought into a lane (06 R173, R186) -/

theorem Lane.Canonical.putSym (h : ln.Canonical) {c : Container} {y : Symbol} {bs : Bytes} : (ln.putSym c y bs).Canonical := h.store

theorem Lane.Canonical.putKey (h : ln.Canonical) {p : Nat × Nat} : (ln.putKey p).Canonical := h.rset

theorem Lane.Canonical.putEdge (h : ln.Canonical) {v2 : Bool} {p : Nat × Nat} : (ln.putEdge v2 p).Canonical := by
  unfold Lane.putEdge
  exact h.store

theorem Lane.Canonical.publish (h : ln.Canonical) {c : Container} : (ln.publish c).Canonical := by
  have hwrite : ∀ (m : Store (Store Byte)) (area ofs : Nat) (bs : Bytes), Store.wf [] m = true ∧ m.all (fun p => Memory.wf p.2) = true →
      Store.wf [] (Store.put m [] area (Store.putBytes (Store.get m [] area) 0 ofs bs)) = true ∧
        (Store.put m [] area (Store.putBytes (Store.get m [] area) 0 ofs bs)).all (fun p => Memory.wf p.2) = true := by
    intro m area ofs bs hm
    have hcopy : Memory.wf (Store.get m [] area) = true := Store.get_of_all (p := fun m => Memory.wf m) rfl area m hm.2
    exact ⟨Store.wf_put _ _ _ _ hm.1, Store.all_put (p := fun q => Memory.wf q.2) (Store.wf_putBytes 0 bs _ ofs hcopy) _ hm.2⟩
  obtain ⟨hpub, hall⟩ := List.foldlRecOn (motive := fun m => Store.wf [] m = true ∧ m.all (fun p => Memory.wf p.2) = true)
    (c.symbols.filter (fun y => y.cross))
    (fun m y => Store.put m [] y.area (Store.putBytes (Store.get m [] y.area) 0 (symOfs c y) (ln.symBytes c y))) (b := ln.published)
    ⟨h.published, h.eachPublished⟩ fun m hm _ _ => hwrite m _ _ _ hm
  exact ⟨h.i, h.q, h.m, h.d, h.s, h.locals, h.eachLocal, h.iBase, hpub, hall⟩

theorem Lane.Canonical.load0 {c : Container} {l : LaneId} {v2 : Bool} : (ln.load0 c l v2).Canonical := by
  unfold Lane.load0
  extract_lets blank params symbols edges
  have hblank : blank.Canonical := ⟨rfl, rfl, rfl, rfl, rfl, rfl, rfl, rfl, rfl, rfl⟩
  have hparams : params.Canonical := hblank.foldl fun h => h.putKey
  have hsymbols : symbols.Canonical := hparams.foldl fun h => h.putSym.ite h
  have hedges : edges.Canonical := hsymbols.foldl fun h => h.putEdge
  exact (hedges.withIBase hedges.i).same

theorem Lane.Canonical.putSymVal (h : ln.Canonical) {c : Container} {y : Symbol} {v : Nat} : (ln.putSymVal c y v).Canonical := h.putSym

theorem Lane.Canonical.applyWrite (h : ln.Canonical) {l : LaneId} {w : BatchWrite} : (ln.applyWrite l w).Canonical := by
  unfold Lane.applyWrite
  refine h.ite (.ite ?_ h.putKey)
  split
  · split
    · exact h.putSymVal
    · exact h
  · exact h

theorem Lane.Canonical.forceQ (h : ln.Canonical) : ln.forceQ.Canonical := by
  unfold Lane.forceQ
  split
  · exact h
  · refine h.foldl (fun h' => ?_)
    dsimp only
    split
    · exact h'.store.ite h'
    · exact h'

theorem Lane.Canonical.forceI (h : ln.Canonical) : ln.forceI.Canonical := by
  unfold Lane.forceI
  split
  · exact h
  · refine h.withI (List.foldlRecOn (motive := fun m => Memory.wf m = true) _ _ h.i fun m hm p _ => ?_)
    dsimp only
    split
    · split
      · exact Store.wf_putBytes 0 _ _ _ hm
      · exact hm
    · exact hm

theorem Lane.Canonical.forceOp (h : ln.Canonical) {table : Store Force} {x2 : ForceOp} : (ln.forceOp table x2).Canonical := by
  unfold Lane.forceOp
  split
  · split
    · exact h.same
    · exact h
  · exact h.same

theorem Lane.Canonical.carry (h : ln.Canonical) {base merged : Container} {l : LaneId} : (ln.carry base merged l).Canonical :=
  (((((h.foldl (fun h => h.putSym.ite h)).foldl (fun h => h.store)).foldl (fun h => h.putSym.ite h)).foldl (fun h => h.putEdge)).foldl (fun h =>
    h.putKey)).same

/-! ## Reintegration (03 R93 to R95) -/

theorem State.Canonical.countStart (h : s.Canonical) : (Machine.countStart s).Canonical := h.same

theorem State.Canonical.resumeSection (h : s.Canonical) {l : LaneId} : (Machine.resumeSection s l).Canonical := h.modSec.ite h

/-- A lane whose working copies and published copies are emptied. -/
theorem Lane.Canonical.emptied (h : ln.Canonical) {status hold excludedAt reg rel relSeen istore engines pairs lcv0 lcv1 sampled view vecs exchanged
    executing incomplete agreedC agreedK image imagePrev newFields batch batchCrc first afterChange afterRestore ctxs pubs seenSeq lastGood diffs
    reports forces forcesRel glue time sampledAt fired recog container stored spare released} :
    ({ status, hold, excludedAt, reg, rel, relSeen, i := [], q := [], m := [], d := [], s := [], published := [], locals := [], istore, engines,
       pairs, lcv0, lcv1, sampled, view, vecs, exchanged, executing, incomplete, agreedC, agreedK, image, imagePrev, newFields, iBase := ln.iBase,
       batch, batchCrc, first, afterChange, afterRestore, ctxs, pubs, seenSeq, lastGood, diffs, reports, forces, forcesRel, glue, time, sampledAt,
       fired, recog, container, stored, spare, released } : Lane).Canonical :=
  ⟨rfl, rfl, rfl, rfl, rfl, rfl, rfl, h.iBase, rfl, rfl⟩

theorem State.Canonical.startReint (h : s.Canonical) {l : LaneId} : (Machine.startReint s l).Canonical := by
  unfold Machine.startReint
  exact (h.countStart.modLane fun h => h.emptied).same.closeLane.record

theorem State.Canonical.startOrDefer (h : s.Canonical) {l : LaneId} : (Machine.startOrDefer s l).Canonical := h.same.ite h.startReint

theorem State.Canonical.startDeferred (h : s.Canonical) : (Machine.startDeferred s).Canonical := by
  unfold Machine.startDeferred
  split
  · exact h.ite (h.startReint.ite h.same)
  · exact h

theorem State.Canonical.automaticReint (h : s.Canonical) {l : LaneId} : (Machine.automaticReint s l).Canonical := by
  unfold Machine.automaticReint
  dsimp only
  split
  · exact (h.advanceTo.record.ite h.advanceTo.startOrDefer).ite h
  · exact h

theorem State.Canonical.timeLock (h : s.Canonical) {l : LaneId} : (Machine.timeLock s l).Canonical :=
  (((h.modLane (fun h => h.same)).modLane (fun h => h.same)).same.record.ite (h.modLane (fun h => h.same))).ite h

theorem Lane.Canonical.takeBlock (h : ln.Canonical) {blk : Nat} {d : Bytes} : (ln.takeBlock blk d).Canonical := by
  unfold Lane.takeBlock
  exact (h.withI (Store.wf_putBytes 0 _ _ _ h.i)).ite ((h.withQ (Store.wf_putBytes 0 _ _ _ h.q)).ite
    ((h.foldl fun h => h.ite h.putBlock).ite h))

theorem State.Canonical.stateTransferBlock (h : s.Canonical) {l : LaneId} {blk : Nat} {d : Bytes} {crcA crcB : Nat} :
    (Machine.stateTransferBlock s l blk d crcA crcB).Canonical :=
  (h.enterSafe.ite (h.abandonReint.ite ((h.modLane (fun h => h.takeBlock)).same))).ite h

/-! ## The cycle start and its batch (01 R16) -/

theorem State.Canonical.modEcn (h : s.Canonical) {p : Nat} {f : Ecn → Ecn} : (s.modEcn p f).Canonical := h.same.ite h.same

theorem State.Canonical.expireConsumer (h : s.Canonical) {n : Nat} : (Machine.expireConsumer s n).Canonical := h.same.emcyOne

theorem State.Canonical.judgeHeartbeats (h : s.Canonical) : (Machine.judgeHeartbeats s).Canonical := h.foldl (fun h => h.expireConsumer.ite h)

theorem State.Canonical.judgeStations (h : s.Canonical) {c : Container} {first : Bool} {flows : List FlowItem} {can : List (Nat × Bytes)} :
    (Machine.judgeStations s c first flows can).1.Canonical := by
  unfold Machine.judgeStations
  exact .foldlFst h fun h => h.same.ite h.same.record

theorem State.Canonical.closeBatch (h : s.Canonical) {c : Container} {k : Nat} {first : Bool} : (Machine.closeBatch s c k first).1.Canonical :=
  h.judgeHeartbeats.judgeStations.same

theorem State.Canonical.stampForces (h : s.Canonical) {b : Batch} {cK : Nat} : (Machine.stampForces s b cK).Canonical := by
  unfold Machine.stampForces
  refine h.foldl (fun h' => ?_)
  split
  · exact h'.same
  · exact h'

theorem State.Canonical.releaseSlot (h : s.Canonical) {client path n : Nat} : (Machine.releaseSlot s client path n).Canonical := by
  unfold Machine.releaseSlot
  split
  · exact h.same.logEntry
  · exact h

theorem State.Canonical.recordEnded (h : s.Canonical) {ended : List (Nat × Bytes)} {k dropped : Nat} :
    (Machine.recordEnded s ended k dropped).Canonical :=
  h.foldl (fun h => h.record)

theorem Lane.Canonical.holderOf {y : Symbol} (h : s.Canonical) : (s.holderOf y).Canonical := by
  unfold State.holderOf
  split
  · exact h.lane.ite h.lane
  · exact h.lane

theorem State.Canonical.activate (h : s.Canonical) {d : Delta} {base : Container} {k : Nat} : (Machine.activate s d base k).Canonical :=
  (((h.recordEnded.modLanes (fun h => h.carry.same.rbump.rset.ite h)).stampCopies.foldl (fun h => h.releaseSlot)).same.foldl (fun h =>
    h.jset)).same.jset.jset.record

theorem State.Canonical.applyVerdict (h : s.Canonical) {b : Batch} : (Machine.applyVerdict s b).Canonical := by
  unfold Machine.applyVerdict
  split
  · exact h.activate
  · exact h.endChange.ite h.endChange
  · exact h

theorem Lane.Canonical.receive (h : ln.Canonical) {c : Container} {b : Batch} {first restored : Bool} : (ln.receive c b first restored).Canonical :=
  h.same

theorem Lane.Canonical.showForces (h : ln.Canonical) : ln.showForces.Canonical := h.rset.rset

theorem Lane.Canonical.takeBatch (h : ln.Canonical) {l : LaneId} {table : Store Force} {b : Batch} : (ln.takeBatch l table b).Canonical :=
  ((h.foldl (fun h => h.applyWrite)).foldl (fun h => h.forceOp)).showForces.forceQ

theorem Lane.Canonical.adopt {donor : Lane} (h : ln.Canonical) (hd : donor.Canonical) : (ln.adopt donor).Canonical :=
  ⟨h.i, hd.q, h.m, h.d, h.s, h.locals, h.eachLocal, hd.iBase, h.published, h.eachPublished⟩

theorem State.Canonical.transferStep (h : s.Canonical) {k : Nat} : (Machine.transferStep s k).Canonical := by
  unfold Machine.transferStep
  split
  · refine .ite ?_ h
    split
    · exact (h.modLane (fun h' => (h'.adopt h.lane).same)).record.same.ite (h.abandonReint.ite h)
    · exact h
  · exact h

theorem State.Canonical.rejoinStep (h : s.Canonical) : (Machine.rejoinStep s).Canonical := by
  unfold Machine.rejoinStep
  split
  · exact ((h.modLane (fun h => h.same)).modLanes (fun h => h.same)).same.jset.record.emcy.ite h
  · exact h

theorem State.Canonical.analogMonitors (h : s.Canonical) : s.analogMonitors.Canonical := h.foldl (fun h => h.monitorTake)

theorem State.Canonical.exchangeMonitors (h : s.Canonical) : (Machine.exchangeMonitors s).Canonical := h.same.monitorTake.analogMonitors.ite h

theorem State.Canonical.startCycle (h : s.Canonical) {c : Container} {k cK : Nat} {first : Bool} : (Machine.startCycle s c k cK first).Canonical := by
  unfold Machine.startCycle
  extract_lets r b stamped received defs deferred taken recog reclassified power vote counted viewed
  have hdeferred : deferred.Canonical := (h.closeBatch.stampForces.modLanes fun h => h.receive.ite h).applyVerdict.startDeferred
  have htaken : taken.Canonical := by
    refine hdeferred.modLanes fun h' => .ite ?_ h'
    extract_lets batch published glue part
    have hpublished : published.Canonical := by
      unfold published
      split
      · exact h'.takeBatch.publish
      · exact h'.takeBatch
    exact hpublished.same.ite hpublished
  have hrecog : recog.Canonical := htaken.ite (htaken.modLanes fun h => h.same)
  exact ((hrecog.foldl fun h => h.reclassify).same.modLanes fun h => h.same).foldl fun h => h.through

end Sys2Proof.Machine
end

section
/-! The canonical form is kept: the exchange, the engines, the vote and the time base. -/

namespace Sys2Proof.Machine

open Sys2Proof

variable {s : State} {ln : Lane}

/-! ## The Mitre exchange (03 R74 to R80) -/

theorem Lane.Canonical.stepDiff (h : ln.Canonical) {key : Nat} {sample : Option Bool} : (Machine.stepDiff ln key sample).Canonical := by
  unfold Machine.stepDiff
  split
  · exact h.same
  · exact h.same
  · exact h.same

theorem Lane.Canonical.stepDiffsOf (h : ln.Canonical) {fields : List Field} {young : List LaneId} {parts : List (LaneId × Bytes)} {agreed : Bytes}
    {m : LaneId} : (Machine.stepDiffsOf ln fields young parts agreed m).Canonical :=
  h.foldl (fun h => h.stepDiff)

theorem Lane.Canonical.stepDiffs (h : ln.Canonical) {fields : List Field} {young : List LaneId} {parts : List (LaneId × Bytes)} {agreed : Bytes} :
    (Machine.stepDiffs ln fields young parts agreed).Canonical :=
  h.foldl (fun h => h.stepDiffsOf)

theorem Lane.Canonical.takeFlow {v2 : Bool} {ident cK : Nat} {f : Flow} {it : FlowItem} {acc : Lane × List Nat × List Nat} (h : acc.1.Canonical) :
    (Machine.takeFlow v2 ident cK f it acc).1.Canonical := by
  unfold Machine.takeFlow
  extract_lets ln idx age last res age' aMax noted taken
  have hres : res.1.Canonical := by
    unfold res
    split
    · exact h
    · split
      · split
        · exact h.same.rset.radd
        · exact h.rbump
      · exact h
  have hnoted : noted.Canonical := hres.rset.rset
  change taken.Canonical
  unfold taken
  split
  · exact hnoted.withIBase (Store.wf_putBytes 0 _ _ _ hnoted.iBase)
  · exact hnoted

theorem Lane.Canonical.takeTelegram {t : Telegram} {d : Option Bytes} {acc : Lane × List Nat} (h : acc.1.Canonical) :
    (Machine.takeTelegram t d acc).1.Canonical := by
  unfold Machine.takeTelegram
  extract_lets ln b age age' aMax noted taken
  have hnoted : noted.Canonical := h.rset.rset
  change taken.Canonical
  unfold taken
  split
  · exact hnoted.withIBase (Store.wf_putBytes 0 _ _ _ hnoted.iBase)
  · exact hnoted

theorem Lane.Canonical.takeCan (h : ln.Canonical) {c : Container} : (Machine.takeCan c ln).Canonical := by
  unfold Machine.takeCan
  refine h.withIBase (List.foldlRecOn (motive := fun m => Memory.wf m = true) _ _ h.iBase fun m hm p _ => ?_)
  split
  · exact Store.wf_putBytes 0 _ _ _ hm
  · exact hm

theorem wf_putField (f : Field) (v : Nat) {m : Store Byte} (hm : Memory.wf m = true) : Memory.wf (putField m f v) = true := by
  unfold putField
  split <;> exact Store.wf_putBytes 0 _ _ _ hm

theorem wf_putFields : ∀ (fs : List Field) (v : Bytes) {m : Store Byte}, Memory.wf m = true → Memory.wf (putFields fs v m) = true
  | [], _, _, hm => hm
  | f :: fs, v, _, hm => wf_putFields fs (v.drop f.size) (wf_putField f _ hm)

theorem wf_substPut (y : Subst) (b : Bytes) {m : Store Byte} (hm : Memory.wf m = true) : Memory.wf (substPut y m b) = true := by
  unfold substPut
  split <;> exact Store.wf_putBytes 0 _ _ _ hm

theorem Lane.Canonical.substitute (h : ln.Canonical) {c : Container} : (ln.substitute c).Canonical := by
  unfold Lane.substitute
  exact h.foldl fun h => (h.withI (wf_substPut _ _ h.i)).ite h.same

theorem Lane.Canonical.errorWords (h : ln.Canonical) {c : Container} {l : LaneId} {stales : List Nat} : (ln.errorWords c l stales).Canonical := by
  unfold Lane.errorWords
  exact h.foldl fun h => (h.withI (Store.wf_putBytes 0 _ _ _ h.i)).foldl fun h => h.rset.ite h

theorem Lane.Canonical.trigger (h : ln.Canonical) {c : Container} {l : LaneId} {news : List Nat} {now : Bytes} : (ln.trigger c l news now).Canonical := by
  unfold Lane.trigger
  refine h.foldl (fun h' => ?_)
  split
  · exact h'.ite h'.same.rset
  · exact h'

theorem Lane.Canonical.showSource (h : ln.Canonical) {src : FieldSrc} {v : Nat} : (ln.showSource src v).Canonical := by
  unfold Lane.showSource
  split
  · exact h.rset
  · exact h.rset
  · exact h.rset
  · exact h.rset
  · exact h.rset.rset.ite h.rset
  · exact h.rset
  · exact h.rset
  · exact h.rset
  · exact h.rset
  · exact h.rset
  · exact h.rset
  · exact h
  · exact (h.rbump.ite h).rset

theorem Lane.Canonical.showFields {fs : List Field} {v : Bytes} (h : ln.Canonical) : (ln.showFields fs v).Canonical := by
  induction fs generalizing ln v with
  | nil => exact h
  | cons f fs ih =>
    unfold Lane.showFields
    exact ih h.showSource

theorem Lane.Canonical.showReports (h : ln.Canonical) {l : LaneId} : (ln.showReports l).Canonical :=
  ((h.foldl (fun h => h.rset.rset)).foldl (fun h => h.rset)).foldl (fun h => h.rset)

theorem Lane.Canonical.showStations (h : ln.Canonical) : ln.showStations.Canonical :=
  (h.foldl (fun h => h.rset.rbump.ite h.rset)).foldl (fun h => h.rbump)

theorem Lane.Canonical.form (h : ln.Canonical) {c : Container} {l : LaneId} {v2 : Bool} {young : List LaneId} {parts : List (LaneId × Bytes)}
    {cK k mode : Nat} : (ln.form c l v2 young parts cK k mode).Canonical := by
  unfold Lane.form
  extract_lets agreed differ shown flags based fl te can header formed now triggered counted
  have hshown : shown.Canonical := h.stepDiffs.showFields.showReports.showStations
  have hbased : based.Canonical := (hshown.withIBase (wf_putFields c.fields agreed hshown.iBase)).same
  have hfl : fl.1.Canonical := by
    refine .foldlFst hbased fun hp => ?_
    split
    · exact hp.takeFlow
    · exact hp
  have hte : te.1.Canonical := by
    refine .foldlFst hfl fun hp => ?_
    split
    · exact hp.takeTelegram
    · exact hp
  have hcan : can.Canonical := hte.takeCan
  have hheader : header.Canonical := hcan.withI (Store.wf_putBytes 0 _ _ _ hcan.iBase)
  have htriggered : triggered.Canonical := hheader.substitute.errorWords.forceI.trigger
  exact (htriggered.ite htriggered.rset).same

theorem State.Canonical.excludeMinority (h : s.Canonical) {vals : List (LaneId × Bytes)} {v : Bytes} {cause : Nat} :
    (Machine.excludeMinority s vals v cause).Canonical :=
  h.foldl (fun h => h.exclude.ite h)

theorem State.Canonical.showUndeclared (h : s.Canonical) {l : LaneId} {c : Container} : (Machine.showUndeclared s l c).Canonical :=
  (h.modLane (fun h => h.foldl (fun h => h.showSource))).ite h

theorem State.Canonical.agreeLane (h : s.Canonical) {l : LaneId} : (Machine.agreeLane s l).Canonical := by
  unfold Machine.agreeLane
  split
  · exact h
  · refine h.ite (h.ite ?_)
    dsimp only
    split
    · exact h.enterSafeWith
    · refine h.excludeMinority.ite ?_
      split
      · exact h.excludeMinority.enterSafe
      · exact h.excludeMinority.excludeMinority.ite
          (h.excludeMinority.excludeMinority.same.enterSafe.ite (h.excludeMinority.excludeMinority.ite
          ((h.excludeMinority.excludeMinority.same.modLane (fun h => h.form)).showUndeclared.jset.exchangeMonitors)))

theorem State.Canonical.agreeAllLanes (h : s.Canonical) : (Machine.agreeAllLanes s).Canonical := (h.foldl (fun h => h.agreeLane)).exchangeMonitors

theorem State.Canonical.vectorReceived (h : s.Canonical) {l : LaneId} {v : Bytes} : (Machine.vectorReceived s l v).Canonical := by
  unfold Machine.vectorReceived
  split
  · exact h
  · exact h.ite (h.same.ite ((h.same.modLanes (fun h => h.rbump.ite h.same)).exclude.agreeAllLanes))

theorem State.Canonical.vectorDeadline (h : s.Canonical) : (Machine.vectorDeadline s).Canonical := by
  unfold Machine.vectorDeadline
  split
  · exact h
  · exact (h.advanceTo.foldl (fun h => (h.same.modLanes (fun h => h.rbump.ite h.same)).exclude)).agreeAllLanes.ite h

theorem State.Canonical.forwardedVector (h : s.Canonical) {l src : LaneId} {v : Bytes} : (Machine.forwardedVector s l src v).Canonical := by
  unfold Machine.forwardedVector
  split
  · exact h
  · split
    · exact ((h.modLane (fun h => h.same)).agreeLane.ite h.exclude.agreeAllLanes).ite h
    · exact h

/-! ## Engines and tasks (04 R113 to R128) -/

theorem Lane.Canonical.modCtx (h : ln.Canonical) {ctx : Nat} {f : CtxState → CtxState} : (ln.modCtx ctx f).Canonical := h.same

theorem Lane.Canonical.setEngine (h : ln.Canonical) {slot : Nat} {en : Engine} : (ln.setEngine slot en).Canonical := h.same

theorem Lane.Canonical.startTask (h : ln.Canonical) {c : Container} {slot : Nat} {t : Task} : (ln.startTask c slot t).Canonical := by
  unfold Lane.startTask
  exact h.setEngine.rbump.modCtx

theorem Lane.Canonical.passPoll (h : ln.Canonical) {c : Container} {l : LaneId} {slot : Nat} {t : Task} {clk : Nat} :
    (ln.passPoll c l slot t clk).Canonical := by
  unfold Lane.passPoll
  split
  · exact h.foldl (fun h => h.modCtx)
  · exact h

theorem State.Canonical.walkEngine (h : s.Canonical) {l : LaneId} {n : Nat} : (Machine.walkEngine s l n).Canonical := h.runsOn (.walkEngine s l n)

theorem State.Canonical.exchangeComplete (h : s.Canonical) {l : LaneId} : (Machine.exchangeComplete s l).Canonical :=
  ((h.agreeLane.modLane (fun h => h.same)).foldl (fun h => h.walkEngine)).ite h.agreeLane

theorem State.Canonical.linkWaitEnd (h : s.Canonical) {e : EngineId} : (Machine.linkWaitEnd s e).Canonical :=
  (h.ite ((h.modLane (fun h => h.setEngine)).walkEngine)).ite h

theorem Lane.Canonical.timeTask (h : ln.Canonical) {ctx clocks : Nat} : (ln.timeTask ctx clocks).Canonical := h.rset.rset

theorem State.Canonical.endTask (h : s.Canonical) {l : LaneId} {slot : Nat} : (Machine.endTask s l slot).Canonical := by
  unfold Machine.endTask
  dsimp only
  split
  · refine .walkEngine (.monitorTake (h.modLane (fun h' => ?_)))
    split
    · split
      · exact h'.timeTask.setEngine.passPoll.ite h'.timeTask.setEngine
      · exact h'.timeTask.setEngine.modCtx
    · exact h'.timeTask.setEngine.modCtx
  · exact h

theorem State.Canonical.stopHalves (h : s.Canonical) : (Machine.stopHalves s).Canonical := by
  unfold Machine.stopHalves
  refine h.foldl (fun h' => ?_)
  split
  · exact h'.foldl (fun h => (h.modLane (fun h => h.setEngine)).walkEngine)
  · exact h'

theorem Lane.Canonical.latch (h : ln.Canonical) {ctx code : Nat} : (ln.latch ctx code).Canonical := h.ite h.modCtx.rbump.rbump

theorem Lane.Canonical.stopSeq (h : ln.Canonical) {slot code : Nat} : (ln.stopSeq slot code).Canonical := h.setEngine.same.rbump.rset

theorem Lane.Canonical.close {x : Exec} (h : x.ln.Canonical) : x.close.Canonical := h.setEngine.latch

theorem State.Canonical.comparatorFault (h : s.Canonical) {e : EngineId} {bitwise signature : Bool} :
    (Machine.comparatorFault s e bitwise signature).Canonical :=
  (h.modLane (fun h => h.rset.ite h)).report

theorem State.Canonical.lockstep (h : s.Canonical) {e : EngineId} {a : Exec} {ins : Bytes} {lead head : Engine}
    {bus : List (BitVec 128 × BitVec 128)} : (Machine.lockstep s e a ins lead head bus).Canonical :=
  h.ite ((h.modLane (fun h => h.same)).comparatorFault.ite (h.modLane (fun h => h.same)))

theorem State.Canonical.withLane {l : LaneId} (h : s.Canonical) (hl : ln.Canonical) : (s.modLane l fun _ => ln).Canonical := h.modLane fun _ => hl

theorem State.Canonical.serzel {b : Bool} {e : EngineId} {f : Exec → Exec} (h : s.Canonical) (hf : EngineOp b f) : (Machine.serzel s e f).Canonical := by
  have hlane : (f (Exec.start s e)).ln.Canonical := .op hf h.lane
  unfold Machine.serzel
  exact ((h.modLane fun h => h.stopSeq).ite ((h.withLane hlane.close).lockstep.endTask.ite (h.withLane hlane.close).lockstep)).ite h

/-! ## Check-value units (05 R159) -/

theorem Lane.Canonical.setLcv (h : ln.Canonical) {u : Fin 2} {v : CrcUnit} : (ln.setLcv u v).Canonical := h.same.ite h.same

/-! ## The Dovetail vote (03 R82 to R88) -/

theorem Lane.Canonical.atVote (h : ln.Canonical) {c : Container} {vK : Nat} : (ln.atVote c vK).Canonical := (h.foldl (fun h => h.rset.ite h)).same

theorem State.Canonical.takeSubmission (h : s.Canonical) {l : LaneId} {x : Submission} {pubs : List (Nat × Nat)} :
    (Machine.takeSubmission s l x pubs).Canonical :=
  h.same

theorem State.Canonical.noSubmission (h : s.Canonical) {l : LaneId} : (s.noSubmission l).Canonical := h.same

theorem State.Canonical.submit (h : s.Canonical) {c : Container} {vK : Nat} {l : LaneId} : (Machine.submit c vK s l).Canonical :=
  ((h.advanceTo.modLane (fun h => h.atVote)).noSubmission.carry (fun h => h) (fun h => h.takeSubmission)).ite h.advanceTo.noSubmission

theorem State.Canonical.voteDue (h : s.Canonical) : (Machine.voteDue s).Canonical := by
  unfold Machine.voteDue
  split
  · exact h
  · exact (h.cutFault.ite (h.exchangeMonitors.same.foldl (fun h => h.submit))).ite h

theorem State.Canonical.vote (h : s.Canonical) : (Machine.vote s).Canonical := h.once (fun h => h.voteDue)

theorem State.Canonical.releaseTels (h : s.Canonical) {c : Container} {pubs : List (Nat × Nat)} {k : Nat} {out : Bytes} :
    (Machine.releaseTels c pubs k s out).Canonical := by
  unfold Machine.releaseTels
  refine .foldlFst h fun h => ?_
  dsimp only
  exact h.modEcn

theorem State.Canonical.releaseCan (h : s.Canonical) {c : Container} {k : Nat} {vb : Bytes} : (Machine.releaseCan c k vb s).Canonical :=
  h.foldl (fun h => (h.jbump.ite h).modCan.ite h)

theorem Lane.Canonical.atRelease (h : ln.Canonical) {c : Container} {l : LaneId} {k now : Nat} {vb : Bytes} {limp : Option Nat} {change : Bool} :
    (ln.atRelease c l k now vb limp change).Canonical :=
  h.same.glueRelease

theorem State.Canonical.resendBlocks (h : s.Canonical) {donor : LaneId} : (Machine.resendBlocks s donor).Canonical := by
  unfold Machine.resendBlocks
  split
  · exact h.same.ite h
  · exact h

theorem State.Canonical.judgeShadow (h : s.Canonical) {v : Verdicts} : (Machine.judgeShadow s v).Canonical := by
  unfold Machine.judgeShadow
  split
  · refine .ite ?_ h
    split
    · exact h.same.ite h.abandonReint
    · exact h.abandonReint
  · exact h

theorem State.Canonical.takeImage (h : s.Canonical) {l : LaneId} {k : Nat} {vb : Bytes} {limp : Option Nat} {change : Bool} :
    (Machine.takeImage s l k vb limp change).Canonical := by
  unfold Machine.takeImage
  split
  · exact (h.modLane (fun h => h.atRelease.ite (h.same.ite h))).stampRegions
  · exact h

theorem State.Canonical.sendImage (h : s.Canonical) {k : Nat} {vb : Bytes} {limp : Option Nat} {change : Bool} {l : LaneId} :
    (Machine.sendImage k vb limp change s l).Canonical :=
  h.carry (fun h => h) (fun h => h.takeImage)

theorem State.Canonical.release (h : s.Canonical) {c : Container} {k : Nat} {v : Verdicts} : (Machine.release s c k v).Canonical :=
  (h.resendBlocks.same.releaseTels.releaseCan.foldl (fun h => h.sendImage)).same

theorem State.Canonical.dovetailVote (h : s.Canonical) {defect : Bool} : (Machine.dovetailVote s defect).Canonical := by
  unfold Machine.dovetailVote
  split
  · refine .ite ?_ h
    extract_lets vK due vote silent parts v counted
    have hcounted : counted.Canonical := h.advanceTo.same.foldl fun h => h.modLane fun h => h.rbump
    exact hcounted.enterSafe.ite ((hcounted.release.jset.monitorTake.judgeShadow.foldl fun h => h.exclude.ite h).ite
      (hcounted.enterSafe.ite hcounted.enterSafe))
  · exact h

theorem State.Canonical.releaseDeadline (h : s.Canonical) : (Machine.releaseDeadline s).Canonical := (h.advanceTo.ite h.advanceTo.enterSafe).ite h

theorem State.Canonical.engineFault (h : s.Canonical) {e : EngineId} {bitwise signature : Bool} :
    (Machine.engineFault s e bitwise signature).Canonical :=
  (h.modLane (fun h => h.same)).comparatorFault.ite h

theorem State.Canonical.limpTimerExpiry (h : s.Canonical) : (Machine.limpTimerExpiry s).Canonical := by
  unfold Machine.limpTimerExpiry
  split
  · exact h.advanceTo.enterSafe.ite h
  · exact h

/-! ## Time (chapter 02) -/

theorem Lane.Canonical.showTime (h : ln.Canonical) {offset : Int} : (ln.showTime offset).Canonical := h.rset

theorem State.Canonical.takeMark (h : s.Canonical) {l : LaneId} {node : Nat} {dev : Int} : (Machine.takeMark s l node dev).Canonical :=
  h.ite ((h.modLane (fun h => h.same.showTime)).report.ite (h.modLane (fun h => h.same.showTime)))

theorem State.Canonical.sendMark (h : s.Canonical) {l : LaneId} {dev : Int} : (Machine.sendMark s l dev).Canonical :=
  (h.carry (fun h => h) (fun h => h.takeMark)).ite h

theorem State.Canonical.timeMark (h : s.Canonical) {l : LaneId} {dev : Int} {valid : Bool} : (Machine.timeMark s l dev valid).Canonical :=
  h.ite (h.advanceTo.sendMark.ite h.advanceTo.advanceTo)

theorem State.Canonical.missedTimeMarks (h : s.Canonical) {l : LaneId} : (Machine.missedTimeMarks s l).Canonical := by
  unfold Machine.missedTimeMarks
  split
  · exact (h.advanceTo.modLane (fun h => h.same)).report.ite h
  · exact h

theorem State.Canonical.takeRate (h : s.Canonical) {l : LaneId} : (Machine.takeRate s l).Canonical := h.modLane (fun h => h.same)

theorem State.Canonical.rateWindowCheck (h : s.Canonical) {l : LaneId} : (Machine.rateWindowCheck s l).Canonical :=
  (((h.modLane (fun h => h.rset.same)).raiseEvent (fun h => h.takeRate)).ite (h.modLane (fun h => h.rset.same))).ite h

theorem State.Canonical.discrepancyJudgement (h : s.Canonical) : (Machine.discrepancyJudgement s).Canonical := by
  unfold Machine.discrepancyJudgement
  split
  · exact h
  · exact h.advanceTo.exclude.ite h.advanceTo.junctionTimeFault

theorem State.Canonical.takeTrigger (h : s.Canonical) {id : Nat} : (Machine.takeTrigger s id).Canonical := h.same

theorem State.Canonical.raiseTrigger (h : s.Canonical) {id : Nat} : (Machine.raiseTrigger s id).Canonical :=
  h.carry (fun h => h) (fun h => h.takeTrigger)

theorem State.Canonical.setDc (h : s.Canonical) {n : Nat} {x : Compare} : (Machine.setDc s n x).Canonical := h.same

theorem State.Canonical.setEc (h : s.Canonical) {n : Nat} {x : Compare} : (Machine.setEc s n x).Canonical := h.same

theorem State.Canonical.armDc (h : s.Canonical) {n id : Nat} : (Machine.armDc s n id).Canonical := h.carry (fun h => h) (fun h => h.setDc)

theorem State.Canonical.armEc (h : s.Canonical) {n id : Nat} : (Machine.armEc s n id).Canonical := h.carry (fun h => h) (fun h => h.setEc)

theorem State.Canonical.takeCorrection (h : s.Canonical) {rc slew : Int} : (Machine.takeCorrection s rc slew).Canonical := h.same

theorem State.Canonical.sendCorrection (h : s.Canonical) {rc slew : Int} : (Machine.sendCorrection s rc slew).Canonical :=
  h.carry (fun h => h) (fun h => h.takeCorrection)

theorem State.Canonical.directCompareDue (h : s.Canonical) {n : Nat} : (Machine.directCompareDue s n).Canonical := by
  unfold Machine.directCompareDue
  split
  · exact h.advanceTo.setDc.raiseTrigger.ite h
  · exact h

theorem State.Canonical.epochCompareArming (h : s.Canonical) {n : Fin 4} : (Machine.epochCompareArming s n).Canonical := by
  unfold Machine.epochCompareArming
  split
  · exact h.advanceTo.setEc.ite h
  · exact h

theorem State.Canonical.startPulse (h : s.Canonical) : (Machine.startPulse s).Canonical := h.ite h.same

theorem State.Canonical.epochCompareDue (h : s.Canonical) {n : Nat} : (Machine.epochCompareDue s n).Canonical := by
  unfold Machine.epochCompareDue
  refine h.advanceTo.startPulse.ite ?_
  split
  · exact h.advanceTo.setEc.raiseTrigger.ite h
  · exact h

theorem State.Canonical.userEventDue (h : s.Canonical) {i : Nat} : (Machine.userEventDue s i).Canonical := h.atEntry (fun h => h.raiseTrigger)

theorem State.Canonical.ppsEntryDue (h : s.Canonical) {i : Nat} : (Machine.ppsEntryDue s i).Canonical := h.atEntry (fun h => h.startPulse.ite h)

theorem State.Canonical.ppsOutPulseEnd (h : s.Canonical) : (Machine.ppsOutPulseEnd s).Canonical := by
  unfold Machine.ppsOutPulseEnd
  split
  · exact h.advanceTo.same
  · exact h

theorem State.Canonical.choosePps (h : s.Canonical) {src : Nat} : (Machine.choosePps s src).Canonical :=
  (h.jset.same.ite h.jset).setEc.ite (h.jset.same.ite h.jset)

theorem State.Canonical.recordTai (h : s.Canonical) {old : Bytes} : (Machine.recordTai s old).Canonical := h.record

theorem State.Canonical.setTai (h : s.Canonical) {v : Int} : (Machine.setTai s v).Canonical := h.same.jset.recordTai.ite h.same.jset

theorem State.Canonical.takeSample (h : s.Canonical) {v : Int} : (Machine.takeSample s v).Canonical := (h.same.ite h.same.setTai).same.ite h.same

theorem State.Canonical.loseReference (h : s.Canonical) : (Machine.loseReference s).Canonical := h.same

theorem State.Canonical.edgesMissed (h : s.Canonical) {n : Nat} : (Machine.edgesMissed s n).Canonical := (h.loseReference.ite h).same.ite h.same

theorem State.Canonical.passMissing (h : s.Canonical) {t : Nat} : (Machine.passMissing s t).Canonical := by
  unfold Machine.passMissing
  split
  · exact h.jadd.same.edgesMissed.ite h
  · exact h

theorem State.Canonical.modPtp (h : s.Canonical) {p : EcnPort} {f : PtpPort → PtpPort} : (s.modPtp p f).Canonical := by
  unfold State.modPtp
  split
  · exact h.same
  · exact h.same

theorem State.Canonical.acceptEdge (h : s.Canonical) {t : Nat} : (Machine.acceptEdge s t).Canonical := by
  unfold Machine.acceptEdge
  extract_lets noted second time due time'
  have hdue : due.Canonical := h.jset.same
  clear_value second due
  refine .ite ?_ hdue.same
  cases second with
  | some sec => exact hdue.same.takeSample
  | none => exact hdue.edgesMissed

theorem State.Canonical.ppsInEdge (h : s.Canonical) {t : Nat} : (Machine.ppsInEdge s t).Canonical :=
  (h.advanceTo.passMissing.acceptEdge.ite h.advanceTo.passMissing.jbump).ite h

theorem State.Canonical.ppsInEdgeMissing (h : s.Canonical) : (Machine.ppsInEdgeMissing s).Canonical := by
  unfold Machine.ppsInEdgeMissing
  split
  · exact h.advanceTo.passMissing.ite h
  · exact h

theorem State.Canonical.writeTaiSecond (h : s.Canonical) {v : Nat} : (Machine.writeTaiSecond s v).Canonical := h.same

theorem State.Canonical.taiSecondDiscard (h : s.Canonical) : (Machine.taiSecondDiscard s).Canonical := by
  unfold Machine.taiSecondDiscard
  split
  · exact h.advanceTo.jbump.same
  · exact h

theorem State.Canonical.correctionInvalidated (h : s.Canonical) : (Machine.correctionInvalidated s).Canonical := by
  unfold Machine.correctionInvalidated
  split
  · exact h.advanceTo.same
  · exact h

theorem State.Canonical.leapSecondApplied (h : s.Canonical) : (Machine.leapSecondApplied s).Canonical := h.advanceTo.jset.jset.recordTai.ite h

theorem State.Canonical.timeClock (h : s.Canonical) : (Machine.timeClock s).Canonical := h.advanceTo.same.ite h

theorem State.Canonical.stepTime (h : s.Canonical) {d : Int} : (Machine.stepTime s d).Canonical :=
  h.junctionTimeFault.ite (h.mapLanes (fun h => h.same))

end Sys2Proof.Machine
end

section
/-! The canonical form is kept: the PTP ports, the ring, the ECN and CAN, and what fires at one edge. -/

namespace Sys2Proof.Machine

open Sys2Proof

variable {s : State} {ln : Lane}

/-! ## PTP (02 R49 to R57) -/

theorem State.Canonical.ecnSend (h : s.Canonical) {p cls len : Nat} {ip : Bool} {w : Wire} : (Machine.ecnSend s p cls len ip w).Canonical :=
  h.modEcn.transmit

theorem State.Canonical.ptpSend (h : s.Canonical) {p : EcnPort} {k : PtpKind} : (Machine.ptpSend s p k).Canonical := h.ecnSend

theorem State.Canonical.ptpState (h : s.Canonical) {p : EcnPort} {n : Nat} : (Machine.ptpState s p n).Canonical := h.jset

theorem State.Canonical.choosePtpMode (h : s.Canonical) {p : EcnPort} {mode : Nat} : (Machine.choosePtpMode s p mode).Canonical :=
  h.jset.modPtp.ptpState

theorem State.Canonical.ptpReference (h : s.Canonical) {p : EcnPort} : (Machine.ptpReference s p).Canonical := by
  unfold Machine.ptpReference
  refine .ite ?_ h
  split
  · exact h.ite h.same.takeSample
  · exact h

theorem State.Canonical.ptpPublish (h : s.Canonical) {p : EcnPort} {offset delay : Int} : (Machine.ptpPublish s p offset delay).Canonical :=
  h.jset.jset.ptpReference

theorem State.Canonical.ptpSynced (h : s.Canonical) {p : EcnPort} {t1 t2 : Int} : (Machine.ptpSynced s p t1 t2).Canonical :=
  h.modPtp.modPtp.ptpSend.ite h.modPtp.modPtp.ptpSend.ptpPublish

theorem State.Canonical.ptpAnswerPeer (h : s.Canonical) {p : EcnPort} {n : Nat} {arrival : Int} : (Machine.ptpAnswerPeer s p n arrival).Canonical :=
  h.ptpSend.ite h.ptpSend.ptpSend

theorem State.Canonical.ptpResume (h : s.Canonical) {p : EcnPort} : (Machine.ptpResume s p).Canonical := h.modPtp.ptpState

theorem State.Canonical.ptpHeard (h : s.Canonical) {p : EcnPort} {source : Nat} {d : PtpDataset} : (Machine.ptpHeard s p source d).Canonical :=
  h.modPtp.ptpState.record.ite (h.ptpResume.ite h)

theorem State.Canonical.ptpFollow (h : s.Canonical) {p : EcnPort} {source : Nat} {d : PtpDataset} : (Machine.ptpFollow s p source d).Canonical :=
  h.modPtp.ite (h.modPtp.ptpState.ite h)

theorem State.Canonical.ptpExport (h : s.Canonical) {p : EcnPort} {m : PtpMsg} {t : Nat} : (Machine.ptpExport s p m t).Canonical := by
  unfold Machine.ptpExport
  split
  · exact h.ptpHeard
  · exact h.ptpSend.ite h
  · exact h.ptpAnswerPeer.ite h
  · exact h

theorem State.Canonical.peerDelay (h : s.Canonical) {p : EcnPort} {delay : Int} : (Machine.peerDelay s p delay).Canonical := h.modPtp.jset

theorem State.Canonical.ptpMonitor (h : s.Canonical) {p : EcnPort} {m : PtpMsg} {t : Nat} : (Machine.ptpMonitor s p m t).Canonical := by
  unfold Machine.ptpMonitor
  dsimp only
  split
  · exact h.ptpFollow
  · refine .ite ?_ h
    split
    · exact h.ptpSynced
    · exact h.modPtp
  · split
    · exact h.ptpSynced.ite h
    · exact h
  · split
    · exact h.modPtp.ptpPublish.ite h
    · exact h
  · exact h.ptpAnswerPeer.ite h
  · split
    · exact (h.modPtp.ite h.peerDelay).ite h
    · exact h
  · split
    · exact h.peerDelay.ite h
    · exact h
  · exact h

theorem State.Canonical.ecnDiscard (h : s.Canonical) {p : Nat} : (Machine.ecnDiscard s p).Canonical := h.jbump

theorem State.Canonical.ptpMessage (h : s.Canonical) {p : EcnPort} {m : PtpMsg} {t : Nat} : (Machine.ptpMessage s p m t).Canonical :=
  (h.advanceTo.jbump.ecnDiscard.ite (h.advanceTo.jbump.jbump.ite (h.advanceTo.jbump.ite (h.advanceTo.jbump.ptpExport.ite
    h.advanceTo.jbump.ptpMonitor)))).ite h

theorem State.Canonical.ptpSyncInterval (h : s.Canonical) {p : EcnPort} {announce : Bool} : (Machine.ptpSyncInterval s p announce).Canonical :=
  (h.advanceTo.modPtp.ecnSend.ite (h.advanceTo.modPtp.ptpSend.ite h.advanceTo.modPtp.ptpSend.ptpSend)).ite h

theorem State.Canonical.ptpMonitorSample (h : s.Canonical) {p : EcnPort} : (Machine.ptpMonitorSample s p).Canonical :=
  h.advanceTo.modPtp.record.ite h

theorem State.Canonical.foreignMasterDisappears (h : s.Canonical) {p : EcnPort} : (Machine.foreignMasterDisappears s p).Canonical :=
  ((h.ptpResume.ite h).ite ((h.modPtp.ptpState.loseReference.ite h.modPtp.ptpState).ite h)).ite h

/-! ## The ring's ports and frames (chapter 09) -/

theorem State.Canonical.modPort (h : s.Canonical) {p : RingPort} {f : RingPortState → RingPortState} : (s.modPort p f).Canonical := by
  unfold State.modPort
  split
  · exact h.same
  · exact h.same

theorem State.Canonical.modRing (h : s.Canonical) {f : Ring → Ring} : (s.modRing f).Canonical := h.same

theorem State.Canonical.latchLatency (h : s.Canonical) : (Machine.latchLatency s).Canonical := by
  unfold Machine.latchLatency
  exact h.modRing

theorem State.Canonical.startFrame (h : s.Canonical) {p : RingPort} {f : RFrame} {start : Nat} : (Machine.startFrame s p f start).Canonical :=
  h.modPort.emit

theorem State.Canonical.putOnWire (h : s.Canonical) {p : RingPort} {f : RFrame} {start : Nat} : (Machine.putOnWire s p f start).Canonical :=
  (h.carry (fun h => h) (fun h => h.startFrame)).ite h.startFrame

theorem State.Canonical.sendVia (h : s.Canonical) {p : RingPort} {f : RFrame} {start : Nat} : (Machine.sendVia s p f start).Canonical :=
  h.putOnWire.ite (h.putOnWire.ite h)

theorem State.Canonical.occupy (h : s.Canonical) {p : RingPort} {start len : Nat} : (Machine.occupy s p start len).Canonical := h.modPort

theorem State.Canonical.hear (h : s.Canonical) {p : RingPort} {len t : Nat} : (Machine.hear s p len t).Canonical := by
  unfold Machine.hear
  exact h.advanceTo.jbump.modPort

theorem State.Canonical.lostAtWrap (h : s.Canonical) {q : RingPort} : (Machine.lostAtWrap s q).Canonical := h.jbump.modPort

theorem State.Canonical.frameCut (h : s.Canonical) {p : RingPort} : (Machine.frameCut p s).Canonical := h.jbump

theorem State.Canonical.forwardFrame (h : s.Canonical) {p : RingPort} {f : RFrame} {t : Nat} : (Machine.forwardFrame s p f t).Canonical :=
  h.lostAtWrap.ite (h.jbump.ite (h.drew.carry (fun h => h.frameCut) (fun h => h.occupy.sendVia)))

theorem State.Canonical.take {a : Arrival} (h : a.state.Canonical) {p : RingPort} {n : Nat} {c : Instr} {f : State → State}
    (hf : ∀ {s : State}, s.Canonical → (f s).Canonical) : (a.take p n c f).Canonical := by
  unfold Arrival.take
  exact (h.carry (fun h => h.frameCut) hf).ite h

theorem State.Canonical.arrive (h : s.Canonical) {p : RingPort} {f : RFrame} {t : Nat} : (Machine.arrive s p f t).state.Canonical := by
  unfold Machine.arrive
  dsimp only
  split
  · exact h
  · split
    · split
      · exact h.hear.jbump
      · split
        · exact h.hear
        · split
          · exact h.hear.jbump
          · exact h.hear.forwardFrame
    · split
      · exact h.hear.jbump
      · split
        · exact h.hear.jbump
        · split
          · exact h.hear.jbump.jbump
          · exact h.hear.jbump.forwardFrame

theorem State.Canonical.arriveLocal (h : s.Canonical) {p : RingPort} {f : RFrame} {kind : Nat} : (Machine.arriveLocal s p f kind).state.Canonical := by
  unfold Machine.arriveLocal
  dsimp only
  split
  · exact h
  · split
    · exact h.hear.jbump
    · split
      · exact h.hear.jbump
      · split
        · exact h.hear.jbump
        · exact h.hear

theorem State.Canonical.takeTick (h : s.Canonical) {p : RingPort} {f : RFrame} : (Machine.takeTick s p f).Canonical :=
  (h.jbump.modPort.record.ite h.jbump.modPort).jset

theorem State.Canonical.tick (h : s.Canonical) {p : RingPort} {f : RFrame} : (Machine.tick s p f).Canonical :=
  h.arriveLocal.take (fun h => h.takeTick)

theorem State.Canonical.tickTransmit (h : s.Canonical) {p : RingPort} : (Machine.tickTransmit s p).Canonical :=
  h.ite (h.advanceTo.putOnWire.ite h.advanceTo)

theorem State.Canonical.queueBest (h : s.Canonical) {p : RingPort} {f : RFrame} : (Machine.queueBest s p f).Canonical := h.modPort.ite h.jbump

theorem State.Canonical.passBest (h : s.Canonical) {p : RingPort} {f : RFrame} : (Machine.passBest s p f).Canonical :=
  h.ite (h.lostAtWrap.ite h.queueBest)

theorem State.Canonical.arriveBest (h : s.Canonical) {p : RingPort} {f : RFrame} {service : Nat} :
    (Machine.arriveBest s p f service).state.Canonical := by
  unfold Machine.arriveBest
  dsimp only
  split
  · exact h.arriveLocal
  · split
    · exact h.arriveLocal.jbump
    · exact h.arriveLocal.ite h.arriveLocal.passBest

theorem State.Canonical.sendOverRing (h : s.Canonical) {ip port : Nat} {d : Bytes} : (Machine.sendOverRing s ip port d).Canonical :=
  h.ite h.queueBest

theorem State.Canonical.queueNotice (h : s.Canonical) {p : RingPort} {cause from_ : Nat} : (Machine.queueNotice s p cause from_).Canonical := by
  unfold Machine.queueNotice
  exact h.modPort

theorem State.Canonical.showBreak (h : s.Canonical) {node port : Nat} {restored : Bool} : (Machine.showBreak s node port restored).Canonical :=
  h.jset

theorem State.Canonical.wrapPort (h : s.Canonical) {p : RingPort} {cause : Nat} : (Machine.wrapPort s p cause).Canonical :=
  h.modPort.jset.jbump.modRing.showBreak.record.queueNotice

theorem State.Canonical.breakAt (h : s.Canonical) {p : RingPort} {cause : Nat} : (Machine.breakAt s p cause).Canonical :=
  h.ite (h.modPort.modPort.ite h.wrapPort)

theorem State.Canonical.breakDetected (h : s.Canonical) {p : RingPort} : (Machine.breakDetected s p).Canonical := h.ite h.advanceTo.breakAt

theorem State.Canonical.ringLinkLoss (h : s.Canonical) {p : RingPort} : (Machine.ringLinkLoss s p).Canonical := h.modPort.jset.breakAt

theorem State.Canonical.ringLinkUp (h : s.Canonical) {p : RingPort} : (Machine.ringLinkUp s p).Canonical := h.modPort.jset.ite h

theorem State.Canonical.linkRestored (h : s.Canonical) {p : RingPort} : (Machine.linkRestored s p).Canonical := by
  unfold Machine.linkRestored
  dsimp only
  split
  · exact h.advanceTo.queueNotice.ite h
  · exact h

theorem State.Canonical.unwrap (h : s.Canonical) {p : RingPort} : (Machine.unwrap s p).Canonical := by
  unfold Machine.unwrap
  dsimp only
  split
  · exact (h.advanceTo.modPort.jset.showBreak.modRing.ite h.advanceTo.modPort.jset.showBreak).record.ite h
  · exact h

theorem State.Canonical.takeNotice (h : s.Canonical) {p : RingPort} {f : RFrame} : (Machine.takeNotice s p f).Canonical := by
  unfold Machine.takeNotice
  refine .ite ?_ h
  extract_lets port cause mended recorded shown mine noted
  have hshown : shown.Canonical := h.record.showBreak
  have hnoted : noted.Canonical := (hshown.modPort.ite hshown).ite (hshown.modRing.ite hshown)
  exact hnoted.lostAtWrap.ite hnoted.modPort

theorem State.Canonical.wrapNotice (h : s.Canonical) {p : RingPort} {f : RFrame} : (Machine.wrapNotice s p f).Canonical :=
  h.arriveLocal.take (fun h => h.takeNotice)

theorem State.Canonical.send {w : BestWindow} (h : w.state.Canonical) {p : RingPort} {f : RFrame} : (w.send p f).state.Canonical := by
  unfold BestWindow.send
  dsimp only
  split
  · exact h
  · exact h.sendVia

theorem State.Canonical.sendNotices {w : BestWindow} (h : w.state.Canonical) {p : RingPort} : (Machine.sendNotices w p).state.Canonical := by
  unfold Machine.sendNotices
  refine .foldlWindow ?_ fun {w q} h => ?_
  · dsimp only
    exact h.modPort
  · extract_lets own port a base f tried
    have htried : tried.state.Canonical := by
      unfold tried
      split
      · exact h.send
      · exact h
    clear_value tried
    split
    · split
      · dsimp only
        exact htried.modPort
      · exact htried
    · dsimp only
      exact htried.modPort

theorem State.Canonical.sendAnswers {w : BestWindow} (h : w.state.Canonical) {p : RingPort} : (Machine.sendAnswers w p).state.Canonical := by
  unfold Machine.sendAnswers
  refine .foldlWindow ?_ fun {w f} h => ?_
  · dsimp only
    exact h.modPort
  · extract_lets at_ f' sent
    have hsent : sent.state.Canonical := h.send
    clear_value sent
    split
    · dsimp only
      exact hsent.modPort
    · dsimp only
      exact hsent.jbump

theorem State.Canonical.sendQueue {w : BestWindow} (h : w.state.Canonical) {p : RingPort} : (Machine.sendQueue w p).state.Canonical := by
  unfold Machine.sendQueue
  refine .foldlWindow ?_ fun {w f} h => ?_
  · dsimp only
    exact h.modPort
  · extract_lets sent
    have hsent : sent.state.Canonical := h.send
    clear_value sent
    split
    · dsimp only
      exact hsent.modPort
    · dsimp only
      exact hsent.jbump

theorem State.Canonical.bestWindowDue (h : s.Canonical) {p : RingPort} {i : Nat} : (Machine.bestWindowDue s p i).Canonical := by
  unfold Machine.bestWindowDue
  exact h.ite (h.atEntry fun h => h.ite (.sendQueue (.sendAnswers (.sendNotices h))))

theorem State.Canonical.setBypass (h : s.Canonical) {on : Bool} : (Machine.setBypass s on).Canonical := h.modRing.jset

theorem State.Canonical.ringState (h : s.Canonical) {st : RingState} : (Machine.ringState s st).Canonical :=
  h.modRing.jset.jset.sendCorrection.ite h.modRing.jset.jset

theorem State.Canonical.leaveBy (h : s.Canonical) {p : RingPort} {reason : Nat} : (Machine.leaveBy s p reason).Canonical := h.sendVia

theorem State.Canonical.sendLeave (h : s.Canonical) {reason : Nat} : (Machine.sendLeave s reason).Canonical :=
  h.ite ((h.leaveBy.leaveBy.setBypass.ite h.leaveBy.leaveBy.modRing).ringState.same)

theorem State.Canonical.bypassRelease (h : s.Canonical) : (Machine.bypassRelease s).Canonical := by
  unfold Machine.bypassRelease
  split
  · exact h.advanceTo.setBypass.modRing
  · exact h

theorem State.Canonical.takeLeave (h : s.Canonical) {p : RingPort} {f : RFrame} : (Machine.takeLeave s p f).Canonical :=
  (h.jbump.jset.lostAtWrap.ite (h.jbump.jset.sendVia.ite h.jbump.jset)).ite h

theorem State.Canonical.leaveFrame (h : s.Canonical) {p : RingPort} {f : RFrame} : (Machine.leaveFrame s p f).Canonical :=
  h.arriveLocal.take (fun h => h.takeLeave)

/-! ## Flows on the ring (09 R253 to R259) -/

theorem State.Canonical.modTx (h : s.Canonical) {id : Nat} {f : TxCtx → TxCtx} : (s.modTx id f).Canonical := h.modRing

theorem State.Canonical.modRx (h : s.Canonical) {id : Nat} {f : RxCtx → RxCtx} : (s.modRx id f).Canonical := h.modRing

theorem State.Canonical.slotDeadline (h : s.Canonical) {i : Nat} : (Machine.slotDeadline s i).Canonical := by
  unfold Machine.slotDeadline
  split
  · exact h.advanceTo.modTx.ite h
  · exact h

theorem State.Canonical.cvuFailed (h : s.Canonical) {kind id : Nat} : (Machine.cvuFailed s kind id).Canonical := by
  unfold Machine.cvuFailed
  split
  · exact h.jbump
  · exact h

theorem State.Canonical.sendFlow (h : s.Canonical) {i : Nat} {e : CutEntry} {payload : Bytes} : (Machine.sendFlow s i e payload).Canonical :=
  (h.modTx.jset.modRing.ite h.modTx.jset).occupy.sendVia

theorem State.Canonical.emptySlot (h : s.Canonical) {id : Nat} : (Machine.emptySlot s id).Canonical := h.jbump

theorem State.Canonical.ringSlotDue (h : s.Canonical) {i : Nat} : (Machine.ringSlotDue s i).Canonical := by
  unfold Machine.ringSlotDue
  refine h.atEntry (fun h' => ?_)
  dsimp only
  split
  · exact h'.emptySlot.ite (h'.jbump.emptySlot.ite h'.sendFlow)
  · exact h'.emptySlot

theorem State.Canonical.frameLeftPort (h : s.Canonical) {i : Nat} : (Machine.frameLeftPort s i).Canonical := by
  unfold Machine.frameLeftPort
  split
  · exact h.modTx.ite h
  · exact h

theorem State.Canonical.closeWindow (h : s.Canonical) {id : Nat} : (Machine.closeWindow s id).Canonical := by
  unfold Machine.closeWindow
  dsimp only
  split
  · exact ((h.advanceTo.ite h.advanceTo.jbump).jbump.ite (h.advanceTo.ite h.advanceTo.jbump)).modRx
  · exact h

theorem State.Canonical.windowDue (h : s.Canonical) {i : Nat} : (Machine.windowDue s i).Canonical := h.atEntry (fun h => h.closeWindow.modRx)

theorem State.Canonical.rxWindowEnds (h : s.Canonical) {i : Nat} : (Machine.rxWindowEnds s i).Canonical := by
  unfold Machine.rxWindowEnds
  split
  · exact h.closeWindow.ite h
  · exact h

theorem State.Canonical.acceptData (h : s.Canonical) {p : RingPort} {f : RFrame} {t : Nat} : (Machine.acceptData s p f t).Canonical := by
  unfold Machine.acceptData
  split
  · exact h
  · refine h.jbump.ite (h.jbump.ite (h.ite ?_))
    dsimp only
    split
    · exact (h.jbump.ite h).cvuFailed.jbump
    · exact (h.jbump.ite h).jset.monitorTake.modRx

theorem State.Canonical.dataFrame (h : s.Canonical) {p : RingPort} {f : RFrame} {t : Nat} : (Machine.dataFrame s p f t).Canonical :=
  h.arrive.take (fun h => h.acceptData)

theorem State.Canonical.advanceHeaders (h : s.Canonical) {held : Bool} : (Machine.advanceHeaders s held).Canonical := by
  unfold Machine.advanceHeaders
  split
  · exact h.foldl (fun h => h.modTx.modRing.jset)
  · exact h

theorem State.Canonical.saveHeaders (h : s.Canonical) : (Machine.saveHeaders s).Canonical := h.modRing

/-! ## Start-up and synchronisation of the ring (chapter 10) -/

theorem State.Canonical.recordSync (h : s.Canonical) {off : Int} : (Machine.recordSync s off).Canonical := h.record

theorem State.Canonical.enterActive (h : s.Canonical) : (Machine.enterActive s).Canonical := h.ringState.modRing.same

theorem State.Canonical.enterListen (h : s.Canonical) : (Machine.enterListen s).Canonical := h.modRing.ringState.setBypass.latchLatency.modRing.same

theorem State.Canonical.leaveOff (h : s.Canonical) : (Machine.leaveOff s).Canonical := h.modRing.enterListen

theorem State.Canonical.judgeDiverged (h : s.Canonical) {off : Int} : (Machine.judgeDiverged s off).Canonical :=
  h.jset.recordSync.sendCorrection.ite h

theorem State.Canonical.enterPassive (h : s.Canonical) {off : Int} {follow : Option Nat} : (Machine.enterPassive s off follow).Canonical :=
  h.ringState.modRing.same.recordSync.judgeDiverged

theorem State.Canonical.sendQuery (h : s.Canonical) {node : Nat} : (Machine.sendQuery s node).Canonical := h.modRing.queueBest

theorem State.Canonical.adoptTime (h : s.Canonical) {a : Adopt} {full : Int} : (Machine.adoptTime s a full).Canonical := by
  unfold Machine.adoptTime
  exact (h.stepTime.same.ite h.stepTime).modRing

theorem State.Canonical.integrate (h : s.Canonical) {a : Adopt} : (Machine.integrate s a).Canonical :=
  h.enterPassive.ite (h.ringState.modRing.adoptTime.ite h.ringState.modRing.sendQuery)

theorem State.Canonical.sendSync (h : s.Canonical) {f : RFrame} : (Machine.sendSync s f).1.Canonical := by
  unfold Machine.sendSync
  split
  · exact h
  · split
    · exact h.jbump
    · exact h.occupy.sendVia

theorem State.Canonical.syncDue (h : s.Canonical) {i : Nat} : (Machine.syncDue s i).Canonical :=
  h.atEntry (fun h => (h.modRing.jset.sendSync.ite h).ite ((h.sendSync.modRing.ite h.sendSync).ite h))

theorem State.Canonical.syncWindowDue (h : s.Canonical) {i : Nat} : (Machine.syncWindowDue s i).Canonical := h.atEntry (fun h => h.modRing)

theorem State.Canonical.syncWindowEnds (h : s.Canonical) {i : Nat} : (Machine.syncWindowEnds s i).Canonical := by
  unfold Machine.syncWindowEnds
  split
  · refine .ite ?_ h
    split
    · exact h.advanceTo.modRing
    · exact h
  · exact h

theorem State.Canonical.acceptSync (h : s.Canonical) {p : RingPort} {f : RFrame} {t : Nat} : (Machine.acceptSync s p f t).Canonical :=
  h.ite (h.monitorTake.modRing.modRing.ite h.monitorTake.modRing)

theorem State.Canonical.foreignSync (h : s.Canonical) {p : RingPort} {f : RFrame} : (Machine.foreignSync s p f).Canonical := by
  unfold Machine.foreignSync
  exact h.jbump.modRing

theorem State.Canonical.takeSync (h : s.Canonical) {p : RingPort} {f : RFrame} {t : Nat} : (Machine.takeSync s p f t).Canonical := by
  unfold Machine.takeSync
  refine h.ite ?_
  split
  · exact h.integrate
  · exact h.integrate.ite (h.acceptSync.ite h)
  · exact h
  · exact h.integrate.ite ((h.foreignSync.ite h).acceptSync.ite (h.foreignSync.ite h))

theorem State.Canonical.syncFrame (h : s.Canonical) {p : RingPort} {f : RFrame} {t : Nat} : (Machine.syncFrame s p f t).Canonical :=
  h.arrive.take (fun h => h.takeSync)

theorem State.Canonical.takeColdstart (h : s.Canonical) {p : RingPort} {f : RFrame} {t : Nat} : (Machine.takeColdstart s p f t).Canonical := by
  unfold Machine.takeColdstart
  refine h.ite ?_
  split
  · exact h.integrate
  · exact h.recordSync.jbump.integrate.ite h.recordSync
  · exact h
  · exact h.integrate.ite (h.acceptSync.ite h)

theorem State.Canonical.coldstartFrame (h : s.Canonical) {p : RingPort} {f : RFrame} {t : Nat} : (Machine.coldstartFrame s p f t).Canonical :=
  h.arrive.take (fun h => h.takeColdstart)

theorem State.Canonical.listenTimeout (h : s.Canonical) : (Machine.listenTimeout s).Canonical := by
  unfold Machine.listenTimeout
  split
  · exact h.advanceTo.ringState.modRing.modRing.ite h
  · exact h

theorem State.Canonical.takeQuery (h : s.Canonical) {f : RFrame} : (Machine.takeQuery s f).Canonical := h.modPort.ite h

theorem State.Canonical.timeQuery (h : s.Canonical) {p : RingPort} {f : RFrame} : (Machine.timeQuery s p f).Canonical :=
  h.arriveBest.take (fun h => h.takeQuery)

theorem State.Canonical.takeAnswer (h : s.Canonical) {p : RingPort} {f : RFrame} {t : Nat} : (Machine.takeAnswer s p f t).Canonical := by
  unfold Machine.takeAnswer
  dsimp only
  split
  · exact h.adoptTime.ite h
  · exact h

theorem State.Canonical.timeAnswer (h : s.Canonical) {p : RingPort} {f : RFrame} {t : Nat} : (Machine.timeAnswer s p f t).Canonical :=
  h.arriveBest.take (fun h => h.takeAnswer)

theorem State.Canonical.timeQueryTimeout (h : s.Canonical) : (Machine.timeQueryTimeout s).Canonical := by
  unfold Machine.timeQueryTimeout
  split
  · exact h.advanceTo.sendQuery.ite h
  · exact h

theorem State.Canonical.correctTime (h : s.Canonical) {off : Int} {rhos : List Int} {valid : Bool} :
    (Machine.correctTime s off rhos valid).Canonical := by
  unfold Machine.correctTime
  refine h.same.ite ?_
  split
  · exact h.same.stepTime.modRing.sendCorrection.ite h.same
  · exact h.same.sendCorrection
  · exact h.same.sendCorrection
  · exact h.same.sendCorrection.ite h.same
  · exact h.same

theorem State.Canonical.roundState (h : s.Canonical) {off : Int} {valid full : Bool} : (Machine.roundState s off valid full).Canonical := by
  unfold Machine.roundState
  dsimp only
  split
  · exact h.enterActive.ite (h.ringState.ite h)
  · exact h.enterPassive.ite (h.ite (h.enterListen.ite (h.enterActive.ite h)))
  · exact h.enterPassive.ite (h.jbump.enterPassive.ite h)
  · exact h.enterActive.ite (h.enterPassive.ite h)
  · exact (h.modRing.ite h).judgeDiverged.ite
      ((h.modRing.ite h).judgeDiverged.enterActive.ite ((h.modRing.ite h).judgeDiverged.ringState.modRing.ite ((h.modRing.ite h).judgeDiverged)))
  · exact h

theorem State.Canonical.roundOffset (h : s.Canonical) {off : Int} {valid : Bool} : (Machine.roundOffset s off valid).Canonical :=
  (h.jset.jset.judgeDiverged.ite h.jset.jset).correctTime.jset.monitorTake.monitorTake

theorem State.Canonical.showL (h : s.Canonical) : (Machine.showL s).Canonical := h.jset

theorem State.Canonical.roundEnd (h : s.Canonical) : (Machine.roundEnd s).Canonical :=
  h.advanceTo.modRing.jset.jset.jset.showL.latchLatency.ite
    ((h.advanceTo.jset.jset.jset.ite h.advanceTo.jset.jset.roundOffset).modRing.roundState.showL.modRing.latchLatency)

theorem State.Canonical.timeAnnouncement (h : s.Canonical) : (Machine.timeAnnouncement s).Canonical := h.advanceTo.same.queueBest.ite h

theorem State.Canonical.takeAnnouncement (h : s.Canonical) {node : Nat} {b : Bytes} : (Machine.takeAnnouncement s node b).Canonical :=
  h.jset.jset.jset.same.recordTai.ite h.jset.jset.jset.same

theorem State.Canonical.judgeAnnouncement (h : s.Canonical) {f : RFrame} : (Machine.judgeAnnouncement s f).Canonical := by
  unfold Machine.judgeAnnouncement
  split
  · exact h.takeAnnouncement.ite (h.record.takeAnnouncement.ite h.record)
  · exact h.takeAnnouncement

theorem State.Canonical.timeAnnouncementReceived (h : s.Canonical) {p : RingPort} {f : RFrame} : (Machine.timeAnnouncementReceived s p f).Canonical :=
  h.arriveBest.take (fun h => h.judgeAnnouncement)

/-! ## The ECN ports (11 R300 to R308) -/

theorem State.Canonical.telegramDeadline (h : s.Canonical) {i : Nat} : (Machine.telegramDeadline s i).Canonical := by
  unfold Machine.telegramDeadline
  split
  · exact h.advanceTo.modEcn.ite h
  · exact h

theorem State.Canonical.modTelTx (h : s.Canonical) {p ctx : Nat} {f : TxCtx → TxCtx} : (Machine.modTelTx s p ctx f).Canonical := h.modEcn

theorem State.Canonical.askArp (h : s.Canonical) {p ip : Nat} : (Machine.askArp s p ip).Canonical := h.ecnSend

theorem State.Canonical.sendTelegram (h : s.Canonical) {p : Nat} {t : Telegram} {mac : Nat} {b : TxBuffer} :
    (Machine.sendTelegram s p t mac b).Canonical :=
  h.modTelTx.modEcn.ecnSend

theorem State.Canonical.offerTelegram (h : s.Canonical) {p : Nat} {t : Telegram} {b : TxBuffer} : (Machine.offerTelegram s p t b).Canonical := by
  unfold Machine.offerTelegram
  refine h.jbump.ite ?_
  split
  · exact h.askArp
  · exact h.jbump.ite h.sendTelegram

theorem State.Canonical.sendDatagram (h : s.Canonical) {p ip srcPort dstPort : Nat} {d : Bytes} :
    (Machine.sendDatagram s p ip srcPort dstPort d).Canonical := by
  unfold Machine.sendDatagram
  dsimp only
  split
  · exact h.ecnSend
  · exact h.modEcn.askArp

theorem State.Canonical.sendAwaiting (h : s.Canonical) {p ip mac : Nat} : (Machine.sendAwaiting s p ip mac).Canonical :=
  h.modEcn.foldl (fun h => h.ecnSend)

theorem State.Canonical.ecnDue (h : s.Canonical) {i : Nat} : (Machine.ecnDue s i).Canonical := by
  unfold Machine.ecnDue
  refine h.atEntry (fun h' => h'.ite ?_)
  split
  · exact (h'.offerTelegram.ite h'.jbump).modTelTx
  · exact h'.jbump

theorem State.Canonical.advanceTelegrams (h : s.Canonical) {held : Bool} : (Machine.advanceTelegrams s held).Canonical := by
  unfold Machine.advanceTelegrams
  split
  · exact h.foldl (fun h => h.modTelTx.modEcn)
  · exact h

theorem State.Canonical.saveTelegrams (h : s.Canonical) : (Machine.saveTelegrams s).Canonical := h.same

theorem State.Canonical.takeTelegramFrame (h : s.Canonical) {p : Nat} {t : Telegram} {f : EFrame} : (Machine.takeTelegramFrame s p t f).Canonical := by
  unfold Machine.takeTelegramFrame
  refine h.jbump.ite (h.jbump.ite ?_)
  split
  · exact h.jbump.cvuFailed
  · exact (h.jbump.ite h).modEcn

theorem State.Canonical.telegramReceived (h : s.Canonical) {port : EcnPort} {f : EFrame} : (Machine.telegramReceived s port f).Canonical := by
  unfold Machine.telegramReceived
  refine .ite (h.jbump.ecnDiscard.ite (h.jbump.ite ?_)) h
  split
  · exact h.jbump.takeTelegramFrame
  · exact h.jbump.ite h.jbump.ecnDiscard

theorem State.Canonical.arpRequest (h : s.Canonical) {port : EcnPort} {target src : Nat} : (Machine.arpRequest s port target src).Canonical :=
  (h.jbump.ecnSend.ite h.jbump.ecnDiscard).ite h

theorem State.Canonical.arpReply (h : s.Canonical) {port : EcnPort} {ip mac : Nat} : (Machine.arpReply s port ip mac).Canonical :=
  h.jbump.modEcn.sendAwaiting.ite h

theorem State.Canonical.arpEntryExpiry (h : s.Canonical) {port : EcnPort} {ip : Nat} : (Machine.arpEntryExpiry s port ip).Canonical := by
  unfold Machine.arpEntryExpiry
  dsimp only
  split
  · exact h.advanceTo.modEcn
  · exact h

theorem State.Canonical.icmpEchoRequest (h : s.Canonical) {port : EcnPort} {src dst : Nat} : (Machine.icmpEchoRequest s port src dst).Canonical :=
  (h.jbump.modEcn.ecnSend.ite h.jbump.ecnDiscard).ite h

theorem State.Canonical.ecnLinkChange (h : s.Canonical) {port : EcnPort} {speed : Nat} {full : Bool} :
    (Machine.ecnLinkChange s port speed full).Canonical :=
  h.modEcn.jset.ite h

theorem State.Canonical.phyResetRelease (h : s.Canonical) : (Machine.phyResetRelease s).Canonical := h.advanceTo.same.ite h

/-! ## The CAN controllers (11 R309 to R312) -/

theorem State.Canonical.sendHeartbeat (h : s.Canonical) {c : CanCtl} {code : Nat} : (Machine.sendHeartbeat s c code).Canonical := h.transmit

theorem State.Canonical.canBoot (h : s.Canonical) {c : CanCtl} : (Machine.canBoot s c).Canonical :=
  (h.modCan.sendHeartbeat.ite h.modCan).modCan.ite (h.modCan.sendHeartbeat.ite h.modCan)

theorem State.Canonical.canRun (h : s.Canonical) {c : CanCtl} : (Machine.canRun s c).Canonical := h.modCan.ite h

theorem State.Canonical.canFrameReceived (h : s.Canonical) {c : CanCtl} {f : CFrame} : (Machine.canFrameReceived s c f).Canonical := by
  unfold Machine.canFrameReceived
  refine .ite ?_ h
  split
  · exact (h.jbump.ite h).modCan
  · exact h

theorem State.Canonical.canArbitrationWon (h : s.Canonical) {c : CanCtl} {obj : Fin 32} : (Machine.canArbitrationWon s c obj).Canonical := by
  unfold Machine.canArbitrationWon
  split
  · exact h.modCan.transmit.ite h
  · exact h

theorem State.Canonical.nmtTo (h : s.Canonical) {c : CanCtl} {node : Nat} {n : Nmt} : (Machine.nmtTo s c node n).Canonical := h.modCan.ite h

theorem State.Canonical.nmtStart (h : s.Canonical) {c : CanCtl} {node : Nat} : (Machine.nmtStart s c node).Canonical := h.nmtTo

theorem State.Canonical.nmtStop (h : s.Canonical) {c : CanCtl} {node : Nat} : (Machine.nmtStop s c node).Canonical := h.nmtTo

theorem State.Canonical.nmtPreOp (h : s.Canonical) {c : CanCtl} {node : Nat} : (Machine.nmtPreOp s c node).Canonical := h.nmtTo

theorem State.Canonical.canRestart (h : s.Canonical) {c : CanCtl} : (Machine.canRestart s c).Canonical := h.modCan.jset

theorem State.Canonical.dropSdo (h : s.Canonical) {ch : Nat} : (Machine.dropSdo s ch).Canonical := h.same

theorem State.Canonical.canReset (h : s.Canonical) {c : CanCtl} : (Machine.canReset s c).Canonical :=
  (h.canRestart.foldl (fun h => h.dropSdo)).same.canBoot

theorem State.Canonical.nmtResetComm (h : s.Canonical) {c : CanCtl} {node : Nat} : (Machine.nmtResetComm s c node).Canonical := h.canReset.ite h

theorem State.Canonical.nmtResetNode (h : s.Canonical) {c : CanCtl} {node : Nat} : (Machine.nmtResetNode s c node).Canonical :=
  h.jbump.canReset.ite h

theorem State.Canonical.hearBeat (h : s.Canonical) {c : CanCtl} {node n : Nat} : (Machine.hearBeat s c node n).Canonical :=
  (h.same.emcyOne.ite h.same).ite h

theorem State.Canonical.heartbeatReceived (h : s.Canonical) {c : CanCtl} {node : Nat} : (Machine.heartbeatReceived s c node).Canonical :=
  (h.foldl (fun h => h.hearBeat)).ite h

theorem State.Canonical.heartbeatExpiry (h : s.Canonical) {n : Fin 32} : (Machine.heartbeatExpiry s n).Canonical := by
  unfold Machine.heartbeatExpiry
  split
  · exact h.advanceTo.expireConsumer.ite h
  · exact h

theorem State.Canonical.heartbeatProducer (h : s.Canonical) {c : CanCtl} : (Machine.heartbeatProducer s c).Canonical :=
  h.advanceTo.modCan.sendHeartbeat.ite h

theorem State.Canonical.busOff (h : s.Canonical) {c : CanCtl} : (Machine.busOff s c).Canonical := h.jbump.jset.modCan.ite h

theorem State.Canonical.busOffRecovery (h : s.Canonical) {c : CanCtl} : (Machine.busOffRecovery s c).Canonical := h.modCan.jset.emcyOne.ite h

theorem State.Canonical.errorPassive (h : s.Canonical) {c : CanCtl} {tec rec_ : Nat} : (Machine.errorPassive s c tec rec_).Canonical :=
  (h.jset.modCan.emcyOne.ite (h.jset.modCan.emcyOne.ite h.jset.modCan)).ite h

/-! ## What fires together (02 R39) -/

theorem State.Canonical.fireEntry (h : s.Canonical) {i : Nat} : (Machine.fireEntry s i).Canonical := by
  unfold Machine.fireEntry
  split
  · split
    · exact h.ringSlotDue
    · exact h.windowDue
    · exact h.ecnDue
    · exact h.userEventDue
    · exact h.ppsEntryDue
    · exact h.bestWindowDue
    · exact h.syncDue
    · exact h.syncWindowDue
    · exact h
  · exact h

theorem State.Canonical.fireInTurn (h : s.Canonical) {t i : Nat} : (Machine.fireInTurn t s i).Canonical := h.fireEntry.markEarly.ite h

theorem State.Canonical.fireBelow (h : s.Canonical) {t n : Nat} : (Machine.fireBelow s t n).Canonical := h.foldl (fun h => h.fireInTurn)

theorem State.Canonical.fireDirect (h : s.Canonical) {n : Nat} : (Machine.fireDirect s n).Canonical :=
  h.foldl (fun h => h.directCompareDue.markEarly.ite h)

theorem State.Canonical.fireEpoch (h : s.Canonical) {n : Nat} : (Machine.fireEpoch s n).Canonical :=
  h.foldl (fun h => h.epochCompareDue.markEarly.ite h)

theorem State.Canonical.closeWindows (h : s.Canonical) : (Machine.closeWindows s).Canonical := h.foldl (fun h => h.closeWindow.ite h)

theorem State.Canonical.fireEvents (h : s.Canonical) {t : Nat} : (Machine.fireEvents s t).Canonical := h.foldl (fun h => h.fireInTurn.ite h)

theorem State.Canonical.beforeBatch (h : s.Canonical) {t : Nat} : (Machine.beforeBatch s t).Canonical :=
  h.fireBelow.fireEvents.fireDirect.fireEpoch.closeWindows

theorem State.Canonical.cycleDue (h : s.Canonical) : (Machine.cycleDue s).Canonical := by
  unfold Machine.cycleDue
  split
  · exact (h.advanceTo.cutFault.ite ((h.advanceTo.enterSafe.ite h.advanceTo).beforeBatch.transferStep.rejoinStep.startCycle.ite
      ((h.advanceTo.enterSafe.ite h.advanceTo).beforeBatch.transferStep.rejoinStep))).ite h
  · exact h

/-! ## The output apply (01 R23) -/

theorem State.Canonical.voteBefore (h : s.Canonical) {t : Nat} : (Machine.voteBefore s t).Canonical := by
  unfold Machine.voteBefore
  split
  · exact h.voteDue.markEarly.ite h
  · exact h

theorem State.Canonical.cycleBefore (h : s.Canonical) {t : Nat} : (Machine.cycleBefore s t).Canonical := by
  unfold Machine.cycleBefore
  split
  · exact h.cycleDue.markEarly.ite h
  · exact h

theorem State.Canonical.sampleBefore (h : s.Canonical) {t : Nat} {l : LaneId} : (Machine.sampleBefore t s l).Canonical :=
  h.advanceTo.sampleDue.markEarly.ite h.advanceTo

theorem State.Canonical.applyAt (h : s.Canonical) {c : Container} {t : Nat} {l : LaneId} : (Machine.applyAt c t s l).Canonical :=
  h.advanceTo.switching (fun h => h.applyLane)

theorem State.Canonical.outputApply (h : s.Canonical) : (Machine.outputApply s).Canonical := by
  unfold Machine.outputApply
  split
  · refine .ite (h.advanceTo.cutFault.ite ?_) h
    extract_lets ok before vote due sampled locked applied planned
    have hdue : due.Canonical := h.advanceTo.cycleBefore.voteBefore.same
    have happlied : applied.Canonical :=
      ((hdue.foldl fun h => h.sampleBefore).switching fun h => (h.foldl fun h => h.lockChan).ite h).foldl fun h => h.applyAt
    exact hdue.enterSafe.ite (((happlied.planTests.foldl fun h => h.planPulse).ite happlied).ite hdue)
  · exact h

end Sys2Proof.Machine
end

section
/-! The canonical form is kept: sessions, the recorder, admission, power and start-up. -/

namespace Sys2Proof.Machine

open Sys2Proof

variable {s : State} {ln : Lane}

/-! ## Sessions, keys and the plug (13 R353 to R366) -/

theorem State.Canonical.recordSession (h : s.Canonical) {event client path : Nat} : (Machine.recordSession s event client path).Canonical :=
  h.record

theorem State.Canonical.countFailure (h : s.Canonical) {r : Sender} : (Machine.countFailure s r).Canonical := h.same.recordSession

theorem State.Canonical.openFor (h : s.Canonical) {r : Sender} {reset : Bool} : (Machine.openFor s r reset).Canonical := h.same.recordSession

theorem State.Canonical.endSession (h : s.Canonical) {event : Nat} : (Machine.endSession s event).Canonical := by
  unfold Machine.endSession
  split
  · exact h.same.recordSession
  · exact h

theorem State.Canonical.openAttempt (h : s.Canonical) {r : Sender} {pw : Bytes} : (Machine.openAttempt s r pw).Canonical :=
  h.openFor.ite (h.countFailure.ite h.recordSession)

theorem State.Canonical.sessionIdle (h : s.Canonical) : (Machine.sessionIdle s).Canonical := by
  unfold Machine.sessionIdle
  split
  · exact h.advanceTo.endSession
  · exact h

theorem State.Canonical.lockoutOver (h : s.Canonical) : (Machine.lockoutOver s).Canonical := h.advanceTo.same.ite h.same

theorem State.Canonical.setPassword (h : s.Canonical) {pw : Bytes} : (Machine.setPassword s pw).Canonical := h.drew.same

theorem State.Canonical.removePassword (h : s.Canonical) : (Machine.removePassword s).Canonical := h.same.endSession

theorem State.Canonical.storeKey (h : s.Canonical) {slot : Nat} {key : Bytes} : (Machine.storeKey s slot key).Canonical := h.same

theorem State.Canonical.dropKey (h : s.Canonical) {slot : Nat} : (Machine.dropKey s slot).Canonical := by
  unfold Machine.dropKey
  split
  · exact h.same
  · exact h

theorem State.Canonical.recordPlug (h : s.Canonical) : (Machine.recordPlug s).Canonical := h.record

theorem State.Canonical.showPlug (h : s.Canonical) : (Machine.showPlug s).Canonical := h.jset.modLanes (fun h => h.rset)

theorem State.Canonical.plugReading (h : s.Canonical) {j : Nat} {ls : Tri Nat} : (Machine.plugReading s j ls).Canonical := by
  unfold Machine.plugReading
  refine h.same.ite ?_
  extract_lets old due pins shown moved marked opened
  have hshown : shown.Canonical := h.advanceTo.same.showPlug
  have hmarked : marked.Canonical := hshown.jset.ite hshown
  have hopened : opened.Canonical := hmarked.jset.ite hmarked
  exact hopened.recordPlug.ite hopened

theorem State.Canonical.jtagLoad (h : s.Canonical) {i : JtagCode} : (Machine.jtagLoad s i).Canonical := by
  unfold Machine.jtagLoad
  dsimp only
  split
  · exact h.same
  · exact h.same
  · exact h.same
  · exact h.same
  · exact h.same.ite (h.same.ite h.same.jbump)
  · exact (h.same.ite h.same.jbump).ite (h.same.ite h.same)
  · exact h.same.ite h.same

/-! ## Commits, the recorder and the monitors (chapter 14) -/

theorem State.Canonical.releaseBase (h : s.Canonical) : (Machine.releaseBase s).Canonical := by
  unfold Machine.releaseBase
  split
  · exact (h.modLanes (fun h => h.same.ite h.same)).stampCopies.same.ite h
  · exact h

theorem State.Canonical.commitComplete (h : s.Canonical) {l : LaneId} : (Machine.commitComplete s l).Canonical :=
  (h.modLane (fun h => h.commitDone)).stampRegions.releaseBase.ite h

theorem State.Canonical.carryWrite (h : s.Canonical) {l : LaneId} {blocks : List Nat} : (Machine.carryWrite s l blocks).Canonical := by
  unfold Machine.carryWrite
  split
  · exact (h.modLane (fun h => h.append)).stampRegions.ite h
  · exact h

theorem State.Canonical.keepWrites (h : s.Canonical) : (Machine.keepWrites s).Canonical := h.same

theorem State.Canonical.scrubRegion (h : s.Canonical) {r : Nat} : (Machine.scrubRegion s r).Canonical := h.same.jbump.record

theorem State.Canonical.scrubAll (h : s.Canonical) : (Machine.scrubAll s).Canonical := (h.foldl (fun h => h.scrubRegion)).ite h

theorem State.Canonical.armRecorder (h : s.Canonical) : (Machine.armRecorder s).Canonical := h.keepWrites.same

theorem State.Canonical.drainOne (h : s.Canonical) : (Machine.drainOne s).Canonical := h.same.ite h

theorem State.Canonical.beginFreeze (h : s.Canonical) {client : Nat} : (Machine.beginFreeze s client).Canonical := h.same

theorem State.Canonical.endFreeze (h : s.Canonical) : (Machine.endFreeze s).Canonical := h.same

theorem State.Canonical.freezeOver (h : s.Canonical) : (Machine.freezeOver s).Canonical := by
  unfold Machine.freezeOver
  split
  · exact h.advanceTo.endFreeze
  · exact h

theorem State.Canonical.clearLog (h : s.Canonical) {client path : Nat} : (Machine.clearLog s client path).Canonical := h.keepWrites.same.logEntry

theorem State.Canonical.clearMonitor (h : s.Canonical) {n : Nat} : (Machine.clearMonitor s n).Canonical := h.same

theorem State.Canonical.dieTemperature (h : s.Canonical) {die : Nat} {t : Int} : (Machine.dieTemperature s die t).Canonical := by
  unfold Machine.dieTemperature
  refine .ite (.monitorTake (.ite (.jbump ?_) ?_)) h
  · split
    · exact h.modLane (fun h => h.rset)
    · exact h.jset
  · split
    · exact h.modLane (fun h => h.rset)
    · exact h.jset

theorem State.Canonical.railSample (h : s.Canonical) {rail mV : Nat} : (Machine.railSample s rail mV).Canonical := by
  unfold Machine.railSample
  refine .ite (.monitorTake (.same ?_)) (.same ?_)
  · split
    · exact h.modLane (fun h => h.rset)
    · exact h.jset.ite (h.seeSupplyAll.ite h)
  · split
    · exact h.modLane (fun h => h.rset)
    · exact h.jset.ite (h.seeSupplyAll.ite h)

/-! ## Admission, changes and forces (chapters 06 and 12) -/

theorem State.Canonical.beginGauge (h : s.Canonical) {x : Subject} {c : Option Container} : (Machine.beginGauge s x c).Canonical := h.same.jset.jset

theorem State.Canonical.reportGauge (h : s.Canonical) {x : Subject} {f : Option Finding} {ms refused : Nat} :
    (Machine.reportGauge s x f ms refused).Canonical :=
  h.same.jset.jset.jset.jset.jset.jset.jset.jset.jset.jset.record

theorem State.Canonical.takeDownload (h : s.Canonical) {k : Container} : (Machine.takeDownload s k).Canonical := h.same.jset

theorem State.Canonical.startFull (h : s.Canonical) {store : Bool} : (Machine.startFull s store).Canonical := by
  unfold Machine.startFull
  split
  · exact h.beginGauge
  · exact h

theorem State.Canonical.storeContainer (h : s.Canonical) {k : Container} : (Machine.storeContainer s k).Canonical :=
  (h.modLanes (fun h => h.same)).stampCopies

theorem State.Canonical.refuseDelta (h : s.Canonical) {result detail : Nat} : (Machine.refuseDelta s result detail).Canonical := h.endChange

theorem State.Canonical.takeDelta (h : s.Canonical) {k : Delta} : (Machine.takeDelta s k).Canonical := by
  unfold Machine.takeDelta
  refine h.jset.jset.same.refuseDelta.ite ?_
  split
  · exact h.jset.jset.same.refuseDelta
  · refine h.jset.jset.same.refuseDelta.ite ?_
    split
    · exact h.jset.jset.same.refuseDelta
    · exact h.jset.jset.same.refuseDelta.ite h.jset.jset.same

theorem State.Canonical.startDelta (h : s.Canonical) : (Machine.startDelta s).Canonical := by
  unfold Machine.startDelta
  split
  · exact h.same.beginGauge
  · exact h

theorem State.Canonical.deltaAdmitted (h : s.Canonical) : (Machine.deltaAdmitted s).Canonical := h.same

theorem State.Canonical.startDistribution (h : s.Canonical) : (Machine.startDistribution s).Canonical := h.same.ite h

theorem State.Canonical.deltaReported (h : s.Canonical) {crcs : Tri Nat} : (Machine.deltaReported s crcs).Canonical := by
  unfold Machine.deltaReported
  split
  · exact h.same.ite h
  · exact h

theorem State.Canonical.fixActivation (h : s.Canonical) : (Machine.fixActivation s).Canonical := by
  unfold Machine.fixActivation
  split
  · split
    · exact h.refuseDelta
    · exact h.same
  · exact h

theorem State.Canonical.cancelDelta (h : s.Canonical) : (Machine.cancelDelta s).Canonical := (h.same.jset.ite h).endChange.startDeferred

theorem State.Canonical.putForce (h : s.Canonical) {client : Nat} {bs : Bytes} : (Machine.putForce s client bs).Canonical := by
  unfold Machine.putForce
  split
  · exact h.same
  · exact h

theorem State.Canonical.setForceOf (h : s.Canonical) {client path : Nat} {bs : Bytes} : (Machine.setForceOf s client path bs).Canonical := by
  unfold Machine.setForceOf
  split
  · exact h.logEntry.putForce
  · exact h

theorem State.Canonical.releaseForceOf (h : s.Canonical) {client path n : Nat} : (Machine.releaseForceOf s client path n).Canonical :=
  h.releaseSlot.same

theorem State.Canonical.releaseAllOf (h : s.Canonical) {client path : Nat} : (Machine.releaseAllOf s client path).Canonical :=
  h.foldl (fun h => h.releaseForceOf)

/-! ## Supply, resets and ROM boot (16 R411 to R434) -/

theorem Lane.Canonical.afterReset {now : Nat} : (Lane.afterReset now ln).Canonical := ⟨rfl, rfl, rfl, rfl, rfl, rfl, rfl, rfl, rfl, rfl⟩

theorem Lane.Canonical.afterRelease {now : Nat} : (Lane.afterRelease now ln).Canonical := Lane.Canonical.afterReset.same

theorem State.Canonical.clearForces (h : s.Canonical) : (Machine.clearForces s).Canonical := h.same.ite (h.same.logEntry.ite h.same.jbump.record)

theorem State.Canonical.stopAt (h : s.Canonical) {code : Nat} : (Machine.stopAt s code).Canonical := h.same

theorem State.Canonical.toStep (h : s.Canonical) {n : Nat} : (Machine.toStep s n).Canonical := h.same.recordStep

theorem State.Canonical.setLands (h : s.Canonical) {x : Lands} : (Machine.setLands s x).Canonical := h.same.emit

theorem State.Canonical.romBoot (h : s.Canonical) : (Machine.romBoot s).Canonical := by
  unfold Machine.romBoot
  refine h.setLands.same.showPlug.jset.recordStep.canBoot.canBoot.choosePtpMode.choosePtpMode.recordPlug.stopAt.ite ?_
  split
  · exact h.setLands.same.showPlug.jset.recordStep.canBoot.canBoot.choosePtpMode.choosePtpMode.stopAt
  · exact h.setLands.same.showPlug.jset.recordStep.canBoot.canBoot.choosePtpMode.choosePtpMode.jset.jset.toStep

theorem State.Canonical.resetDomains (h : s.Canonical) : (Machine.resetDomains s).Canonical := h.mapLanes (fun _ => Lane.Canonical.afterReset)

theorem State.Canonical.resetModule (h : s.Canonical) {src : ResetSource} : (Machine.resetModule s src).Canonical :=
  h.endSession.setLands.resetDomains.jset.jbump.same.clearForces.ite h.endSession.setLands.resetDomains.jset.jbump.same.clearForces.romBoot

theorem State.Canonical.powerOn (h : s.Canonical) : (Machine.powerOn s).Canonical := h.ite (h.same.romBoot.ite h.same.resetModule)

theorem State.Canonical.recordStage (h : s.Canonical) {mV : Nat} : (Machine.recordStage s mV).Canonical := h.record

theorem State.Canonical.showVinJ (h : s.Canonical) {mV : Nat} : (Machine.showVinJ s mV).Canonical := h.same.jset

theorem State.Canonical.shedFrom (h : s.Canonical) {n : Nat} : (Machine.shedFrom s n).Canonical := h.same.stopHalves.ite h.same

theorem State.Canonical.enterStage (h : s.Canonical) {n mV : Nat} : (Machine.enterStage s n mV).Canonical := h.shedFrom.jbump.recordStage

theorem State.Canonical.switchEcn (h : s.Canonical) {on : Bool} : (Machine.switchEcn s on).Canonical := h.same.jset.jset

theorem State.Canonical.stage1Entry (h : s.Canonical) {mV : Nat} : (Machine.stage1Entry s mV).Canonical := h.showVinJ.enterStage.ite h

theorem State.Canonical.stage1Exit (h : s.Canonical) {mV : Nat} : (Machine.stage1Exit s mV).Canonical := h.same.showVinJ.recordStage.ite h

theorem State.Canonical.stage2Entry (h : s.Canonical) {mV : Nat} : (Machine.stage2Entry s mV).Canonical := h.showVinJ.enterStage.switchEcn.ite h

theorem State.Canonical.stage2Exit (h : s.Canonical) {mV : Nat} : (Machine.stage2Exit s mV).Canonical := h.same.showVinJ.switchEcn.recordStage.ite h

theorem State.Canonical.saveJunction (h : s.Canonical) : (Machine.saveJunction s).Canonical := h.saveHeaders.saveTelegrams.same

theorem State.Canonical.shedPorts (h : s.Canonical) : (Machine.shedPorts s).Canonical := h.switchEcn.ite h

theorem State.Canonical.failSupply (h : s.Canonical) : (Machine.failSupply s).Canonical :=
  (h.same.stopAt.ite h.same.enterSafe).same.saveJunction.sendLeave

theorem State.Canonical.powerFail (h : s.Canonical) {mV : Nat} : (Machine.powerFail s mV).Canonical :=
  h.shedPorts.showVinJ.enterStage.failSupply.ite h

theorem State.Canonical.stage4 (h : s.Canonical) {mV : Nat} : (Machine.stage4 s mV).Canonical :=
  (h.shedPorts.showVinJ.shedFrom.failSupply.ite h.shedPorts.showVinJ.shedFrom).recordStage.resetModule.ite h

theorem State.Canonical.supplyRestart (h : s.Canonical) {mV : Nat} : (Machine.supplyRestart s mV).Canonical := h.showVinJ.jbump.resetModule.ite h

theorem State.Canonical.overvoltageAt (h : s.Canonical) {mV : Nat} : (Machine.overvoltageAt s mV).Canonical := h.jbump.recordStage.ite h

theorem State.Canonical.switchLane (h : s.Canonical) {l : LaneId} {on : Bool} : (Machine.switchLane s l on).Canonical := h.same

theorem State.Canonical.showVin (h : s.Canonical) {l : LaneId} {mV : Nat} : (Machine.showVin s l mV).Canonical := h.same.modLane (fun h => h.rset)

theorem State.Canonical.laneSag (h : s.Canonical) {l : LaneId} {mV : Nat} : (Machine.laneSag s l mV).Canonical :=
  ((h.jbump.showVin.modLane (fun h => h.abandon.same)).report.switchLane.modLane (fun h => h.same)).closeLane.ite h

theorem State.Canonical.laneRecovers (h : s.Canonical) {l : LaneId} {mV : Nat} : (Machine.laneRecovers s l mV).Canonical :=
  ((h.showVin.modLane (fun h => h.same)).ite h.showVin).ite h

theorem State.Canonical.scheduleRestart (h : s.Canonical) : (Machine.scheduleRestart s).Canonical := h.same

theorem State.Canonical.restartEffect (h : s.Canonical) : (Machine.restartEffect s).Canonical := by
  unfold Machine.restartEffect
  split
  · exact ((h.advanceTo.modLanes (fun h => h.stopEngines.finalWhole.ite h)).stampRegions.ite h.advanceTo).saveJunction.sendLeave.resetModule
  · exact h

/-! ## The scribe test (03 R70 to R72) -/

theorem State.Canonical.runScribe (h : s.Canonical) {defect : Option (Nat × Nat)} {units : List Nat} :
    (Machine.runScribe s defect units).1.Canonical :=
  h.same

theorem State.Canonical.laneScribeTest (h : s.Canonical) {l : LaneId} {sound : Bool} : (Machine.laneScribeTest s l sound).Canonical := by
  unfold Machine.laneScribeTest
  refine .ite ?_ h
  split
  · exact ((h.reopenLane.modLane (fun _ => Lane.Canonical.load0.same)).resumeSection.runScribe.record.ite ((h.reopenLane.modLane (fun _ =>
      Lane.Canonical.load0.same)).resumeSection.runScribe.abandonReint)).ite h.abandonReint
  · exact h.abandonReint

/-! ## Start-up (16 R426 to R430) -/

theorem State.Canonical.admitSupply (h : s.Canonical) {l : LaneId} : (Machine.admitSupply s l).Canonical :=
  h.ite ((h.exclude.modLane (fun h => h.same)).closeLane.ite h.switchLane)

theorem State.Canonical.copyContainer (h : s.Canonical) {c : Container} {l : LaneId} : (Machine.copyContainer s c l).Canonical :=
  h.ite ((h.modLane (fun h => h.same)).stampCopies.record)

theorem State.Canonical.jwrite (h : s.Canonical) {index sub v : Nat} : (Machine.jwrite s index sub v).Canonical :=
  h.choosePtpMode.ite (h.choosePtpMode.ite (h.choosePps.ite (h.jset.canBoot.ite (h.jset.canBoot.ite (h.jset.recordTai.ite (h.jset.same.ite
    (h.jset.clearMonitor.ite h.jset)))))))

theorem State.Canonical.applyModuleParams (h : s.Canonical) {c : Container} : (Machine.applyModuleParams s c).Canonical :=
  h.foldl (fun h => h.ite h.jwrite)

theorem State.Canonical.putInForce (h : s.Canonical) {c : Container} : (Machine.putInForce s c).Canonical := h.same.applyModuleParams

theorem State.Canonical.admitStored (h : s.Canonical) {c : Container} : (Machine.admitStored s c).Canonical :=
  h.jset.stopAt.ite (h.jset.drew.reportGauge.stopAt.ite ((h.jset.drew.reportGauge.putInForce.leaveOff.ite
    h.jset.drew.reportGauge.putInForce).toStep))

theorem State.Canonical.containerLoad (h : s.Canonical) : (Machine.containerLoad s).Canonical := by
  unfold Machine.containerLoad
  refine .ite ((h.foldl (fun h => h.admitSupply)).stopAt.ite ((h.foldl (fun h => h.admitSupply)).stopAt.ite ?_)) h
  split
  · exact (h.foldl (fun h => h.admitSupply)).stopAt
  · exact ((h.foldl (fun h => h.admitSupply)).foldl (fun h => h.copyContainer)).admitStored

theorem State.Canonical.scribeTest (h : s.Canonical) {defect : Option (Nat × Nat)} : (Machine.scribeTest s defect).Canonical :=
  (h.runScribe.jset.jset.jset.record.stopAt.ite h.runScribe.jset.jset.jset.record.toStep).ite h

theorem Lane.Canonical.boot {c : Container} {l : LaneId} {v2 : Bool} : (ln.boot c l v2).Canonical := Lane.Canonical.load0.same

theorem State.Canonical.bootMarks (h : s.Canonical) {devs : Tri Int} {booting : List LaneId} : (Machine.bootMarks devs booting s).Canonical :=
  h.foldl (fun h => h.foldl (fun h => h.timeMark))

theorem State.Canonical.lockLanes (h : s.Canonical) : (Machine.lockLanes s).Canonical := h.drew.drew.drew.bootMarks.foldl (fun h => h.timeLock)

theorem State.Canonical.bootLane (h : s.Canonical) {c : Container} {ok : Tri Bool} {l : LaneId} : (Machine.bootLane s c ok l).Canonical :=
  h.ite (h.exclude.ite ((h.reopenLane.modLane (fun _ => Lane.Canonical.boot)).resumeSection))

theorem State.Canonical.laneBoot (h : s.Canonical) {ok : Tri Bool} : (Machine.laneBoot s ok).Canonical := by
  unfold Machine.laneBoot
  split
  · exact ((h.foldl (fun h => h.bootLane)).stopAt.ite ((h.foldl (fun h => h.bootLane)).lockLanes.toStep)).ite h
  · exact h

theorem Lane.Canonical.restore {ini : Lane} {r : Record} (hini : ini.Canonical) : (ln.restore ini r).Canonical := by
  unfold Lane.restore
  extract_lets rebuilt put glue based
  have hput : put.Canonical := (hini.same.reconstruct hini).foldl fun h => h.putKey
  have hbased : based.Canonical := (hput.withIBase hput.i).same
  exact hbased.rset.rset.rset.showForces

theorem Lane.Canonical.copyFrom {ini donor : Lane} (hini : ini.Canonical) (hd : donor.Canonical) : (ln.copyFrom ini donor).Canonical := by
  unfold Lane.copyFrom
  exact (((hini.same.withWork hd).foldl fun h => h.putBlock).adopt hd).same

theorem Lane.Canonical.advanceSafety (h : ln.Canonical) {c : Container} : (ln.advanceSafety c).Canonical := h.foldl (fun h => h.rset)

theorem State.Canonical.forcesFrom (h : s.Canonical) {fs : List (Nat × Bytes)} : (Machine.forcesFrom s fs).Canonical := h.same

theorem State.Canonical.restoreResult (h : s.Canonical) {result : Nat} {x : Option Candidate} {minority : List LaneId} :
    (Machine.restoreResult s result x minority).Canonical :=
  h.jset.record

theorem State.Canonical.restored (h : s.Canonical) : (Machine.restored s).Canonical := h.advanceHeaders.advanceTelegrams.toStep

theorem State.Canonical.startFresh (h : s.Canonical) {result : Nat} : (Machine.startFresh s result).Canonical :=
  (h.modLanes (fun h => h.same.ite h)).same.restoreResult.restored

theorem State.Canonical.settleConfig (h : s.Canonical) {c : Container} {config : Nat} : (Machine.settleConfig s c config).Canonical := by
  unfold Machine.settleConfig
  refine ((h.modLanes (fun h => h.rset.same)).endChange.ite h).ite ?_
  split
  · exact (h.modLanes (fun h => h.same)).stampCopies.putInForce
  · exact h

theorem State.Canonical.copyMinority (h : s.Canonical) {donor : LaneId} {limp : Bool} {l : LaneId} : (Machine.copyMinority donor limp s l).Canonical := by
  unfold Machine.copyMinority
  refine h.enterCause.silence.ite ?_
  dsimp only
  split
  · exact (h.enterCause.countStart.ite h.enterCause).modLane
      (fun _ => (Lane.Canonical.load0.copyFrom ((h.enterCause.countStart.ite h.enterCause).lane)).same)
  · exact h.enterCause.countStart.ite h.enterCause

theorem Lane.Canonical.iniFor {ini : Lane} {c : Container} {l : LaneId} {v2 : Bool} {config : Nat} (h : ln.iniFor c l v2 config = some ini) :
    ini.Canonical := by
  unfold Lane.iniFor at h
  split at h
  · exact Option.some.inj h ▸ .load0
  · split at h
    · split at h
      · exact Option.some.inj h ▸ .load0
      · cases h
    · cases h

theorem State.Canonical.restoreFrom (h : s.Canonical) {c : Container} {os : List (LaneId × List Candidate)} {x : Candidate} :
    (Machine.restoreFrom s c os x).Canonical := by
  unfold Machine.restoreFrom
  extract_lets good minority v2 rebuilt settled donor fixed copied power forced advanced
  have hrebuilt : rebuilt.Canonical := by
    refine h.modLanes fun {l ln} hl => ?_
    split
    · split
      · exact .restore (.iniFor ‹_›)
      · exact hl
    · exact hl
  have hcopied : copied.Canonical := hrebuilt.settleConfig.foldl fun h => h.copyMinority
  have hadvanced : advanced.Canonical := by
    refine hcopied.same.forcesFrom.modLanes fun hl => ?_
    split
    · split
      · exact hl.advanceSafety
      · exact hl
    · exact hl
  exact hadvanced.restoreResult.restored

theorem State.Canonical.stateRestore (h : s.Canonical) : (Machine.stateRestore s).Canonical := by
  unfold Machine.stateRestore
  split
  · refine .ite ?_ h
    dsimp only
    split
    · exact h.restoreFrom
    · exact h.startFresh.ite h.restoreResult.stopAt
  · exact h

theorem State.Canonical.discardState (h : s.Canonical) : (Machine.discardState s).Canonical := (h.modLanes (fun h => h.voidMarker)).startFresh

theorem State.Canonical.ringIntegration (h : s.Canonical) : (Machine.ringIntegration s).Canonical := h.toStep.ite h

theorem State.Canonical.ringTimeout (h : s.Canonical) : (Machine.ringTimeout s).Canonical := h.advanceTo.same.toStep.ite h

theorem State.Canonical.firstStart (h : s.Canonical) {c : Container} : (Machine.firstStart s c).Canonical := h.advanceTo.beforeBatch.same

theorem State.Canonical.enterRun (h : s.Canonical) {c : Container} {c1 : Nat} : (Machine.enterRun s c c1).Canonical := by
  unfold Machine.enterRun
  extract_lets t cK due three ring vote voting filled ran
  have hvoting : voting.Canonical := h.advanceTo.beforeBatch.same
  have hfilled : filled.Canonical := hvoting.ite (hvoting.modLanes fun h => h.same)
  have hran : ran.Canonical := hfilled.jset.canRun.canRun
  exact hran.cutFault.ite hran.startTests.toStep.startCycle

theorem State.Canonical.firstVotedCycle (h : s.Canonical) : (Machine.firstVotedCycle s).Canonical := by
  unfold Machine.firstVotedCycle
  split
  · refine .ite ?_ h
    split
    · exact h.enterRun
    · exact h.firstStart.enterRun
  · exact h

theorem State.Canonical.cycleStartNow (h : s.Canonical) : (Machine.cycleStartNow s).Canonical := by
  unfold Machine.cycleStartNow
  split
  · refine .ite ?_ h.cycleDue
    split
    · exact h.enterRun
    · exact h.firstStart
  · exact h

theorem State.Canonical.cycleStartAny (h : s.Canonical) : (Machine.cycleStartAny s).Canonical := h.once (fun h => h.cycleStartNow)

theorem State.Canonical.clearRing (h : s.Canonical) : (Machine.clearRing s).Canonical := h.foldl (fun h => h.jset)

theorem State.Canonical.releaseSafe (h : s.Canonical) : (Machine.releaseSafe s).Canonical := by
  unfold Machine.releaseSafe
  exact ((h.jbump.jset.saveHeaders.saveTelegrams.sendLeave.clearRing.jset.mapLanes (fun _ => Lane.Canonical.afterRelease)).foldl (fun h =>
    h.closeLane)).clearForces.toStep

end Sys2Proof.Machine
end

section
/-! The canonical form is kept: the object dictionary and its carriers. -/

namespace Sys2Proof.Machine

open Sys2Proof

variable {s : State} {ln : Lane}

/-! ## Reads (17 R437 to R442) -/

theorem State.Canonical.modBinding (h : s.Canonical) {r : Sender} {f : Binding → Binding} : (s.modBinding r f).Canonical := h.same

theorem State.Canonical.agreeCopies (h : s.Canonical) {vs : List Bytes} : (Machine.agreeCopies s vs).1.Canonical := by
  unfold Machine.agreeCopies
  split
  · exact h
  · exact h.record

theorem State.Canonical.forceEntry (h : s.Canonical) {slot sub : Nat} : (Machine.forceEntry s slot sub).1.Canonical := by
  unfold Machine.forceEntry
  dsimp only
  split
  · split
    · exact h
    · exact h.agreeCopies
  · exact h

theorem State.Canonical.laneValues (h : s.Canonical) {view : LaneId} {key len : Nat} : (Machine.laneValues s view key len).1.Canonical := by
  unfold Machine.laneValues
  dsimp only
  split
  · exact h
  · split
    · exact h
    · exact h.agreeCopies

theorem State.Canonical.vread (h : s.Canonical) {r : Sender} {e : Entry} {index sub : Nat} : (Machine.vread s r e index sub).1.Canonical := by
  unfold Machine.vread
  dsimp only
  split
  · exact h.forceEntry
  · split
    · exact h
    · split
      · exact h
      · exact h.laneValues

theorem State.Canonical.wread (h : s.Canonical) {y : Symbol} {lane : Option LaneId} {key len : Nat} : (Machine.wread s y lane key len).1.Canonical := by
  unfold Machine.wread
  dsimp only
  split
  · exact h
  · split
    · exact h
    · exact h.agreeCopies

theorem State.Canonical.readRecord (h : s.Canonical) {r : Sender} : (Machine.readRecord s r).1.Canonical := by
  unfold Machine.readRecord
  dsimp only
  split
  · dsimp only
    exact h.modBinding
  · exact h

theorem State.Canonical.readBlock (h : s.Canonical) {r : Sender} : (Machine.readBlock s r).1.Canonical := by
  unfold Machine.readBlock
  dsimp only
  split
  · exact h
  · dsimp only
    exact h.modBinding

theorem State.Canonical.readLog (h : s.Canonical) {r : Sender} : (Machine.readLog s r).1.Canonical := by
  unfold Machine.readLog
  dsimp only
  split
  · dsimp only
    exact h.modBinding
  · exact h

theorem State.Canonical.readFrequency (h : s.Canonical) {d : Nat} : (Machine.readFrequency s d).1.Canonical := by
  unfold Machine.readFrequency
  dsimp only
  split
  · exact h.drew
  · exact h

theorem State.Canonical.readCvu (h : s.Canonical) {r : Sender} {n : Nat} : (Machine.readCvu s r n).1.Canonical := by
  unfold Machine.readCvu
  split
  · split
    · split
      · exact h.same
      · exact h
    · exact h
  · exact h

theorem State.Canonical.jread (h : s.Canonical) {r : Sender} {e : Entry} {index sub : Nat} : (Machine.jread s r e index sub).1.Canonical := by
  unfold Machine.jread
  dsimp only
  split
  · exact h
  · exact h.readFrequency
  · exact h
  · exact h
  · exact h.readRecord
  · exact h.readBlock
  · exact h.readLog
  · exact h
  · exact h
  · split
    · exact h.readCvu
    · split
      · exact h.clearMonitor.ite h
      · split
        · exact h
        · exact h

theorem State.Canonical.readEntry (h : s.Canonical) {r : Sender} {t : Target} {index sub : Nat} : (Machine.readEntry s r t index sub).1.Canonical := by
  unfold Machine.readEntry
  split
  · exact h
  · exact h
  · exact h.drew
  · exact h.wread
  · split
    · exact h.jread
    · exact h.vread
    · exact h

theorem State.Canonical.readTarget (h : s.Canonical) {r : Sender} {t : Target} {index sub : Nat} : (Machine.readTarget s r t index sub).1.Canonical := by
  unfold Machine.readTarget
  split
  · exact h
  · exact h.readEntry

/-! ## Writes (17 R438 to R454) -/

theorem State.Canonical.recordSClass (h : s.Canonical) {r : Sender} {index sub : Nat} {old new : Bytes} :
    (Machine.recordSClass s r index sub old new).Canonical :=
  h.record

theorem State.Canonical.logPrivileged (h : s.Canonical) {r : Sender} {index sub : Nat} {old new : Bytes} :
    (Machine.logPrivileged s r index sub old new).Canonical :=
  h.ite (h.logEntry.ite (h.logEntry.ite h.logEntry))

theorem State.Canonical.noteWrite (h : s.Canonical) {r : Sender} {t : Target} {index sub : Nat} {d : Bytes} :
    (Machine.noteWrite s r t index sub d).Canonical := by
  unfold Machine.noteWrite
  split
  · exact h.recordSClass
  · exact h.logPrivileged
  · exact h

theorem State.Canonical.initCvu (h : s.Canonical) {r : Sender} {n poly : Nat} : (Machine.initCvu s r n poly).Canonical := h.same

theorem State.Canonical.feedCvu (h : s.Canonical) {n : Nat} {d : Bytes} : (Machine.feedCvu s n d).Canonical := by
  unfold Machine.feedCvu
  split
  · exact h.same
  · exact h

theorem State.Canonical.releaseCvu (h : s.Canonical) {n : Nat} : (Machine.releaseCvu s n).Canonical := h.same

theorem State.Canonical.effectJ (h : s.Canonical) {r : Sender} {x : Payload} {index sub : Nat} {d : Bytes} :
    (Machine.effectJ s r x index sub d).Canonical := by
  unfold Machine.effectJ
  refine (h.jset.initCvu.ite (h.releaseCvu.ite h.feedCvu)).ite
    (h.jset.armDc.ite (h.jset.armEc.ite (h.clearCrossing.ite (h.clearMonitor.ite ((h.storeKey.ite h.dropKey).ite ?_)))))
  split
  · exact h.same
  · exact h.scheduleRestart
  · exact h.clearCrossings
  · exact h.startOrDefer
  · exact h.releaseSafe
  · exact h.discardState
  · exact h.modBinding
  · exact h.writeTaiSecond
  · exact h.canRestart
  · exact h.canRestart
  · exact h.takeDelta
  · exact h.startDelta.ite (h.fixActivation.ite h.cancelDelta)
  · exact h.armRecorder
  · exact h.modBinding
  · exact h.beginFreeze.ite h.endFreeze
  · exact h.modBinding
  · exact h.clearLog
  · exact h.openAttempt
  · exact h.endSession
  · exact h.setPassword
  · exact h.removePassword
  · exact h.takeDownload
  · exact h.startFull
  · exact h.jwrite

theorem State.Canonical.batchWrite (h : s.Canonical) {w : BatchWrite} : (Machine.batchWrite s w).Canonical := h.same

theorem State.Canonical.effectV (h : s.Canonical) {r : Sender} {index sub : Nat} {d : Bytes} : (Machine.effectV s r index sub d).Canonical :=
  (h.setForceOf.ite (h.releaseForceOf.ite h.releaseAllOf)).ite h.batchWrite

theorem State.Canonical.writeEffect (h : s.Canonical) {r : Sender} {x : Payload} {t : Target} {index sub : Nat} {d : Bytes} :
    (Machine.writeEffect s r x t index sub d).Canonical := by
  unfold Machine.writeEffect
  split
  · split
    · exact h.effectJ
    · exact h.effectV
    · exact h.batchWrite
  · exact h.batchWrite
  · exact h

/-! ## SDO frames (11 R313) -/

theorem State.Canonical.sdoSend (h : s.Canonical) {ch : Nat} {b : Bytes} : (Machine.sdoSend s ch b).Canonical := h.transmit

theorem State.Canonical.sdoAbort (h : s.Canonical) {ch index sub code : Nat} : (Machine.sdoAbort s ch index sub code).Canonical := h.sdoSend

theorem State.Canonical.sdoFail (h : s.Canonical) {ch : Nat} {x : SdoXfer} {code : Nat} : (Machine.sdoFail s ch x code).Canonical :=
  h.dropSdo.sdoAbort

theorem State.Canonical.keepSdo (h : s.Canonical) {ch : Nat} {x : SdoXfer} : (Machine.keepSdo s ch x).Canonical := h.same

theorem State.Canonical.sdoUploaded (h : s.Canonical) {ch : Nat} {x : SdoXfer} {v : Bytes} : (Machine.sdoUploaded s ch x v).Canonical := by
  unfold Machine.sdoUploaded
  dsimp only
  split
  · exact h.keepSdo.sdoSend
  · exact h.dropSdo.sdoSend.ite h.keepSdo.sdoSend

theorem State.Canonical.sdoDownloaded (h : s.Canonical) {ch : Nat} {x : SdoXfer} : (Machine.sdoDownloaded s ch x).Canonical := h.dropSdo.sdoSend

theorem State.Canonical.sdoAnswer (h : s.Canonical) {r : Sender} {b : Bytes} : (Machine.sdoAnswer s r b).Canonical := by
  unfold Machine.sdoAnswer
  split
  · exact h.ite (h.sdoFail.ite (h.sdoUploaded.ite h.sdoDownloaded))
  · exact h

/-! ## The dictionary server (chapter 17) -/

theorem State.Canonical.sendResponse (h : s.Canonical) {r : Sender} {b : Bytes} : (Machine.sendResponse s r b).Canonical := by
  unfold Machine.sendResponse
  split
  · exact h.same
  · exact h.sdoAnswer
  · exact h.sendDatagram.ite h
  · exact h.sendOverRing

theorem State.Canonical.countPending (h : s.Canonical) {r : Sender} : (Machine.countPending s r).Canonical := h.same.ite h

theorem State.Canonical.answer (h : s.Canonical) {q : Request} {code : Nat} : (Machine.answer s q code).Canonical := h.countPending.sendResponse

theorem State.Canonical.keepResponse (h : s.Canonical) {q : Request} {b : Bytes} : (Machine.keepResponse s q b).Canonical := h.same

theorem State.Canonical.landed (h : s.Canonical) {q : Request} : (Machine.landed s q).Canonical := h.same

theorem State.Canonical.turnAway (h : s.Canonical) {q : Request} {code : Nat} : (Machine.turnAway s q code).Canonical := h.landed.sendResponse

theorem State.Canonical.finish (h : s.Canonical) {q : Request} {o : Except Nat Bytes} : (Machine.finish s q o).Canonical :=
  (h.landed.keepResponse.ite h.landed).sendResponse

theorem State.Canonical.hearClient (h : s.Canonical) {r : Sender} : (Machine.hearClient s r).Canonical :=
  ((h.modBinding.ite h).same.ite (h.modBinding.ite h)).same.ite ((h.modBinding.ite h).same.ite (h.modBinding.ite h))

theorem State.Canonical.bindClient (h : s.Canonical) {r : Sender} : (Machine.bindClient s r).Canonical := h.modBinding.hearClient

theorem State.Canonical.admitRequest (h : s.Canonical) {q : Request} : (Machine.admitRequest s q).1.Canonical := by
  unfold Machine.admitRequest
  dsimp only
  split
  · exact h.answer
  · split
    · exact h.jbump.answer
    · split
      · split
        · exact h.hearClient.jbump
        · split
          · split
            · exact h.hearClient.jbump.countPending.sendResponse
            · exact h.hearClient.jbump.answer
          · split
            · exact h.hearClient.jbump.answer
            · exact h.hearClient.countPending.same
      · split
        · exact h.jbump
        · split
          · split
            · exact h.jbump.countPending.sendResponse
            · exact h.jbump.answer
          · split
            · exact h.jbump.answer
            · exact h.countPending.same

theorem State.Canonical.addHistory (h : s.Canonical) {h0 : HistRec} : (Machine.addHistory s h0).Canonical := h.same.jadd

theorem State.Canonical.addWo (h : s.Canonical) {w : WoWrite} : (Machine.addWo s w).Canonical := h.same.jadd

theorem State.Canonical.noteHistory (h : s.Canonical) {q : Request} {t : Target} {d : Bytes} {abort tick : Nat} :
    (Machine.noteHistory s q t d abort tick).Canonical := by
  unfold Machine.noteHistory
  dsimp only
  split
  · exact h.addWo
  · exact h
  · exact h
  · exact h.addHistory

theorem State.Canonical.refuse (h : s.Canonical) {q : Request} {t : Target} {d : Bytes} {code : Nat} : (Machine.refuse s q t d code).Canonical := by
  unfold Machine.refuse
  exact (h.openAttempt.ite h).noteHistory.finish

theorem State.Canonical.carryOut (h : s.Canonical) {q : Request} {x : Payload} {t : Target} {d : Bytes} {tick : Nat} :
    (Machine.carryOut s q x t d tick).Canonical :=
  h.noteHistory.noteWrite.finish.writeEffect.ite h.noteHistory.noteWrite.writeEffect.finish

theorem State.Canonical.holdWrite (h : s.Canonical) {q : Request} {t : Target} {d : Bytes} : (Machine.holdWrite s q t d).Canonical := by
  unfold Machine.holdWrite
  dsimp only
  split
  · exact h.beginGauge
  · exact h.same.ite h.refuse
  · exact h.refuse

theorem State.Canonical.judgeWrite (h : s.Canonical) {q : Request} {x : Payload} {t : Target} {d : Bytes} : (Machine.judgeWrite s q x t d).Canonical :=
  h.finish.ite (h.refuse.ite (h.refuse.ite (h.refuse.ite (h.jbump.recordUnlogged.refuse.ite (h.holdWrite.ite h.carryOut)))))

theorem State.Canonical.dropReceiving (h : s.Canonical) : (Machine.dropReceiving s).Canonical := h.same.ite h

theorem State.Canonical.dropXfer (h : s.Canonical) {client : Nat} : (Machine.dropXfer s client).Canonical := by
  unfold Machine.dropXfer
  split
  · exact h.same.dropReceiving.ite h.same
  · exact h

theorem State.Canonical.putXfer (h : s.Canonical) {q : Request} {data : Bytes} : (Machine.putXfer s q data).Canonical := h.same.same.ite h.same

theorem State.Canonical.closeXfer (h : s.Canonical) {q : Request} {x : Payload} {t : Target} {d : Bytes} : (Machine.closeXfer s q x t d).Canonical :=
  h.same.judgeWrite.dropReceiving.ite h.same.judgeWrite

theorem State.Canonical.writeSegment (h : s.Canonical) {q : Request} {x : Payload} {t : Target} : (Machine.writeSegment s q x t).Canonical :=
  h.finish.ite ((h.dropXfer.ite h).dropXfer.finish.ite ((h.dropXfer.ite h).putXfer.closeXfer.ite ((h.dropXfer.ite h).putXfer.finish)))

theorem State.Canonical.serveCapture (h : s.Canonical) {q : Request} {v : Bytes} : (Machine.serveCapture s q v).Canonical := by
  unfold Machine.serveCapture
  exact h.same.finish

theorem State.Canonical.readSegment (h : s.Canonical) {q : Request} {t : Target} : (Machine.readSegment s q t).Canonical := by
  unfold Machine.readSegment
  refine .ite (h.finish.ite ?_) ?_
  · have hs1 : (Machine.readTarget s q.sender t q.index q.sub).1.Canonical := h.readTarget
    generalize Machine.readTarget s q.sender t q.index q.sub = r at hs1 ⊢
    obtain ⟨t, b⟩ := r
    cases b
    · exact hs1.finish
    · exact hs1.serveCapture
  · split
    · exact h.serveCapture.ite h.finish
    · exact h.finish

theorem State.Canonical.executeRead (h : s.Canonical) {q : Request} {t : Target} : (Machine.executeRead s q t).Canonical :=
  h.finish.ite (h.finish.ite (h.readSegment.ite h.readTarget.finish))

theorem State.Canonical.executeWrite (h : s.Canonical) {q : Request} {x : Payload} {t : Target} : (Machine.executeWrite s q x t).Canonical :=
  h.finish.ite (h.finish.ite (h.writeSegment.ite (h.finish.ite h.judgeWrite)))

theorem State.Canonical.execute (h : s.Canonical) {q : Request} {x : Payload} : (Machine.execute s q x).Canonical := by
  unfold Machine.execute
  refine h.turnAway.ite (h.jbump.turnAway.ite ?_)
  dsimp only
  split
  · exact h.bindClient.finish
  · exact h.bindClient.executeRead.ite h.bindClient.executeWrite

theorem State.Canonical.nextHeld (h : s.Canonical) : (Machine.nextHeld s).Canonical := by
  unfold Machine.nextHeld
  split
  · exact h.same.beginGauge
  · exact h

theorem State.Canonical.verdictEntry (h : s.Canonical) {r : Sender} {index sub val tick : Nat} :
    (Machine.verdictEntry s r index sub val tick).Canonical := by
  unfold Machine.verdictEntry
  dsimp only
  split
  · exact h.reportGauge.finish.nextHeld
  · exact h.reportGauge.noteHistory.finish.nextHeld.ite
      (h.reportGauge.noteHistory.finish.nextHeld.ite (h.reportGauge.noteHistory.finish.nextHeld.ite h.reportGauge.carryOut.nextHeld))

theorem State.Canonical.gaugeVerdict (h : s.Canonical) : (Machine.gaugeVerdict s).Canonical := by
  unfold Machine.gaugeVerdict
  split
  · exact h.verdictEntry
  · exact h.reportGauge.storeContainer.ite h.reportGauge
  · exact h.reportGauge.refuseDelta.ite h.reportGauge.deltaAdmitted
  · exact h

theorem State.Canonical.xferTimeout (h : s.Canonical) {client : Nat} : (Machine.xferTimeout s client).Canonical := by
  unfold Machine.xferTimeout
  split
  · exact h.advanceTo.dropXfer
  · exact h

theorem State.Canonical.captureTimeout (h : s.Canonical) {client : Nat} : (Machine.captureTimeout s client).Canonical := by
  unfold Machine.captureTimeout
  split
  · exact h.advanceTo.same
  · exact h

theorem State.Canonical.bindingExpiry (h : s.Canonical) {client : Nat} : (Machine.bindingExpiry s client).Canonical := by
  unfold Machine.bindingExpiry
  split
  · exact h.ite h.advanceTo.same
  · exact h

theorem State.Canonical.historyExpiry (h : s.Canonical) {client txn : Nat} : (Machine.historyExpiry s client txn).Canonical := by
  unfold Machine.historyExpiry
  dsimp only
  split
  · exact h.advanceTo.same
  · exact h

/-! ## The SDO server (11 R313) -/

theorem State.Canonical.arriveRequest (h : s.Canonical) {q : Request} : (Machine.arriveRequest s q).Canonical := by
  unfold Machine.arriveRequest
  have hs0 : (Machine.admitRequest s q).1.Canonical := h.admitRequest
  generalize Machine.admitRequest s q = r at hs0 ⊢
  obtain ⟨t, b⟩ := r
  cases b
  · exact hs0
  · exact hs0.same

theorem State.Canonical.nextTxn (h : s.Canonical) {ch : Nat} : (Machine.nextTxn s ch).Canonical := h.same

theorem State.Canonical.sdoJudge (h : s.Canonical) {ch : Nat} {x : SdoXfer} : (Machine.sdoJudge s ch x).Canonical := h.keepSdo.nextTxn.arriveRequest

theorem State.Canonical.sdoBegin (h : s.Canonical) {ch : Nat} {upload : Bool} {index sub : Nat} {expedited : Option Bytes} :
    (Machine.sdoBegin s ch upload index sub expedited).Canonical := by
  unfold Machine.sdoBegin
  refine h.dropSdo.sdoJudge.ite ?_
  split
  · exact h.dropSdo.sdoJudge
  · exact h.dropSdo.keepSdo.sdoSend

theorem State.Canonical.sdoDownSegment (h : s.Canonical) {ch : Nat} {x : SdoXfer} {toggle : Bool} {d : Bytes} {last : Bool} :
    (Machine.sdoDownSegment s ch x toggle d last).Canonical :=
  h.sdoFail.ite (h.sdoJudge.ite h.keepSdo.sdoSend)

theorem State.Canonical.sdoUpSegment (h : s.Canonical) {ch : Nat} {x : SdoXfer} {toggle : Bool} : (Machine.sdoUpSegment s ch x toggle).Canonical :=
  h.sdoFail.ite ((h.dropSdo.ite h.keepSdo).sdoSend)

theorem State.Canonical.sdoInitiate (h : s.Canonical) {ch : Nat} {upload : Bool} {index sub : Nat} {expedited : Option Bytes} :
    (Machine.sdoInitiate s ch upload index sub expedited).Canonical :=
  h.sdoBegin.ite h

theorem State.Canonical.sdoStray (h : s.Canonical) {ch : Nat} : (Machine.sdoStray s ch).Canonical := by
  unfold Machine.sdoStray
  split
  · exact h.sdoFail
  · exact h.sdoAbort

theorem State.Canonical.sdoSegment (h : s.Canonical) {ch : Nat} {d : Bytes} {last : Bool} : (Machine.sdoSegment s ch d last).Canonical := by
  unfold Machine.sdoSegment
  refine .ite ?_ h
  split
  · exact h.sdoUpSegment.ite h.sdoDownSegment
  · exact h.sdoStray

theorem State.Canonical.sdoTimeout (h : s.Canonical) {ch : Nat} : (Machine.sdoTimeout s ch).Canonical := by
  unfold Machine.sdoTimeout
  split
  · exact h.advanceTo.sdoFail.ite h
  · exact h

theorem State.Canonical.sdoSendBlock (h : s.Canonical) {ch : Nat} {x : SdoXfer} {b : SdoBlock} : (Machine.sdoSendBlock s ch x b).Canonical :=
  h.keepSdo.foldl (fun h => h.sdoSend)

theorem State.Canonical.sdoAckBlock (h : s.Canonical) {ch : Nat} {x : SdoXfer} {b : SdoBlock} {seq size : Nat} :
    (Machine.sdoAckBlock s ch x b seq size).Canonical :=
  h.sdoFail.ite (h.sdoFail.ite (h.keepSdo.sdoSend.ite h.sdoSendBlock))

theorem State.Canonical.sdoTakeBlock (h : s.Canonical) {ch : Nat} {x : SdoXfer} {b : SdoBlock} {seq : Nat} {last : Bool} {d : Bytes} :
    (Machine.sdoTakeBlock s ch x b seq last d).Canonical :=
  h.sdoFail.ite (h.keepSdo.sdoSend.ite h.keepSdo)

theorem State.Canonical.sdoEndBlock (h : s.Canonical) {ch : Nat} {x : SdoXfer} {b : SdoBlock} {n crc : Nat} :
    (Machine.sdoEndBlock s ch x b n crc).Canonical :=
  h.sdoFail.ite h.sdoJudge

theorem State.Canonical.sdoBlockFrame (h : s.Canonical) {ch : Nat} {x : SdoXfer} {b : SdoBlock} {f : Nat → Nat} {d : Bytes} :
    (Machine.sdoBlockFrame s ch x b f d).Canonical := by
  unfold Machine.sdoBlockFrame
  refine ((h.sdoEndBlock.ite h.sdoFail).ite h.sdoTakeBlock).ite (h.sdoFail.ite ?_)
  split
  · exact h.dropSdo.ite h.sdoFail
  · exact h.sdoFail.ite h.sdoAckBlock
  · exact h.sdoSendBlock.ite h.sdoFail
  · exact h.sdoFail

theorem State.Canonical.sdoBlockDown (h : s.Canonical) {ch index sub : Nat} {crc : Bool} : (Machine.sdoBlockDown s ch index sub crc).Canonical :=
  h.dropSdo.keepSdo.sdoSend

theorem State.Canonical.sdoBlockUp (h : s.Canonical) {ch index sub size : Nat} {crc : Bool} : (Machine.sdoBlockUp s ch index sub size crc).Canonical :=
  h.dropSdo.sdoAbort.ite h.dropSdo.sdoJudge

theorem State.Canonical.sdoCommand (h : s.Canonical) {ch : Nat} {f : Nat → Nat} {d : Bytes} : (Machine.sdoCommand s ch f d).Canonical := by
  unfold Machine.sdoCommand
  dsimp only
  split
  · split
    · exact h.sdoDownSegment
    · exact h.sdoStray
  · exact h.sdoBegin
  · exact h.sdoBegin
  · split
    · exact h.sdoUpSegment
    · exact h.sdoStray
  · exact h.sdoBlockUp.ite h.sdoStray
  · exact h.sdoBlockDown.ite h.sdoStray
  · exact h.sdoStray

theorem State.Canonical.sdoReceive (h : s.Canonical) {ch : Nat} {bytes : Bytes} : (Machine.sdoReceive s ch bytes).Canonical := by
  unfold Machine.sdoReceive
  dsimp only
  split
  · split
    · exact h.dropSdo.ite (h.sdoCommand.ite h.sdoBlockFrame)
    · exact h.dropSdo.ite h.sdoCommand
  · exact h.ite h.sdoCommand

theorem State.Canonical.canFrame (h : s.Canonical) {c : CanCtl} {f : CFrame} : (Machine.canFrame s c f).Canonical := by
  unfold Machine.canFrame
  split
  · exact h.sdoReceive
  · exact h.canFrameReceived

/-! ## The carriers of requests (11 R313 to R316) -/

theorem State.Canonical.carrierTakes (h : s.Canonical) {r : Sender} : (Machine.carrierTakes s r).1.Canonical := by
  unfold Machine.carrierTakes
  dsimp only
  split
  · exact h
  · split
    · split
      · exact h
      · split
        · exact h.same.jbump
        · exact h
    · exact h
    · split
      · exact h
      · split
        · exact h.jbump.ecnDiscard
        · exact h.jbump
    · split
      · exact h
      · split
        · exact h.jbump
        · exact h

theorem State.Canonical.runTick (h : s.Canonical) {extra : List (Request × Payload)} : (Machine.runTick s extra).Canonical :=
  h.advanceTo.startDistribution.same.foldl (fun h => h.execute)

theorem State.Canonical.junctionTick (h : s.Canonical) : (Machine.junctionTick s).Canonical := h.runTick

theorem State.Canonical.immediate (h : s.Canonical) {q : Request} {x : Payload} : (Machine.immediate s q x).Canonical := by
  unfold Machine.immediate
  have htaken : (Machine.carrierTakes s q.sender).1.Canonical := h.carrierTakes
  generalize Machine.carrierTakes s q.sender = r at htaken ⊢
  obtain ⟨t, b⟩ := r
  cases b with
  | false => exact htaken
  | true =>
    have hadmitted : (Machine.admitRequest t q).1.Canonical := State.Canonical.admitRequest htaken
    dsimp only
    generalize Machine.admitRequest t q = r at hadmitted ⊢
    obtain ⟨u, b⟩ := r
    cases b with
    | false => exact hadmitted
    | true => exact State.Canonical.runTick hadmitted

theorem State.Canonical.dictRead (h : s.Canonical) {r : Sender} {index sub : Nat} : (Machine.dictRead s r index sub).Canonical := h.immediate

theorem State.Canonical.dictWrite (h : s.Canonical) {r : Sender} {index sub : Nat} {d : Bytes} : (Machine.dictWrite s r index sub d).Canonical :=
  h.immediate

theorem State.Canonical.arriveBody (h : s.Canonical) {r : Sender} {b : Bytes} : (Machine.arriveBody s r b).Canonical := by
  unfold Machine.arriveBody
  split
  · exact h.arriveRequest
  · exact h.jbump

theorem State.Canonical.clocked (h : s.Canonical) : (Machine.clocked s).Canonical := h.same

theorem State.Canonical.shiftOut (h : s.Canonical) {n : Nat} {b : Bytes} : (Machine.shiftOut s n b).Canonical := h.clocked.transmit

theorem State.Canonical.hostRequest (h : s.Canonical) {b : Bytes} : (Machine.hostRequest s b).Canonical := by
  unfold Machine.hostRequest
  refine h.ite ?_
  dsimp only
  have hout : (Machine.shiftOut s b.length []).Canonical := h.shiftOut
  generalize Machine.shiftOut s b.length [] = out at hout ⊢
  split
  · exact hout.same.jbump
  · have htaken : (Machine.carrierTakes out hostSender).1.Canonical := hout.carrierTakes
    generalize Machine.carrierTakes out hostSender = r at htaken ⊢
    obtain ⟨t, b⟩ := r
    cases b
    · exact htaken
    · exact State.Canonical.arriveBody htaken

theorem State.Canonical.readResponse (h : s.Canonical) {clocked : Nat} : (Machine.readResponse s clocked).Canonical :=
  h.ite (h.shiftOut.same.ite h.shiftOut)

theorem State.Canonical.hostStatus (h : s.Canonical) {clocked : Nat} : (Machine.hostStatus s clocked).Canonical :=
  h.ite (h.shiftOut.same.ite h.shiftOut)

theorem State.Canonical.unknownCommand (h : s.Canonical) {cmd : Byte} : (Machine.unknownCommand s cmd).Canonical :=
  h.hostRequest.ite (h.readResponse.ite (h.hostStatus.ite (h.ite h.shiftOut.jbump)))

theorem State.Canonical.serveBody (h : s.Canonical) {r : Sender} {b : Bytes} : (Machine.serveBody s r b).Canonical := by
  unfold Machine.serveBody
  have hs0 : (Machine.carrierTakes s r).1.Canonical := h.carrierTakes
  generalize Machine.carrierTakes s r = r at hs0 ⊢
  obtain ⟨t, b⟩ := r
  cases b
  · exact hs0
  · exact hs0.arriveBody

theorem State.Canonical.ecnDatagram (h : s.Canonical) {r : Sender} {port : Nat} {b : Bytes} : (Machine.ecnDatagram s r port b).Canonical := by
  unfold Machine.ecnDatagram
  refine h.ite (h.jbump.ecnDiscard.ite (h.jbump.ite ?_))
  split
  · exact h.jbump.takeTelegramFrame
  · exact h.serveBody.ite h.jbump.ecnDiscard

theorem State.Canonical.dictionaryDatagram (h : s.Canonical) {r : Sender} {port : Nat} {b : Bytes} :
    (Machine.dictionaryDatagram s r port b).Canonical := by
  unfold Machine.dictionaryDatagram
  split
  · exact h.ecnDatagram
  · exact h.serveBody.ite h
  · exact h

theorem State.Canonical.takeService (h : s.Canonical) {p : RingPort} {f : RFrame} : (Machine.takeService s p f).Canonical := by
  unfold Machine.takeService
  split
  · exact h.dictionaryDatagram
  · exact h

theorem State.Canonical.bestEffortIpv4 (h : s.Canonical) {p : RingPort} {f : RFrame} : (Machine.bestEffortIpv4 s p f).Canonical :=
  h.arriveBest.take (fun h => h.takeService)

theorem State.Canonical.cvuTimeout (h : s.Canonical) {n : Nat} : (Machine.cvuTimeout s n).Canonical := by
  unfold Machine.cvuTimeout
  split
  · exact h.advanceTo.releaseCvu.ite h
  · exact h

theorem State.Canonical.resetBy (h : s.Canonical) {src : ResetSource} : (Machine.resetBy s src).Canonical := by
  unfold Machine.resetBy
  split
  · exact h.powerOn
  · exact h.restartEffect
  · exact h.resetModule.ite h
  · exact h.jbump.resetModule.ite h
  · exact h.resetModule.ite h

/-! ## Triggers in their order (02 R36 to R41) -/

theorem State.Canonical.turn (h : s.Canonical) {t i : Nat} : (Machine.turn t s i).Canonical := h.cycleStartNow.markEarly.ite h.fireInTurn

theorem State.Canonical.fireBefore (h : s.Canonical) {t n : Nat} : (Machine.fireBefore s t n).Canonical := h.foldl (fun h => h.turn)

theorem State.Canonical.entryCommand {i act : Nat} {f : State → State} (h : s.Canonical) (hf : ∀ {s : State}, s.Canonical → (f s).Canonical) :
    (Machine.entryCommand s i act f).Canonical := by
  unfold Machine.entryCommand
  refine h.once (fun h' => ?_)
  split
  · exact (h'.advanceTo.fireBefore.once (fun h' => hf h')).ite h'
  · exact h'

theorem State.Canonical.ringTransmitSlot (h : s.Canonical) {i : Nat} : (Machine.ringTransmitSlot s i).Canonical :=
  h.entryCommand (fun h => h.ringSlotDue)

theorem State.Canonical.ringReceiveWindow (h : s.Canonical) {i : Nat} {opens : Bool} : (Machine.ringReceiveWindow s i opens).Canonical :=
  (h.entryCommand (fun h => h.windowDue)).ite h.rxWindowEnds

theorem State.Canonical.ecnTransmit (h : s.Canonical) {i : Nat} : (Machine.ecnTransmit s i).Canonical := h.entryCommand (fun h => h.ecnDue)

theorem State.Canonical.userEventTrigger (h : s.Canonical) {i : Nat} : (Machine.userEventTrigger s i).Canonical :=
  h.entryCommand (fun h => h.userEventDue)

theorem State.Canonical.bestEffortWindow (h : s.Canonical) {p : RingPort} {i : Nat} : (Machine.bestEffortWindow s p i).Canonical :=
  h.entryCommand (fun h => h.bestWindowDue)

theorem State.Canonical.syncSlot (h : s.Canonical) {i : Nat} : (Machine.syncSlot s i).Canonical := h.entryCommand (fun h => h.syncDue)

theorem State.Canonical.syncReceiveWindow (h : s.Canonical) {i : Nat} {opens : Bool} : (Machine.syncReceiveWindow s i opens).Canonical :=
  (h.entryCommand (fun h => h.syncWindowDue)).ite h.syncWindowEnds

theorem State.Canonical.directCompareFire (h : s.Canonical) {n : Nat} : (Machine.directCompareFire s n).Canonical := by
  unfold Machine.directCompareFire
  refine h.once (fun h' => ?_)
  split
  · exact h'.advanceTo.fireBefore.fireDirect.once (fun h => h.directCompareDue)
  · exact h'

theorem State.Canonical.epochCompareFire (h : s.Canonical) {n : Nat} : (Machine.epochCompareFire s n).Canonical := by
  unfold Machine.epochCompareFire
  refine h.once (fun h' => ?_)
  split
  · exact h'.advanceTo.fireBefore.fireDirect.fireEpoch.once (fun h => h.epochCompareDue)
  · exact h'

theorem State.Canonical.ppsOut (h : s.Canonical) {entry : Option Nat} : (Machine.ppsOut s entry).Canonical := by
  unfold Machine.ppsOut
  split
  · exact h.entryCommand (fun h => h.ppsEntryDue)
  · exact h.epochCompareFire.ite h

/-! ## Domains and flush handshakes (15 R405 to R409) -/

theorem State.Canonical.arriveFar (h : s.Canonical) {at_ : Nat} {x2 : Instr} : (Machine.arriveFar s at_ x2).Canonical := by
  unfold Machine.arriveFar
  split
  · exact h.vectorReceived
  · exact h.forwardedVector
  · exact h.stateTransferBlock
  · exact h.takeMark
  · exact h.cycleStartAny
  · exact h.ppsInEdge
  · exact h.takeTick
  · exact h.acceptData
  · exact h.takeSync
  · exact h.takeColdstart
  · exact h.takeNotice
  · exact h.takeLeave
  · exact h.takeService
  · exact h.takeQuery
  · exact h.takeAnswer
  · exact h.judgeAnnouncement
  · exact h.telegramReceived
  · exact h.arpRequest
  · exact h.arpReply
  · exact h.icmpEchoRequest
  · exact h.dictionaryDatagram
  · exact h.ptpMessage
  · exact h.canFrame
  · exact h.heartbeatReceived
  · exact h.nmtStart
  · exact h.nmtStop
  · exact h.nmtPreOp
  · exact h.nmtResetComm
  · exact h.nmtResetNode
  · exact h.sdoInitiate
  · exact h.sdoSegment
  · exact h.hostRequest
  · exact h

theorem State.Canonical.portLost (h : s.Canonical) {x : Nat} {c : Instr} : (Machine.portLost x c s).Canonical := by
  unfold Machine.portLost
  refine h.jbump.ite ?_
  split
  · exact h.jbump
  · exact h.jbump
  · exact h.jbump
  · exact h.jbump
  · exact h.jbump
  · exact h.jbump.ite h
  · exact h

theorem State.Canonical.crossing (h : s.Canonical) {x n : Nat} {c : Instr} : (Machine.crossing s x n c).Canonical :=
  h.carry (fun h => h.portLost) (fun h => h.arriveFar)

theorem State.Canonical.cycleCrossing (h : s.Canonical) : (Machine.cycleCrossing s).Canonical := h.raiseEvent (fun h => h.cycleStartAny)

theorem State.Canonical.loseDomain (h : s.Canonical) {d : Nat} : (Machine.loseDomain s d).Canonical := h.same.jset.ite h

theorem State.Canonical.takeFrame (h : s.Canonical) {l : LaneId} {x2 : FieldFrame} : (Machine.takeFrame s l x2).Canonical := by
  unfold Machine.takeFrame
  split
  · exact h.latchSection
  · exact h.markConversion
  · exact h.elim h.applyOutputs

theorem State.Canonical.takeReport (h : s.Canonical) {l : LaneId} {x2 : FieldReport} : (Machine.takeReport s l x2).Canonical := by
  unfold Machine.takeReport
  split
  · exact h.takeSampled
  · exact h.takeInput
  · exact h.takeEntry
  · exact h.takeLine

theorem State.Canonical.arriveItem (h : s.Canonical) {x1 : XItem} : (Machine.arriveItem s x1).Canonical := by
  unfold Machine.arriveItem
  split
  · exact h.arriveFar
  · exact h.takeTrigger
  · exact h.takeRate.ite h.exclude
  · exact h.emit
  · exact h.takeSubmission.ite h
  · exact h.takeImage
  · exact h.takeFrame
  · exact h.takeReport
  · exact h.takeCorrection
  · exact h.setEc.ite h.setDc
  · exact h

theorem State.Canonical.deliver (h : s.Canonical) {x : Nat} {h0 : XItem × Nat} : (Machine.deliver x s h0).Canonical := h.through.arriveItem

theorem State.Canonical.resume (h : s.Canonical) {x : Nat} : (Machine.resume s x).Canonical := (h.setCrossing.foldl (fun h => h.deliver)).ite h

theorem State.Canonical.completeFlush (h : s.Canonical) {x : Nat} : (Machine.completeFlush s x).Canonical := by
  unfold Machine.completeFlush
  split
  · exact h.handshake.ite h
  · exact h

theorem State.Canonical.runDomain (h : s.Canonical) {d : Nat} : (Machine.runDomain s d).Canonical :=
  ((h.same.foldl (fun h => h.completeFlush.resume)).foldl (fun h => h.followCounts)).ite h

theorem State.Canonical.stallCrossing (h : s.Canonical) {x : Nat} : (Machine.stallCrossing s x).Canonical := h.setCrossing.jbump.ite h

theorem State.Canonical.flushCrossing (h : s.Canonical) {x : Nat} {src dst : Bool} : (Machine.flushCrossing s x src dst).Canonical :=
  (h.handshake.resume.ite (h.setCrossing.ite h)).ite h

end Sys2Proof.Machine
end

section
/-! Every command and every step keeps the canonical form of memory. -/

namespace Sys2Proof.Machine

open Sys2Proof

variable {s : State}

/-- Every command leads on, to a state as canonical as it found. -/
theorem exec_canonical (h : s.Canonical) (i : Instr) : ∃ t, exec i s = .next t ∧ t.Canonical := by
  cases i with
  | bLd | ldn | bAnd | andn | bOr | orn | bXor | xorn => exact ⟨_, rfl, h.serzel (.bitLogic ..)⟩
  | bSt | stn => exact ⟨_, rfl, h.serzel (.bitStore ..)⟩
  | bSet | rst => exact ⟨_, rfl, h.serzel (.bitStoreIf ..)⟩
  | bNot => exact ⟨_, rfl, h.serzel (.registers _)⟩
  | andBracket | orBracket | xorBracket => exact ⟨_, rfl, h.serzel (.bracketOpen ..)⟩
  | bracketClose => exact ⟨_, rfl, h.serzel .bracketClose⟩
  | edgr | edgf => exact ⟨_, rfl, h.serzel (.edge ..)⟩
  | ld8 | ld16 | ld32 | ld64 | lds8 | lds16 | lds32 => exact ⟨_, rfl, h.serzel (.loadWord ..)⟩
  | st8 | st16 | st32 | st64 => exact ⟨_, rfl, h.serzel (.storeWord ..)⟩
  | intAdd | intSub | intNeg | intAbs | intMin | intMax | intLimit | intMul | intDiv | intMod => exact ⟨_, rfl, h.serzel (.intOp ..)⟩
  | uintAdd | uintSub | uintMin | uintMax | uintLimit | uintMul | uintDiv | uintMod => exact ⟨_, rfl, h.serzel (.uintOp ..)⟩
  | logicAnd | logicOr | logicXor | logicNot | shl | shr | sar | rol | ror => exact ⟨_, rfl, h.serzel (.logicOp ..)⟩
  | cmpsEq | cmpsNe | cmpsLt | cmpsLe | cmpsGt | cmpsGe | cmpuEq | cmpuNe | cmpuLt | cmpuLe | cmpuGt | cmpuGe
      => exact ⟨_, rfl, h.serzel (.compareOp ..)⟩
  | realAdd | realSub | realMul | realDiv | realSqrt | realNeg | realAbs | realMin | realMax => exact ⟨_, rfl, h.serzel (.realOp ..)⟩
  | cmprEq | cmprNe | cmprLt | cmprLe | cmprGt | cmprGe => exact ⟨_, rfl, h.serzel (.compareReal ..)⟩
  | itof32 | itof64 | utof32 | utof64 => exact ⟨_, rfl, h.serzel (.intToReal ..)⟩
  | f32toi | f64toi | f32trunc | f64trunc | f32tou | f64tou => exact ⟨_, rfl, h.serzel (.realToInt ..)⟩
  | f32tof64 | f64tof32 => exact ⟨_, rfl, h.serzel (.realToReal ..)⟩
  | snarrow | unarrow => exact ⟨_, rfl, h.serzel (.narrowOp ..)⟩
  | mov => exact ⟨_, rfl, h.serzel (.movOp ..)⟩
  | swap | ba2w => exact ⟨_, rfl, h.serzel (.registers _)⟩
  | w2ba => exact ⟨_, rfl, h.serzel (.w2baOp ..)⟩
  | xli | xadd | xfrom => exact ⟨_, rfl, h.serzel (.indexOp ..)⟩
  | xto => exact ⟨_, rfl, h.serzel (.registers _)⟩
  | xshl => exact ⟨_, rfl, h.serzel (.indexOp ..)⟩
  | crci => exact ⟨_, rfl, h.serzel (.crcInit ..)⟩
  | crcb | crch | crcw => exact ⟨_, rfl, h.serzel (.crcFeedOp ..)⟩
  | crcr => exact ⟨_, rfl, h.serzel (.crcRead ..)⟩
  | pubFlow | pubTelegram => exact ⟨_, rfl, h.serzel (.publishOp ..)⟩
  | jmp => exact ⟨_, rfl, h.serzel (.jumpTo ..)⟩
  | jmpc => exact ⟨_, rfl, h.serzel (.jumpIf (fun x => x.en.ba) _)⟩
  | jmpcn => exact ⟨_, rfl, h.serzel (.jumpIf (fun x => !x.en.ba) _)⟩
  | cal => exact ⟨_, rfl, h.serzel (.callTo ..)⟩
  | calcn => exact ⟨_, rfl, h.serzel (.callIf (fun x => !x.en.ba) _)⟩
  | ret => exact ⟨_, rfl, h.serzel .retOp⟩
  | loop => exact ⟨_, rfl, h.serzel (.loopOp ..)⟩
  | ton | tof | tp | tonm => exact ⟨_, rfl, h.serzel (.timerOp ..)⟩
  | ctu | ctd | ctud => exact ⟨_, rfl, h.serzel (.counterOp ..)⟩
  | undefinedEncoding => exact ⟨_, rfl, h.serzel .undefinedEncoding⟩
  | sample => exact ⟨_, rfl, h.sample⟩
  | converterStart => exact ⟨_, rfl, h.converterStart⟩
  | conversionResult => exact ⟨_, rfl, h.conversionResult⟩
  | cycleStart => exact ⟨_, rfl, h.cycleCrossing⟩
  | vectorReceived => exact ⟨_, rfl, h.crossing⟩
  | vectorDeadline => exact ⟨_, rfl, h.vectorDeadline⟩
  | forwardedVector => exact ⟨_, rfl, h.crossing⟩
  | exchangeComplete => exact ⟨_, rfl, h.exchangeComplete⟩
  | linkWaitEnd => exact ⟨_, rfl, h.linkWaitEnd⟩
  | vote => exact ⟨_, rfl, h.vote⟩
  | dovetailVote => exact ⟨_, rfl, h.dovetailVote⟩
  | releaseDeadline => exact ⟨_, rfl, h.releaseDeadline⟩
  | outputApply => exact ⟨_, rfl, h.outputApply⟩
  | engineFault => exact ⟨_, rfl, h.engineFault⟩
  | channelQuiet => exact ⟨_, rfl, h.channelQuiet⟩
  | sectionAlarm => exact ⟨_, rfl, h.sectionAlarm⟩
  | limpTimerExpiry => exact ⟨_, rfl, h.limpTimerExpiry⟩
  | reintegrateLane => exact ⟨_, rfl, h.dictWrite⟩
  | automaticReintegrationStart => exact ⟨_, rfl, h.automaticReint⟩
  | laneScribeTest => exact ⟨_, rfl, h.laneScribeTest⟩
  | timeLock => exact ⟨_, rfl, h.timeLock⟩
  | stateTransferBlock => exact ⟨_, rfl, h.crossing⟩
  | safeStateRelease => exact ⟨_, rfl, h.dictWrite⟩
  | timeMark => exact ⟨_, rfl, h.timeMark⟩
  | missedTimeMarks => exact ⟨_, rfl, h.missedTimeMarks⟩
  | rateWindowCheck => exact ⟨_, rfl, h.rateWindowCheck⟩
  | discrepancyJudgement => exact ⟨_, rfl, h.discrepancyJudgement⟩
  | dcTriggerIdWrite | ecTriggerIdWrite => exact ⟨_, rfl, h.dictWrite⟩
  | epochCompareArming => exact ⟨_, rfl, h.epochCompareArming⟩
  | directCompareFire => exact ⟨_, rfl, h.directCompareFire⟩
  | epochCompareFire => exact ⟨_, rfl, h.epochCompareFire⟩
  | userEventTrigger => exact ⟨_, rfl, h.userEventTrigger⟩
  | ppsOut => exact ⟨_, rfl, h.ppsOut⟩
  | ppsOutPulseEnd => exact ⟨_, rfl, h.ppsOutPulseEnd⟩
  | ppsInEdge => exact ⟨_, rfl, h.crossing⟩
  | ppsInEdgeMissing => exact ⟨_, rfl, h.ppsInEdgeMissing⟩
  | taiSecondWrite => exact ⟨_, rfl, h.dictWrite⟩
  | taiSecondDiscard => exact ⟨_, rfl, h.taiSecondDiscard⟩
  | correctionInvalidated => exact ⟨_, rfl, h.correctionInvalidated⟩
  | timeAnnouncement => exact ⟨_, rfl, h.timeAnnouncement⟩
  | leapSecondApplied => exact ⟨_, rfl, h.leapSecondApplied⟩
  | ptpMessage => exact ⟨_, rfl, h.crossing⟩
  | ptpSyncInterval => exact ⟨_, rfl, h.ptpSyncInterval⟩
  | ringTransmitSlot => exact ⟨_, rfl, h.ringTransmitSlot⟩
  | slotDeadline => exact ⟨_, rfl, h.slotDeadline⟩
  | frameLeftPort => exact ⟨_, rfl, h.frameLeftPort⟩
  | ringReceiveWindow => exact ⟨_, rfl, h.ringReceiveWindow⟩
  | syncSlot => exact ⟨_, rfl, h.syncSlot⟩
  | syncReceiveWindow => exact ⟨_, rfl, h.syncReceiveWindow⟩
  | bestEffortWindow => exact ⟨_, rfl, h.bestEffortWindow⟩
  | dataFrame => exact ⟨_, rfl, h.dataFrame⟩
  | syncFrame => exact ⟨_, rfl, h.syncFrame⟩
  | coldstartFrame => exact ⟨_, rfl, h.coldstartFrame⟩
  | tick => exact ⟨_, rfl, h.tick⟩
  | tickTransmit => exact ⟨_, rfl, h.tickTransmit⟩
  | wrapNotice => exact ⟨_, rfl, h.wrapNotice⟩
  | leaveFrame => exact ⟨_, rfl, h.leaveFrame⟩
  | bestEffortIpv4 => exact ⟨_, rfl, h.bestEffortIpv4⟩
  | timeAnnouncementReceived => exact ⟨_, rfl, h.timeAnnouncementReceived⟩
  | timeQuery => exact ⟨_, rfl, h.timeQuery⟩
  | timeAnswer => exact ⟨_, rfl, h.timeAnswer⟩
  | timeQueryTimeout => exact ⟨_, rfl, h.timeQueryTimeout⟩
  | roundEnd => exact ⟨_, rfl, h.roundEnd⟩
  | listenTimeout => exact ⟨_, rfl, h.listenTimeout⟩
  | breakDetected => exact ⟨_, rfl, h.breakDetected⟩
  | ringLinkLoss => exact ⟨_, rfl, h.ringLinkLoss⟩
  | ringLinkUp => exact ⟨_, rfl, h.ringLinkUp⟩
  | linkRestored => exact ⟨_, rfl, h.linkRestored⟩
  | unwrap => exact ⟨_, rfl, h.unwrap⟩
  | bypassRelease => exact ⟨_, rfl, h.bypassRelease⟩
  | ringIntegrationTimeout => exact ⟨_, rfl, h.ringTimeout⟩
  | ecnTransmit => exact ⟨_, rfl, h.ecnTransmit⟩
  | telegramDeadline => exact ⟨_, rfl, h.telegramDeadline⟩
  | telegramReceived | arpRequest | arpReply => exact ⟨_, rfl, h.crossing⟩
  | arpEntryExpiry => exact ⟨_, rfl, h.arpEntryExpiry⟩
  | icmpEchoRequest | dictionaryDatagram => exact ⟨_, rfl, h.crossing⟩
  | ecnLinkChange => exact ⟨_, rfl, h.ecnLinkChange⟩
  | phyResetRelease => exact ⟨_, rfl, h.phyResetRelease⟩
  | canFrameReceived | heartbeatReceived => exact ⟨_, rfl, h.crossing⟩
  | heartbeatConsumerExpiry => exact ⟨_, rfl, h.heartbeatExpiry⟩
  | heartbeatProducer => exact ⟨_, rfl, h.heartbeatProducer⟩
  | nmtStart | nmtStop | nmtEnterPreOperational | nmtResetCommunication | nmtResetNode | sdoInitiate | sdoSegment => exact ⟨_, rfl, h.crossing⟩
  | sdoSegmentTimeout => exact ⟨_, rfl, h.sdoTimeout⟩
  | busOff => exact ⟨_, rfl, h.busOff⟩
  | busOffRecovery => exact ⟨_, rfl, h.busOffRecovery⟩
  | controllerRestart => exact ⟨_, rfl, h.dictWrite⟩
  | hostRequest => exact ⟨_, rfl, h.crossing⟩
  | readResponse => exact ⟨_, rfl, h.readResponse⟩
  | hostStatus => exact ⟨_, rfl, h.hostStatus⟩
  | unknownCommand => exact ⟨_, rfl, h.unknownCommand⟩
  | cvuInitialise | cvuFeedByte | cvuFeedHalfWord | cvuFeedWord => exact ⟨_, rfl, h.dictWrite⟩
  | cvuResultRead => exact ⟨_, rfl, h.dictRead⟩
  | cvuReleaseClaim => exact ⟨_, rfl, h.dictWrite⟩
  | cvuClaimTimeout => exact ⟨_, rfl, h.cvuTimeout⟩
  | containerDownload => exact ⟨_, rfl, h.immediate⟩
  | admitOnly | admitAndStore => exact ⟨_, rfl, h.dictWrite⟩
  | gaugeVerdict => exact ⟨_, rfl, h.gaugeVerdict⟩
  | timingRelevantWrite => exact ⟨_, rfl, h.dictWrite⟩
  | deltaDownload => exact ⟨_, rfl, h.immediate⟩
  | admitDelta => exact ⟨_, rfl, h.dictWrite⟩
  | deltaDistributed => exact ⟨_, rfl, h.deltaReported⟩
  | activateChange | cancelChange | setForce | releaseForce | releaseAllForces => exact ⟨_, rfl, h.dictWrite⟩
  | fieldUndervoltage => exact ⟨_, rfl, h.fieldUndervoltage⟩
  | fieldUndervoltageClear => exact ⟨_, rfl, h.fieldUndervoltageClear⟩
  | fieldDieReset => exact ⟨_, rfl, h.fieldDieReset⟩
  | fieldDieBoot => exact ⟨_, rfl, h.fieldDieBoot⟩
  | diRawClassChange => exact ⟨_, rfl, h.diRaw⟩
  | filterExpiry => exact ⟨_, rfl, h.filterExpiry⟩
  | pulseCount => exact ⟨_, rfl, h.pulseCount⟩
  | overload => exact ⟨_, rfl, h.overload⟩
  | thermalShutdown => exact ⟨_, rfl, h.thermalShutdown⟩
  | thermalRestart => exact ⟨_, rfl, h.thermalRestart⟩
  | demagnetisationEnd => exact ⟨_, rfl, h.demagEnd⟩
  | demagnetisationOverrun => exact ⟨_, rfl, h.demagOverrun⟩
  | openWireOn => exact ⟨_, rfl, h.openWireOn⟩
  | openWireOff => exact ⟨_, rfl, h.openWireOff⟩
  | groupSupplyLoss => exact ⟨_, rfl, h.groupLoss⟩
  | groupSupplyRestored => exact ⟨_, rfl, h.groupRestored⟩
  | standingCheck => exact ⟨_, rfl, h.standingCheck⟩
  | elementTestMeasure => exact ⟨_, rfl, h.elementMeasure⟩
  | elementTestOpen => exact ⟨_, rfl, h.elementOpen⟩
  | elementTestCheck => exact ⟨_, rfl, h.elementCheck⟩
  | elementTestReclose => exact ⟨_, rfl, h.elementReclose⟩
  | pathNotConducting => exact ⟨_, rfl, h.pathNotConducting⟩
  | offPulseStart => exact ⟨_, rfl, h.offPulseStart⟩
  | offPulseCheck => exact ⟨_, rfl, h.offPulseCheck⟩
  | offPulseEnd => exact ⟨_, rfl, h.offPulseEnd⟩
  | healthToggle => exact ⟨_, rfl, h.healthToggle⟩
  | laConversion => exact ⟨_, rfl, h.laConversion⟩
  | decimatedSample => exact ⟨_, rfl, h.decimatedSample⟩
  | recognitionEvaluation => exact ⟨_, rfl, h.recognitionEvaluation⟩
  | recognitionPublication => exact ⟨_, rfl, h.recognitionPublication⟩
  | shuntProtectionOpen => exact ⟨_, rfl, h.shuntOpen⟩
  | shuntProtectionReclose => exact ⟨_, rfl, h.shuntReclose⟩
  | commitWriteComplete => exact ⟨_, rfl, h.commitComplete⟩
  | carryPiece => exact ⟨_, rfl, h.carryWrite⟩
  | scrubEvaluation => exact ⟨_, rfl, h.scrubAll⟩
  | discardState | arm => exact ⟨_, rfl, h.dictWrite⟩
  | stagingDrain => exact ⟨_, rfl, h.drainOne⟩
  | recordAtCursor => exact ⟨_, rfl, h.dictRead⟩
  | recordBlock => exact ⟨_, rfl, h.immediate⟩
  | freezeBegin | freezeEnd => exact ⟨_, rfl, h.dictWrite⟩
  | freezeTimeout => exact ⟨_, rfl, h.freezeOver⟩
  | entryAtCursor => exact ⟨_, rfl, h.dictRead⟩
  | clearChangeLog => exact ⟨_, rfl, h.dictWrite⟩
  | contentsAndClear => exact ⟨_, rfl, h.dictRead⟩
  | monitorClear | openSession | closeSession => exact ⟨_, rfl, h.dictWrite⟩
  | sessionIdleTimeout => exact ⟨_, rfl, h.sessionIdle⟩
  | lockoutEnd => exact ⟨_, rfl, h.lockoutOver⟩
  | newPassword | clearPassword | publicKey | revokeKey | minimumContainerVersion => exact ⟨_, rfl, h.dictWrite⟩
  | plugReading => exact ⟨_, rfl, h.plugReading⟩
  | jtagInstruction => exact ⟨_, rfl, h.jtagLoad⟩
  | domainLost => exact ⟨_, rfl, h.loseDomain⟩
  | domainRunning => exact ⟨_, rfl, h.runDomain⟩
  | crossingStalled => exact ⟨_, rfl, h.stallCrossing⟩
  | flushHandshake => exact ⟨_, rfl, h.flushCrossing⟩
  | crossingClear | clearAllCrossingFlags => exact ⟨_, rfl, h.dictWrite⟩
  | powerOn => exact ⟨_, rfl, h.powerOn⟩
  | moduleReset => exact ⟨_, rfl, h.resetBy⟩
  | containerLoad => exact ⟨_, rfl, h.containerLoad⟩
  | scribeTest => exact ⟨_, rfl, h.scribeTest⟩
  | laneBoot => exact ⟨_, rfl, h.laneBoot⟩
  | stateRestore => exact ⟨_, rfl, h.stateRestore⟩
  | ringIntegration => exact ⟨_, rfl, h.ringIntegration⟩
  | firstVotedCycle => exact ⟨_, rfl, h.firstVotedCycle⟩
  | resetN => exact ⟨_, rfl, h.resetBy⟩
  | commandedRestart => exact ⟨_, rfl, h.dictWrite⟩
  | commandedRestartEffect => exact ⟨_, rfl, h.restartEffect⟩
  | overvoltage => exact ⟨_, rfl, h.overvoltageAt⟩
  | stage1Entry => exact ⟨_, rfl, h.stage1Entry⟩
  | stage1Exit => exact ⟨_, rfl, h.stage1Exit⟩
  | stage2Entry => exact ⟨_, rfl, h.stage2Entry⟩
  | stage2Exit => exact ⟨_, rfl, h.stage2Exit⟩
  | powerFailWarning => exact ⟨_, rfl, h.powerFail⟩
  | stage4 => exact ⟨_, rfl, h.stage4⟩
  | supplyRestart => exact ⟨_, rfl, h.supplyRestart⟩
  | laneUndervoltage => exact ⟨_, rfl, h.laneSag⟩
  | laneSupplyRecovered => exact ⟨_, rfl, h.laneRecovers⟩
  | junctionTick => exact ⟨_, rfl, h.junctionTick⟩
  | registerWrite => exact ⟨_, rfl, h.dictWrite⟩
  | domainWriteSegment | domainReadSegment => exact ⟨_, rfl, h.immediate⟩
  | domainTransferTimeout => exact ⟨_, rfl, h.xferTimeout⟩
  | captureTimeout => exact ⟨_, rfl, h.captureTimeout⟩
  | bindingExpiry => exact ⟨_, rfl, h.bindingExpiry⟩
  | historyExpiry => exact ⟨_, rfl, h.historyExpiry⟩
  | supplyRailSample => exact ⟨_, rfl, h.railSample⟩
  | dieTemperatureReading => exact ⟨_, rfl, h.dieTemperature⟩
  | ptpMonitorSample => exact ⟨_, rfl, h.ptpMonitorSample⟩
  | foreignMasterDisappears => exact ⟨_, rfl, h.foreignMasterDisappears⟩
  | controllerErrorPassive => exact ⟨_, rfl, h.errorPassive⟩
  | canArbitrationWon => exact ⟨_, rfl, h.canArbitrationWon⟩
  -- The conditional call, whose name is also a keyword.
  | _ => exact ⟨_, rfl, h.serzel (.callIf (fun x => x.en.ba) _)⟩

theorem idle_canonical (h : s.Canonical) : ∃ t, idle s = .next t ∧ t.Canonical := by
  unfold idle
  split
  · exact exec_canonical h _
  · exact ⟨_, rfl, h.timeClock⟩

theorem step_canonical (h : s.Canonical) : ∃ t, step s = .next t ∧ t.Canonical := by
  unfold step
  split
  · exact exec_canonical h.same _
  · exact idle_canonical h

/-- Settles O2: every operation of the model writes the byte stores of a lane by `Store.put` and `Store.putBytes`, empties them or copies them from
a canonical lane, so that each keeps the canonical form, and with it every command and every idle step. -/
theorem stepsKeepMemoryCanonical : Obligations.StepsKeepMemoryCanonical := by
  unfold Obligations.StepsKeepMemoryCanonical
  intro s t hs
  rw [State.canonical_iff] at hs ⊢
  refine ⟨fun i ht => ?_, fun ht => ?_⟩
  · obtain ⟨u, hu, hcan⟩ := exec_canonical hs i
    obtain rfl : u = t := Host.Outcome.next.inj (hu.symm.trans ht)
    exact hcan
  · obtain ⟨u, hu, hcan⟩ := step_canonical hs
    obtain rfl : u = t := Host.Outcome.next.inj (hu.symm.trans ht)
    exact hcan

end Sys2Proof.Machine
end
